-- ==== Sys2Proof/Word.lean ====
section
/-! DEFINITION. The byte, the unit of every memory of the device (R4). -/

namespace Sys2Proof

/-- One byte of memory. -/
abbrev Byte := BitVec 8

end Sys2Proof
end

