-- ==== Sys2Proof/Config.lean ====
section
/-! DEFINITION. What an implementation fixes: named numbers of the spec, the part facts the model takes, and the free values
the spec leaves open. A free value is opaque: nothing can compute it, so a claim holds whatever it is. -/

namespace Sys2Proof.Config

/-! ### Status codes (R12 and the chapters of each area) -/

abbrev stOk : Nat := 0x00
abbrev stThreadLimit : Nat := 0x01
abbrev stQueueLimit : Nat := 0x10
abbrev stDescFormat : Nat := 0x11
abbrev stDescReserved : Nat := 0x12
abbrev stVersionMismatch : Nat := 0x13
abbrev stCompletionTimeout : Nat := 0x14
abbrev stBoundFault : Nat := 0x20
abbrev stAlignFault : Nat := 0x21
abbrev stEccUncorrectable : Nat := 0x22
abbrev stUnitResetAbort : Nat := 0x23
abbrev stCopyOverlap : Nat := 0x30
abbrev stWriteAlias : Nat := 0x31
abbrev stZeroExtent : Nat := 0x32
abbrev stMisalignedSlow : Nat := 0x33
abbrev stFrameShort : Nat := 0x40
abbrev stFrameLong : Nat := 0x41
abbrev stLineShort : Nat := 0x42
abbrev stLineLong : Nat := 0x43
abbrev stUntrackedVc : Nat := 0x44
abbrev stPayloadCrc : Nat := 0x45
abbrev stHeaderEcc : Nat := 0x46
abbrev stParamLate : Nat := 0x47
abbrev stParamFull : Nat := 0x48
abbrev stFlagTimeout : Nat := 0x50
abbrev stClaimDenied : Nat := 0x51
abbrev stFlagLimit : Nat := 0x52
abbrev stGraphLimit : Nat := 0x53
abbrev stFeatureTruncated : Nat := 0x54
abbrev stFrameDropped : Nat := 0x55
abbrev stInstanceBusy : Nat := 0x56
abbrev stWindowClosed : Nat := 0x60
abbrev stLinkDegraded : Nat := 0x61
abbrev stRemoteRefused : Nat := 0x62
abbrev stDeviceUnreachable : Nat := 0x63
abbrev stDeviceIdLimit : Nat := 0x64
abbrev stSoundingMismatch : Nat := 0x70
abbrev stEngineRetired : Nat := 0x71
abbrev stResultSuspect : Nat := 0x72
abbrev stSafeDegraded : Nat := 0x73
abbrev stSoundingLate : Nat := 0x74
abbrev stSigInvalid : Nat := 0x80
abbrev stRollback : Nat := 0x81
abbrev stKeyRevoked : Nat := 0x82
abbrev stKeyMissing : Nat := 0x83
abbrev stOtpExhausted : Nat := 0x84
abbrev stLocked : Nat := 0x85
abbrev stBindingMismatch : Nat := 0x86

/-! ### Unit IDs (R18) -/

abbrev uKeystone : Nat := 0x78
abbrev uMason : Nat := 0x79
abbrev uPair (n : Nat) : Nat := 0x7A + n
abbrev uPcie : Nat := 0x80
abbrev uDravig (p : Nat) : Nat := 0x81 + p
abbrev uChannel (ch : Nat) : Nat := 0x88 + ch
abbrev uSecurity : Nat := 0xB0
abbrev uSafety : Nat := 0xB8
abbrev uHost : Nat := 0xC0

/-! ### Facts of the part, DESIGN CHOICE, log entry 2 -/

/-- PART_NUMBER of the part modelled (R30): YSH-6408-LC. -/
abbrev partNumber : Nat := 0x6408
/-- Fitted DRAM in GiB (R1). -/
abbrev dramGib : Nat := 128

/-- Logical core c maps to physical core 17 × (c / 16) + (c mod 16) at reset (R14). -/
def resetCores : List Nat := (List.range 64).map (fun c => 17 * (c / 16) + c % 16)

/-! ### Free values -/

/-- The n-th value drawn for a matter the spec leaves open and that no other free value below covers. -/
opaque freeNat : Nat → Nat

/-- A value of a pixel that the spec leaves open, by the matter (1 the confidence of a source whose place the graph does not state, 2 a coordinate
that is no number, 3 the cost before the first disparity), the V-cycle and the pixel. -/
opaque freePixel : Nat → Nat → Nat → Nat

/-- Pixel i that a DPCM-compressed payload decodes to, for 10 or 12 bits (R106 names the scheme and not its arithmetic). -/
opaque dpcmDecode : Nat → List Nat → Nat → Nat

/-- Weight of a tap of the polyphase scaler, over scaleUnit + 1, by its taps, the input and output extent, the phase and the tap: R143 names fixed
windowed-sinc coefficients chosen by ratio without their values. -/
opaque scaleTap : Nat → Nat → Nat → Nat → Nat → Int
opaque scaleUnit : Nat

/-- What the image pipeline's chapter names without its arithmetic (DESIGN CHOICE, log entry 26), by a code and its inputs: 0 edge-directed demosaic
(channel, 5 × 5 window), 1 clear interpolation (5 × 5 window), 2 guided colour upsampling (channel, 3 × 3 cells and luma), 3 a cell without a
sample of its channel (3 × 3 cells), 4 the last bit of a gamma curve (mode, sample), 5 chroma at reduced resolution (its samples), 6 a separated green where
its weight is 0, 7 the last bit of a coefficient of a fixed colour-space matrix (matrix, place), 8 the last bit of a scaled sample, 9 a byte of a context's state area
(V-cycle, context, byte), 10 a pixel of a line with an uncorrectable error (V-cycle, context, line, pixel). -/
opaque ispFree : Nat → List Nat → Nat

/-- The median of an even number of values, from its two middle ones (DESIGN CHOICE, log entry 23). -/
opaque midValue : Int → Int → Int

/-- What an ashlar core's arithmetic leaves open (DESIGN CHOICE, log entry 27), by a code and its operands' bits: the error in units in the last place of an
approximate function (1 VEXP, 2 VRCP, 3 VRSQRT, 4 VSMX, 5 VLUT, 6 VSTAT), 7 an approximate function on integers, 9 a conversion to a format that
the spec gives none. -/
opaque approxFree : Nat → Nat → Nat → Nat

/-- The slot 0 certificate chain of R457 in SPDM format, and the certificate of the device encryption key, by ID_SERIAL: the manufacturer's
keys and names lie outside the spec. -/
opaque certChain : Nat → List Byte
opaque encryptionCert : Nat → List Byte

/-- The bytes of the boot ROM (R458 measures them; the spec does not give them). -/
opaque bootRom : List Byte

/-- The vendor modulus in ROM, and the device encryption key by ID_SERIAL: its modulus and private exponent (R443, R444). -/
opaque vendorModulus : Nat
opaque encryptionKey : Nat → Nat × Nat

/-- The RSASSA-PSS signature the device identity key puts on a message, by the number of signatures drawn before, as its salt is random (R456). -/
opaque rsaSign : Nat → List Byte → List Byte

/-- Measurement 4, from the four slot states, the ACTIVE moduli, the counter value and the two locks, whose order in the digest R458 leaves open. -/
opaque ownerMeasure : List Nat → List Byte → Nat → Bool → Bool → List Byte

/-- The counter each index of CNT_DIR names: its place among the counter fields, the two indices of its copy and its unit; the spec fixes the directory and
does not list it (R488, DESIGN CHOICE, log entry 54). -/
opaque counterPick : Nat → Nat × Nat × Nat × Nat

/-- The Mason channel of a GPIO pin's interrupts, and the SOURCE of events of GPIO (0) and of the general timers (1): R336 leaves them to blocks that do
not give them. -/
opaque gpioChannel : Nat → Nat
opaque ioSource : Nat → Nat

/-- The manufacturer identity in IDCODE (R505). -/
opaque jtagMaker : Nat

end Sys2Proof.Config
end

