-- ==== Sys2Proof/Syntax.lean ====
section
/-! DEFINITION. The commands of the block: one constructor per row of the opcode table, with its operands. -/

namespace Sys2Proof

/-- Who writes or reads a register: the host through BAR0, a control pair through 0x50, the security core, or the safety manager (R24). -/
inductive Requester where
  | host
  | pair (n : Fin 4)
  | security
  | safety
  deriving DecidableEq, Repr

/-- A fetch that fails before its entry can be read. -/
inductive FetchFail where
  | none | timeout | poisoned
  deriving DecidableEq, Repr

/-- A command's fields beside its opcode (R333): TARGET, PRIO, AFFINITY, OWNER, the reserved bits of CMD as one number, and ARG. -/
structure MsnCmd where
  target : Nat
  prio : Nat
  affinity : Nat
  owner : Bool
  rsv : Nat
  arg : Nat
  deriving DecidableEq, Repr

/-- The header fields of a Dravig packet that name its pair (R389). -/
structure DrvHead where
  dest : Nat
  src : Nat
  pseq : Nat
  deriving DecidableEq, Repr

/-- What a Dravig packet carries, by its TYPE and MGMT subtype (R389, R396, R399). -/
inductive DrvBody where
  | write (window generation tag offset : Nat) (payload : List Byte)
  | read (window generation tag offset length : Nat)
  | readData (tag : Nat) (payload : List Byte)
  | flagSignal (flag generation tag increment : Nat)
  | answer (tag status : Nat) (cumulative : Bool)
  | timeSync
  | hello (x y port : Nat) (idValid : Bool)
  | windowNotice (window generation : Nat) (isOpen : Bool)
  | flagNotice (flag generation : Nat)
  | resync (lowest : Nat)
  | message (payload : List Byte)
  deriving DecidableEq, Repr

/-- A Dravig packet. -/
structure DrvPacket where
  head : DrvHead
  body : DrvBody
  deriving DecidableEq, Repr

/-- What a GEN_NOTICE carries: a window's state (R396) or a flag's generation (R399). -/
inductive Notice where
  | window (w generation : Nat) (isOpen : Bool)
  | flag (f generation : Nat)
  deriving DecidableEq, Repr

/-- What an AVSBus frame brings (R409): no valid response, the acknowledgement of a voltage write, telemetry in mV and 0.1 A, a temperature, or a status
word with whether it reports a fault. -/
inductive AvsReply where
  | failed
  | written
  | voltage (mv : Nat)
  | current (da : Nat)
  | temperature
  | status (word : Nat) (fault : Bool)
  deriving DecidableEq, Repr


/-- A supply rail (R512). -/
inductive Rail where
  | vddA | vddV | vddSram | vddAo | phyPcie | phyDrv | phyCsi | phyDdr | vddqDdr | vdd2h | vdd1 | vddio
  deriving DecidableEq, Repr

/-- A job as its submission entry heads it (R353): its queue, JOB_TAG and NO_IRQ. -/
structure JobHead where
  q : Nat
  tag : Nat
  noIrq : Bool
  deriving DecidableEq, Repr
/-- Who reads host memory (R367): a queue's entry fetch, the loader, a copy engine (the second of the two or the first), or the task of a core. -/
inductive HostReader where
  | queue (q : Fin 8192)
  | loader
  | copy (second : Bool)
  | core (c : Fin 64)
  deriving DecidableEq, Repr

/-- What was wrong with a TLP (R367). -/
inductive TlpError where
  /-- Malformed, or any other error AER defines. -/
  | malformed
  /-- A poisoned write to BAR0. -/
  | poisonedBar0
  /-- A poisoned completion of a reader's read. -/
  | poisonedCpl (r : HostReader)
  deriving DecidableEq, Repr

/-- What the host unmasks (R364): a vector, whose table entry it writes, or the function. -/
inductive MsixTarget where
  | vector (v : Fin 2048) (addr data : Nat)
  | function
  deriving DecidableEq, Repr

/-- A CSI-2 packet without its virtual channel (R105): a frame start or end with its frame number, a line start or end with its line number, a generic
short packet, or a long packet with its data type, its payload as received and whether its CRC held. -/
inductive CsiPacket where
  | frameStart (n : Nat)
  | frameEnd (n : Nat)
  | lineStart (n : Nat)
  | lineEnd (n : Nat)
  | generic
  | long (dt : Nat) (payload : List Byte) (crcOk : Bool)
  deriving DecidableEq, Repr

/-- A packet header in error (R114): discarded, or corrected, with the packet as it is then used. -/
inductive HeaderFix where
  | discarded
  | corrected (vc : Fin 32) (packet : CsiPacket)
  deriving DecidableEq, Repr

/-- A command: a row of the opcode table with its operands. -/
inductive Instr where
  /-- REGISTER_WRITE (R25): A BAR0 or 0x50-range write to a register that has no row of its own is applied, or ignored and logged under the field rules. -/
  | registerWrite (req : Requester) (off : BitVec 25) (n : Fin 9) (data : BitVec 64)
  /-- BITSTREAM_REGION (R358): A BITSTREAM_REGION job is checked and starts staging the container through the single loader. -/
  | bitstreamRegion (h : JobHead) (addr : BitVec 64) (length : BitVec 32)
  /-- BITSTREAM_STAGED (R47): Staging of the container ends and the loader runs its header, key and format checks. -/
  | bitstreamStaged (fail : FetchFail)
  /-- SIGNATURE_VERIFIED (R48): The security core finishes the container signature check and the loader continues with steps 5 to 12. -/
  | signatureVerified
  /-- MODEL_IMAGE_CHECKED (R46): A model image has been read, digest-checked, decrypted if needed and written to its slabs. -/
  | modelImageChecked (fail : FetchFail)
  /-- MODEL_LOAD (R358): A MODEL_LOAD job reloads the image named by the active MODEL_REF through the loader, or is refused while the model is in use. -/
  | modelLoad (h : JobHead) (model : Fin 1024)
  /-- GRAPH_RUN_BIND (R359): GRAPH_RUN mode 0 binds a graph to a context from the next start-of-frame. -/
  | graphRunBind (h : JobHead) (graph : BitVec 16) (context : BitVec 8)
  /-- GRAPH_RUN_TRIGGER (R359): GRAPH_RUN mode 1 instantiates a graph at job start, or ends with INSTANCE_BUSY. -/
  | graphRunTrigger (h : JobHead) (graph : BitVec 16) (context : BitVec 8)
  /-- GRAPH_RUN_UNBIND (R359): GRAPH_RUN mode 2 removes the graph binding of a context from the next start-of-frame. -/
  | graphRunUnbind (h : JobHead) (graph : BitVec 16) (context : BitVec 8)
  /-- FRAME_START_PACKET (R108): A CSI-2 frame start packet advances the context's extended frame counter, applies pending parameter sets and reaches the Keystone as start-of-frame. -/
  | frameStartPacket (p : Fin 16) (vc : Fin 32) (n : BitVec 16)
  /-- INSTANTIATE (R65): The Keystone starts a queued instantiation in the lowest free slot and resets the slot's flags. -/
  | instantiate
  /-- INSTANTIATION_DONE (R65): Instantiation ends after 16 + NODE_COUNT + FLAGS_PER_INSTANCE V-cycles and nodes without inputs are dispatched. -/
  | instantiationDone
  /-- LONG_PACKET (R110): A CSI-2 long packet is routed to its context and its line is padded, cut or written to the course buffer. -/
  | longPacket (p : Fin 16) (vc : Fin 32) (dt : Fin 64) (payload : List Byte) (crcOk : Bool)
  /-- LINE_START_PACKET (R109): A line start or line end short packet sets the line position from its line number. -/
  | lineStartPacket (p : Fin 16) (vc : Fin 32) (n : BitVec 16) (isEnd : Bool)
  /-- FRAME_END_PACKET (R110): A frame end packet closes the open frame, padding any missing lines. -/
  | frameEndPacket (p : Fin 16) (vc : Fin 32) (n : BitVec 16)
  /-- GENERIC_SHORT_PACKET (R105): A generic short packet is discarded and counted. -/
  | genericShortPacket (p : Fin 16) (vc : Fin 32)
  /-- HEADER_ECC (R114): A packet with a header error is corrected and used, or discarded and charged to the last context as a padded line. -/
  | headerEcc (p : Fin 16) (fix : HeaderFix)
  /-- EOF_TIMEOUT (R113): A frame still open at SOF_TB + EOF_TIMEOUT_NS is closed short with EOF_TIMEOUT set. -/
  | eofTimeout (c : Fin 64)
  /-- PORT_ENABLE (R525): Writing ENABLE = 1 starts a receive port's receiver, which begins to lock on the sensor. -/
  | portEnable (req : Requester) (p : Fin 16)
  /-- PORT_DISABLE (R525): Writing ENABLE = 0 turns the receiver off and clears LOCK_FAIL. -/
  | portDisable (req : Requester) (p : Fin 16)
  /-- PORT_LOCKED (R525): The receiver locks to the sensor's high-speed transmission and LOCKED rises. -/
  | portLocked (p : Fin 16) (deskewed : Bool)
  /-- LOCK_FAIL (R525): LOCKED has not risen 1 ms after ENABLE and LOCK_FAIL is set. -/
  | lockFail (p : Fin 16)
  /-- PARAM_SET (R121): A PARAM_SET job copies a parameter block and command list into a pending-set slot of the context. -/
  | paramSet (h : JobHead) (record : Vector (BitVec 32) 8)
  /-- REPLAY_TAIL_WRITE (R116): A write to ING_RPL_TAIL hands new frame descriptors to the replay engine. -/
  | replayTailWrite (req : Requester) (c : Fin 64) (v : BitVec 12)
  /-- REPLAY_DESCRIPTOR_FETCH (R118): The replay engine fetches and checks the descriptor at HEAD, refusing it or preparing its frame. -/
  | replayDescriptorFetch (c : Fin 64)
  /-- REPLAY_FRAME_START (R117): A replay frame start is issued at its SOF_TB, or at once when that has passed. -/
  | replayFrameStart (c : Fin 64)
  /-- REPLAY_LINE_DUE (R117): A replay line reaches its due time and is presented, or stalls until memory delivers it. -/
  | replayLineDue (c : Fin 64) (late : Nat)
  /-- ING_I3C_CMD (R128): A 64-bit write pushes one command entry onto an I3C master's direct FIFO. -/
  | ingI3cCmd (req : Requester) (m : Fin 8) (v : BitVec 64)
  /-- I3C_TRANSFER_DONE (R119): An I3C or I2C transfer ends, ACKed or NACKed, and the master moves to its next entry. -/
  | i3cTransferDone (m : Fin 8) (ack : Bool) (data : List Byte)
  /-- I3C_IBI (R119): An in-band interrupt is acknowledged and counted. -/
  | i3cIbi (m : Fin 8)
  /-- ING_I3C_RDATA (R128): A read of ING_I3C_RDATA pops up to four read bytes. -/
  | ingI3cRdata (req : Requester) (m : Fin 8)
  /-- FSYNC_EDGE (R120): A frame-sync generator drives its active edge at START_TB or one PERIOD_NS after the last. -/
  | fsyncEdge (n : Fin 16)
  /-- FSYNC_PULSE_END (R120): A frame-sync pulse ends after WIDTH_NS. -/
  | fsyncPulseEnd (n : Fin 16)
  /-- KS_FLAG_SIGNAL (R63): A 64-bit write to KS_FLAG_SIGNAL signals a joint flag with an increment and expected generation. -/
  | ksFlagSignal (req : Requester) (f : Fin 16384) (increment : BitVec 24) (generation : BitVec 16)
  /-- FLAG_SIGNAL_APPLY (R60): Signals reaching a joint flag are summed and applied if their generation matches, or dropped. -/
  | flagSignalApply (f : Fin 16384) (n : Nat) (uncorrectable : Bool)
  /-- NODE_DISPATCH (R69): When a unit frees or a ready run appears, the Keystone picks the next node run by priority, deadline and age. -/
  | nodeDispatch (unit : BitVec 9)
  /-- NODE_COMPLETE (R55): A node run completes at the point its type defines, counted late if past its deadline. -/
  | nodeComplete (run node : Nat)
  /-- WAIT_TIMEOUT (R72): A node's wait timeout fires and the run is skipped or cut, recorded with FLAG_TIMEOUT. -/
  | waitTimeout (run node : Nat)
  /-- TIMEOUT_FILL_DONE (R73): The fill of a skipped or cut run's outputs is visible and the Keystone signals its output flags up to target. -/
  | timeoutFillDone (run node : Nat)
  /-- LEDGER_POINT (R76): An run reaches its ledger point and the Keystone writes one ledger entry per context in frame order. -/
  | ledgerPoint (run : Nat)
  /-- HOST_EMIT_POST (R77): A HOST_EMIT node, once its writes and ledger copies are visible, posts its emit completion. -/
  | hostEmitPost (run node : Nat)
  /-- INSTANCE_COMPLETE (R76): An run whose nodes are all done and entries visible releases its slot. -/
  | instanceComplete (run : Nat)
  /-- SEAL_ZERO_DONE (R455): Zeroing of a sealed slab ends and the slab is released. -/
  | sealZeroDone (slab : Fin 36)
  /-- PLUMB_TILE_ROW_REDUCED (R85): A plumb unit finishes reducing one tile row of the confidence source. -/
  | plumbTileRowReduced (engine : Fin 2)
  /-- PLUMB_SELECTION_DONE (R89): Tile selection ends and the tile list, mask and statistics are written and signalled. -/
  | plumbSelectionDone (engine : Fin 2)
  /-- GATED_TILE_LAUNCH (R95): The Keystone launches the next listed tile on the lowest free core 48 V-cycles after its previous task ends. -/
  | gatedTileLaunch (run node : Nat)
  /-- SEAM_OUTPUT_DONE (R99): The seam has written all pixel words and writes the history header last with VALID set. -/
  | seamOutputDone (engine : Fin 2)
  /-- ISP_STRIPE_START (R149): A freed pipeline takes the next ready stripe by the deadline scheduler. -/
  | ispStripeStart (engine : Fin 4)
  /-- ISP_STRIPE_END (R147): A pipeline finishes a stripe, signals its output flags and frees. Among the ring lines it read, a number of errors were corrected, and the
  lines bad of the frame had an uncorrectable one (R223). -/
  | ispStripeEnd (engine : Fin 4) (fixed : Nat) (bad : List Nat)
  /-- STEREO_LEVEL_DONE (R166): A stereo engine finishes one pass of one level and moves on or writes the first course. -/
  | stereoLevelDone (engine : Fin 2)
  /-- STEREO_TILE_ROW_DONE (R167): A stereo tile row at FINE_LEVEL is written and full stripes are signalled. -/
  | stereoTileRowDone (engine : Fin 2)
  /-- STEREO_REFINE_DONE (R168): Built-in stereo refinement finishes and port 1 is signalled. -/
  | stereoRefineDone (engine : Fin 2)
  /-- STEREO_GATED_TILE_DONE (R169): A gated stereo engine finishes one listed tile and sets its DONE bit. -/
  | stereoGatedTileDone (engine : Fin 2)
  /-- FLOW_LEVEL_DONE (R174): A flow engine finishes one pass of one level. -/
  | flowLevelDone (engine : Fin 2)
  /-- FLOW_TILE_ROW_DONE (R184): A flow tile row at LAST is written and full stripes are signalled. -/
  | flowTileRowDone (engine : Fin 2)
  /-- FLOW_REFINE_DONE (R185): Built-in flow refinement finishes and port 1 is signalled. -/
  | flowRefineDone (engine : Fin 2)
  /-- FLOW_GATED_TILE_DONE (R186): A gated flow engine finishes one listed tile. -/
  | flowGatedTileDone (engine : Fin 2)
  /-- FEATURE_PHASE_DONE (R201): A feature engine finishes its track, detect, write, describe or match phase. -/
  | featurePhaseDone (engine : Fin 2)
  /-- PYRAMID_LEVEL_PUBLISHED (R210): A pyramid level and its sideband array are visible and the output flag is signalled. -/
  | pyramidLevelPublished (engine : Fin 4)
  /-- WARP_TILE_DONE (R219): A warp engine finishes an output tile and signals full stripes. -/
  | warpTileDone (engine : Fin 4)
  /-- WARP_BLOCK_FETCHED (R218): A missing source block arrives in the warp tile cache. -/
  | warpBlockFetched (engine : Fin 4)
  /-- TASK_LAUNCH (R253): A task starts on a core 48 V-cycles after dispatch and copies its ODT and program. -/
  | taskLaunch (c : Fin 64)
  /-- LAUNCH_COPY_DONE (R253): The launch copy ends and the task issues its first operation. -/
  | launchCopyDone (c : Fin 64)
  /-- TILE_OP_COMPLETE (R283): An issued tile operation completes and its scoreboard entries retire; ring is the ring link that failed its error
  threshold under the operation's traffic, if one did (R15). -/
  | tileOpComplete (c : Fin 64) (unit : Fin 3) (ring : Option (Fin 4))
  /-- MATMUL (R239): The array accumulates A × B into a bank. -/
  | matmul (c : Fin 64)
  /-- CONV (R240): The array accumulates an implicit-GEMM convolution into a bank. -/
  | convolve (c : Fin 64)
  /-- ACC_LOAD (R241): A bank is loaded from a tile-store operand. -/
  | accLoad (c : Fin 64)
  /-- ACC_STORE (R241): A bank is scaled, biased and converted into DST. -/
  | accStore (c : Fin 64)
  /-- ACC_ZERO (R238): A bank is cleared to zero. -/
  | accZero (c : Fin 64)
  /-- VADD (R243): Vector add. -/
  | vadd (c : Fin 64)
  /-- VSUB (R243): Vector subtract. -/
  | vsub (c : Fin 64)
  /-- VMUL (R243): Vector multiply. -/
  | vmul (c : Fin 64)
  /-- VMAC (R243): Vector fused multiply-add. -/
  | vmac (c : Fin 64)
  /-- VMAX (R243): Vector maximum. -/
  | vmax (c : Fin 64)
  /-- VMIN (R243): Vector minimum. -/
  | vmin (c : Fin 64)
  /-- VABS (R243): Vector absolute value. -/
  | vabs (c : Fin 64)
  /-- VCVT (R271): Vector conversion to DST's format, writing block scales for MX. -/
  | vcvt (c : Fin 64)
  /-- VLUT (R245): Vector table lookup with interpolation. -/
  | vlut (c : Fin 64)
  /-- VEXP (R273): Vector exponential. -/
  | vexp (c : Fin 64)
  /-- VRCP (R273): Vector reciprocal. -/
  | vrcp (c : Fin 64)
  /-- VRSQRT (R273): Vector reciprocal square root. -/
  | vrsqrt (c : Fin 64)
  /-- VREDSUM (R272): Row sum over dimension 0. -/
  | vredsum (c : Fin 64)
  /-- VREDMAX (R272): Row maximum over dimension 0. -/
  | vredmax (c : Fin 64)
  /-- VSMX (R243): Softmax exponentials with row sums into c. -/
  | vsmx (c : Fin 64)
  /-- VNORM (R243): Normalisation (a − b) × c. -/
  | vnorm (c : Fin 64)
  /-- VSTAT (R272): Per-row mean and inverse standard deviation. -/
  | vstat (c : Fin 64)
  /-- LOAD (R246): DMA from Quarry, DRAM or host into the tile store. -/
  | load (c : Fin 64) (errs : List (BitVec 48 × Bool))
  /-- STORE (R246): DMA from the tile store to Quarry, DRAM or host. -/
  | store (c : Fin 64)
  /-- LOAD_BCAST (R247): A broadcast load joins its quoin's broadcast group. -/
  | loadBcast (c : Fin 64)
  /-- BROADCAST_TRANSFER_START (R247): A broadcast unit starts transfer n once every member has issued its operation n. -/
  | broadcastTransferStart (c : Fin 64)
  /-- RDSTRIDE (R246): In-store strided reorder. -/
  | rdstride (c : Fin 64)
  /-- RDTRANS (R246): In-store block transpose. -/
  | rdtrans (c : Fin 64)
  /-- REMOTE_WRITE (R290): Write to another member's tile store through its REMOTE port. -/
  | remoteWrite (c : Fin 64)
  /-- REMOTE_READ (R290): Read from another member's tile store. -/
  | remoteRead (c : Fin 64)
  /-- WAIT_FLAG (R248): A core stalls issue until a joint flag reaches the computed count. -/
  | waitFlag (c : Fin 64)
  /-- SIGNAL_FLAG (R248): Once earlier writes are visible the core signals a joint flag. -/
  | signalFlag (c : Fin 64)
  /-- FENCE (R248): Issue stalls until earlier operations complete, and with SCOPE their writes are visible. -/
  | fence (c : Fin 64)
  /-- LOOP (R249): Opens a loop level with its count. -/
  | tileLoop (c : Fin 64)
  /-- ENDLOOP (R249): Increments a loop counter and repeats or closes the level. -/
  | endloop (c : Fin 64)
  /-- BRANCH (R249): Jumps forward when a loop-counter condition holds. -/
  | branch (c : Fin 64)
  /-- END (R254): Ends the task once its writes are visible. -/
  | tileEnd (c : Fin 64)
  /-- NOP (R249): Uses one issue slot. -/
  | nop (c : Fin 64)
  /-- SET_ROUND (R250): Sets the output rounding mode. -/
  | setRound (c : Fin 64)
  /-- SET_SCALE (R262): Sets a per-tensor FP8 scale or OUT_SCALE. -/
  | setScale (c : Fin 64)
  /-- SET_SPARSE (R242): Sets the sparsity metadata descriptor. -/
  | setSparse (c : Fin 64)
  /-- SET_LUT (R245): Loads a LUT slot. -/
  | setLut (c : Fin 64)
  /-- WAIT_LIMIT_EXPIRY (R256): A flag or broadcast stall reaches WAIT_LIMIT_NS and the task aborts with FLAG_TIMEOUT. -/
  | waitLimitExpiry (c : Fin 64)
  /-- PATROL_SCRUB (R299): The scrubber reads, corrects and writes back the next row of a tile store or slab. -/
  | patrolScrub (mem : Fin 104) (fixed : Nat) (bad : List Nat)
  /-- COPY (R358): A COPY job submits a descriptor chain to the copy engines. -/
  | copyJob (h : JobHead) (count : Fin 512) (chain : BitVec 64)
  /-- COPY_CHAIN_START (R321): A free copy engine takes the next chain and checks it whole. -/
  | copyChainStart (engine : Fin 2)
  /-- COPY_CHAIN_COMPLETE (R318): All writes of a chain are visible and the node signals or the job completes. -/
  | copyChainComplete (engine : Fin 2)
  /-- MSN_EVENT_ACCEPT (R336): Mason's event queue accepts up to four producer entries in a V-cycle. -/
  | msnEventAccept
  /-- MSN_EVENT_REMOVE (R335): Mason removes one event and wakes the bound waiter or adds to PENDING. -/
  | msnEventRemove
  /-- THREAD_READY (R337): A woken thread enters READY and Mason recomputes each pair's candidate. -/
  | threadReady (t : Fin 4096)
  /-- CREATE (R333): Creates a SUSPENDED thread in the lowest FREE TID. -/
  | create (p : Fin 4) (a : MsnCmd)
  /-- EXIT (R333): The calling thread becomes FREE once its context is saved. -/
  | exit (p : Fin 4) (a : MsnCmd)
  /-- YIELD (R333): The caller re-enters READY at the tail of its level. -/
  | yield (p : Fin 4) (a : MsnCmd)
  /-- WAIT (R335): Returns a channel's PENDING count or blocks the thread with an optional timeout. -/
  | wait (p : Fin 4) (a : MsnCmd)
  /-- SLEEP_UNTIL (R339): The thread sleeps until the first tick at or after a TB. -/
  | sleepUntil (p : Fin 4) (a : MsnCmd)
  /-- SIGNAL (R333): Posts an event on a channel. -/
  | signal (p : Fin 4) (a : MsnCmd)
  /-- SET_PRIO (R333): Sets a thread's priority. -/
  | setPrio (p : Fin 4) (a : MsnCmd)
  /-- SET_AFFINITY (R333): Sets a thread's pair affinity. -/
  | setAffinity (p : Fin 4) (a : MsnCmd)
  /-- SUSPEND (R333): Suspends a READY, WAITING or SLEEPING thread. -/
  | suspend (p : Fin 4) (a : MsnCmd)
  /-- RESUME (R333): Makes a SUSPENDED thread READY. -/
  | resume (p : Fin 4) (a : MsnCmd)
  /-- BIND (R333): Binds or unbinds a channel's waiter. -/
  | bind (p : Fin 4) (a : MsnCmd)
  /-- MSN_WAIT_FLAG (R333): Registers a channel as a waiter of a joint flag. -/
  | msnWaitFlag (p : Fin 4) (a : MsnCmd)
  /-- KILL (R333): Frees a thread in any state. -/
  | kill (p : Fin 4) (a : MsnCmd)
  /-- PREFETCH_LOAD_DONE (R338): A candidate's context frame is loaded into the prefetch slot, preempting a lower-priority thread. -/
  | prefetchLoadDone (p : Fin 4) (eccBad : Bool)
  /-- CONTEXT_SAVE_DONE (R338): The outgoing thread's context has been written to its frame. -/
  | contextSaveDone (p : Fin 4)
  /-- MSN_TICK (R339): A microsecond tick falls and the expired delay-list entries are marked. -/
  | msnTick
  /-- DELAY_EXPIRY (R339): An expired delay-list entry is offered to the event queue as KIND 3. -/
  | delayExpiry
  /-- QUANTUM_EXPIRY (R338): A thread that has run its QUANTUM_US is switched out for an equal-priority candidate. -/
  | quantumExpiry (p : Fin 4)
  /-- PAIR_DRAIN (R341): Writing DRAIN = 1 removes a pair from placement and switches its thread out. -/
  | pairDrain (req : Requester) (p : Fin 4)
  /-- PAIR_RETURN (R341): Writing DRAIN = 0 returns a pair to placement. -/
  | pairReturn (req : Requester) (p : Fin 4)
  /-- LOCKSTEP_MISMATCH (R330): A lockstep comparison fails, the pair stops and its thread is FAULTED. -/
  | lockstepMismatch (p : Fin 4)
  /-- KS_MSN_HOST_SIGNAL (R343): A host write posts a KIND 4 event on a Mason channel. -/
  | ksMsnHostSignal (req : Requester) (channel count : BitVec 16)
  /-- SUBMISSION_DOORBELL (R352): The host advances a queue's SQ tail. -/
  | submissionDoorbell (q : Fin 8192) (v : BitVec 32)
  /-- COMPLETION_DOORBELL (R352): The host frees CQ entries by advancing its head. -/
  | completionDoorbell (q : Fin 8192) (v : BitVec 32)
  /-- FETCH_GRANT (R356): The fetch arbiter grants one queue and a submission entry read is issued. -/
  | fetchGrant
  /-- ENTRY_FETCHED (R355): A fetched submission entry is checked in order and failing jobs end at once. -/
  | entryFetched (q : Fin 8192) (fail : FetchFail)
  /-- JOB_START (R355): A checked job starts once its unit accepts it, in submission order. -/
  | jobStart (q : Fin 8192)
  /-- COMPLETION_POST (R357): A ready completion is written to the CQ when it has room, followed by its MSI-X message. -/
  | completionPost (q : Fin 8192)
  /-- CQ_STALL_TIMEOUT (R357): A CQ still full at the end of the stall timeout puts its queue in ERROR. -/
  | cqStallTimeout (q : Fin 8192)
  /-- QUEUE_RESUME (R371): Writing RESUME returns a queue from ERROR to ACTIVE and posts held completions. -/
  | queueResume (req : Requester) (q : Fin 8192)
  /-- CREATE_QUEUE (R361): Creates and activates a queue pair. -/
  | createQueue (h : JobHead) (payload : Vector (BitVec 32) 12)
  /-- DELETE_QUEUE (R361): Sets a queue DELETING and stops its fetching. -/
  | deleteQueue (h : JobHead) (qid : BitVec 16)
  /-- DELETE_QUEUE_DONE (R361): A deleting queue's started jobs have posted and the queue becomes INACTIVE. -/
  | deleteQueueDone (q : Fin 8192)
  /-- FENCE_SIGNAL (R360): A FENCE with MODE 0 adds VALUE to a fence token after earlier completions post. -/
  | fenceSignal (h : JobHead) (token : BitVec 8) (value : BitVec 32)
  /-- FENCE_WAIT (R360): A FENCE with MODE 1 holds later jobs until the token reaches VALUE. -/
  | fenceWait (h : JobHead) (token : BitVec 8) (value timeout : BitVec 32)
  /-- FENCE_WAIT_TIMEOUT (R360): A fence wait's timeout elapses and it completes with FLAG_TIMEOUT. -/
  | fenceWaitTimeout (q : Fin 8192)
  /-- QE_FENCE_WRITE (R360): A host write sets a fence token's count. -/
  | qeFenceWrite (req : Requester) (t : Fin 256) (v : BitVec 32)
  /-- HOST_IF_NEGOTIATE (R366): A write of QE_HOST_IF_REQ selects the active host interface version. -/
  | hostIfNegotiate (req : Requester) (lowest highest : BitVec 32)
  /-- AQ_ENABLE (R366): A write of AQ_ENABLE activates the admin queue when a version is valid. -/
  | aqEnable (req : Requester) (v : Bool)
  /-- BAR2_READ (R349): A host read through a BAR2 aperture is served, refused or completed poisoned. -/
  | bar2Read (off : BitVec 40) (n : BitVec 13)
  /-- BAR2_WRITE (R349): A host write through a BAR2 aperture is applied, discarded or stored poisoned. -/
  | bar2Write (off : BitVec 40) (data : List Byte) (poisoned : Bool)
  /-- MALFORMED_TLP (R367): A TLP error that AER defines is discarded and reported. -/
  | malformedTlp (e : TlpError) (addr : BitVec 64)
  /-- COMPLETION_TIMEOUT (R367): A device read of host memory gets no completion in time and its reader ends with COMPLETION_TIMEOUT. -/
  | completionTimeout (r : HostReader)
  /-- PTM_REQUEST (R368): Every PTM_PERIOD_US the device issues a PTM request. -/
  | ptmRequest
  /-- PTM_RESPONSE (R368): A PTM exchange completes and TB is stepped or slewed toward master time. -/
  | ptmResponse (master : BitVec 64)
  /-- ERR_RING_BASE_WRITE (R369): An accepted write of QE_ERR_RING_BASE flushes records held on chip. -/
  | errRingBaseWrite (req : Requester) (base : BitVec 64)
  /-- ATTEST (R459): Writes an attestation report to a host buffer. -/
  | attest (h : JobHead) (report : BitVec 8) (buf : BitVec 64) (bytes : BitVec 32)
  /-- OTP_RECORD_READ (R452): Writes cornerstone change records to a buffer. -/
  | otpRecordRead (h : JobHead) (first : BitVec 16) (buf : BitVec 64) (bytes : BitVec 32)
  /-- COUNTER_SNAP (R489): Schedules a counter snapshot into a shadow set at SNAP_TB. -/
  | counterSnap (h : JobHead) (id : BitVec 16) (tb : BitVec 64)
  /-- SNAP_CAPTURE (R490): At SNAP_TB every unit copies its counters into shadows. -/
  | snapCapture (k : Fin 4)
  /-- SNAP_COMPLETE (R492): All shadows are visible, the set becomes VALID and the job completes. -/
  | snapComplete (k : Fin 4)
  /-- UNIT_RESET (R430): A UNIT_RESET job or safety request starts a unit's isolation wrapper sequence. -/
  | unitReset (unit : BitVec 8) (job : Option JobHead)
  /-- UNIT_RESET_RELEASE (R431): Reset releases, the wrapper reopens and the job completes. -/
  | unitResetRelease (unit : BitVec 8)
  /-- HOT_RESET (R426): A PCIe hot reset clears host-facing state while the device keeps running. -/
  | hotReset
  /-- FLR (R426): A function-level reset clears host-facing state while the device keeps running. -/
  | flr
  /-- D3HOT_ENTRY (R418): The function enters D3hot and holds every device write to the host. -/
  | d3hotEntry
  /-- D0_RETURN (R418): The function returns to D0 and held host writes leave in order. -/
  | d0Return
  /-- MR4_POLL (R379): Every 16 ms the controller reads MR4 and sets the refresh rate. -/
  | mr4Poll (ch : Fin 32) (rate : BitVec 8) (hot : Bool)
  /-- REFRESH (R379): A per-bank refresh falls due and is served. -/
  | refresh (ch : Fin 32) (bank : Fin 16)
  /-- DQS_TRACKING (R380): Oscillator tracking runs on a channel every TRACK_INTERVAL_MS and may queue it for retraining. -/
  | dqsTracking (ch : Fin 32) (drift : Nat)
  /-- RETRAIN_INTERVAL_EXPIRY (R380): RETRAIN_INTERVAL_S passes since a channel's last training and it is queued for retraining. -/
  | retrainIntervalExpiry (ch : Fin 32)
  /-- RETRAIN_NOW (R384): A write queues a channel for retraining. -/
  | retrainNow (req : Requester) (ch : BitVec 8)
  /-- EVACUATION_START (R381): The next queued channel begins evacuation to the reserve. -/
  | evacuationStart
  /-- EVAC_STRIPE_SWITCH (R381): One stripe's copy is acknowledged and its requests switch to the new home. -/
  | evacStripeSwitch
  /-- CHANNEL_TRAINING_DONE (R381): Full training of an evacuated channel ends and copy back starts. -/
  | channelTrainingDone
  /-- DRV_PORT_ENABLE (R429): A port ENABLE 0-to-1 write starts link training from DETECT. -/
  | drvPortEnable (req : Requester) (p : Fin 4)
  /-- LINK_TRAINING_STEP_DONE (R386): A Dravig training step ends or fails, advancing the port or returning it to DETECT or OUT. -/
  | linkTrainingStepDone (p : Fin 4) (lanes : Nat) (pass : Bool)
  /-- LINK_DOWN (R429): The neighbour drops the link and the port retrains. -/
  | linkDown (p : Fin 4)
  /-- FLIT_RECEIVE (R388): A flit is received, checked by CRC and sequence, acknowledged or NACKed. -/
  | flitReceive (p : Fin 4) (flit : List Byte)
  /-- REPLAY_TIMEOUT (R388): The oldest unacknowledged flit waits REPLAY_TIMEOUT_NS and the sender replays. -/
  | replayTimeout (p : Fin 4)
  /-- WINDOW_WRITE (R395): A received window write is applied whole or refused. -/
  | windowWrite (p : Fin 4) (h : DrvHead) (window : Fin 64) (generation tag offset : Nat) (payload : List Byte)
  /-- WINDOW_READ (R395): A received window read is answered with READ_DATA or refused. -/
  | windowRead (p : Fin 4) (h : DrvHead) (window : Fin 64) (generation tag offset length : Nat)
  /-- READ_DATA (R398): Returned read data is written to LOCAL. -/
  | readData (p : Fin 4) (h : DrvHead) (tag : Nat) (payload : List Byte)
  /-- FLAG_SIGNAL (R64): A peer's FLAG_SIGNAL packet is applied to a remote-visible flag or refused. -/
  | flagSignal (p : Fin 4) (h : DrvHead) (f : Fin 16384) (generation tag increment : Nat)
  /-- ANSWER (R393): An answer packet retires sent packets and updates the answer record. -/
  | answer (p : Fin 4) (h : DrvHead) (tag status : Nat) (cumulative : Bool)
  /-- ANSWER_TIMEOUT (R393): A packet left unanswered fails with DEVICE_UNREACHABLE and the sender sends RESYNC. -/
  | answerTimeout (dest : Fin 192)
  /-- HELLO (R386): A MGMT HELLO is checked against the torus placement. -/
  | hello (p : Fin 4) (id x y port : Nat) (idValid : Bool)
  /-- GEN_NOTICE (R396): A generation notice updates the peer table or arms flag targets and posts a Mason event. -/
  | genNotice (p : Fin 4) (h : DrvHead) (n : Notice)
  /-- RESYNC (R393): A RESYNC sets the expected PSEQ of a source. -/
  | resync (p : Fin 4) (h : DrvHead) (lowest : BitVec 16)
  /-- MESSAGE (R389): A MGMT MESSAGE packet is received. -/
  | message (p : Fin 4) (h : DrvHead) (payload : List Byte)
  /-- TIME_SYNC (R400): A TIME_SYNC exchange completes and TB is corrected toward the parent. -/
  | timeSync (p : Fin 4) (sent taken back got : BitVec 64)
  /-- TIME_SYNC_SEND (R400): Every SYNC_PERIOD_US the device sends TIME_SYNC to its parent. -/
  | timeSyncSend
  /-- BAD_PACKET (R389): A packet with a reserved TYPE, reserved field or bad DEST is discarded. -/
  | badPacket (p : Fin 4) (header : Vector (BitVec 32) 4)
  /-- WINDOW_OPEN (R394): Writing OPEN = 1 opens a remote window and sends GEN_NOTICE. -/
  | windowOpen (req : Requester) (win : Fin 64)
  /-- WINDOW_CLOSE (R394): Writing OPEN = 0 closes a window and increments GEN. -/
  | windowClose (req : Requester) (win : Fin 64)
  /-- WINDOW_DRAINED (R395): Every packet passed before the close is visible and DRAINED reads 1. -/
  | windowDrained (win : Fin 64)
  /-- WAKE_ORDERED_SET (R401): Sixteen WAKE ordered sets on a sleeping port wake the device. -/
  | wakeOrderedSet (p : Fin 4)
  /-- LEVEL_REQUEST (R407): A PWR_LEVEL_REQ write changes the requested performance level. -/
  | levelRequest (req : Requester) (v : BitVec 32)
  /-- AVS_FRAME_DONE (R408): An AVSBus frame completes, advancing a level transition or telemetry, or is retried. -/
  | avsFrameDone (rail : Fin 3) (reply : AvsReply)
  /-- AVS_RETRY (R409): After an AVSBus hold the controller retries the transition every 10 ms. -/
  | avsRetry (dom : Fin 2)
  /-- SLEW_DONE (R408): A regulator slew ends and the confirming read is sent. -/
  | slewDone (dom : Fin 2)
  /-- POWER_SAMPLE (R410): Package power is updated and the cap controller steps cap_level. -/
  | powerSample (milliwatts : Nat)
  /-- THERMAL_SAMPLE (R419): The sensors are sampled and the trip check runs. -/
  | thermalSample (sensors : Vector (Int × Bool) 48)
  /-- THROTTLE_TICK (R419): Every 1 ms while hot the thermal level slows. -/
  | throttleTick
  /-- THROTTLE_RELAX_TICK (R419): Every 100 ms while cool the thermal level speeds up. -/
  | throttleRelaxTick
  /-- DOMAIN_IDLE_EXPIRY (R412): A domain's idle timer reaches its S1 or S2 time and quiescing starts. -/
  | domainIdleExpiry (d : Fin 15) (deep : Bool)
  /-- DOMAIN_DRAINED (R412): In-flight transfers drain and the domain enters S1. -/
  | domainDrained (d : Fin 15)
  /-- DRAIN_TIMEOUT (R412): A drain not finished at 10 µs aborts the sleep entry. -/
  | drainTimeout (d : Fin 15) (unit : BitVec 8)
  /-- DOMAIN_S2_ENTERED (R412): Retention is saved and the domain enters S2. -/
  | domainS2Entered (d : Fin 15)
  /-- DOMAIN_WAKE (R414): An access to a sleeping domain stalls at its boundary and starts its wake. -/
  | domainWake (d : Fin 15)
  /-- DOMAIN_WAKE_DONE (R414): The domain is ON and the stalled access proceeds. -/
  | domainWakeDone (d : Fin 15)
  /-- S3_ENTRY (R415): All S3 conditions hold and the device starts entering S3. -/
  | s3Entry
  /-- S3_ENTRY_DONE (R415): Every domain, channel and link has reached its S3 state. -/
  | s3EntryDone
  /-- WAKE_SOURCE (R417): An enabled wake source starts the S3 exit. -/
  | wakeSource (source : BitVec 3)
  /-- TB_ALARM (R415): The TB alarm fires as a wake source. -/
  | tbAlarm
  /-- S3_EXIT_DONE (R416): The first useful cycle after S3 is reached and dispatch resumes. -/
  | s3ExitDone
  /-- POWER_ON_RESET (R514): The on-die detector releases power-on reset once every rail is valid and boot begins. -/
  | powerOnReset
  /-- PERST_N (R423): PERST_N causes a chip reset. -/
  | perstN
  /-- RAIL_FAULT (R515): A rail leaves its range while running and the device resets or reports a fault. -/
  | railFault (rail : Rail) (words : List (BitVec 40))
  /-- REFCLK_STOP (R518): REFCLK25 stops and every domain stops. -/
  | refclkStop
  /-- PWR_WDT_KICK (R427): A write kicks the watchdog. -/
  | pwrWdtKick (req : Requester)
  /-- WATCHDOG_EXPIRY (R427): The watchdog expires and causes a chip reset. -/
  | watchdogExpiry
  /-- CHIP_RESET_REQUEST (R428): A PWR_RESET_CTRL write with CHIP and the key requests a chip reset. -/
  | chipResetRequest (req : Requester) (chip : Bool) (key : BitVec 16)
  /-- CHIP_RESET (R425): A chip reset puts DRAM in self-refresh, clears state and restarts boot. -/
  | chipReset
  /-- PLL_LOCK (R435): The root PLL locks and boot continues with option bytes and ROM. -/
  | pllLock
  /-- ERROR_INJECTION_DONE (R484): Start-time error injection ends and a failing checker enters SAFE_DEGRADED. -/
  | errorInjectionDone (passed : Nat) (fail : Option (Nat × Nat))
  /-- PCIE_LINK_UP (R435): PCIe link training completes. -/
  | pcieLinkUp
  /-- LPDDR_TRAINING_DONE (R380): Boot training of the channels ends and failing channels are retired. -/
  | lpddrTrainingDone (failed : List Nat)
  /-- FIRMWARE_FETCHED (R435): The ROM finishes reading the firmware image from the NOR. -/
  | firmwareFetched (answered : Bool)
  /-- FIRMWARE_VERIFIED (R434): The firmware image passes or fails its checks and the control pairs start or RECOVERY is entered. -/
  | firmwareVerified
  /-- BOOT_BITSTREAM_FETCHED (R435): Firmware finishes fetching the boot bitstream from the NOR for loading. -/
  | bootBitstreamFetched (answered : Bool)
  /-- IMG_BOOT (R437): SEC_IMG_CMD 1 boots a host-placed firmware image in RECOVERY. -/
  | imgBoot (req : Requester)
  /-- STAGE_UPDATE (R439): SEC_IMG_CMD 2 copies and verifies an update image into bank B. -/
  | stageUpdate (req : Requester)
  /-- HAND_OVER (R439): SEC_IMG_CMD 3 starts moving the control pairs to the staged firmware one at a time. -/
  | handOver (req : Requester)
  /-- PAIR_HANDOVER_DONE (R439): The new kernel has started on a drained pair and the next pair drains. -/
  | pairHandoverDone
  /-- HANDOVER_TIMEOUT (R439): A new kernel fails to start on a pair within 100 ms and the pair returns to the old bank. -/
  | handoverTimeout (reported : Option (BitVec 8))
  /-- PROGRAM_NOR (R438): SEC_IMG_CMD 4 writes a verified image to the NOR and reads it back. -/
  | programNor (req : Requester)
  /-- ENROLL_KEY (R449): Enrols an owner key in the lowest empty slot. -/
  | enrollKey (req : Requester)
  /-- REVOKE_KEY (R449): Revokes an owner key slot. -/
  | revokeKey (req : Requester)
  /-- ROLLBACK_SET (R449): Raises the anti-rollback counter. -/
  | rollbackSet (req : Requester)
  /-- OB_WRITE (R449): Burns a new option-byte copy. -/
  | obWrite (req : Requester)
  /-- DEBUG_LOCK (R463): Sets the one-way debug lock. -/
  | debugLock (req : Requester)
  /-- PROFILE_LOCK (R449): Sets the safety profile lock. -/
  | profileLock (req : Requester)
  /-- MODEL_KEY_LOAD (R454): Decrypts and loads a model key into the volatile store. -/
  | modelKeyLoad (req : Requester)
  /-- MODEL_KEY_CLEAR (R449): Clears one or all model keys. -/
  | modelKeyClear (req : Requester)
  /-- CHANGE_RECORD_BURNED (R451): A change's record row reads back valid, the change takes effect and SEC_CC_STATUS posts. -/
  | changeRecordBurned
  /-- GET_VERSION (R456): SPDM GET_VERSION request. -/
  | getVersion
  /-- GET_CAPABILITIES (R456): SPDM GET_CAPABILITIES request. -/
  | getCapabilities
  /-- NEGOTIATE_ALGORITHMS (R456): SPDM NEGOTIATE_ALGORITHMS request. -/
  | negotiateAlgorithms
  /-- GET_DIGESTS (R456): SPDM GET_DIGESTS request. -/
  | getDigests
  /-- GET_CERTIFICATE (R457): SPDM GET_CERTIFICATE request for slot 0. -/
  | getCertificate (slot : Fin 16) (offset length : BitVec 16)
  /-- CHALLENGE (R456): SPDM CHALLENGE answered with a signature. -/
  | challenge (slot : BitVec 8) (nonce : Vector Byte 32)
  /-- GET_MEASUREMENTS (R458): SPDM GET_MEASUREMENTS request. -/
  | getMeasurements (slot index : BitVec 8) (signed : Bool) (nonce : Vector Byte 32)
  /-- UNSUPPORTED_REQUEST (R456): An unsupported SPDM request is answered with ERROR UnsupportedRequest. -/
  | unsupportedRequest
  /-- DEBUG_CHALLENGE (R461): SEC_DBG_CMD 1 draws a fresh debug challenge. -/
  | debugChallenge (req : Requester)
  /-- DEBUG_UNLOCK (R462): SEC_DBG_CMD 2 checks a token, or none under open policy, and unlocks debug. -/
  | debugUnlock (req : Requester)
  /-- SOUNDING_DUE (R472): A slot reaches LS without a gap and its unit's next boundary is taken. -/
  | soundingDue (slot : Fin 90)
  /-- SOUNDING_START (R472): A sounding starts in a gap or at a boundary, saving the unit's state. -/
  | soundingStart (slot : Fin 90)
  /-- SOUNDING_RESULT (R476): A sounding's signature is compared and the unit resumes, is re-sounded or is retired. -/
  | soundingResult (slot : Fin 90) (area : List Byte)
  /-- SOUNDING_OVERRUN (R474): A sounding still running at 2 × L_u is stopped and counts as a mismatch. -/
  | soundingOverrun (slot : Fin 90)
  /-- SAF_FORCE_SOUND (R486): A write forces a sounding of a slot at its next boundary. -/
  | safForceSound (req : Requester) (slot : BitVec 7)
  /-- SOUNDING_SET_READY (R471): The sounding set is written and expanded and first soundings begin. -/
  | soundingSetReady (set : List Byte) (expected : Vector (BitVec 32) 90)
  /-- PAIR_RETEST_DONE (R480): A pair re-test after lockstep mismatch ends and the pair returns or is retired. -/
  | pairRetestDone (p : Fin 4) (pass : Bool)
  /-- HEARTBEAT_TOGGLE (R469): SAFE_FAULT_N toggles every HEARTBEAT_US and the checker is refreshed. -/
  | heartbeatToggle
  /-- HEARTBEAT_EXPIRY (R469): The heartbeat checker gets no refresh in time and enters SAFE_DEGRADED. -/
  | heartbeatExpiry
  /-- RECOVERY_BOUND_EXPIRY (R483): A held re-execution reaches RECOVERY_BOUND and the run is dropped. -/
  | recoveryBoundExpiry (run : Nat)
  /-- CNT_TRACE_MARK (R495): A write writes a MARK trace record. -/
  | cntTraceMark (req : Requester) (v : BitVec 32)
  /-- CLAIM (R500): A CLM_REQ write claims a free resource or is denied. -/
  | claim (req : Requester) (cls : BitVec 8) (idx gid : BitVec 16)
  /-- RELEASE (R500): A CLM_REQ write with RELEASE frees a run-time claim held by the writer. -/
  | release (req : Requester) (cls : BitVec 8) (idx gid : BitVec 16)
  /-- GPIO_OUT_WRITE (R501): A GPIO_OUT write changes only the pins the writer holds. -/
  | gpioOutWrite (req : Requester) (v : BitVec 32)
  /-- TIMER_EXPIRY (R504): A general timer expires, posts its Mason event and drives its output. -/
  | timerExpiry (t : Fin 16)
  /-- TIMER_CAPTURE (R504): An input edge is captured by a timer in capture mode. -/
  | timerCapture (t : Fin 16)
  /-- BYPASS (R505): JTAG BYPASS instruction. -/
  | bypass
  /-- IDCODE (R505): JTAG IDCODE instruction. -/
  | idcode
  /-- SAMPLE_PRELOAD (R506): JTAG SAMPLE/PRELOAD instruction. -/
  | samplePreload (preload : List Bool)
  /-- EXTEST (R506): JTAG EXTEST hands the balls to the scan. -/
  | extest
  /-- EXTEST_PULSE (R506): JTAG EXTEST_PULSE instruction. -/
  | extestPulse
  /-- EXTEST_TRAIN (R506): JTAG EXTEST_TRAIN instruction. -/
  | extestTrain
  /-- CLAMP (R506): JTAG CLAMP instruction. -/
  | clamp
  /-- HIGHZ (R506): JTAG HIGHZ instruction. -/
  | highz
  /-- TAP_RESET (R506): A TAP reset returns the balls to their functional drivers. -/
  | tapReset
  /-- REGISTER_READ (R7): A register read returns the value, clears RC fields under R8 and R9, and fills or empties the requester's high-half latch. -/
  | registerRead (req : Requester) (off : BitVec 25) (n : Fin 9)
  /-- MSIX_UNMASK (R364): Unmasking an MSI-X vector or the function sends the one pending message and clears its PBA bit. -/
  | msixUnmask (t : MsixTarget)
  /-- GPIO_INPUT_EDGE (R336): A change on a GPIO input ball is offered to Mason's event queue as an interrupt event. -/
  | gpioInputEdge (pin : Fin 32) (level : Bool)
  /-- HOT_JOIN_REQUEST (R119): A hot-join request on an I3C bus is NACKed. -/
  | hotJoinRequest (m : Fin 8)
  /-- INSTRUCTION_BUFFER_REFILLED (R230): A tile-program refill of the instruction buffer from the QUARRY segment ends and issue resumes. -/
  | instructionBufferRefilled (c : Fin 64)
  /-- TRACKING_SETTLED (R379): After a self-refresh exit, tracking settles and the channels return from 6,400 to 8,533 MT/s. -/
  | trackingSettled
  /-- CUMULATIVE_OK_ANSWER (R393): A receiver sends a cumulative OK answer every 64 packets or every 1 µs. -/
  | cumulativeOkAnswer (src : Fin 192)
  /-- NEIGHBOUR_SLEEP (R401): A Dravig neighbour puts its lanes in electrical idle and the port sees it as SLEEP. -/
  | neighbourSleep (p : Fin 4)
  /-- LINK_L1_ENTRY (R411): The PCIe link enters L1 and the PCIe domain may enter S1, and one S3 condition is met. -/
  | linkL1Entry
  /-- PLL_LOCK_LOSS (R465): A PLL loses lock and the safety manager detects it. -/
  | pllLockLoss
  /-- FLAG_DELAY_WAKE (R497): Under FLAG_DELAY perturbation, a flag's delayed wake of its waiters falls due. -/
  | flagDelayWake (f : Fin 16384)
  deriving DecidableEq, Repr

end Sys2Proof
end

