-- ==== Sys2Proof/Decode.lean ====
section
/-! DEFINITION. The command a table word spells. No row of the opcode table has bits: commands reach the device as register accesses, packets, pins and
events, so there is no word to decode (DESIGN CHOICE, log entry 37). -/

namespace Sys2Proof

/-- The command a word of the opcode table spells: none, as the table gives no row bits. -/
def decodeTableWord (_nbits _w : Nat) : Option Instr := none

end Sys2Proof
end

