-- ==== Sys2Proof/Machine/Bits.lean ====
section
/-! DEFINITION. Bit fields, sign extension, byte order (R4, R5) and sparse tables: the plain helpers of the model. -/

namespace Sys2Proof.Machine

/-- Bits [hi:lo] of a word, both ends included (R5). -/
def bits (v hi lo : Nat) : Nat := (v / 2 ^ lo) % 2 ^ (hi + 1 - lo)

/-- Bit i of a word (R5). -/
def bitAt (v i : Nat) : Bool := (v / 2 ^ i) % 2 == 1

/-- 1 for true and 0 for false, the value of a one-bit field. -/
def b2n (b : Bool) : Nat := if b then 1 else 0

/-- The low w bits of a number. -/
def low (w v : Nat) : Nat := v % 2 ^ w

/-- A w-bit word read as a two's complement number. -/
def sext (w v : Nat) : Int := if v % 2 ^ w < 2 ^ (w - 1) then (v % 2 ^ w : Nat) else (v % 2 ^ w : Nat) - (2 ^ w : Nat)

/-- The w-bit two's complement word of a number. -/
def wrapInt (w : Nat) (z : Int) : Nat := (z % (2 ^ w : Nat)).toNat

/-- The number nearest to z in [lo, hi]. -/
def clampI (lo hi z : Int) : Int := max lo (min hi z)

/-- The n bytes of v, lowest first (R4). -/
def leBytes : Nat → Nat → List Byte
  | 0, _ => []
  | n + 1, v => BitVec.ofNat 8 v :: leBytes n (v / 256)

/-- The number that bytes spell, lowest first (R4). -/
def leNat : List Byte → Nat
  | [] => 0
  | b :: bs => b.toNat + 256 * leNat bs

/-- The bytes of a list of 32-bit words, in order (R4). -/
def wordsBytes (ws : List Nat) : List Byte := ws.flatMap (leBytes 4)

/-- The 32-bit words that bytes spell; a last part of a word is padded with zeros. -/
def bytesWords : List Byte → List Nat
  | [] => []
  | [a] => [leNat [a]]
  | [a, b] => [leNat [a, b]]
  | [a, b, c] => [leNat [a, b, c]]
  | a :: b :: c :: d :: r => leNat [a, b, c, d] :: bytesWords r

/-- Word i of a list of words; 0 beyond its end. -/
def wd (ws : List Nat) (i : Nat) : Nat := ws.getD i 0

/-- The 64-bit number in words i and i + 1. -/
def wd64 (ws : List Nat) (i : Nat) : Nat := wd ws i + 2 ^ 32 * wd ws (i + 1)

/-- A word put together from (value, low bit, width) parts. -/
def pack : List (Nat × Nat × Nat) → Nat
  | [] => 0
  | (v, lo, w) :: r => low w v * 2 ^ lo + pack r

/-- v rounded up to a multiple of k. -/
def roundUp (v k : Nat) : Nat := (v + k - 1) / k * k

/-- The ceiling of a / b. -/
def ceilDiv (a b : Nat) : Nat := (a + b - 1) / b

/-- True when no list entry repeats. -/
def distinct {α : Type} [DecidableEq α] : List α → Bool
  | [] => true
  | a :: r => !(r.contains a) && distinct r

/-- The first index at which p holds. -/
def firstIdx {α : Type} (p : α → Bool) (l : List α) : Option Nat := l.findIdx? p

/-- Replace the element at index i. -/
def setAt {α : Type} (l : List α) (i : Nat) (a : α) : List α := l.set i a

/-- The number of set bits among the low n bits of v. -/
def popCount : Nat → Nat → Nat
  | 0, _ => 0
  | n + 1, v => v % 2 + popCount n (v / 2)

/-- Exclusive or of two words. -/
def bxor (a b : Nat) : Nat := Nat.xor a b

/-- The xorshift update of R195. -/
def xorshift (s : Nat) : Nat :=
  let a := bxor s (low 32 (s * 2 ^ 13))
  let b := bxor a (a / 2 ^ 17)
  bxor b (low 32 (b * 2 ^ 5))

/-- The indices of the set bits among the low n bits of v, lowest first. -/
def setBits (n v : Nat) : List Nat := (List.range n).filter (fun i => bitAt v i)

/-- Insert by an order. -/
def insertBy {α : Type} (lt : α → α → Bool) (a : α) : List α → List α
  | [] => [a]
  | b :: r => if lt a b then a :: b :: r else b :: insertBy lt a r

/-- A stable sort. -/
def sortBy {α : Type} (lt : α → α → Bool) (l : List α) : List α := l.foldl (fun acc a => insertBy lt a acc) []

/-- The write test of R312 over (extent, destination stride) pairs of e-byte elements: no two elements meet. -/
def aliasFree (e : Nat) (dims : List (Nat × Int)) : Bool :=
  let ds := sortBy (fun (a b : Nat × Int) => decide (a.2.natAbs < b.2.natAbs)) (dims.filter (fun d => decide (1 < d.1)))
  (ds.foldl (fun (acc : Bool × Nat) d => (acc.1 && decide (acc.2 ≤ d.2.natAbs), acc.2 + (d.1 - 1) * d.2.natAbs)) (true, e)).1

/-! ### Sparse tables -/

/-- A sparse table: (key, value) pairs with strictly rising keys; a key it does not list holds the table's default. -/
abbrev Tbl (α : Type) := List (Nat × α)

/-- The value at a key, d where the table lists none. -/
def tget {α : Type} (d : α) : Tbl α → Nat → α
  | [], _ => d
  | (k, v) :: r, a => if k = a then v else tget d r a

/-- The table with one key removed. -/
def tdel {α : Type} : Tbl α → Nat → Tbl α
  | [], _ => []
  | (k, v) :: r, a => if k = a then tdel r a else (k, v) :: tdel r a

/-- The table with a value listed at its sorted place. -/
def tins {α : Type} : Tbl α → Nat → α → Tbl α
  | [], a, x => [(a, x)]
  | (k, v) :: r, a, x =>
    if a < k then (a, x) :: (k, v) :: r else if k = a then (a, x) :: r else (k, v) :: tins r a x

/-- The table with the value at a key replaced; writing the default unlists the key, so equal tables are equal lists. -/
def tset {α : Type} [DecidableEq α] (d : α) (t : Tbl α) (a : Nat) (x : α) : Tbl α :=
  if x = d then tdel t a else tins t a x

/-- The canonical form: keys strictly rising and no entry equal to the default. -/
def twf {α : Type} [DecidableEq α] (d : α) : Tbl α → Bool
  | [] => true
  | (k, v) :: r => decide (v ≠ d) && r.all (fun e => decide (k < e.1)) && twf d r

end Sys2Proof.Machine
end

