-- ==== Sys2Proof/Machine/RegTypes.lean ====
section
/-! DEFINITION. What a register field is: where it lies, how it may be accessed and what it holds after reset (R6, R8). -/

namespace Sys2Proof.Machine

/-- The access types of R8. -/
inductive Acc where
  | rw | ro | wo | w1c | w1s | rc | rw1 | rwl
  deriving DecidableEq, Repr

/-- Where a field's reset value comes from. -/
inductive Rst where
  /-- The value the register table states. -/
  | const (n : Nat)
  /-- A capability register, R26 and R27. -/
  | cap
  /-- PHYS_ID of a core window, R14 and R258. -/
  | phys
  /-- The reset base of a BAR2 aperture, R370. -/
  | aperture
  /-- A sounding slot's entry of R470. -/
  | slot
  /-- The counter directory, R488. -/
  | counterDir
  deriving DecidableEq, Repr

/-- A register field. off is the BAR0 offset of its register's first copy, lo its lowest bit there and wid its width;
s1, n1 and s2, n2 are the byte strides and counts of its repeated copies. -/
structure Fld where
  off : Nat
  lo : Nat
  wid : Nat
  s1 : Nat
  n1 : Nat
  s2 : Nat
  n2 : Nat
  acc : Acc
  rst : Rst
  deriving DecidableEq, Repr

/-- The key of copy (i, j) of a field in the register file: the bit address of its lowest bit. -/
def Fld.key (f : Fld) (i j : Nat) : Nat := (f.off + f.s1 * i + f.s2 * j) * 8 + f.lo

end Sys2Proof.Machine
end

