-- ==== Sys2Proof/Machine/RegsFabric.lean ====
section
/-! DEFINITION. The register fields of the core, Quarry, DRAM, Dravig, safety, security, counter, test and claim blocks, as the register tables of the spec give them. -/

namespace Sys2Proof.Machine.Reg

/-! R258 -/
def ASH_CAP : Fld := ⟨0x600000, 0, 64, 0x4000, 64, 0, 1, .ro, .cap⟩
def ASH_BUSY : Fld := ⟨0x600008, 0, 1, 0x4000, 64, 0, 1, .ro, (.const 0)⟩
def ASH_FLAG_WAIT : Fld := ⟨0x600008, 1, 1, 0x4000, 64, 0, 1, .ro, (.const 0)⟩
def ASH_BCAST_WAIT : Fld := ⟨0x600008, 2, 1, 0x4000, 64, 0, 1, .ro, (.const 0)⟩
def ASH_PHYS_ID : Fld := ⟨0x600008, 8, 8, 0x4000, 64, 0, 1, .ro, .phys⟩
def ASH_RANK : Fld := ⟨0x600008, 16, 6, 0x4000, 64, 0, 1, .ro, (.const 0)⟩
def ASH_CUR_GRAPH : Fld := ⟨0x60000c, 0, 16, 0x4000, 64, 0, 1, .ro, (.const 0)⟩
def ASH_CUR_NODE : Fld := ⟨0x60000c, 16, 16, 0x4000, 64, 0, 1, .ro, (.const 0)⟩
def ASH_CUR_CONTEXT : Fld := ⟨0x600010, 0, 8, 0x4000, 64, 0, 1, .ro, (.const 0)⟩
def ASH_CUR_SLOT : Fld := ⟨0x600010, 8, 6, 0x4000, 64, 0, 1, .ro, (.const 0)⟩
def ASH_PC : Fld := ⟨0x600014, 0, 32, 0x4000, 64, 0, 1, .ro, (.const 0)⟩
def ASH_LC : Fld := ⟨0x600018, 0, 24, 0x4000, 64, 4, 4, .ro, (.const 0)⟩
def ASH_LAST_STATUS : Fld := ⟨0x600028, 0, 8, 0x4000, 64, 0, 1, .ro, (.const 0)⟩
def ASH_LAST_SAT : Fld := ⟨0x600028, 8, 1, 0x4000, 64, 0, 1, .ro, (.const 0)⟩
def ASH_LAST_REEXEC : Fld := ⟨0x600028, 9, 1, 0x4000, 64, 0, 1, .ro, (.const 0)⟩
def ASH_LAST_FAULT_OP : Fld := ⟨0x600028, 16, 16, 0x4000, 64, 0, 1, .ro, (.const 0)⟩
def ASH_LAST_FAULT_ADDR : Fld := ⟨0x600030, 0, 40, 0x4000, 64, 0, 1, .ro, (.const 0)⟩
def ASH_LAST_FAULT_SEG : Fld := ⟨0x600030, 40, 2, 0x4000, 64, 0, 1, .ro, (.const 0)⟩
def ASH_LAST_END_TB : Fld := ⟨0x600038, 0, 64, 0x4000, 64, 0, 1, .ro, (.const 0)⟩
def ASH_TRACE_EN : Fld := ⟨0x600040, 0, 1, 0x4000, 64, 0, 1, .rw, (.const 0)⟩
def ASH_CNT_TASKS : Fld := ⟨0x600100, 0, 32, 0x4000, 64, 0, 1, .rc, (.const 0)⟩
def ASH_CNT_ABORTS : Fld := ⟨0x600104, 0, 32, 0x4000, 64, 0, 1, .rc, (.const 0)⟩
def ASH_CNT_REEXEC : Fld := ⟨0x600108, 0, 32, 0x4000, 64, 0, 1, .rc, (.const 0)⟩
def ASH_CNT_NEAR_MISS : Fld := ⟨0x60010c, 0, 32, 0x4000, 64, 0, 1, .rc, (.const 0)⟩
def ASH_CNT_SAT : Fld := ⟨0x600110, 0, 32, 0x4000, 64, 0, 1, .rc, (.const 0)⟩
def ASH_CNT_SPARSE_META_ERR : Fld := ⟨0x600114, 0, 32, 0x4000, 64, 0, 1, .rc, (.const 0)⟩
def ASH_CNT_OPS : Fld := ⟨0x600118, 0, 64, 0x4000, 64, 0, 1, .rc, (.const 0)⟩
def ASH_CNT_ARRAY_CYCLES : Fld := ⟨0x600120, 0, 64, 0x4000, 64, 0, 1, .rc, (.const 0)⟩
def ASH_CNT_VECTOR_CYCLES : Fld := ⟨0x600128, 0, 64, 0x4000, 64, 0, 1, .rc, (.const 0)⟩
def ASH_CNT_DMA_BYTES : Fld := ⟨0x600130, 0, 64, 0x4000, 64, 0, 1, .rc, (.const 0)⟩
def ASH_CNT_ISSUE_STALL : Fld := ⟨0x600138, 0, 64, 0x4000, 64, 0, 1, .rc, (.const 0)⟩
def ASH_CNT_FLAG_WAIT : Fld := ⟨0x600140, 0, 64, 0x4000, 64, 0, 1, .rc, (.const 0)⟩
def ASH_CNT_BCAST_WAIT : Fld := ⟨0x600148, 0, 64, 0x4000, 64, 0, 1, .rc, (.const 0)⟩
def ASH_CNT_FETCH_STALL : Fld := ⟨0x600150, 0, 64, 0x4000, 64, 0, 1, .rc, (.const 0)⟩
def ASH_NEAR_MISS_TB : Fld := ⟨0x600158, 0, 64, 0x4000, 64, 0, 1, .ro, (.const 0)⟩
/-! R305 -/
def TS_SCRUB_EN : Fld := ⟨0x600200, 0, 1, 0x4000, 64, 0, 1, .rw, (.const 1)⟩
def TS_SPARES_LEFT : Fld := ⟨0x600208, 0, 64, 0x4000, 64, 0, 1, .ro, (.const 0x4444444444444444)⟩
def TS_LAST_ECC_OFFSET : Fld := ⟨0x600210, 0, 19, 0x4000, 64, 0, 1, .ro, (.const 0)⟩
def TS_LAST_ECC_UNCORR : Fld := ⟨0x600210, 19, 1, 0x4000, 64, 0, 1, .ro, (.const 0)⟩
def TS_LAST_ECC_TB : Fld := ⟨0x600218, 0, 64, 0x4000, 64, 0, 1, .ro, (.const 0)⟩
def ASH_TS_CNT_ECC_FIXED : Fld := ⟨0x600220, 0, 32, 0x4000, 64, 0, 1, .rc, (.const 0)⟩
def ASH_TS_CNT_ECC_UNCORR : Fld := ⟨0x600224, 0, 32, 0x4000, 64, 0, 1, .rc, (.const 0)⟩
def ASH_TS_CNT_SPARED : Fld := ⟨0x600228, 0, 32, 0x4000, 64, 0, 1, .rc, (.const 0)⟩
def ASH_TS_CNT_SCRUB_PASSES : Fld := ⟨0x60022c, 0, 32, 0x4000, 64, 0, 1, .rc, (.const 0)⟩
def ASH_TS_CNT_SB_HAZARD : Fld := ⟨0x600230, 0, 64, 0x4000, 64, 0, 1, .rc, (.const 0)⟩
def ASH_TS_CNT_SB_FULL : Fld := ⟨0x600238, 0, 64, 0x4000, 64, 0, 1, .rc, (.const 0)⟩
def TS_SB_IN_USE : Fld := ⟨0x600240, 0, 6, 0x4000, 64, 0, 1, .ro, (.const 0)⟩
def TS_SB_PEAK : Fld := ⟨0x600244, 0, 6, 0x4000, 64, 0, 1, .rc, (.const 0)⟩
def ASH_TS_CNT_LANE_EXTRA : Fld := ⟨0x600248, 0, 64, 0x4000, 64, 0, 1, .rc, (.const 0)⟩
def ASH_TS_CNT_REMOTE_IN_BYTES : Fld := ⟨0x600250, 0, 64, 0x4000, 64, 0, 1, .rc, (.const 0)⟩
def ASH_TS_CNT_REMOTE_OUT_BYTES : Fld := ⟨0x600258, 0, 64, 0x4000, 64, 0, 1, .rc, (.const 0)⟩
def ASH_TS_CNT_CONFLICT : Fld := ⟨0x600280, 0, 32, 0x4000, 64, 4, 16, .rc, (.const 0)⟩

def blockAsh0 : List Fld := [ASH_CAP, ASH_BUSY, ASH_FLAG_WAIT, ASH_BCAST_WAIT, ASH_PHYS_ID, ASH_RANK, ASH_CUR_GRAPH, ASH_CUR_NODE, ASH_CUR_CONTEXT, ASH_CUR_SLOT, ASH_PC, ASH_LC, ASH_LAST_STATUS, ASH_LAST_SAT, ASH_LAST_REEXEC, ASH_LAST_FAULT_OP, ASH_LAST_FAULT_ADDR, ASH_LAST_FAULT_SEG, ASH_LAST_END_TB, ASH_TRACE_EN, ASH_CNT_TASKS, ASH_CNT_ABORTS, ASH_CNT_REEXEC, ASH_CNT_NEAR_MISS]
def blockAsh1 : List Fld := [ASH_CNT_SAT, ASH_CNT_SPARSE_META_ERR, ASH_CNT_OPS, ASH_CNT_ARRAY_CYCLES, ASH_CNT_VECTOR_CYCLES, ASH_CNT_DMA_BYTES, ASH_CNT_ISSUE_STALL, ASH_CNT_FLAG_WAIT, ASH_CNT_BCAST_WAIT, ASH_CNT_FETCH_STALL, ASH_NEAR_MISS_TB, TS_SCRUB_EN, TS_SPARES_LEFT, TS_LAST_ECC_OFFSET, TS_LAST_ECC_UNCORR, TS_LAST_ECC_TB, ASH_TS_CNT_ECC_FIXED, ASH_TS_CNT_ECC_UNCORR, ASH_TS_CNT_SPARED, ASH_TS_CNT_SCRUB_PASSES, ASH_TS_CNT_SB_HAZARD, ASH_TS_CNT_SB_FULL, TS_SB_IN_USE, TS_SB_PEAK]
def blockAsh2 : List Fld := [ASH_TS_CNT_LANE_EXTRA, ASH_TS_CNT_REMOTE_IN_BYTES, ASH_TS_CNT_REMOTE_OUT_BYTES, ASH_TS_CNT_CONFLICT]
/-- Every field of the block. -/
def blockAsh : List Fld := blockAsh0 ++ blockAsh1 ++ blockAsh2

/-! R306 -/
def QRY_CAP : Fld := ⟨0x800000, 0, 64, 0, 1, 0, 1, .ro, .cap⟩
def QRY_SCRUB_EN : Fld := ⟨0x800008, 0, 1, 0, 1, 0, 1, .rw, (.const 1)⟩
def QRY_SCRUB_INTERVAL : Fld := ⟨0x800008, 16, 16, 0, 1, 0, 1, .rw, (.const 0x1000)⟩
def SLAB_ROLE : Fld := ⟨0x801000, 0, 4, 128, 36, 0, 1, .ro, (.const 0)⟩
def SLAB_QUARTET : Fld := ⟨0x801000, 4, 4, 128, 36, 0, 1, .ro, (.const 0)⟩
def SLAB_IN_USE : Fld := ⟨0x801000, 8, 1, 128, 36, 0, 1, .ro, (.const 0)⟩
def SLAB_SPARES_LEFT : Fld := ⟨0x801000, 16, 7, 128, 36, 0, 1, .ro, (.const 64)⟩
def QRY_CNT_READ_BYTES : Fld := ⟨0x801008, 0, 64, 128, 36, 0, 1, .rc, (.const 0)⟩
def QRY_CNT_WRITE_BYTES : Fld := ⟨0x801010, 0, 64, 128, 36, 0, 1, .rc, (.const 0)⟩
def QRY_CNT_BUSY_CYCLES : Fld := ⟨0x801018, 0, 64, 128, 36, 0, 1, .rc, (.const 0)⟩
def QRY_CNT_SUBBANK_STALL : Fld := ⟨0x801020, 0, 64, 128, 36, 0, 1, .rc, (.const 0)⟩
def QRY_CNT_ECC_FIXED : Fld := ⟨0x801028, 0, 32, 128, 36, 0, 1, .rc, (.const 0)⟩
def QRY_CNT_ECC_UNCORR : Fld := ⟨0x80102c, 0, 32, 128, 36, 0, 1, .rc, (.const 0)⟩
def QRY_CNT_SPARED : Fld := ⟨0x801030, 0, 32, 128, 36, 0, 1, .rc, (.const 0)⟩
def QRY_CNT_ROLE_REFUSED : Fld := ⟨0x801034, 0, 32, 128, 36, 0, 1, .rc, (.const 0)⟩
def SLAB_LAST_ECC_OFFSET : Fld := ⟨0x801038, 0, 24, 128, 36, 0, 1, .ro, (.const 0)⟩
def SLAB_LAST_ECC_UNCORR : Fld := ⟨0x801038, 24, 1, 128, 36, 0, 1, .ro, (.const 0)⟩
def SLAB_LAST_ECC_TB : Fld := ⟨0x801040, 0, 64, 128, 36, 0, 1, .ro, (.const 0)⟩
def QRY_CNT_SCRUB_PASSES : Fld := ⟨0x801048, 0, 32, 128, 36, 0, 1, .rc, (.const 0)⟩
def QRY_CNT_STRIDED_REQ : Fld := ⟨0x801050, 0, 64, 128, 36, 0, 1, .rc, (.const 0)⟩
def QRY_CNT_TRANSPOSE_REQ : Fld := ⟨0x801058, 0, 64, 128, 36, 0, 1, .rc, (.const 0)⟩

def blockQry0 : List Fld := [QRY_CAP, QRY_SCRUB_EN, QRY_SCRUB_INTERVAL, SLAB_ROLE, SLAB_QUARTET, SLAB_IN_USE, SLAB_SPARES_LEFT, QRY_CNT_READ_BYTES, QRY_CNT_WRITE_BYTES, QRY_CNT_BUSY_CYCLES, QRY_CNT_SUBBANK_STALL, QRY_CNT_ECC_FIXED, QRY_CNT_ECC_UNCORR, QRY_CNT_SPARED, QRY_CNT_ROLE_REFUSED, SLAB_LAST_ECC_OFFSET, SLAB_LAST_ECC_UNCORR, SLAB_LAST_ECC_TB, QRY_CNT_SCRUB_PASSES, QRY_CNT_STRIDED_REQ, QRY_CNT_TRANSPOSE_REQ]
/-- Every field of the block. -/
def blockQry : List Fld := blockQry0

/-! R384 -/
def DDR_CAP : Fld := ⟨0x900000, 0, 64, 0, 1, 0, 1, .ro, .cap⟩
def DDR_TOP : Fld := ⟨0x900008, 0, 48, 0, 1, 0, 1, .ro, (.const 0)⟩
def DDR_EVAC_CH : Fld := ⟨0x900010, 0, 8, 0, 1, 0, 1, .ro, (.const 255)⟩
def DDR_EVAC_PERMANENT : Fld := ⟨0x900010, 8, 1, 0, 1, 0, 1, .ro, (.const 0)⟩
def DDR_RESERVE_FREE : Fld := ⟨0x900010, 9, 1, 0, 1, 0, 1, .ro, (.const 1)⟩
def DDR_RETRAIN_QUEUED : Fld := ⟨0x900010, 16, 16, 0, 1, 0, 1, .ro, (.const 0)⟩
def DDR_EVAC_STRIPES_DONE : Fld := ⟨0x900014, 0, 32, 0, 1, 0, 1, .ro, (.const 0)⟩
def DDR_CAP_ISP : Fld := ⟨0x900018, 0, 7, 0, 1, 0, 1, .rw, (.const 40)⟩
def DDR_W1 : Fld := ⟨0x900018, 8, 4, 0, 1, 0, 1, .rw, (.const 4)⟩
def DDR_W2 : Fld := ⟨0x900018, 12, 4, 0, 1, 0, 1, .rw, (.const 4)⟩
def DDR_W3 : Fld := ⟨0x900018, 16, 4, 0, 1, 0, 1, .rw, (.const 1)⟩
def DDR_AGE_LIMIT_NS : Fld := ⟨0x900018, 20, 12, 0, 1, 0, 1, .rw, (.const 0x7d0)⟩
def DDR_COPY_SHARE : Fld := ⟨0x90001c, 0, 7, 0, 1, 0, 1, .rw, (.const 50)⟩
def DDR_TRACK_INTERVAL_MS : Fld := ⟨0x900020, 0, 16, 0, 1, 0, 1, .rw, (.const 100)⟩
def DDR_DRIFT_LIMIT : Fld := ⟨0x900020, 16, 8, 0, 1, 0, 1, .rw, (.const 16)⟩
def DDR_RETRAIN_INTERVAL_S : Fld := ⟨0x900024, 0, 32, 0, 1, 0, 1, .rw, (.const 0xe10)⟩
def DDR_UE_LIMIT : Fld := ⟨0x900028, 0, 8, 0, 1, 0, 1, .rw, (.const 4)⟩
def DDR_UE_WINDOW_MS : Fld := ⟨0x900028, 8, 24, 0, 1, 0, 1, .rw, (.const 0xea60)⟩
def DDR_RETRAIN_NOW : Fld := ⟨0x90002c, 0, 8, 0, 1, 0, 1, .wo, (.const 0)⟩
def DDR_CNT_EVACUATIONS : Fld := ⟨0x900100, 0, 32, 0, 1, 0, 1, .rc, (.const 0)⟩
def DDR_CNT_RETRAIN_DEFERRED : Fld := ⟨0x900104, 0, 32, 0, 1, 0, 1, .rc, (.const 0)⟩
def DDR_CNT_EVAC_WAIT : Fld := ⟨0x900108, 0, 64, 0, 1, 0, 1, .rc, (.const 0)⟩
/-! R385 -/
def CH_IN_SERVICE : Fld := ⟨0x901000, 0, 1, 0x100, 32, 0, 1, .ro, (.const 1)⟩
def CH_EVACUATED : Fld := ⟨0x901000, 1, 1, 0x100, 32, 0, 1, .ro, (.const 0)⟩
def CH_RETIRED : Fld := ⟨0x901000, 2, 1, 0x100, 32, 0, 1, .ro, (.const 0)⟩
def CH_RATE_MTS : Fld := ⟨0x901000, 16, 16, 0x100, 32, 0, 1, .ro, (.const 0x2155)⟩
def CH_DRIFT : Fld := ⟨0x901004, 0, 16, 0x100, 32, 0, 1, .ro, (.const 0)⟩
def CH_MR4_RATE : Fld := ⟨0x901004, 16, 8, 0x100, 32, 0, 1, .ro, (.const 0)⟩
def CH_LAST_TRAIN_TB : Fld := ⟨0x901008, 0, 64, 0x100, 32, 0, 1, .ro, (.const 0)⟩
def CH_LAST_ECC_ADDR : Fld := ⟨0x901010, 0, 48, 0x100, 32, 0, 1, .ro, (.const 0)⟩
def CH_LAST_ECC_UNCORR : Fld := ⟨0x901010, 48, 1, 0x100, 32, 0, 1, .ro, (.const 0)⟩
def DDR_CH_CNT_READ_BYTES : Fld := ⟨0x901018, 0, 64, 0x100, 32, 0, 1, .rc, (.const 0)⟩
def DDR_CH_CNT_WRITE_BYTES : Fld := ⟨0x901020, 0, 64, 0x100, 32, 0, 1, .rc, (.const 0)⟩
def DDR_CH_CNT_ECC_FIXED : Fld := ⟨0x901028, 0, 32, 0x100, 32, 0, 1, .rc, (.const 0)⟩
def DDR_CH_CNT_ECC_UNCORR : Fld := ⟨0x90102c, 0, 32, 0x100, 32, 0, 1, .rc, (.const 0)⟩
def DDR_CH_CNT_LINK_FIXED : Fld := ⟨0x901030, 0, 32, 0x100, 32, 0, 1, .rc, (.const 0)⟩
def DDR_CH_CNT_RMW : Fld := ⟨0x901034, 0, 32, 0x100, 32, 0, 1, .rc, (.const 0)⟩
def DDR_CH_CNT_RETRAINS : Fld := ⟨0x901038, 0, 32, 0x100, 32, 0, 1, .rc, (.const 0)⟩
def DDR_CH_CNT_CHECK_MISS : Fld := ⟨0x90103c, 0, 32, 0x100, 32, 0, 1, .rc, (.const 0)⟩
def DDR_CH_CNT_CLASS_BYTES : Fld := ⟨0x901040, 0, 64, 0x100, 32, 8, 4, .rc, (.const 0)⟩

def blockDdr0 : List Fld := [DDR_CAP, DDR_TOP, DDR_EVAC_CH, DDR_EVAC_PERMANENT, DDR_RESERVE_FREE, DDR_RETRAIN_QUEUED, DDR_EVAC_STRIPES_DONE, DDR_CAP_ISP, DDR_W1, DDR_W2, DDR_W3, DDR_AGE_LIMIT_NS, DDR_COPY_SHARE, DDR_TRACK_INTERVAL_MS, DDR_DRIFT_LIMIT, DDR_RETRAIN_INTERVAL_S, DDR_UE_LIMIT, DDR_UE_WINDOW_MS, DDR_RETRAIN_NOW, DDR_CNT_EVACUATIONS, DDR_CNT_RETRAIN_DEFERRED, DDR_CNT_EVAC_WAIT, CH_IN_SERVICE, CH_EVACUATED]
def blockDdr1 : List Fld := [CH_RETIRED, CH_RATE_MTS, CH_DRIFT, CH_MR4_RATE, CH_LAST_TRAIN_TB, CH_LAST_ECC_ADDR, CH_LAST_ECC_UNCORR, DDR_CH_CNT_READ_BYTES, DDR_CH_CNT_WRITE_BYTES, DDR_CH_CNT_ECC_FIXED, DDR_CH_CNT_ECC_UNCORR, DDR_CH_CNT_LINK_FIXED, DDR_CH_CNT_RMW, DDR_CH_CNT_RETRAINS, DDR_CH_CNT_CHECK_MISS, DDR_CH_CNT_CLASS_BYTES]
/-- Every field of the block. -/
def blockDdr : List Fld := blockDdr0 ++ blockDdr1

/-! R403 -/
def DRV_CAP : Fld := ⟨0xa00000, 0, 64, 0, 1, 0, 1, .ro, .cap⟩
def DRV_X_SIZE : Fld := ⟨0xa00008, 0, 5, 0, 1, 0, 1, .rw, (.const 1)⟩
def DRV_Y_SIZE : Fld := ⟨0xa00008, 5, 5, 0, 1, 0, 1, .rw, (.const 1)⟩
def DRV_MY_X : Fld := ⟨0xa00008, 10, 4, 0, 1, 0, 1, .rw, (.const 0)⟩
def DRV_MY_Y : Fld := ⟨0xa00008, 14, 4, 0, 1, 0, 1, .rw, (.const 0)⟩
def DRV_ID_VALID : Fld := ⟨0xa00008, 18, 1, 0, 1, 0, 1, .ro, (.const 0)⟩
def DRV_DEVICE_ID : Fld := ⟨0xa00008, 20, 12, 0, 1, 0, 1, .ro, (.const 0)⟩
def DRV_TB_PARENT : Fld := ⟨0xa00010, 0, 2, 0, 1, 0, 1, .rw, (.const 0)⟩
def DRV_TB_MASTER : Fld := ⟨0xa00010, 2, 1, 0, 1, 0, 1, .rw, (.const 0)⟩
def DRV_ALT_PARENT : Fld := ⟨0xa00010, 3, 3, 0, 1, 0, 1, .rw, (.const 4)⟩
def DRV_LOCKED : Fld := ⟨0xa00010, 6, 1, 0, 1, 0, 1, .ro, (.const 0)⟩
def DRV_SYNC_PERIOD_US : Fld := ⟨0xa00010, 16, 16, 0, 1, 0, 1, .rw, (.const 100)⟩
def DRV_TB_LAST_OFFSET : Fld := ⟨0xa00014, 0, 32, 0, 1, 0, 1, .ro, (.const 0)⟩
def DRV_SUBSCRIBERS : Fld := ⟨0xa00018, 0, 64, 0, 1, 0, 1, .rw, (.const 0xffffffffffffffff)⟩
def DRV_ANSWER_TIMEOUT_NS : Fld := ⟨0xa00020, 0, 32, 0, 1, 0, 1, .rw, (.const 0x989680)⟩
def DRV_NOTICE_CHANNEL : Fld := ⟨0xa00024, 0, 16, 0, 1, 0, 1, .rw, (.const 0)⟩
def DRV_NEAR_MISS_TB : Fld := ⟨0xa00028, 0, 64, 0, 1, 0, 1, .ro, (.const 0)⟩
def DRV_CNT_NEAR_MISS : Fld := ⟨0xa00100, 0, 32, 0, 1, 0, 1, .rc, (.const 0)⟩
def DRV_CNT_BAD_PACKET : Fld := ⟨0xa00104, 0, 32, 0, 1, 0, 1, .rc, (.const 0)⟩
def DRV_CNT_TX_REFUSED : Fld := ⟨0xa00108, 0, 32, 0, 1, 0, 1, .rc, (.const 0)⟩
def DRV_CNT_UNREACHABLE : Fld := ⟨0xa0010c, 0, 32, 0, 1, 0, 1, .rc, (.const 0)⟩
def DRV_CNT_REORDER_HELD : Fld := ⟨0xa00110, 0, 32, 0, 1, 0, 1, .rc, (.const 0)⟩
def DRV_CNT_NOTICES : Fld := ⟨0xa00114, 0, 32, 0, 1, 0, 1, .rc, (.const 0)⟩
/-! R404 -/
def WIN_OPEN : Fld := ⟨0xa01000, 0, 1, 32, 64, 0, 1, .rw, (.const 0)⟩
def WIN_DRAINED : Fld := ⟨0xa01000, 1, 1, 32, 64, 0, 1, .ro, (.const 1)⟩
def WIN_GEN : Fld := ⟨0xa01000, 16, 16, 32, 64, 0, 1, .ro, (.const 0)⟩
def WIN_BASE : Fld := ⟨0xa01008, 0, 48, 32, 64, 0, 1, .rw, (.const 0)⟩
def WIN_SIZE : Fld := ⟨0xa01010, 0, 27, 32, 64, 0, 1, .rw, (.const 0)⟩
def DRV_WIN_CNT_DROPS : Fld := ⟨0xa01018, 0, 32, 32, 64, 0, 1, .rc, (.const 0)⟩
def DRV_WIN_CNT_APPLIED : Fld := ⟨0xa0101c, 0, 32, 32, 64, 0, 1, .rc, (.const 0)⟩
def DPORT_STATE : Fld := ⟨0xa02000, 0, 3, 0x100, 4, 0, 1, .ro, (.const 0)⟩
def DPORT_WIDTH : Fld := ⟨0xa02000, 3, 2, 0x100, 4, 0, 1, .ro, (.const 0)⟩
def DPORT_ENABLE : Fld := ⟨0xa02000, 5, 1, 0x100, 4, 0, 1, .rw, (.const 0)⟩
def DPORT_NEIGHBOUR_ID : Fld := ⟨0xa02000, 16, 12, 0x100, 4, 0, 1, .ro, (.const 0xfff)⟩
def DPORT_REPLAY_TIMEOUT_NS : Fld := ⟨0xa02004, 0, 16, 0x100, 4, 0, 1, .rw, (.const 0x7d0)⟩
def DPORT_ERR_LIMIT : Fld := ⟨0xa02004, 16, 16, 0x100, 4, 0, 1, .rw, (.const 64)⟩
def DPORT_ERR_WINDOW_US : Fld := ⟨0xa02008, 0, 32, 0x100, 4, 0, 1, .rw, (.const 0x3e8)⟩
def DRV_CNT_FLITS_TX : Fld := ⟨0xa02010, 0, 64, 0x100, 4, 0, 1, .rc, (.const 0)⟩
def DRV_CNT_FLITS_RX : Fld := ⟨0xa02018, 0, 64, 0x100, 4, 0, 1, .rc, (.const 0)⟩
def DRV_CNT_CRC_ERR : Fld := ⟨0xa02020, 0, 32, 0x100, 4, 0, 1, .rc, (.const 0)⟩
def DRV_CNT_REPLAYS : Fld := ⟨0xa02024, 0, 32, 0x100, 4, 0, 1, .rc, (.const 0)⟩
def DRV_CNT_DEGRADES : Fld := ⟨0xa02028, 0, 32, 0x100, 4, 0, 1, .rc, (.const 0)⟩
def DRV_CNT_CREDIT_STALL : Fld := ⟨0xa02030, 0, 64, 0x100, 4, 0, 1, .rc, (.const 0)⟩
def PEER_GEN : Fld := ⟨0xa10000, 0, 16, 4, 12288, 0, 1, .rw, (.const 0)⟩
def PEER_VALID : Fld := ⟨0xa10000, 16, 1, 4, 12288, 0, 1, .rw, (.const 0)⟩
def TGT_DEVICE : Fld := ⟨0xa20000, 0, 8, 16, 256, 0, 1, .rw, (.const 255)⟩
def TGT_FLAG : Fld := ⟨0xa20000, 8, 14, 16, 256, 0, 1, .rw, (.const 0)⟩
def TGT_GEN : Fld := ⟨0xa20004, 0, 16, 16, 256, 0, 1, .rw, (.const 0)⟩
def TGT_ARMED : Fld := ⟨0xa20004, 16, 1, 16, 256, 0, 1, .rw, (.const 0)⟩

def blockDrv0 : List Fld := [DRV_CAP, DRV_X_SIZE, DRV_Y_SIZE, DRV_MY_X, DRV_MY_Y, DRV_ID_VALID, DRV_DEVICE_ID, DRV_TB_PARENT, DRV_TB_MASTER, DRV_ALT_PARENT, DRV_LOCKED, DRV_SYNC_PERIOD_US, DRV_TB_LAST_OFFSET, DRV_SUBSCRIBERS, DRV_ANSWER_TIMEOUT_NS, DRV_NOTICE_CHANNEL, DRV_NEAR_MISS_TB, DRV_CNT_NEAR_MISS, DRV_CNT_BAD_PACKET, DRV_CNT_TX_REFUSED, DRV_CNT_UNREACHABLE, DRV_CNT_REORDER_HELD, DRV_CNT_NOTICES, WIN_OPEN]
def blockDrv1 : List Fld := [WIN_DRAINED, WIN_GEN, WIN_BASE, WIN_SIZE, DRV_WIN_CNT_DROPS, DRV_WIN_CNT_APPLIED, DPORT_STATE, DPORT_WIDTH, DPORT_ENABLE, DPORT_NEIGHBOUR_ID, DPORT_REPLAY_TIMEOUT_NS, DPORT_ERR_LIMIT, DPORT_ERR_WINDOW_US, DRV_CNT_FLITS_TX, DRV_CNT_FLITS_RX, DRV_CNT_CRC_ERR, DRV_CNT_REPLAYS, DRV_CNT_DEGRADES, DRV_CNT_CREDIT_STALL, PEER_GEN, PEER_VALID, TGT_DEVICE, TGT_FLAG, TGT_GEN]
def blockDrv2 : List Fld := [TGT_ARMED]
/-- Every field of the block. -/
def blockDrv : List Fld := blockDrv0 ++ blockDrv1 ++ blockDrv2

/-! R486 -/
def SAF_CAP : Fld := ⟨0xb00000, 0, 64, 0, 1, 0, 1, .ro, .cap⟩
def SAF_STATE : Fld := ⟨0xb00008, 0, 2, 0, 1, 0, 1, .ro, (.const 0)⟩
def SAF_TARGET : Fld := ⟨0xb00008, 2, 2, 0, 1, 0, 1, .ro, (.const 0)⟩
def SAF_HB_EXPIRED : Fld := ⟨0xb00008, 4, 1, 0, 1, 0, 1, .ro, (.const 0)⟩
def SAF_CAUSE_UNIT : Fld := ⟨0xb00008, 8, 8, 0, 1, 0, 1, .ro, (.const 0)⟩
def SAF_CAUSE_STATUS : Fld := ⟨0xb00008, 16, 8, 0, 1, 0, 1, .ro, (.const 0)⟩
def SAF_CAUSE_INFO : Fld := ⟨0xb0000c, 0, 32, 0, 1, 0, 1, .ro, (.const 0)⟩
def SAF_CAUSE_TB : Fld := ⟨0xb00010, 0, 64, 0, 1, 0, 1, .ro, (.const 0)⟩
def SAF_FTTI_MS : Fld := ⟨0xb00018, 0, 16, 0, 1, 0, 1, .ro, (.const 0)⟩
def SAF_HEARTBEAT_US : Fld := ⟨0xb00018, 16, 16, 0, 1, 0, 1, .ro, (.const 0)⟩
def SAF_INJ_PASSED : Fld := ⟨0xb00020, 0, 16, 0, 1, 0, 1, .ro, (.const 0)⟩
def SAF_INJ_FAIL_UNIT : Fld := ⟨0xb00020, 16, 8, 0, 1, 0, 1, .ro, (.const 0)⟩
def SAF_INJ_DONE : Fld := ⟨0xb00020, 24, 1, 0, 1, 0, 1, .ro, (.const 0)⟩
def SAF_FORCE_SOUND : Fld := ⟨0xb00024, 0, 7, 0, 1, 0, 1, .wo, (.const 0)⟩
def SAF_NEAR_MISS_TB : Fld := ⟨0xb00028, 0, 64, 0, 1, 0, 1, .ro, (.const 0)⟩
def SAF_CNT_SOUNDINGS : Fld := ⟨0xb00100, 0, 32, 0, 1, 0, 1, .rc, (.const 0)⟩
def SAF_CNT_MISMATCH : Fld := ⟨0xb00104, 0, 32, 0, 1, 0, 1, .rc, (.const 0)⟩
def SAF_CNT_TRANSIENT : Fld := ⟨0xb00108, 0, 32, 0, 1, 0, 1, .rc, (.const 0)⟩
def SAF_CNT_RETIRED : Fld := ⟨0xb0010c, 0, 32, 0, 1, 0, 1, .rc, (.const 0)⟩
def SAF_CNT_LATE : Fld := ⟨0xb00110, 0, 32, 0, 1, 0, 1, .rc, (.const 0)⟩
def SAF_CNT_NOTICES : Fld := ⟨0xb00114, 0, 32, 0, 1, 0, 1, .rc, (.const 0)⟩
def SAF_CNT_DROPPED : Fld := ⟨0xb00118, 0, 32, 0, 1, 0, 1, .rc, (.const 0)⟩
def SAF_CNT_NEAR_MISS : Fld := ⟨0xb0011c, 0, 32, 0, 1, 0, 1, .rc, (.const 0)⟩
def SAF_CNT_DELAY_US : Fld := ⟨0xb00120, 0, 64, 0, 1, 0, 1, .rc, (.const 0)⟩
/-! R487 -/
def SLOT_UNIT : Fld := ⟨0xb01000, 0, 8, 64, 128, 0, 1, .ro, .slot⟩
def SLOT_SSTATE : Fld := ⟨0xb01000, 8, 3, 64, 128, 0, 1, .ro, .slot⟩
def SLOT_WATCH_LEFT : Fld := ⟨0xb01000, 12, 4, 64, 128, 0, 1, .ro, (.const 0)⟩
def SLOT_LAST_START_TB : Fld := ⟨0xb01008, 0, 64, 64, 128, 0, 1, .ro, (.const 0)⟩
def SLOT_LAST_PASS_TB : Fld := ⟨0xb01010, 0, 64, 64, 128, 0, 1, .ro, (.const 0)⟩
def SLOT_NEXT_LS_TB : Fld := ⟨0xb01018, 0, 64, 64, 128, 0, 1, .ro, (.const 0)⟩
def SLOT_LENGTH_NS : Fld := ⟨0xb01020, 0, 32, 64, 128, 0, 1, .ro, .slot⟩
def SLOT_BOUND_NS : Fld := ⟨0xb01024, 0, 32, 64, 128, 0, 1, .ro, .slot⟩
def SAF_SLOT_CNT_SOUNDINGS : Fld := ⟨0xb01028, 0, 32, 64, 128, 0, 1, .rc, (.const 0)⟩
def SAF_SLOT_CNT_MISMATCH : Fld := ⟨0xb0102c, 0, 32, 64, 128, 0, 1, .rc, (.const 0)⟩
def SLOT_LAST_SIGNATURE : Fld := ⟨0xb01030, 0, 32, 64, 128, 0, 1, .ro, (.const 0)⟩
def SLOT_EXPECTED : Fld := ⟨0xb01034, 0, 32, 64, 128, 0, 1, .ro, (.const 0)⟩

def blockSaf0 : List Fld := [SAF_CAP, SAF_STATE, SAF_TARGET, SAF_HB_EXPIRED, SAF_CAUSE_UNIT, SAF_CAUSE_STATUS, SAF_CAUSE_INFO, SAF_CAUSE_TB, SAF_FTTI_MS, SAF_HEARTBEAT_US, SAF_INJ_PASSED, SAF_INJ_FAIL_UNIT, SAF_INJ_DONE, SAF_FORCE_SOUND, SAF_NEAR_MISS_TB, SAF_CNT_SOUNDINGS, SAF_CNT_MISMATCH, SAF_CNT_TRANSIENT, SAF_CNT_RETIRED, SAF_CNT_LATE, SAF_CNT_NOTICES, SAF_CNT_DROPPED, SAF_CNT_NEAR_MISS, SAF_CNT_DELAY_US]
def blockSaf1 : List Fld := [SLOT_UNIT, SLOT_SSTATE, SLOT_WATCH_LEFT, SLOT_LAST_START_TB, SLOT_LAST_PASS_TB, SLOT_NEXT_LS_TB, SLOT_LENGTH_NS, SLOT_BOUND_NS, SAF_SLOT_CNT_SOUNDINGS, SAF_SLOT_CNT_MISMATCH, SLOT_LAST_SIGNATURE, SLOT_EXPECTED]
/-- Every field of the block. -/
def blockSaf : List Fld := blockSaf0 ++ blockSaf1

/-! R26 -/
def SEC_CAP : Fld := ⟨0xc00000, 0, 64, 0, 1, 0, 1, .ro, .cap⟩
/-! R438 -/
def SEC_IMG_ADDR : Fld := ⟨0xc01000, 0, 48, 0, 1, 0, 1, .rw, (.const 0)⟩
def SEC_IMG_LEN : Fld := ⟨0xc01008, 0, 27, 0, 1, 0, 1, .rw, (.const 0)⟩
def SEC_IMG_CMD : Fld := ⟨0xc01010, 0, 3, 0, 1, 0, 1, .wo, (.const 0)⟩
def SEC_IMG_STATUS : Fld := ⟨0xc01018, 0, 8, 0, 1, 0, 1, .ro, (.const 0)⟩
def SEC_IMG_BUSY : Fld := ⟨0xc01018, 8, 1, 0, 1, 0, 1, .ro, (.const 0)⟩
def SEC_IMG_STAGED : Fld := ⟨0xc01018, 9, 1, 0, 1, 0, 1, .ro, (.const 0)⟩
def SEC_RUNNING_FW_VERSION : Fld := ⟨0xc0101c, 0, 32, 0, 1, 0, 1, .ro, (.const 0)⟩
/-! R464 -/
def SEC_CC_ADDR : Fld := ⟨0xc02000, 0, 48, 0, 1, 0, 1, .rw, (.const 0)⟩
def SEC_CC_LEN : Fld := ⟨0xc02008, 0, 16, 0, 1, 0, 1, .rw, (.const 0)⟩
def SEC_CC_GO : Fld := ⟨0xc02010, 0, 1, 0, 1, 0, 1, .wo, (.const 0)⟩
def SEC_CC_STATUS : Fld := ⟨0xc02018, 0, 8, 0, 1, 0, 1, .ro, (.const 0)⟩
def SEC_CC_BUSY : Fld := ⟨0xc02018, 8, 1, 0, 1, 0, 1, .ro, (.const 0)⟩
def SEC_NEXT_SEQ : Fld := ⟨0xc02020, 0, 8, 0, 1, 0, 1, .ro, (.const 0)⟩
def SEC_ROLLBACK_COUNTER : Fld := ⟨0xc02020, 8, 7, 0, 1, 0, 1, .ro, (.const 0)⟩
def SEC_SLOT_STATE : Fld := ⟨0xc02020, 16, 8, 0, 1, 0, 1, .ro, (.const 0)⟩
def SEC_OB_COPIES_USED : Fld := ⟨0xc02020, 24, 4, 0, 1, 0, 1, .ro, (.const 0)⟩
def SEC_DEBUG_LOCK : Fld := ⟨0xc02020, 28, 1, 0, 1, 0, 1, .ro, (.const 0)⟩
def SEC_PROFILE_LOCK : Fld := ⟨0xc02020, 29, 1, 0, 1, 0, 1, .ro, (.const 0)⟩
def SEC_MKEY_VALID : Fld := ⟨0xc02028, 0, 16, 0, 1, 0, 1, .ro, (.const 0)⟩
def SEC_DBG_CHALLENGE : Fld := ⟨0xc03000, 0, 32, 4, 8, 0, 1, .ro, (.const 0)⟩
def SEC_DBG_TOKEN_ADDR : Fld := ⟨0xc03020, 0, 48, 0, 1, 0, 1, .rw, (.const 0)⟩
def SEC_DBG_CMD : Fld := ⟨0xc03028, 0, 2, 0, 1, 0, 1, .wo, (.const 0)⟩
def SEC_DEBUG_UNLOCKED : Fld := ⟨0xc0302c, 0, 1, 0, 1, 0, 1, .ro, (.const 0)⟩
def SEC_EFFECTIVE_POLICY : Fld := ⟨0xc0302c, 1, 2, 0, 1, 0, 1, .ro, (.const 0)⟩
def SEC_DBG_STATUS : Fld := ⟨0xc0302c, 8, 8, 0, 1, 0, 1, .ro, (.const 0)⟩
def SEC_CNT_VERIFY : Fld := ⟨0xc03100, 0, 32, 0, 1, 0, 1, .rc, (.const 0)⟩
def SEC_CNT_VERIFY_FAIL : Fld := ⟨0xc03104, 0, 32, 0, 1, 0, 1, .rc, (.const 0)⟩
def SEC_CNT_SPDM_REQ : Fld := ⟨0xc03108, 0, 32, 0, 1, 0, 1, .rc, (.const 0)⟩
def SEC_CNT_DBG_FAIL : Fld := ⟨0xc0310c, 0, 32, 0, 1, 0, 1, .rc, (.const 0)⟩

def blockSec0 : List Fld := [SEC_IMG_ADDR, SEC_IMG_LEN, SEC_IMG_CMD, SEC_IMG_STATUS, SEC_IMG_BUSY, SEC_IMG_STAGED, SEC_RUNNING_FW_VERSION, SEC_CC_ADDR, SEC_CC_LEN, SEC_CC_GO, SEC_CC_STATUS, SEC_CC_BUSY, SEC_NEXT_SEQ, SEC_ROLLBACK_COUNTER, SEC_SLOT_STATE, SEC_OB_COPIES_USED, SEC_DEBUG_LOCK, SEC_PROFILE_LOCK, SEC_MKEY_VALID, SEC_DBG_CHALLENGE, SEC_DBG_TOKEN_ADDR, SEC_DBG_CMD, SEC_DEBUG_UNLOCKED, SEC_EFFECTIVE_POLICY]
def blockSec1 : List Fld := [SEC_DBG_STATUS, SEC_CNT_VERIFY, SEC_CNT_VERIFY_FAIL, SEC_CNT_SPDM_REQ, SEC_CNT_DBG_FAIL, SEC_CAP]
/-- Every field of the block. -/
def blockSec : List Fld := blockSec0 ++ blockSec1

/-! R502 -/
def CNT_CAP : Fld := ⟨0xd00000, 0, 64, 0, 1, 0, 1, .ro, .cap⟩
def CNT_TRACE_EN : Fld := ⟨0xd00008, 0, 1, 0, 1, 0, 1, .rw, (.const 0)⟩
def CNT_TRACE_WRAP : Fld := ⟨0xd00008, 1, 1, 0, 1, 0, 1, .rw, (.const 0)⟩
def CNT_TRACE_LOG2 : Fld := ⟨0xd00008, 16, 5, 0, 1, 0, 1, .rw, (.const 8)⟩
def CNT_TRACE_BASE : Fld := ⟨0xd00010, 0, 64, 0, 1, 0, 1, .rw, (.const 0)⟩
def CNT_TRACE_HEAD : Fld := ⟨0xd00018, 0, 24, 0, 1, 0, 1, .rw, (.const 0)⟩
def CNT_TRACE_TAIL : Fld := ⟨0xd0001c, 0, 24, 0, 1, 0, 1, .ro, (.const 0)⟩
def CNT_TRACE_MARK : Fld := ⟨0xd00020, 0, 32, 0, 1, 0, 1, .wo, (.const 0)⟩
def CNT_TRACE_LOST : Fld := ⟨0xd00024, 0, 32, 0, 1, 0, 1, .rc, (.const 0)⟩
def SNAP_ID : Fld := ⟨0xd01000, 0, 16, 0x4000, 4, 0, 1, .ro, (.const 0)⟩
def SNAP_VALID : Fld := ⟨0xd01000, 16, 1, 0x4000, 4, 0, 1, .ro, (.const 0)⟩
def SNAP_PENDING : Fld := ⟨0xd01000, 17, 1, 0x4000, 4, 0, 1, .ro, (.const 0)⟩
def SNAP_DOMAINS_ASLEEP : Fld := ⟨0xd01000, 18, 15, 0x4000, 4, 0, 1, .ro, (.const 0)⟩
def SNAP_TB : Fld := ⟨0xd01008, 0, 64, 0x4000, 4, 0, 1, .ro, (.const 0)⟩
def SNAP_CAPTURE_END_TB : Fld := ⟨0xd01010, 0, 64, 0x4000, 4, 0, 1, .ro, (.const 0)⟩
def SNAP_SHADOW : Fld := ⟨0xd01040, 0, 64, 0x4000, 4, 8, 1536, .ro, (.const 0)⟩
def CNT_DIR : Fld := ⟨0xd20000, 0, 32, 4, 1536, 0, 1, .ro, .counterDir⟩

def blockCnt0 : List Fld := [CNT_CAP, CNT_TRACE_EN, CNT_TRACE_WRAP, CNT_TRACE_LOG2, CNT_TRACE_BASE, CNT_TRACE_HEAD, CNT_TRACE_TAIL, CNT_TRACE_MARK, CNT_TRACE_LOST, SNAP_ID, SNAP_VALID, SNAP_PENDING, SNAP_DOMAINS_ASLEEP, SNAP_TB, SNAP_CAPTURE_END_TB, SNAP_SHADOW, CNT_DIR]
/-- Every field of the block. -/
def blockCnt : List Fld := blockCnt0

/-! R26 -/
def TST_CAP : Fld := ⟨0xe00000, 0, 64, 0, 1, 0, 1, .ro, .cap⟩
/-! R503 -/
def TST_EN : Fld := ⟨0xe00008, 0, 5, 0, 1, 0, 1, .rw, (.const 0)⟩
def TST_SEED : Fld := ⟨0xe0000c, 0, 32, 0, 1, 0, 1, .rw, (.const 0x2545f491)⟩
def TST_FLAG_LO : Fld := ⟨0xe00010, 0, 14, 0, 1, 0, 1, .rw, (.const 0)⟩
def TST_FLAG_HI : Fld := ⟨0xe00010, 16, 14, 0, 1, 0, 1, .rw, (.const 0)⟩
def TST_FLAG_MAX : Fld := ⟨0xe00014, 0, 12, 0, 1, 0, 1, .rw, (.const 0)⟩
def TST_PROB : Fld := ⟨0xe00018, 0, 8, 0, 1, 0, 1, .rw, (.const 0)⟩
def TST_BP_MASK : Fld := ⟨0xe00018, 8, 8, 0, 1, 0, 1, .rw, (.const 0)⟩
def TST_DDR_MASK : Fld := ⟨0xe0001c, 0, 32, 0, 1, 0, 1, .rw, (.const 0)⟩
def TST_DDR_MAX : Fld := ⟨0xe00020, 0, 16, 0, 1, 0, 1, .rw, (.const 0)⟩
def TST_SKIP_MASK : Fld := ⟨0xe00024, 0, 5, 0, 1, 0, 1, .rw, (.const 0)⟩
def TST_SKIP_N : Fld := ⟨0xe00024, 16, 16, 0, 1, 0, 1, .rw, (.const 0)⟩
def TST_TARGET : Fld := ⟨0xe00028, 0, 8, 0, 1, 0, 1, .rw, (.const 0)⟩
def TST_COLLIDE_LEFT : Fld := ⟨0xe00028, 16, 16, 0, 1, 0, 1, .rw, (.const 0)⟩
def TST_WINDOW_NS : Fld := ⟨0xe0002c, 0, 32, 0, 1, 0, 1, .rw, (.const 0)⟩

def blockTst0 : List Fld := [TST_EN, TST_SEED, TST_FLAG_LO, TST_FLAG_HI, TST_FLAG_MAX, TST_PROB, TST_BP_MASK, TST_DDR_MASK, TST_DDR_MAX, TST_SKIP_MASK, TST_SKIP_N, TST_TARGET, TST_COLLIDE_LEFT, TST_WINDOW_NS, TST_CAP]
/-- Every field of the block. -/
def blockTst : List Fld := blockTst0

/-! R504 -/
def CLM_CAP : Fld := ⟨0xf00000, 0, 64, 0, 1, 0, 1, .ro, .cap⟩
def CLM_CLASS : Fld := ⟨0xf00010, 0, 8, 0, 1, 0, 1, .wo, (.const 0)⟩
def CLM_RELEASE : Fld := ⟨0xf00010, 8, 1, 0, 1, 0, 1, .wo, (.const 0)⟩
def CLM_INDEX : Fld := ⟨0xf00010, 16, 16, 0, 1, 0, 1, .wo, (.const 0)⟩
def CLM_GRAPH_ID : Fld := ⟨0xf00010, 32, 16, 0, 1, 0, 1, .wo, (.const 0xffff)⟩
def CLM_STATUS : Fld := ⟨0xf00018, 0, 8, 0, 1, 0, 1, .ro, (.const 0)⟩
def CLM_HOLDER : Fld := ⟨0xf00018, 8, 8, 0, 1, 0, 1, .ro, (.const 255)⟩
def HOLDG_HOLDER : Fld := ⟨0xf01000, 0, 8, 4, 32, 0, 1, .ro, (.const 255)⟩
def HOLDT_HOLDER : Fld := ⟨0xf01100, 0, 8, 4, 16, 0, 1, .ro, (.const 255)⟩
def HOLDF_HOLDER : Fld := ⟨0xf01200, 0, 8, 4, 16, 0, 1, .ro, (.const 255)⟩
def HOLDS_HOLDER : Fld := ⟨0xf01400, 0, 8, 4, 384, 0, 1, .ro, (.const 255)⟩
def HOLDG_STATIC : Fld := ⟨0xf01000, 8, 1, 4, 32, 0, 1, .ro, (.const 0)⟩
def HOLDT_STATIC : Fld := ⟨0xf01100, 8, 1, 4, 16, 0, 1, .ro, (.const 0)⟩
def HOLDF_STATIC : Fld := ⟨0xf01200, 8, 1, 4, 16, 0, 1, .ro, (.const 0)⟩
def HOLDS_STATIC : Fld := ⟨0xf01400, 8, 1, 4, 384, 0, 1, .ro, (.const 0)⟩
def HOLDG_GRAPH_ID : Fld := ⟨0xf01000, 16, 16, 4, 32, 0, 1, .ro, (.const 0xffff)⟩
def HOLDT_GRAPH_ID : Fld := ⟨0xf01100, 16, 16, 4, 16, 0, 1, .ro, (.const 0xffff)⟩
def HOLDF_GRAPH_ID : Fld := ⟨0xf01200, 16, 16, 4, 16, 0, 1, .ro, (.const 0xffff)⟩
def HOLDS_GRAPH_ID : Fld := ⟨0xf01400, 16, 16, 4, 384, 0, 1, .ro, (.const 0xffff)⟩
def CLM_GPIO_IN : Fld := ⟨0xf02000, 0, 32, 0, 1, 0, 1, .ro, (.const 0)⟩
def CLM_GPIO_OUT : Fld := ⟨0xf02004, 0, 32, 0, 1, 0, 1, .rw, (.const 0)⟩
def TMR_ENABLE : Fld := ⟨0xf03000, 0, 1, 32, 16, 0, 1, .rw, (.const 0)⟩
def TMR_MODE : Fld := ⟨0xf03000, 1, 2, 32, 16, 0, 1, .rw, (.const 0)⟩
def TMR_CHANNEL : Fld := ⟨0xf03000, 16, 16, 32, 16, 0, 1, .rw, (.const 0)⟩
def TMR_START_TB : Fld := ⟨0xf03008, 0, 64, 32, 16, 0, 1, .rw, (.const 0)⟩
def TMR_PERIOD_NS : Fld := ⟨0xf03010, 0, 32, 32, 16, 0, 1, .rw, (.const 0)⟩
def TMR_CAPTURE_TB : Fld := ⟨0xf03018, 0, 64, 32, 16, 0, 1, .ro, (.const 0)⟩

def blockClm0 : List Fld := [CLM_CAP, CLM_CLASS, CLM_RELEASE, CLM_INDEX, CLM_GRAPH_ID, CLM_STATUS, CLM_HOLDER, HOLDG_HOLDER, HOLDT_HOLDER, HOLDF_HOLDER, HOLDS_HOLDER, HOLDG_STATIC, HOLDT_STATIC, HOLDF_STATIC, HOLDS_STATIC, HOLDG_GRAPH_ID, HOLDT_GRAPH_ID, HOLDF_GRAPH_ID, HOLDS_GRAPH_ID, CLM_GPIO_IN, CLM_GPIO_OUT, TMR_ENABLE, TMR_MODE, TMR_CHANNEL]
def blockClm1 : List Fld := [TMR_START_TB, TMR_PERIOD_NS, TMR_CAPTURE_TB]
/-- Every field of the block. -/
def blockClm : List Fld := blockClm0 ++ blockClm1

end Sys2Proof.Machine.Reg
end

