-- ==== Sys2Proof/Machine/RegsHost.lean ====
section
/-! DEFINITION. The register fields of the identity, power, queue engine and Keystone blocks, as the register tables of the spec give them. -/

namespace Sys2Proof.Machine.Reg

/-! R30 -/
def ID_CAP : Fld := ⟨0, 0, 64, 0, 1, 0, 1, .ro, .cap⟩
def ID_PART_NUMBER : Fld := ⟨8, 0, 16, 0, 1, 0, 1, .ro, (.const 0)⟩
def ID_STEPPING : Fld := ⟨8, 16, 4, 0, 1, 0, 1, .ro, (.const 0)⟩
def ID_FAMILY_MEMBER : Fld := ⟨8, 20, 4, 0, 1, 0, 1, .ro, (.const 1)⟩
def ID_DRAM_GIB : Fld := ⟨16, 0, 8, 0, 1, 0, 1, .ro, (.const 0)⟩
def ID_CHANNELS_FITTED : Fld := ⟨16, 8, 6, 0, 1, 0, 1, .ro, (.const 32)⟩
def ID_CHANNELS_ACTIVE : Fld := ⟨16, 14, 6, 0, 1, 0, 1, .ro, (.const 32)⟩
def ID_LOGICAL_CORES : Fld := ⟨24, 0, 8, 0, 1, 0, 1, .ro, (.const 64)⟩
def ID_PHYSICAL_CORES : Fld := ⟨24, 8, 8, 0, 1, 0, 1, .ro, (.const 68)⟩
def ID_SPARE_FREE : Fld := ⟨24, 16, 16, 0, 1, 0, 1, .ro, (.const 0x1111)⟩
def ID_GENERATION : Fld := ⟨32, 0, 8, 0, 1, 0, 1, .ro, (.const 1)⟩
def ID_HOST_IF_MAJOR_MAX : Fld := ⟨32, 8, 8, 0, 1, 0, 1, .ro, (.const 1)⟩
def ID_HOST_IF_MINOR_MAX : Fld := ⟨32, 16, 8, 0, 1, 0, 1, .ro, (.const 0)⟩
def ID_SERIAL : Fld := ⟨40, 0, 64, 0, 1, 0, 1, .ro, (.const 0)⟩
def ID_UNIT_PRESENT : Fld := ⟨64, 0, 32, 4, 8, 0, 1, .ro, (.const 0)⟩

def blockId0 : List Fld := [ID_CAP, ID_PART_NUMBER, ID_STEPPING, ID_FAMILY_MEMBER, ID_DRAM_GIB, ID_CHANNELS_FITTED, ID_CHANNELS_ACTIVE, ID_LOGICAL_CORES, ID_PHYSICAL_CORES, ID_SPARE_FREE, ID_GENERATION, ID_HOST_IF_MAJOR_MAX, ID_HOST_IF_MINOR_MAX, ID_SERIAL, ID_UNIT_PRESENT]
/-- Every field of the block. -/
def blockId : List Fld := blockId0

/-! R421 -/
def PWR_CAP : Fld := ⟨0x100000, 0, 64, 0, 1, 0, 1, .ro, .cap⟩
def PWR_LEVEL_REQ_A : Fld := ⟨0x100008, 0, 2, 0, 1, 0, 1, .rw, (.const 0)⟩
def PWR_LEVEL_REQ_V : Fld := ⟨0x100008, 2, 1, 0, 1, 0, 1, .rw, (.const 0)⟩
def PWR_LEVEL_A : Fld := ⟨0x100010, 0, 2, 0, 1, 0, 1, .ro, (.const 0)⟩
def PWR_LEVEL_V : Fld := ⟨0x100010, 2, 1, 0, 1, 0, 1, .ro, (.const 0)⟩
def PWR_IN_TRANSITION : Fld := ⟨0x100010, 3, 1, 0, 1, 0, 1, .ro, (.const 0)⟩
def PWR_CAUSE_A : Fld := ⟨0x100010, 4, 3, 0, 1, 0, 1, .ro, (.const 0)⟩
def PWR_CAUSE_V : Fld := ⟨0x100010, 7, 3, 0, 1, 0, 1, .ro, (.const 0)⟩
def PWR_TRIPPED : Fld := ⟨0x100010, 10, 1, 0, 1, 0, 1, .ro, (.const 0)⟩
def PWR_DEVICE_STATE : Fld := ⟨0x100010, 11, 2, 0, 1, 0, 1, .ro, (.const 0)⟩
def PWR_CAP_UNHELD : Fld := ⟨0x100010, 13, 1, 0, 1, 0, 1, .ro, (.const 0)⟩
def PWR_LAST_CHANGE_TB : Fld := ⟨0x100018, 0, 64, 0, 1, 0, 1, .ro, (.const 0)⟩
def PWR_UP_HYST_W : Fld := ⟨0x100020, 0, 8, 0, 1, 0, 1, .rw, (.const 20)⟩
def PWR_UP_HOLD_MS : Fld := ⟨0x100020, 8, 16, 0, 1, 0, 1, .rw, (.const 10)⟩
def PWR_PACKAGE_POWER : Fld := ⟨0x100028, 0, 32, 0, 1, 0, 1, .ro, (.const 0)⟩
def PWR_PEAK_POWER : Fld := ⟨0x10002c, 0, 32, 0, 1, 0, 1, .rc, (.const 0)⟩
def PWR_TEMP_MAX : Fld := ⟨0x100030, 0, 12, 0, 1, 0, 1, .ro, (.const 0)⟩
def PWR_HOTTEST_SENSOR : Fld := ⟨0x100030, 12, 6, 0, 1, 0, 1, .ro, (.const 0)⟩
def PWR_TB_ALARM : Fld := ⟨0x100038, 0, 64, 0, 1, 0, 1, .rw, (.const 0)⟩
def PWR_WAKE_EN : Fld := ⟨0x100040, 0, 5, 0, 1, 0, 1, .rw, (.const 31)⟩
def PWR_LAST_WAKE_SRC : Fld := ⟨0x100044, 0, 3, 0, 1, 0, 1, .ro, (.const 0)⟩
def PWR_LAST_WAKE_TB : Fld := ⟨0x100048, 0, 64, 0, 1, 0, 1, .ro, (.const 0)⟩
def PWR_LTR_ACTIVE_US : Fld := ⟨0x100050, 0, 16, 0, 1, 0, 1, .rw, (.const 10)⟩
def PWR_LTR_IDLE_US : Fld := ⟨0x100050, 16, 16, 0, 1, 0, 1, .rw, (.const 0x3e8)⟩
def PWR_NEAR_MISS_TB : Fld := ⟨0x100058, 0, 64, 0, 1, 0, 1, .ro, (.const 0)⟩
def PWR_CNT_LEVEL_CHANGES : Fld := ⟨0x100100, 0, 32, 0, 1, 0, 1, .rc, (.const 0)⟩
def PWR_CNT_CAP_STEPS : Fld := ⟨0x100104, 0, 32, 0, 1, 0, 1, .rc, (.const 0)⟩
def PWR_CNT_THROTTLE_STEPS : Fld := ⟨0x100108, 0, 32, 0, 1, 0, 1, .rc, (.const 0)⟩
def PWR_CNT_S3_ENTRIES : Fld := ⟨0x10010c, 0, 32, 0, 1, 0, 1, .rc, (.const 0)⟩
def PWR_CNT_NEAR_MISS : Fld := ⟨0x100110, 0, 32, 0, 1, 0, 1, .rc, (.const 0)⟩
def PWR_CNT_WAKE_DURING_ENTRY : Fld := ⟨0x100114, 0, 32, 0, 1, 0, 1, .rc, (.const 0)⟩
def PWR_CNT_AVS_ERR : Fld := ⟨0x100118, 0, 32, 0, 1, 0, 1, .rc, (.const 0)⟩
def PWR_CNT_CAP_UNHELD : Fld := ⟨0x10011c, 0, 32, 0, 1, 0, 1, .rc, (.const 0)⟩
/-! R422 -/
def DOM_STATE : Fld := ⟨0x101000, 0, 3, 64, 15, 0, 1, .ro, (.const 0)⟩
def DOM_HOLD : Fld := ⟨0x101000, 3, 1, 64, 15, 0, 1, .rw, (.const 0)⟩
def DOM_LAST_REFUSER : Fld := ⟨0x101004, 0, 8, 64, 15, 0, 1, .ro, (.const 0)⟩
def DOM_LAST_REFUSE_TB : Fld := ⟨0x101008, 0, 64, 64, 15, 0, 1, .ro, (.const 0)⟩
def PWR_DOM_CNT_S1 : Fld := ⟨0x101010, 0, 32, 64, 15, 0, 1, .rc, (.const 0)⟩
def PWR_DOM_CNT_S2 : Fld := ⟨0x101014, 0, 32, 64, 15, 0, 1, .rc, (.const 0)⟩
def PWR_DOM_CNT_REFUSED : Fld := ⟨0x101018, 0, 32, 64, 15, 0, 1, .rc, (.const 0)⟩
def PWR_DOM_CNT_ABORTED : Fld := ⟨0x10101c, 0, 32, 64, 15, 0, 1, .rc, (.const 0)⟩
def PWR_DOM_CNT_WAKES : Fld := ⟨0x101020, 0, 32, 64, 15, 0, 1, .rc, (.const 0)⟩
def PWR_DOM_WAKE_STALL_MAX : Fld := ⟨0x101024, 0, 32, 64, 15, 0, 1, .rc, (.const 0)⟩
def SENS_TEMP : Fld := ⟨0x102000, 0, 12, 4, 48, 0, 1, .ro, (.const 0)⟩
def SENS_FAULT : Fld := ⟨0x102000, 12, 1, 4, 48, 0, 1, .ro, (.const 0)⟩
def RAIL_VOLTAGE_MV : Fld := ⟨0x103000, 0, 16, 16, 3, 0, 1, .ro, (.const 0)⟩
def RAIL_CURRENT_DA : Fld := ⟨0x103000, 16, 16, 16, 3, 0, 1, .ro, (.const 0)⟩
def RAIL_AVS_STATUS : Fld := ⟨0x103004, 0, 16, 16, 3, 0, 1, .ro, (.const 0)⟩
/-! R441 -/
def PWR_RESET_CAUSE : Fld := ⟨0x104000, 0, 7, 0, 1, 0, 1, .w1c, (.const 1)⟩
def PWR_CNT_CHIP_RESETS : Fld := ⟨0x104004, 0, 32, 0, 1, 0, 1, .rc, (.const 0)⟩
def RST_BOOT_STATE : Fld := ⟨0x104008, 0, 3, 0, 1, 0, 1, .ro, (.const 0)⟩
def RST_RECOVERY_REASON : Fld := ⟨0x104008, 4, 4, 0, 1, 0, 1, .ro, (.const 0)⟩
def RST_LAST_BOOT_STATUS : Fld := ⟨0x104008, 8, 8, 0, 1, 0, 1, .ro, (.const 0)⟩
def RST_CHIP : Fld := ⟨0x104010, 0, 1, 0, 1, 0, 1, .wo, (.const 0)⟩
def RST_KEY : Fld := ⟨0x104010, 16, 16, 0, 1, 0, 1, .wo, (.const 0)⟩
def RST_WDT_EN : Fld := ⟨0x104018, 0, 1, 0, 1, 0, 1, .rw1, (.const 0)⟩
def RST_WDT_TIMEOUT_MS : Fld := ⟨0x104018, 16, 16, 0, 1, 0, 1, .rw, (.const 0x3e8)⟩
def PWR_WDT_KICK : Fld := ⟨0x10401c, 0, 32, 0, 1, 0, 1, .wo, (.const 0)⟩
def PWR_CNT_WDT_NEAR_MISS : Fld := ⟨0x104020, 0, 32, 0, 1, 0, 1, .rc, (.const 0)⟩
def PWR_WDT_NEAR_MISS_TB : Fld := ⟨0x104028, 0, 64, 0, 1, 0, 1, .ro, (.const 0)⟩
def RST_OB_COPY_USED : Fld := ⟨0x104030, 0, 3, 0, 1, 0, 1, .ro, (.const 0)⟩
def RST_OB_DEFAULTS : Fld := ⟨0x104030, 3, 1, 0, 1, 0, 1, .ro, (.const 0)⟩
def PWR_OB : Fld := ⟨0x104040, 0, 32, 4, 16, 0, 1, .ro, (.const 0)⟩

def blockPwr0 : List Fld := [PWR_CAP, PWR_LEVEL_REQ_A, PWR_LEVEL_REQ_V, PWR_LEVEL_A, PWR_LEVEL_V, PWR_IN_TRANSITION, PWR_CAUSE_A, PWR_CAUSE_V, PWR_TRIPPED, PWR_DEVICE_STATE, PWR_CAP_UNHELD, PWR_LAST_CHANGE_TB, PWR_UP_HYST_W, PWR_UP_HOLD_MS, PWR_PACKAGE_POWER, PWR_PEAK_POWER, PWR_TEMP_MAX, PWR_HOTTEST_SENSOR, PWR_TB_ALARM, PWR_WAKE_EN, PWR_LAST_WAKE_SRC, PWR_LAST_WAKE_TB, PWR_LTR_ACTIVE_US, PWR_LTR_IDLE_US]
def blockPwr1 : List Fld := [PWR_NEAR_MISS_TB, PWR_CNT_LEVEL_CHANGES, PWR_CNT_CAP_STEPS, PWR_CNT_THROTTLE_STEPS, PWR_CNT_S3_ENTRIES, PWR_CNT_NEAR_MISS, PWR_CNT_WAKE_DURING_ENTRY, PWR_CNT_AVS_ERR, PWR_CNT_CAP_UNHELD, DOM_STATE, DOM_HOLD, DOM_LAST_REFUSER, DOM_LAST_REFUSE_TB, PWR_DOM_CNT_S1, PWR_DOM_CNT_S2, PWR_DOM_CNT_REFUSED, PWR_DOM_CNT_ABORTED, PWR_DOM_CNT_WAKES, PWR_DOM_WAKE_STALL_MAX, SENS_TEMP, SENS_FAULT, RAIL_VOLTAGE_MV, RAIL_CURRENT_DA, RAIL_AVS_STATUS]
def blockPwr2 : List Fld := [PWR_RESET_CAUSE, PWR_CNT_CHIP_RESETS, RST_BOOT_STATE, RST_RECOVERY_REASON, RST_LAST_BOOT_STATUS, RST_CHIP, RST_KEY, RST_WDT_EN, RST_WDT_TIMEOUT_MS, PWR_WDT_KICK, PWR_CNT_WDT_NEAR_MISS, PWR_WDT_NEAR_MISS_TB, RST_OB_COPY_USED, RST_OB_DEFAULTS, PWR_OB]
/-- Every field of the block. -/
def blockPwr : List Fld := blockPwr0 ++ blockPwr1 ++ blockPwr2

/-! R370 -/
def QE_CAP : Fld := ⟨0x200000, 0, 64, 0, 1, 0, 1, .ro, .cap⟩
def QE_MIN_MINOR : Fld := ⟨0x200008, 0, 8, 0, 1, 0, 1, .rw, (.const 0)⟩
def QE_MIN_MAJOR : Fld := ⟨0x200008, 8, 8, 0, 1, 0, 1, .rw, (.const 0)⟩
def QE_MIN_GEN : Fld := ⟨0x200008, 16, 4, 0, 1, 0, 1, .rw, (.const 0)⟩
def QE_MAX_MINOR : Fld := ⟨0x200008, 32, 8, 0, 1, 0, 1, .rw, (.const 0)⟩
def QE_MAX_MAJOR : Fld := ⟨0x200008, 40, 8, 0, 1, 0, 1, .rw, (.const 0)⟩
def QE_MAX_GEN : Fld := ⟨0x200008, 48, 4, 0, 1, 0, 1, .rw, (.const 0)⟩
def QE_ACTIVE_MINOR : Fld := ⟨0x200010, 0, 8, 0, 1, 0, 1, .ro, (.const 0)⟩
def QE_ACTIVE_MAJOR : Fld := ⟨0x200010, 8, 8, 0, 1, 0, 1, .ro, (.const 0)⟩
def QE_ACTIVE_GEN : Fld := ⟨0x200010, 16, 4, 0, 1, 0, 1, .ro, (.const 0)⟩
def QE_ACTIVE_VALID : Fld := ⟨0x200010, 20, 1, 0, 1, 0, 1, .ro, (.const 0)⟩
def QE_ACTIVE_MISMATCH : Fld := ⟨0x200010, 21, 1, 0, 1, 0, 1, .ro, (.const 0)⟩
def QE_AQ_ENABLE : Fld := ⟨0x200018, 0, 1, 0, 1, 0, 1, .rw, (.const 0)⟩
def QE_AQ_SQ_BASE : Fld := ⟨0x200020, 0, 64, 0, 1, 0, 1, .rw, (.const 0)⟩
def QE_AQ_CQ_BASE : Fld := ⟨0x200028, 0, 64, 0, 1, 0, 1, .rw, (.const 0)⟩
def QE_AQ_SQ_LOG2 : Fld := ⟨0x200030, 0, 5, 0, 1, 0, 1, .rw, (.const 6)⟩
def QE_AQ_CQ_LOG2 : Fld := ⟨0x200030, 8, 5, 0, 1, 0, 1, .rw, (.const 6)⟩
def QE_AQ_VECTOR : Fld := ⟨0x200030, 16, 11, 0, 1, 0, 1, .rw, (.const 0)⟩
def QE_AQ_VECTOR_EN : Fld := ⟨0x200030, 27, 1, 0, 1, 0, 1, .rw, (.const 0)⟩
def QE_STALL_DEFAULT_MS : Fld := ⟨0x200034, 0, 16, 0, 1, 0, 1, .rw, (.const 0x3e8)⟩
def QE_ARB_WEIGHT : Fld := ⟨0x200040, 0, 8, 4, 7, 0, 1, .rw, (.const 1)⟩
def QE_ERR_RING_BASE : Fld := ⟨0x200060, 0, 64, 0, 1, 0, 1, .rw, (.const 0)⟩
def QE_ERR_LOG2 : Fld := ⟨0x200068, 0, 5, 0, 1, 0, 1, .rw, (.const 6)⟩
def QE_ERR_VECTOR : Fld := ⟨0x200068, 16, 11, 0, 1, 0, 1, .rw, (.const 0)⟩
def QE_ERR_VECTOR_EN : Fld := ⟨0x200068, 27, 1, 0, 1, 0, 1, .rw, (.const 0)⟩
def QE_ERR_HEAD : Fld := ⟨0x20006c, 0, 16, 0, 1, 0, 1, .rw, (.const 0)⟩
def QE_ERR_TAIL : Fld := ⟨0x200070, 0, 16, 0, 1, 0, 1, .ro, (.const 0)⟩
def QE_TB_ROLE : Fld := ⟨0x200078, 0, 2, 0, 1, 0, 1, .rw, (.const 0)⟩
def QE_TB_STEP_EN : Fld := ⟨0x200078, 2, 1, 0, 1, 0, 1, .rw, (.const 1)⟩
def QE_TB_LOCKED : Fld := ⟨0x200078, 3, 1, 0, 1, 0, 1, .ro, (.const 0)⟩
def QE_TB_PTM_PERIOD_US : Fld := ⟨0x200078, 16, 16, 0, 1, 0, 1, .rw, (.const 0x3e8)⟩
def QE_TB_LAST_OFFSET : Fld := ⟨0x20007c, 0, 32, 0, 1, 0, 1, .ro, (.const 0)⟩
def QE_OB_EN : Fld := ⟨0x200080, 0, 1, 8, 64, 0, 1, .rw, (.const 0)⟩
def QE_OB_HOST_ADDR : Fld := ⟨0x200080, 12, 52, 8, 64, 0, 1, .rw, (.const 0)⟩
def QE_BAR2_AP : Fld := ⟨0x200280, 0, 48, 8, 8, 0, 1, .rw, .aperture⟩
def QE_CNT_JOBS : Fld := ⟨0x200400, 0, 32, 0, 1, 0, 1, .rc, (.const 0)⟩
def QE_CNT_DB_BAD : Fld := ⟨0x200404, 0, 32, 0, 1, 0, 1, .rc, (.const 0)⟩
def QE_CNT_NEAR_MISS : Fld := ⟨0x200408, 0, 32, 0, 1, 0, 1, .rc, (.const 0)⟩
def QE_CNT_EMIT_DROPPED : Fld := ⟨0x20040c, 0, 32, 0, 1, 0, 1, .rc, (.const 0)⟩
def QE_CNT_ERR_LOST : Fld := ⟨0x200410, 0, 32, 0, 1, 0, 1, .rc, (.const 0)⟩
def QE_CNT_CPL_TIMEOUT : Fld := ⟨0x200414, 0, 32, 0, 1, 0, 1, .rc, (.const 0)⟩
def QE_CNT_POISON_IN : Fld := ⟨0x200418, 0, 32, 0, 1, 0, 1, .rc, (.const 0)⟩
def QE_CNT_PTM_MISSED : Fld := ⟨0x20041c, 0, 32, 0, 1, 0, 1, .rc, (.const 0)⟩
def QE_NEAR_MISS_TB : Fld := ⟨0x200420, 0, 64, 0, 1, 0, 1, .ro, (.const 0)⟩
def QE_FENCE : Fld := ⟨0x201000, 0, 32, 4, 256, 0, 1, .rw, (.const 0)⟩
/-! R371 -/
def Q_STATE : Fld := ⟨0x210000, 0, 2, 64, 8192, 0, 1, .ro, (.const 0)⟩
def Q_ARB_CLASS : Fld := ⟨0x210000, 2, 3, 64, 8192, 0, 1, .ro, (.const 0)⟩
def Q_OUTSTANDING : Fld := ⟨0x210000, 16, 9, 64, 8192, 0, 1, .ro, (.const 0)⟩
def Q_RESUME : Fld := ⟨0x210004, 0, 1, 64, 8192, 0, 1, .wo, (.const 0)⟩
def Q_SQ_HEAD : Fld := ⟨0x210008, 0, 16, 64, 8192, 0, 1, .ro, (.const 0)⟩
def Q_SQ_TAIL : Fld := ⟨0x210008, 16, 16, 64, 8192, 0, 1, .ro, (.const 0)⟩
def Q_CQ_HEAD : Fld := ⟨0x21000c, 0, 16, 64, 8192, 0, 1, .ro, (.const 0)⟩
def Q_CQ_TAIL : Fld := ⟨0x21000c, 16, 16, 64, 8192, 0, 1, .ro, (.const 0)⟩
def QE_Q_CNT_JOBS : Fld := ⟨0x210010, 0, 32, 64, 8192, 0, 1, .rc, (.const 0)⟩
def QE_Q_CNT_HELD : Fld := ⟨0x210014, 0, 32, 64, 8192, 0, 1, .rc, (.const 0)⟩
def QE_Q_STALL_TB : Fld := ⟨0x210018, 0, 64, 64, 8192, 0, 1, .ro, (.const 0)⟩

def blockQe0 : List Fld := [QE_CAP, QE_MIN_MINOR, QE_MIN_MAJOR, QE_MIN_GEN, QE_MAX_MINOR, QE_MAX_MAJOR, QE_MAX_GEN, QE_ACTIVE_MINOR, QE_ACTIVE_MAJOR, QE_ACTIVE_GEN, QE_ACTIVE_VALID, QE_ACTIVE_MISMATCH, QE_AQ_ENABLE, QE_AQ_SQ_BASE, QE_AQ_CQ_BASE, QE_AQ_SQ_LOG2, QE_AQ_CQ_LOG2, QE_AQ_VECTOR, QE_AQ_VECTOR_EN, QE_STALL_DEFAULT_MS, QE_ARB_WEIGHT, QE_ERR_RING_BASE, QE_ERR_LOG2, QE_ERR_VECTOR]
def blockQe1 : List Fld := [QE_ERR_VECTOR_EN, QE_ERR_HEAD, QE_ERR_TAIL, QE_TB_ROLE, QE_TB_STEP_EN, QE_TB_LOCKED, QE_TB_PTM_PERIOD_US, QE_TB_LAST_OFFSET, QE_OB_EN, QE_OB_HOST_ADDR, QE_BAR2_AP, QE_CNT_JOBS, QE_CNT_DB_BAD, QE_CNT_NEAR_MISS, QE_CNT_EMIT_DROPPED, QE_CNT_ERR_LOST, QE_CNT_CPL_TIMEOUT, QE_CNT_POISON_IN, QE_CNT_PTM_MISSED, QE_NEAR_MISS_TB, QE_FENCE, Q_STATE, Q_ARB_CLASS, Q_OUTSTANDING]
def blockQe2 : List Fld := [Q_RESUME, Q_SQ_HEAD, Q_SQ_TAIL, Q_CQ_HEAD, Q_CQ_TAIL, QE_Q_CNT_JOBS, QE_Q_CNT_HELD, QE_Q_STALL_TB]
/-- Every field of the block. -/
def blockQe : List Fld := blockQe0 ++ blockQe1 ++ blockQe2

/-! R54 -/
def KS_BS_ACTIVE_BUILD : Fld := ⟨0x30f008, 0, 64, 0, 1, 0, 1, .ro, (.const 0)⟩
def KS_BS_LAST_STATUS : Fld := ⟨0x30f010, 0, 8, 0, 1, 0, 1, .ro, (.const 0)⟩
def KS_BS_FAIL_REGION : Fld := ⟨0x30f010, 16, 16, 0, 1, 0, 1, .ro, (.const 0)⟩
def KS_BS_FAIL_OFFSET : Fld := ⟨0x30f010, 32, 32, 0, 1, 0, 1, .ro, (.const 0)⟩
def KS_BS_PENDING_CONTEXTS : Fld := ⟨0x30f018, 0, 7, 0, 1, 0, 1, .ro, (.const 0)⟩
def KS_BS_OLD_REGIONS : Fld := ⟨0x30f018, 16, 16, 0, 1, 0, 1, .ro, (.const 0)⟩
def KS_BS_COMMITS : Fld := ⟨0x30f020, 0, 32, 0, 1, 0, 1, .rc, (.const 0)⟩
def KS_BS_REFUSALS : Fld := ⟨0x30f024, 0, 32, 0, 1, 0, 1, .rc, (.const 0)⟩
def KS_BS_COMMIT_TB : Fld := ⟨0x30f028, 0, 64, 0, 1, 0, 1, .ro, (.const 0)⟩
/-! R82 -/
def KS_CAP : Fld := ⟨0x300000, 0, 64, 0, 1, 0, 1, .ro, .cap⟩
def KS_DISPATCH_EN : Fld := ⟨0x300008, 0, 1, 0, 1, 0, 1, .rw, (.const 0)⟩
def KS_TRACE_EN : Fld := ⟨0x300008, 1, 1, 0, 1, 0, 1, .rw, (.const 0)⟩
def KS_LEDGER_COPY : Fld := ⟨0x300008, 2, 1, 0, 1, 0, 1, .rw, (.const 0)⟩
def KS_NODE_INSTANCES : Fld := ⟨0x300010, 0, 13, 0, 1, 0, 1, .ro, (.const 0)⟩
def KS_GRAPH_INSTANCES : Fld := ⟨0x300010, 16, 13, 0, 1, 0, 1, .ro, (.const 0)⟩
def KS_LEDGER_BASE : Fld := ⟨0x300018, 0, 64, 0, 1, 0, 1, .rw, (.const 0)⟩
def KS_NEAR_MISS_TB : Fld := ⟨0x300020, 0, 64, 0, 1, 0, 1, .ro, (.const 0)⟩
def KS_LAST_TO_GRAPH : Fld := ⟨0x300028, 0, 16, 0, 1, 0, 1, .ro, (.const 0)⟩
def KS_LAST_TO_NODE : Fld := ⟨0x300028, 16, 16, 0, 1, 0, 1, .ro, (.const 0)⟩
def KS_LAST_TO_CONTEXT : Fld := ⟨0x300028, 32, 8, 0, 1, 0, 1, .ro, (.const 0)⟩
def KS_LAST_TO_STATUS : Fld := ⟨0x300028, 40, 8, 0, 1, 0, 1, .ro, (.const 0)⟩
def KS_CNT_INSTANTIATED : Fld := ⟨0x300100, 0, 32, 0, 1, 0, 1, .rc, (.const 0)⟩
def KS_CNT_DISPATCHED : Fld := ⟨0x300104, 0, 32, 0, 1, 0, 1, .rc, (.const 0)⟩
def KS_CNT_TIMEOUT : Fld := ⟨0x300108, 0, 32, 0, 1, 0, 1, .rc, (.const 0)⟩
def KS_CNT_NEAR_MISS : Fld := ⟨0x30010c, 0, 32, 0, 1, 0, 1, .rc, (.const 0)⟩
def KS_CNT_STALE_SIGNAL : Fld := ⟨0x300110, 0, 32, 0, 1, 0, 1, .rc, (.const 0)⟩
def KS_CNT_OVERSHOOT : Fld := ⟨0x300114, 0, 32, 0, 1, 0, 1, .rc, (.const 0)⟩
def KS_CNT_WAITER_OVERFLOW : Fld := ⟨0x300118, 0, 32, 0, 1, 0, 1, .rc, (.const 0)⟩
def KS_CNT_INSTANCE_BUSY : Fld := ⟨0x30011c, 0, 32, 0, 1, 0, 1, .rc, (.const 0)⟩
def KS_CNT_NODES_LATE : Fld := ⟨0x300120, 0, 32, 0, 1, 0, 1, .rc, (.const 0)⟩
def KS_CNT_REMOTE_REFUSED : Fld := ⟨0x300124, 0, 32, 0, 1, 0, 1, .rc, (.const 0)⟩
def KSC_LAST_SOF_FRAME : Fld := ⟨0x301000, 0, 32, 16, 64, 0, 1, .ro, (.const 0)⟩
def KSC_LAST_LEDGER_FRAME : Fld := ⟨0x301004, 0, 32, 16, 64, 0, 1, .ro, (.const 0)⟩
def KSC_INSTANCE_BUSY : Fld := ⟨0x301008, 0, 32, 16, 64, 0, 1, .rc, (.const 0)⟩
def KSG_FLAG_BASE : Fld := ⟨0x302000, 0, 14, 16, 256, 0, 1, .ro, (.const 0)⟩
def KSG_ACTIVE_INSTANCES : Fld := ⟨0x302000, 16, 7, 16, 256, 0, 1, .ro, (.const 0)⟩
def KSG_ACTIVE_VERSION : Fld := ⟨0x302004, 0, 32, 16, 256, 0, 1, .ro, (.const 0)⟩
def KSG_COMPLETED : Fld := ⟨0x302008, 0, 32, 16, 256, 0, 1, .rc, (.const 0)⟩
def KSG_OLD_FLAG_BASE : Fld := ⟨0x30200c, 0, 14, 16, 256, 0, 1, .ro, (.const 0)⟩
def KSG_OLD_VALID : Fld := ⟨0x30200c, 14, 1, 16, 256, 0, 1, .ro, (.const 0)⟩
def KSG_OLD_POOLS : Fld := ⟨0x30200c, 15, 8, 16, 256, 0, 1, .ro, (.const 0)⟩
def FLAG_COUNT : Fld := ⟨0x340000, 0, 24, 16, 16384, 0, 1, .ro, (.const 0)⟩
def FLAG_GENERATION : Fld := ⟨0x340000, 24, 16, 16, 16384, 0, 1, .ro, (.const 0)⟩
def FLAG_TARGET : Fld := ⟨0x340000, 40, 24, 16, 16384, 0, 1, .ro, (.const 0)⟩
def KSF_INCREMENT : Fld := ⟨0x340008, 0, 24, 16, 16384, 0, 1, .wo, (.const 0)⟩
def KSF_EXP_GENERATION : Fld := ⟨0x340008, 32, 16, 16, 16384, 0, 1, .wo, (.const 0)⟩
/-! R307 -/
def KS_CNT_FLAG_ECC_FIXED : Fld := ⟨0x300200, 0, 32, 0, 1, 0, 1, .rc, (.const 0)⟩
def KS_CNT_FLAG_ECC_UNCORR : Fld := ⟨0x300204, 0, 32, 0, 1, 0, 1, .rc, (.const 0)⟩
def KS_LAST_ECC_FLAG : Fld := ⟨0x300208, 0, 14, 0, 1, 0, 1, .ro, (.const 0)⟩
def KS_CNT_FLAG_QUEUE_STALL : Fld := ⟨0x300210, 0, 64, 0, 1, 0, 1, .rc, (.const 0)⟩
def KS_CNT_FLAG_UPDATES : Fld := ⟨0x300218, 0, 64, 0, 1, 0, 1, .rc, (.const 0)⟩
def KS_CNT_FLAG_POISON_DROP : Fld := ⟨0x300220, 0, 32, 0, 1, 0, 1, .rc, (.const 0)⟩
/-! R343 -/
def MSN_ENABLE : Fld := ⟨0x380000, 0, 1, 0, 1, 0, 1, .rw, (.const 0)⟩
def MSN_OWNER_MAX_PRIO : Fld := ⟨0x380008, 0, 6, 0, 1, 0, 1, .rwl, (.const 47)⟩
def MSN_OWNER_LOCK : Fld := ⟨0x380008, 6, 1, 0, 1, 0, 1, .rw1, (.const 0)⟩
def MSN_OWNER_QUOTA : Fld := ⟨0x380008, 16, 13, 0, 1, 0, 1, .rwl, (.const 0x400)⟩
def MSN_THREADS_IN_USE : Fld := ⟨0x380010, 0, 13, 0, 1, 0, 1, .ro, (.const 0)⟩
def MSN_OWNER_THREADS : Fld := ⟨0x380010, 16, 13, 0, 1, 0, 1, .ro, (.const 0)⟩
def MSN_EVQ_LEVEL : Fld := ⟨0x380014, 0, 11, 0, 1, 0, 1, .ro, (.const 0)⟩
def MSN_EVQ_PEAK : Fld := ⟨0x380014, 16, 11, 0, 1, 0, 1, .rc, (.const 0)⟩
def MSN_DELAY_ENTRIES : Fld := ⟨0x380018, 0, 13, 0, 1, 0, 1, .ro, (.const 0)⟩
def MSN_FAULT_CHANNEL : Fld := ⟨0x38001c, 0, 16, 0, 1, 0, 1, .rw, (.const 0)⟩
def KS_MSN_NEAR_MISS_TB : Fld := ⟨0x380020, 0, 64, 0, 1, 0, 1, .ro, (.const 0)⟩
def MSN_CHANNEL : Fld := ⟨0x380028, 0, 16, 0, 1, 0, 1, .wo, (.const 0)⟩
def MSN_COUNT : Fld := ⟨0x380028, 16, 16, 0, 1, 0, 1, .wo, (.const 0)⟩
def KS_MSN_CNT_EVENTS : Fld := ⟨0x380100, 0, 32, 0, 1, 0, 1, .rc, (.const 0)⟩
def KS_MSN_CNT_SWITCHES : Fld := ⟨0x380104, 0, 32, 0, 1, 0, 1, .rc, (.const 0)⟩
def KS_MSN_CNT_PREFETCH_HIT : Fld := ⟨0x380108, 0, 32, 0, 1, 0, 1, .rc, (.const 0)⟩
def KS_MSN_CNT_PREFETCH_MISS : Fld := ⟨0x38010c, 0, 32, 0, 1, 0, 1, .rc, (.const 0)⟩
def KS_MSN_CNT_PREEMPT : Fld := ⟨0x380110, 0, 32, 0, 1, 0, 1, .rc, (.const 0)⟩
def KS_MSN_CNT_NEAR_MISS : Fld := ⟨0x380114, 0, 32, 0, 1, 0, 1, .rc, (.const 0)⟩
def KS_MSN_CNT_THREAD_LIMIT : Fld := ⟨0x380118, 0, 32, 0, 1, 0, 1, .rc, (.const 0)⟩
def KS_MSN_CNT_PENDING_SAT : Fld := ⟨0x38011c, 0, 32, 0, 1, 0, 1, .rc, (.const 0)⟩
def KS_MSN_CNT_STRANDED : Fld := ⟨0x380120, 0, 32, 0, 1, 0, 1, .rc, (.const 0)⟩
def KS_MSN_CNT_EVQ_STALL : Fld := ⟨0x380128, 0, 64, 0, 1, 0, 1, .rc, (.const 0)⟩
def KS_MSN_CNT_EXPIRY_STALL : Fld := ⟨0x380130, 0, 64, 0, 1, 0, 1, .rc, (.const 0)⟩
/-! R344 -/
def PAIR_IN_SERVICE : Fld := ⟨0x390000, 0, 1, 0x1000, 4, 0, 1, .ro, (.const 1)⟩
def PAIR_DRAIN : Fld := ⟨0x390000, 1, 1, 0x1000, 4, 0, 1, .rw, (.const 0)⟩
def PAIR_IDLE : Fld := ⟨0x390000, 2, 1, 0x1000, 4, 0, 1, .ro, (.const 1)⟩
def PAIR_RETIRED : Fld := ⟨0x390000, 3, 1, 0x1000, 4, 0, 1, .ro, (.const 0)⟩
def PAIR_CUR_TID : Fld := ⟨0x390000, 16, 16, 0x1000, 4, 0, 1, .ro, (.const 0xffff)⟩
def PAIR_SLOT_TID : Fld := ⟨0x390004, 0, 16, 0x1000, 4, 0, 1, .ro, (.const 0xffff)⟩
def PAIR_SLOT_LOADED : Fld := ⟨0x390004, 16, 1, 0x1000, 4, 0, 1, .ro, (.const 0)⟩
def KS_MSN_CMD : Fld := ⟨0x390008, 0, 64, 0x1000, 4, 0, 1, .wo, (.const 0)⟩
def KS_MSN_ARG : Fld := ⟨0x390010, 0, 64, 0x1000, 4, 0, 1, .wo, (.const 0)⟩
def KS_MSN_RESULT : Fld := ⟨0x390018, 0, 64, 0x1000, 4, 0, 1, .ro, (.const 0)⟩
def KS_MSN_CNT_PAIR_SWITCHES : Fld := ⟨0x390100, 0, 32, 0x1000, 4, 0, 1, .rc, (.const 0)⟩
def KS_MSN_CNT_LOCKSTEP_MISMATCH : Fld := ⟨0x390104, 0, 32, 0x1000, 4, 0, 1, .rc, (.const 0)⟩
def KS_MSN_CNT_BUSY_CYCLES : Fld := ⟨0x390108, 0, 64, 0x1000, 4, 0, 1, .rc, (.const 0)⟩
def KS_MSN_CNT_IDLE_CYCLES : Fld := ⟨0x390110, 0, 64, 0x1000, 4, 0, 1, .rc, (.const 0)⟩
def THR_STATE : Fld := ⟨0x3a0000, 0, 3, 16, 4096, 0, 1, .ro, (.const 0)⟩
def THR_OWNER : Fld := ⟨0x3a0000, 3, 1, 16, 4096, 0, 1, .ro, (.const 0)⟩
def THR_PRIO : Fld := ⟨0x3a0000, 4, 6, 16, 4096, 0, 1, .ro, (.const 0)⟩
def THR_AFFINITY : Fld := ⟨0x3a0000, 10, 4, 16, 4096, 0, 1, .ro, (.const 0)⟩
def THR_LAST_PAIR : Fld := ⟨0x3a0000, 14, 2, 16, 4096, 0, 1, .ro, (.const 0)⟩
def THR_QUANTUM_US : Fld := ⟨0x3a0000, 16, 16, 16, 4096, 0, 1, .rw, (.const 0)⟩
def THR_WAIT_CHANNEL : Fld := ⟨0x3a0004, 0, 16, 16, 4096, 0, 1, .ro, (.const 0)⟩
def THR_DEADLINE_TB : Fld := ⟨0x3a0008, 0, 64, 16, 4096, 0, 1, .ro, (.const 0)⟩
def CHAN_PENDING : Fld := ⟨0x3b0000, 0, 16, 4, 4096, 0, 1, .ro, (.const 0)⟩
def CHAN_BOUND_TID : Fld := ⟨0x3b0000, 16, 16, 4, 4096, 0, 1, .ro, (.const 0xffff)⟩

def blockKs0 : List Fld := [KS_BS_ACTIVE_BUILD, KS_BS_LAST_STATUS, KS_BS_FAIL_REGION, KS_BS_FAIL_OFFSET, KS_BS_PENDING_CONTEXTS, KS_BS_OLD_REGIONS, KS_BS_COMMITS, KS_BS_REFUSALS, KS_BS_COMMIT_TB, KS_CAP, KS_DISPATCH_EN, KS_TRACE_EN, KS_LEDGER_COPY, KS_NODE_INSTANCES, KS_GRAPH_INSTANCES, KS_LEDGER_BASE, KS_NEAR_MISS_TB, KS_LAST_TO_GRAPH, KS_LAST_TO_NODE, KS_LAST_TO_CONTEXT, KS_LAST_TO_STATUS, KS_CNT_INSTANTIATED, KS_CNT_DISPATCHED, KS_CNT_TIMEOUT]
def blockKs1 : List Fld := [KS_CNT_NEAR_MISS, KS_CNT_STALE_SIGNAL, KS_CNT_OVERSHOOT, KS_CNT_WAITER_OVERFLOW, KS_CNT_INSTANCE_BUSY, KS_CNT_NODES_LATE, KS_CNT_REMOTE_REFUSED, KSC_LAST_SOF_FRAME, KSC_LAST_LEDGER_FRAME, KSC_INSTANCE_BUSY, KSG_FLAG_BASE, KSG_ACTIVE_INSTANCES, KSG_ACTIVE_VERSION, KSG_COMPLETED, KSG_OLD_FLAG_BASE, KSG_OLD_VALID, KSG_OLD_POOLS, FLAG_COUNT, FLAG_GENERATION, FLAG_TARGET, KSF_INCREMENT, KSF_EXP_GENERATION, KS_CNT_FLAG_ECC_FIXED, KS_CNT_FLAG_ECC_UNCORR]
def blockKs2 : List Fld := [KS_LAST_ECC_FLAG, KS_CNT_FLAG_QUEUE_STALL, KS_CNT_FLAG_UPDATES, KS_CNT_FLAG_POISON_DROP, MSN_ENABLE, MSN_OWNER_MAX_PRIO, MSN_OWNER_LOCK, MSN_OWNER_QUOTA, MSN_THREADS_IN_USE, MSN_OWNER_THREADS, MSN_EVQ_LEVEL, MSN_EVQ_PEAK, MSN_DELAY_ENTRIES, MSN_FAULT_CHANNEL, KS_MSN_NEAR_MISS_TB, MSN_CHANNEL, MSN_COUNT, KS_MSN_CNT_EVENTS, KS_MSN_CNT_SWITCHES, KS_MSN_CNT_PREFETCH_HIT, KS_MSN_CNT_PREFETCH_MISS, KS_MSN_CNT_PREEMPT, KS_MSN_CNT_NEAR_MISS, KS_MSN_CNT_THREAD_LIMIT]
def blockKs3 : List Fld := [KS_MSN_CNT_PENDING_SAT, KS_MSN_CNT_STRANDED, KS_MSN_CNT_EVQ_STALL, KS_MSN_CNT_EXPIRY_STALL, PAIR_IN_SERVICE, PAIR_DRAIN, PAIR_IDLE, PAIR_RETIRED, PAIR_CUR_TID, PAIR_SLOT_TID, PAIR_SLOT_LOADED, KS_MSN_CMD, KS_MSN_ARG, KS_MSN_RESULT, KS_MSN_CNT_PAIR_SWITCHES, KS_MSN_CNT_LOCKSTEP_MISMATCH, KS_MSN_CNT_BUSY_CYCLES, KS_MSN_CNT_IDLE_CYCLES, THR_STATE, THR_OWNER, THR_PRIO, THR_AFFINITY, THR_LAST_PAIR, THR_QUANTUM_US]
def blockKs4 : List Fld := [THR_WAIT_CHANNEL, THR_DEADLINE_TB, CHAN_PENDING, CHAN_BOUND_TID]
/-- Every field of the block. -/
def blockKs : List Fld := blockKs0 ++ blockKs1 ++ blockKs2 ++ blockKs3 ++ blockKs4

end Sys2Proof.Machine.Reg
end

