-- ==== Sys2Proof/Machine/RegsVision.lean ====
section
/-! DEFINITION. The register fields of the ingress, ISP and vision blocks, as the register tables of the spec give them. -/

namespace Sys2Proof.Machine.Reg

/-! R26 -/
def ING_CAP : Fld := ⟨0x400000, 0, 64, 0, 1, 0, 1, .ro, .cap⟩
/-! R125 -/
def ING_PARAM_BASE : Fld := ⟨0x400008, 0, 64, 0, 1, 0, 1, .rw, (.const 0)⟩
/-! R126 -/
def PORT_ENABLE : Fld := ⟨0x401000, 0, 1, 0x100, 16, 0, 1, .rw, (.const 0)⟩
def PORT_PHY : Fld := ⟨0x401000, 1, 2, 0x100, 16, 0, 1, .rw, (.const 0)⟩
def PORT_LANES : Fld := ⟨0x401000, 3, 2, 0x100, 16, 0, 1, .rw, (.const 0)⟩
def PORT_LINE_NUM_EN : Fld := ⟨0x401000, 5, 1, 0x100, 16, 0, 1, .rw, (.const 0)⟩
def PORT_LANE_ORDER : Fld := ⟨0x401000, 8, 8, 0x100, 16, 0, 1, .rw, (.const 228)⟩
def PORT_LANE_INVERT : Fld := ⟨0x401000, 16, 4, 0x100, 16, 0, 1, .rw, (.const 0)⟩
def PORT_RATE : Fld := ⟨0x401004, 0, 13, 0x100, 16, 0, 1, .rw, (.const 0)⟩
def PORT_LOCKED : Fld := ⟨0x401008, 0, 1, 0x100, 16, 0, 1, .ro, (.const 0)⟩
def PORT_DESKEWED : Fld := ⟨0x401008, 1, 1, 0x100, 16, 0, 1, .ro, (.const 0)⟩
def PORT_LOCK_FAIL : Fld := ⟨0x401008, 2, 1, 0x100, 16, 0, 1, .ro, (.const 0)⟩
def PORT_LAST_UNTRACKED_VC : Fld := ⟨0x40100c, 0, 5, 0x100, 16, 0, 1, .ro, (.const 0)⟩
def PORT_LAST_UNTRACKED_DT : Fld := ⟨0x40100c, 8, 6, 0x100, 16, 0, 1, .ro, (.const 0)⟩
def ING_PORT_CNT_PACKETS : Fld := ⟨0x401010, 0, 32, 0x100, 16, 0, 1, .rc, (.const 0)⟩
def ING_PORT_CNT_HDR_FIXED : Fld := ⟨0x401014, 0, 32, 0x100, 16, 0, 1, .rc, (.const 0)⟩
def ING_PORT_CNT_HDR_DROP : Fld := ⟨0x401018, 0, 32, 0x100, 16, 0, 1, .rc, (.const 0)⟩
def ING_PORT_CNT_CRC : Fld := ⟨0x40101c, 0, 32, 0x100, 16, 0, 1, .rc, (.const 0)⟩
def ING_PORT_CNT_UNTRACKED : Fld := ⟨0x401020, 0, 32, 0x100, 16, 0, 1, .rc, (.const 0)⟩
def ING_PORT_CNT_ORPHAN : Fld := ⟨0x401024, 0, 32, 0x100, 16, 0, 1, .rc, (.const 0)⟩
def ING_PORT_CNT_SHORT_OTHER : Fld := ⟨0x401028, 0, 32, 0x100, 16, 0, 1, .rc, (.const 0)⟩
/-! R127 -/
def CTX_WIDTH : Fld := ⟨0x402000, 0, 16, 128, 64, 0, 1, .rw, (.const 0)⟩
def CTX_HEIGHT : Fld := ⟨0x402000, 16, 16, 128, 64, 0, 1, .rw, (.const 0)⟩
def CTX_PAD_RULE : Fld := ⟨0x402004, 0, 1, 128, 64, 0, 1, .rw, (.const 0)⟩
def CTX_MOSAIC_PERIOD : Fld := ⟨0x402004, 1, 2, 128, 64, 0, 1, .rw, (.const 1)⟩
def CTX_DPCM : Fld := ⟨0x402004, 3, 2, 128, 64, 0, 1, .rw, (.const 0)⟩
def CTX_FC_LOCAL : Fld := ⟨0x402004, 5, 1, 128, 64, 0, 1, .rw, (.const 0)⟩
def CTX_SENSOR_DELAY : Fld := ⟨0x402004, 8, 4, 128, 64, 0, 1, .rw, (.const 2)⟩
def CTX_PAD_VALUE : Fld := ⟨0x402008, 0, 20, 128, 64, 0, 1, .rw, (.const 0)⟩
def CTX_FC_MAX : Fld := ⟨0x40200c, 0, 16, 128, 64, 0, 1, .rw, (.const 0xffff)⟩
def CTX_EOF_TIMEOUT_NS : Fld := ⟨0x402010, 0, 32, 128, 64, 0, 1, .rw, (.const 0x5f5e100)⟩
def CTX_EXT_FC : Fld := ⟨0x402014, 0, 32, 128, 64, 0, 1, .ro, (.const 0)⟩
def CTX_FRAME_OPEN : Fld := ⟨0x402018, 0, 1, 128, 64, 0, 1, .ro, (.const 0)⟩
def CTX_PARAM_PENDING : Fld := ⟨0x402018, 1, 5, 128, 64, 0, 1, .ro, (.const 0)⟩
def CTX_LINES_RECEIVED : Fld := ⟨0x402018, 16, 16, 128, 64, 0, 1, .ro, (.const 0)⟩
def CTX_LAST_PARAM_SET : Fld := ⟨0x40201c, 0, 16, 128, 64, 0, 1, .ro, (.const 0xffff)⟩
def ING_CTX_CNT_FRAMES : Fld := ⟨0x402020, 0, 32, 128, 64, 0, 1, .rc, (.const 0)⟩
def ING_CTX_CNT_LINE_SHORT : Fld := ⟨0x402024, 0, 32, 128, 64, 0, 1, .rc, (.const 0)⟩
def ING_CTX_CNT_LINE_LONG : Fld := ⟨0x402028, 0, 32, 128, 64, 0, 1, .rc, (.const 0)⟩
def ING_CTX_CNT_FRAME_SHORT : Fld := ⟨0x40202c, 0, 32, 128, 64, 0, 1, .rc, (.const 0)⟩
def ING_CTX_CNT_FRAME_LONG : Fld := ⟨0x402030, 0, 32, 128, 64, 0, 1, .rc, (.const 0)⟩
def ING_CTX_CNT_EOF_TIMEOUT : Fld := ⟨0x402034, 0, 32, 128, 64, 0, 1, .rc, (.const 0)⟩
def ING_CTX_CNT_NEAR_MISS : Fld := ⟨0x402038, 0, 32, 128, 64, 0, 1, .rc, (.const 0)⟩
def ING_CTX_CNT_PARAM_LATE : Fld := ⟨0x40203c, 0, 32, 128, 64, 0, 1, .rc, (.const 0)⟩
def ING_CTX_CNT_PARAM_SUPERSEDED : Fld := ⟨0x402040, 0, 32, 128, 64, 0, 1, .rc, (.const 0)⟩
def ING_CTX_CNT_FC_SKIP : Fld := ⟨0x402044, 0, 32, 128, 64, 0, 1, .rc, (.const 0)⟩
def ING_CTX_CNT_LATE_LINES : Fld := ⟨0x402048, 0, 32, 128, 64, 0, 1, .rc, (.const 0)⟩
def CTX_NEAR_MISS_TB : Fld := ⟨0x402050, 0, 64, 128, 64, 0, 1, .ro, (.const 0)⟩
/-! R128 -/
def ING_RPL_RING_BASE : Fld := ⟨0x404000, 0, 64, 64, 64, 0, 1, .rw, (.const 0)⟩
def ING_RPL_RING_SIZE : Fld := ⟨0x404008, 0, 13, 64, 64, 0, 1, .rw, (.const 16)⟩
def ING_RPL_TAIL : Fld := ⟨0x40400c, 0, 12, 64, 64, 0, 1, .rw, (.const 0)⟩
def ING_RPL_HEAD : Fld := ⟨0x404010, 0, 12, 64, 64, 0, 1, .ro, (.const 0)⟩
def ING_RPL_CNT_REFUSED : Fld := ⟨0x404014, 0, 32, 64, 64, 0, 1, .rc, (.const 0)⟩
def ING_RPL_CNT_LATE_START : Fld := ⟨0x404018, 0, 32, 64, 64, 0, 1, .rc, (.const 0)⟩
def ING_RPL_CNT_STALL : Fld := ⟨0x40401c, 0, 32, 64, 64, 0, 1, .rc, (.const 0)⟩
def SYNC_ENABLE : Fld := ⟨0x405000, 0, 1, 32, 16, 0, 1, .rw, (.const 0)⟩
def SYNC_ACTIVE_LOW : Fld := ⟨0x405000, 1, 1, 32, 16, 0, 1, .rw, (.const 0)⟩
def SYNC_ONE_SHOT : Fld := ⟨0x405000, 2, 1, 32, 16, 0, 1, .rw, (.const 0)⟩
def SYNC_PERIOD_NS : Fld := ⟨0x405004, 0, 32, 32, 16, 0, 1, .rw, (.const 0x1fca055)⟩
def SYNC_WIDTH_NS : Fld := ⟨0x405008, 0, 32, 32, 16, 0, 1, .rw, (.const 0x2710)⟩
def SYNC_START_TB : Fld := ⟨0x405010, 0, 64, 32, 16, 0, 1, .rw, (.const 0)⟩
def SYNC_EDGES : Fld := ⟨0x405018, 0, 32, 32, 16, 0, 1, .rc, (.const 0)⟩
def I3C_ENABLE : Fld := ⟨0x405400, 0, 1, 64, 8, 0, 1, .rw, (.const 0)⟩
def I3C_MODE : Fld := ⟨0x405400, 1, 1, 64, 8, 0, 1, .rw, (.const 0)⟩
def I3C_SPEED : Fld := ⟨0x405400, 8, 3, 64, 8, 0, 1, .rw, (.const 0)⟩
def ING_I3C_CMD : Fld := ⟨0x405408, 0, 64, 64, 8, 0, 1, .wo, (.const 0)⟩
def I3C_FIFO_LEVEL : Fld := ⟨0x405410, 0, 7, 64, 8, 0, 1, .ro, (.const 0)⟩
def I3C_BUSY : Fld := ⟨0x405410, 7, 1, 64, 8, 0, 1, .ro, (.const 0)⟩
def ING_I3C_CNT_NACK : Fld := ⟨0x405414, 0, 32, 64, 8, 0, 1, .rc, (.const 0)⟩
def ING_I3C_CNT_LISTS : Fld := ⟨0x405418, 0, 32, 64, 8, 0, 1, .rc, (.const 0)⟩
def ING_I3C_CNT_IBI : Fld := ⟨0x40541c, 0, 32, 64, 8, 0, 1, .rc, (.const 0)⟩
def ING_I3C_RDATA : Fld := ⟨0x405420, 0, 32, 64, 8, 0, 1, .rc, (.const 0)⟩
/-! R152 -/
def ISP_SCHED_EN : Fld := ⟨0x480000, 0, 1, 0, 1, 0, 1, .rw, (.const 0)⟩
def ISP_STATE_BASE : Fld := ⟨0x480008, 0, 64, 0, 1, 0, 1, .rw, (.const 0)⟩
def ISP_STATE_STRIDE : Fld := ⟨0x480010, 0, 32, 0, 1, 0, 1, .rw, (.const 0)⟩
def PIPE_BUSY : Fld := ⟨0x481000, 0, 1, 0x100, 4, 0, 1, .ro, (.const 0)⟩
def PIPE_RETIRED : Fld := ⟨0x481000, 1, 1, 0x100, 4, 0, 1, .ro, (.const 0)⟩
def PIPE_CUR_CONTEXT : Fld := ⟨0x481000, 8, 8, 0x100, 4, 0, 1, .ro, (.const 0)⟩
def PIPE_CUR_LINE : Fld := ⟨0x481000, 16, 16, 0x100, 4, 0, 1, .ro, (.const 0)⟩
def ISP_PIPE_CNT_STRIPES : Fld := ⟨0x481008, 0, 32, 0x100, 4, 0, 1, .rc, (.const 0)⟩
def ISP_PIPE_CNT_SWITCHES : Fld := ⟨0x48100c, 0, 32, 0x100, 4, 0, 1, .rc, (.const 0)⟩
def ISP_PIPE_CNT_BUSY_CYCLES : Fld := ⟨0x481010, 0, 64, 0x100, 4, 0, 1, .rc, (.const 0)⟩
def ISP_PIPE_CNT_SWITCH_CYCLES : Fld := ⟨0x481018, 0, 64, 0x100, 4, 0, 1, .rc, (.const 0)⟩
def ISP_PIPE_CNT_OUT_STALL : Fld := ⟨0x481020, 0, 32, 0x100, 4, 0, 1, .rc, (.const 0)⟩
def ISP_PIPE_CNT_DPC_STATIC : Fld := ⟨0x481024, 0, 32, 0x100, 4, 0, 1, .rc, (.const 0)⟩
def ISP_PIPE_CNT_DPC_DYNAMIC : Fld := ⟨0x481028, 0, 32, 0x100, 4, 0, 1, .rc, (.const 0)⟩
def ISPC_DEADLINE_TB : Fld := ⟨0x484000, 0, 64, 64, 64, 0, 1, .ro, (.const 0)⟩
def ISPC_NEXT_LINE : Fld := ⟨0x484008, 0, 16, 64, 64, 0, 1, .ro, (.const 0)⟩
def ISPC_LAST_PIPE : Fld := ⟨0x484008, 16, 2, 64, 64, 0, 1, .ro, (.const 0)⟩
def ISPC_URGENT : Fld := ⟨0x484008, 18, 1, 64, 64, 0, 1, .ro, (.const 0)⟩
def ISP_CTX_CNT_STRIPES : Fld := ⟨0x48400c, 0, 32, 64, 64, 0, 1, .rc, (.const 0)⟩
def ISP_CTX_CNT_BUDGET_MISS : Fld := ⟨0x484010, 0, 32, 64, 64, 0, 1, .rc, (.const 0)⟩
def ISP_CTX_CNT_URGENT : Fld := ⟨0x484014, 0, 32, 64, 64, 0, 1, .rc, (.const 0)⟩
def ISP_CTX_CNT_OVERRUN : Fld := ⟨0x484018, 0, 32, 64, 64, 0, 1, .rc, (.const 0)⟩
def ISP_CTX_CNT_STATE_SHORT : Fld := ⟨0x48401c, 0, 32, 64, 64, 0, 1, .rc, (.const 0)⟩
def ISPC_LAST_DONE_TB : Fld := ⟨0x484020, 0, 64, 64, 64, 0, 1, .ro, (.const 0)⟩
def ISPC_MAX_LAG_NS : Fld := ⟨0x484028, 0, 32, 64, 64, 0, 1, .rc, (.const 0)⟩

def blockIng0 : List Fld := [ING_PARAM_BASE, PORT_ENABLE, PORT_PHY, PORT_LANES, PORT_LINE_NUM_EN, PORT_LANE_ORDER, PORT_LANE_INVERT, PORT_RATE, PORT_LOCKED, PORT_DESKEWED, PORT_LOCK_FAIL, PORT_LAST_UNTRACKED_VC, PORT_LAST_UNTRACKED_DT, ING_PORT_CNT_PACKETS, ING_PORT_CNT_HDR_FIXED, ING_PORT_CNT_HDR_DROP, ING_PORT_CNT_CRC, ING_PORT_CNT_UNTRACKED, ING_PORT_CNT_ORPHAN, ING_PORT_CNT_SHORT_OTHER, CTX_WIDTH, CTX_HEIGHT, CTX_PAD_RULE, CTX_MOSAIC_PERIOD]
def blockIng1 : List Fld := [CTX_DPCM, CTX_FC_LOCAL, CTX_SENSOR_DELAY, CTX_PAD_VALUE, CTX_FC_MAX, CTX_EOF_TIMEOUT_NS, CTX_EXT_FC, CTX_FRAME_OPEN, CTX_PARAM_PENDING, CTX_LINES_RECEIVED, CTX_LAST_PARAM_SET, ING_CTX_CNT_FRAMES, ING_CTX_CNT_LINE_SHORT, ING_CTX_CNT_LINE_LONG, ING_CTX_CNT_FRAME_SHORT, ING_CTX_CNT_FRAME_LONG, ING_CTX_CNT_EOF_TIMEOUT, ING_CTX_CNT_NEAR_MISS, ING_CTX_CNT_PARAM_LATE, ING_CTX_CNT_PARAM_SUPERSEDED, ING_CTX_CNT_FC_SKIP, ING_CTX_CNT_LATE_LINES, CTX_NEAR_MISS_TB, ING_RPL_RING_BASE]
def blockIng2 : List Fld := [ING_RPL_RING_SIZE, ING_RPL_TAIL, ING_RPL_HEAD, ING_RPL_CNT_REFUSED, ING_RPL_CNT_LATE_START, ING_RPL_CNT_STALL, SYNC_ENABLE, SYNC_ACTIVE_LOW, SYNC_ONE_SHOT, SYNC_PERIOD_NS, SYNC_WIDTH_NS, SYNC_START_TB, SYNC_EDGES, I3C_ENABLE, I3C_MODE, I3C_SPEED, ING_I3C_CMD, I3C_FIFO_LEVEL, I3C_BUSY, ING_I3C_CNT_NACK, ING_I3C_CNT_LISTS, ING_I3C_CNT_IBI, ING_I3C_RDATA, ISP_SCHED_EN]
def blockIng3 : List Fld := [ISP_STATE_BASE, ISP_STATE_STRIDE, PIPE_BUSY, PIPE_RETIRED, PIPE_CUR_CONTEXT, PIPE_CUR_LINE, ISP_PIPE_CNT_STRIPES, ISP_PIPE_CNT_SWITCHES, ISP_PIPE_CNT_BUSY_CYCLES, ISP_PIPE_CNT_SWITCH_CYCLES, ISP_PIPE_CNT_OUT_STALL, ISP_PIPE_CNT_DPC_STATIC, ISP_PIPE_CNT_DPC_DYNAMIC, ISPC_DEADLINE_TB, ISPC_NEXT_LINE, ISPC_LAST_PIPE, ISPC_URGENT, ISP_CTX_CNT_STRIPES, ISP_CTX_CNT_BUDGET_MISS, ISP_CTX_CNT_URGENT, ISP_CTX_CNT_OVERRUN, ISP_CTX_CNT_STATE_SHORT, ISPC_LAST_DONE_TB, ISPC_MAX_LAG_NS]
def blockIng4 : List Fld := [ING_CAP]
/-- Every field of the block. -/
def blockIng : List Fld := blockIng0 ++ blockIng1 ++ blockIng2 ++ blockIng3 ++ blockIng4

/-! R26 -/
def VIS_CAP : Fld := ⟨0x500000, 0, 64, 0, 1, 0, 1, .ro, .cap⟩
/-! R103 -/
def PLB_PLUMB_BUSY : Fld := ⟨0x50c000, 0, 1, 0x400, 2, 0, 1, .ro, (.const 0)⟩
def PLB_SEAM_BUSY : Fld := ⟨0x50c000, 1, 1, 0x400, 2, 0, 1, .ro, (.const 0)⟩
def PLB_CUR_GRAPH : Fld := ⟨0x50c000, 16, 16, 0x400, 2, 0, 1, .ro, (.const 0)⟩
def PLB_CUR_NODE : Fld := ⟨0x50c004, 0, 16, 0x400, 2, 0, 1, .ro, (.const 0)⟩
def PLB_CUR_CONTEXT : Fld := ⟨0x50c004, 16, 8, 0x400, 2, 0, 1, .ro, (.const 0)⟩
def VIS_PLB_CNT_TILES : Fld := ⟨0x50c100, 0, 32, 0x400, 2, 0, 1, .rc, (.const 0)⟩
def VIS_PLB_CNT_MASKED : Fld := ⟨0x50c104, 0, 32, 0x400, 2, 0, 1, .rc, (.const 0)⟩
def VIS_PLB_CNT_SELECTED : Fld := ⟨0x50c108, 0, 32, 0x400, 2, 0, 1, .rc, (.const 0)⟩
def VIS_PLB_CNT_DEFERRED : Fld := ⟨0x50c10c, 0, 32, 0x400, 2, 0, 1, .rc, (.const 0)⟩
def VIS_PLB_CNT_DEFER_DROPPED : Fld := ⟨0x50c110, 0, 32, 0x400, 2, 0, 1, .rc, (.const 0)⟩
def VIS_PLB_CNT_PROMOTED : Fld := ⟨0x50c114, 0, 32, 0x400, 2, 0, 1, .rc, (.const 0)⟩
def VIS_PLB_CNT_TRIM : Fld := ⟨0x50c118, 0, 32, 0x400, 2, 0, 1, .rc, (.const 0)⟩
def VIS_PLB_CNT_SEAM_TILES : Fld := ⟨0x50c11c, 0, 32, 0x400, 2, 0, 1, .rc, (.const 0)⟩
def VIS_PLB_CNT_REUSE_PX : Fld := ⟨0x50c120, 0, 32, 0x400, 2, 0, 1, .rc, (.const 0)⟩
def VIS_PLB_CNT_FALLBACK_PX : Fld := ⟨0x50c124, 0, 32, 0x400, 2, 0, 1, .rc, (.const 0)⟩
/-! R173 -/
def ST_BUSY : Fld := ⟨0x504000, 0, 1, 0x400, 2, 0, 1, .ro, (.const 0)⟩
def ST_RETIRED : Fld := ⟨0x504000, 1, 1, 0x400, 2, 0, 1, .ro, (.const 0)⟩
def ST_PASS : Fld := ⟨0x504000, 2, 2, 0x400, 2, 0, 1, .ro, (.const 0)⟩
def ST_LEVEL : Fld := ⟨0x504000, 4, 4, 0x400, 2, 0, 1, .ro, (.const 0)⟩
def ST_CUR_GRAPH : Fld := ⟨0x504000, 16, 16, 0x400, 2, 0, 1, .ro, (.const 0)⟩
def ST_CUR_NODE : Fld := ⟨0x504004, 0, 16, 0x400, 2, 0, 1, .ro, (.const 0)⟩
def ST_CUR_CONTEXT : Fld := ⟨0x504004, 16, 8, 0x400, 2, 0, 1, .ro, (.const 0)⟩
def ST_CUR_LINE : Fld := ⟨0x504008, 0, 16, 0x400, 2, 0, 1, .ro, (.const 0)⟩
def VIS_ST_CNT_INSTANCES : Fld := ⟨0x504100, 0, 32, 0x400, 2, 0, 1, .rc, (.const 0)⟩
def VIS_ST_CNT_GATED_TILES : Fld := ⟨0x504104, 0, 32, 0x400, 2, 0, 1, .rc, (.const 0)⟩
def VIS_ST_CNT_REFINE_BLOCKS : Fld := ⟨0x504108, 0, 32, 0x400, 2, 0, 1, .rc, (.const 0)⟩
def VIS_ST_CNT_EXT_MISSING : Fld := ⟨0x50410c, 0, 32, 0x400, 2, 0, 1, .rc, (.const 0)⟩
def VIS_ST_CNT_CANDIDATES : Fld := ⟨0x504110, 0, 64, 0x400, 2, 0, 1, .rc, (.const 0)⟩
def VIS_ST_CNT_BUSY_CYCLES : Fld := ⟨0x504118, 0, 64, 0x400, 2, 0, 1, .rc, (.const 0)⟩
def VIS_ST_CNT_CLASS : Fld := ⟨0x504120, 0, 32, 0x400, 2, 4, 9, .rc, (.const 0)⟩
def VIS_ST_CNT_REPLACED : Fld := ⟨0x504144, 0, 32, 0x400, 2, 0, 1, .rc, (.const 0)⟩
/-! R191 -/
def FL_BUSY : Fld := ⟨0x505000, 0, 1, 0x400, 2, 0, 1, .ro, (.const 0)⟩
def FL_RETIRED : Fld := ⟨0x505000, 1, 1, 0x400, 2, 0, 1, .ro, (.const 0)⟩
def FL_PASS : Fld := ⟨0x505000, 2, 2, 0x400, 2, 0, 1, .ro, (.const 0)⟩
def FL_LEVEL : Fld := ⟨0x505000, 4, 4, 0x400, 2, 0, 1, .ro, (.const 0)⟩
def FL_CUR_GRAPH : Fld := ⟨0x505000, 16, 16, 0x400, 2, 0, 1, .ro, (.const 0)⟩
def FL_CUR_NODE : Fld := ⟨0x505004, 0, 16, 0x400, 2, 0, 1, .ro, (.const 0)⟩
def FL_CUR_CONTEXT : Fld := ⟨0x505004, 16, 8, 0x400, 2, 0, 1, .ro, (.const 0)⟩
def FL_CUR_LINE : Fld := ⟨0x505008, 0, 16, 0x400, 2, 0, 1, .ro, (.const 0)⟩
def VIS_FL_CNT_INSTANCES : Fld := ⟨0x505100, 0, 32, 0x400, 2, 0, 1, .rc, (.const 0)⟩
def VIS_FL_CNT_GATED_TILES : Fld := ⟨0x505104, 0, 32, 0x400, 2, 0, 1, .rc, (.const 0)⟩
def VIS_FL_CNT_REFINE_BLOCKS : Fld := ⟨0x505108, 0, 32, 0x400, 2, 0, 1, .rc, (.const 0)⟩
def VIS_FL_CNT_NO_HISTORY : Fld := ⟨0x50510c, 0, 32, 0x400, 2, 0, 1, .rc, (.const 0)⟩
def VIS_FL_CNT_CANDIDATES : Fld := ⟨0x505110, 0, 64, 0x400, 2, 0, 1, .rc, (.const 0)⟩
def VIS_FL_CNT_BUSY_CYCLES : Fld := ⟨0x505118, 0, 64, 0x400, 2, 0, 1, .rc, (.const 0)⟩
def VIS_FL_CNT_CLASS : Fld := ⟨0x505120, 0, 32, 0x400, 2, 4, 9, .rc, (.const 0)⟩
def VIS_FL_CNT_REPLACED : Fld := ⟨0x505144, 0, 32, 0x400, 2, 0, 1, .rc, (.const 0)⟩
def VIS_FL_CNT_PIXEL_ITERS : Fld := ⟨0x505148, 0, 64, 0x400, 2, 0, 1, .rc, (.const 0)⟩
def VIS_FL_CNT_LIMIT : Fld := ⟨0x505150, 0, 32, 0x400, 2, 0, 1, .rc, (.const 0)⟩
/-! R203 -/
def FT_BUSY : Fld := ⟨0x506000, 0, 1, 0x400, 2, 0, 1, .ro, (.const 0)⟩
def FT_RETIRED : Fld := ⟨0x506000, 1, 1, 0x400, 2, 0, 1, .ro, (.const 0)⟩
def FT_PHASE : Fld := ⟨0x506000, 2, 3, 0x400, 2, 0, 1, .ro, (.const 0)⟩
def FT_CUR_GRAPH : Fld := ⟨0x506000, 16, 16, 0x400, 2, 0, 1, .ro, (.const 0)⟩
def FT_CUR_NODE : Fld := ⟨0x506004, 0, 16, 0x400, 2, 0, 1, .ro, (.const 0)⟩
def FT_CUR_CONTEXT : Fld := ⟨0x506004, 16, 8, 0x400, 2, 0, 1, .ro, (.const 0)⟩
def VIS_FT_CNT_INSTANCES : Fld := ⟨0x506100, 0, 32, 0x400, 2, 0, 1, .rc, (.const 0)⟩
def VIS_FT_CNT_DETECTED : Fld := ⟨0x506104, 0, 32, 0x400, 2, 0, 1, .rc, (.const 0)⟩
def VIS_FT_CNT_TRACKED : Fld := ⟨0x506108, 0, 32, 0x400, 2, 0, 1, .rc, (.const 0)⟩
def VIS_FT_CNT_LOST : Fld := ⟨0x50610c, 0, 32, 0x400, 2, 0, 1, .rc, (.const 0)⟩
def VIS_FT_CNT_MATCHED : Fld := ⟨0x506110, 0, 32, 0x400, 2, 0, 1, .rc, (.const 0)⟩
def VIS_FT_CNT_TRUNCATED : Fld := ⟨0x506114, 0, 32, 0x400, 2, 0, 1, .rc, (.const 0)⟩
def VIS_FT_CNT_DROPPED : Fld := ⟨0x506118, 0, 32, 0x400, 2, 0, 1, .rc, (.const 0)⟩
def VIS_FT_CNT_PADDED_SKIP : Fld := ⟨0x50611c, 0, 32, 0x400, 2, 0, 1, .rc, (.const 0)⟩
def VIS_FT_CNT_NO_HISTORY : Fld := ⟨0x506120, 0, 32, 0x400, 2, 0, 1, .rc, (.const 0)⟩
def VIS_FT_CNT_SURVIVORS : Fld := ⟨0x506124, 0, 32, 0x400, 2, 0, 1, .rc, (.const 0)⟩
def VIS_FT_CNT_BUSY_CYCLES : Fld := ⟨0x506128, 0, 64, 0x400, 2, 0, 1, .rc, (.const 0)⟩
def VIS_FT_CNT_HAMMING : Fld := ⟨0x506130, 0, 64, 0x400, 2, 0, 1, .rc, (.const 0)⟩
/-! R226 -/
def PY_BUSY : Fld := ⟨0x502000, 0, 1, 0x400, 4, 0, 1, .ro, (.const 0)⟩
def PY_RETIRED : Fld := ⟨0x502000, 1, 1, 0x400, 4, 0, 1, .ro, (.const 0)⟩
def PY_LEVEL : Fld := ⟨0x502000, 4, 4, 0x400, 4, 0, 1, .ro, (.const 0)⟩
def PY_CUR_GRAPH : Fld := ⟨0x502000, 16, 16, 0x400, 4, 0, 1, .ro, (.const 0)⟩
def PY_CUR_NODE : Fld := ⟨0x502004, 0, 16, 0x400, 4, 0, 1, .ro, (.const 0)⟩
def PY_CUR_CONTEXT : Fld := ⟨0x502004, 16, 8, 0x400, 4, 0, 1, .ro, (.const 0)⟩
def PY_CUR_LINE : Fld := ⟨0x502008, 0, 16, 0x400, 4, 0, 1, .ro, (.const 0)⟩
def VIS_PY_CNT_INSTANCES : Fld := ⟨0x502100, 0, 32, 0x400, 4, 0, 1, .rc, (.const 0)⟩
def VIS_PY_CNT_LEVELS : Fld := ⟨0x502104, 0, 32, 0x400, 4, 0, 1, .rc, (.const 0)⟩
def VIS_PY_CNT_PIXELS : Fld := ⟨0x502108, 0, 64, 0x400, 4, 0, 1, .rc, (.const 0)⟩
def VIS_PY_CNT_INPUT_WAIT : Fld := ⟨0x502110, 0, 64, 0x400, 4, 0, 1, .rc, (.const 0)⟩
def VIS_PY_CNT_BUSY_CYCLES : Fld := ⟨0x502118, 0, 64, 0x400, 4, 0, 1, .rc, (.const 0)⟩
/-! R227 -/
def WP_BUSY : Fld := ⟨0x503000, 0, 1, 0x400, 4, 0, 1, .ro, (.const 0)⟩
def WP_RETIRED : Fld := ⟨0x503000, 1, 1, 0x400, 4, 0, 1, .ro, (.const 0)⟩
def WP_MODE : Fld := ⟨0x503000, 2, 3, 0x400, 4, 0, 1, .ro, (.const 0)⟩
def WP_CUR_GRAPH : Fld := ⟨0x503000, 16, 16, 0x400, 4, 0, 1, .ro, (.const 0)⟩
def WP_CUR_NODE : Fld := ⟨0x503004, 0, 16, 0x400, 4, 0, 1, .ro, (.const 0)⟩
def WP_CUR_CONTEXT : Fld := ⟨0x503004, 16, 8, 0x400, 4, 0, 1, .ro, (.const 0)⟩
def WP_CUR_TILE_ROW : Fld := ⟨0x503008, 0, 16, 0x400, 4, 0, 1, .ro, (.const 0)⟩
def VIS_WP_CNT_INSTANCES : Fld := ⟨0x503100, 0, 32, 0x400, 4, 0, 1, .rc, (.const 0)⟩
def VIS_WP_CNT_TILES : Fld := ⟨0x503104, 0, 32, 0x400, 4, 0, 1, .rc, (.const 0)⟩
def VIS_WP_CNT_SPLIT : Fld := ⟨0x503108, 0, 32, 0x400, 4, 0, 1, .rc, (.const 0)⟩
def VIS_WP_CNT_DISP_REJECT : Fld := ⟨0x50310c, 0, 32, 0x400, 4, 0, 1, .rc, (.const 0)⟩
def VIS_WP_CNT_OOB_PX : Fld := ⟨0x503110, 0, 64, 0x400, 4, 0, 1, .rc, (.const 0)⟩
def VIS_WP_CNT_HITS : Fld := ⟨0x503118, 0, 64, 0x400, 4, 0, 1, .rc, (.const 0)⟩
def VIS_WP_CNT_FETCHES : Fld := ⟨0x503120, 0, 64, 0x400, 4, 0, 1, .rc, (.const 0)⟩
def VIS_WP_CNT_MISS_STALL : Fld := ⟨0x503128, 0, 64, 0x400, 4, 0, 1, .rc, (.const 0)⟩
def VIS_WP_CNT_INPUT_WAIT : Fld := ⟨0x503130, 0, 64, 0x400, 4, 0, 1, .rc, (.const 0)⟩
def VIS_WP_CNT_BUSY_CYCLES : Fld := ⟨0x503138, 0, 64, 0x400, 4, 0, 1, .rc, (.const 0)⟩
/-! R228 -/
def CB_SEGMENTS : Fld := ⟨0x508000, 0, 16, 0, 1, 0, 1, .ro, (.const 0x180)⟩
def CB_SEGMENT_KIB : Fld := ⟨0x508000, 16, 16, 0, 1, 0, 1, .ro, (.const 0x100)⟩
def CB_IN_USE : Fld := ⟨0x508004, 0, 16, 0, 1, 0, 1, .ro, (.const 0)⟩
def VIS_CB_CNT_ECC_FIXED : Fld := ⟨0x508008, 0, 32, 0, 1, 0, 1, .rc, (.const 0)⟩
def VIS_CB_CNT_ECC_UNCORR : Fld := ⟨0x50800c, 0, 32, 0, 1, 0, 1, .rc, (.const 0)⟩
def CB_PEAK_LINES : Fld := ⟨0x508100, 0, 16, 4, 64, 0, 1, .rc, (.const 0)⟩
/-! R328 -/
def CP_BUSY : Fld := ⟨0x50a000, 0, 1, 0x400, 2, 0, 1, .ro, (.const 0)⟩
def CP_RETIRED : Fld := ⟨0x50a000, 1, 1, 0x400, 2, 0, 1, .ro, (.const 0)⟩
def CP_CHAIN_KIND : Fld := ⟨0x50a000, 2, 2, 0x400, 2, 0, 1, .ro, (.const 0)⟩
def CP_CUR_GRAPH : Fld := ⟨0x50a000, 16, 16, 0x400, 2, 0, 1, .ro, (.const 0)⟩
def CP_CUR_NODE : Fld := ⟨0x50a004, 0, 16, 0x400, 2, 0, 1, .ro, (.const 0)⟩
def CP_CUR_CONTEXT : Fld := ⟨0x50a004, 16, 8, 0x400, 2, 0, 1, .ro, (.const 0)⟩
def CP_CUR_DESC : Fld := ⟨0x50a008, 0, 9, 0x400, 2, 0, 1, .ro, (.const 0)⟩
def CP_LAST_STATUS : Fld := ⟨0x50a00c, 0, 8, 0x400, 2, 0, 1, .ro, (.const 0)⟩
def CP_LAST_FAIL_DESC : Fld := ⟨0x50a00c, 8, 9, 0x400, 2, 0, 1, .ro, (.const 0)⟩
def VIS_CP_CNT_CHAINS : Fld := ⟨0x50a100, 0, 32, 0x400, 2, 0, 1, .rc, (.const 0)⟩
def VIS_CP_CNT_DESCRIPTORS : Fld := ⟨0x50a104, 0, 32, 0x400, 2, 0, 1, .rc, (.const 0)⟩
def VIS_CP_CNT_REFUSED : Fld := ⟨0x50a108, 0, 32, 0x400, 2, 0, 1, .rc, (.const 0)⟩
def VIS_CP_CNT_SLOW : Fld := ⟨0x50a10c, 0, 32, 0x400, 2, 0, 1, .rc, (.const 0)⟩
def VIS_CP_CNT_MOVES : Fld := ⟨0x50a110, 0, 32, 0x400, 2, 0, 1, .rc, (.const 0)⟩
def VIS_CP_CNT_FILLS : Fld := ⟨0x50a114, 0, 32, 0x400, 2, 0, 1, .rc, (.const 0)⟩
def VIS_CP_CNT_READ_BYTES : Fld := ⟨0x50a118, 0, 64, 0x400, 2, 0, 1, .rc, (.const 0)⟩
def VIS_CP_CNT_WRITE_BYTES : Fld := ⟨0x50a120, 0, 64, 0x400, 2, 0, 1, .rc, (.const 0)⟩
def VIS_CP_CNT_BUSY_CYCLES : Fld := ⟨0x50a128, 0, 64, 0x400, 2, 0, 1, .rc, (.const 0)⟩
def VIS_CP_CNT_FENCE_WAIT : Fld := ⟨0x50a130, 0, 64, 0x400, 2, 0, 1, .rc, (.const 0)⟩
def CP_COPY_JOB_PRIO : Fld := ⟨0x50a800, 0, 6, 0, 1, 0, 1, .rw, (.const 16)⟩

def blockVis0 : List Fld := [PLB_PLUMB_BUSY, PLB_SEAM_BUSY, PLB_CUR_GRAPH, PLB_CUR_NODE, PLB_CUR_CONTEXT, VIS_PLB_CNT_TILES, VIS_PLB_CNT_MASKED, VIS_PLB_CNT_SELECTED, VIS_PLB_CNT_DEFERRED, VIS_PLB_CNT_DEFER_DROPPED, VIS_PLB_CNT_PROMOTED, VIS_PLB_CNT_TRIM, VIS_PLB_CNT_SEAM_TILES, VIS_PLB_CNT_REUSE_PX, VIS_PLB_CNT_FALLBACK_PX, ST_BUSY, ST_RETIRED, ST_PASS, ST_LEVEL, ST_CUR_GRAPH, ST_CUR_NODE, ST_CUR_CONTEXT, ST_CUR_LINE, VIS_ST_CNT_INSTANCES]
def blockVis1 : List Fld := [VIS_ST_CNT_GATED_TILES, VIS_ST_CNT_REFINE_BLOCKS, VIS_ST_CNT_EXT_MISSING, VIS_ST_CNT_CANDIDATES, VIS_ST_CNT_BUSY_CYCLES, VIS_ST_CNT_CLASS, VIS_ST_CNT_REPLACED, FL_BUSY, FL_RETIRED, FL_PASS, FL_LEVEL, FL_CUR_GRAPH, FL_CUR_NODE, FL_CUR_CONTEXT, FL_CUR_LINE, VIS_FL_CNT_INSTANCES, VIS_FL_CNT_GATED_TILES, VIS_FL_CNT_REFINE_BLOCKS, VIS_FL_CNT_NO_HISTORY, VIS_FL_CNT_CANDIDATES, VIS_FL_CNT_BUSY_CYCLES, VIS_FL_CNT_CLASS, VIS_FL_CNT_REPLACED, VIS_FL_CNT_PIXEL_ITERS]
def blockVis2 : List Fld := [VIS_FL_CNT_LIMIT, FT_BUSY, FT_RETIRED, FT_PHASE, FT_CUR_GRAPH, FT_CUR_NODE, FT_CUR_CONTEXT, VIS_FT_CNT_INSTANCES, VIS_FT_CNT_DETECTED, VIS_FT_CNT_TRACKED, VIS_FT_CNT_LOST, VIS_FT_CNT_MATCHED, VIS_FT_CNT_TRUNCATED, VIS_FT_CNT_DROPPED, VIS_FT_CNT_PADDED_SKIP, VIS_FT_CNT_NO_HISTORY, VIS_FT_CNT_SURVIVORS, VIS_FT_CNT_BUSY_CYCLES, VIS_FT_CNT_HAMMING, PY_BUSY, PY_RETIRED, PY_LEVEL, PY_CUR_GRAPH, PY_CUR_NODE]
def blockVis3 : List Fld := [PY_CUR_CONTEXT, PY_CUR_LINE, VIS_PY_CNT_INSTANCES, VIS_PY_CNT_LEVELS, VIS_PY_CNT_PIXELS, VIS_PY_CNT_INPUT_WAIT, VIS_PY_CNT_BUSY_CYCLES, WP_BUSY, WP_RETIRED, WP_MODE, WP_CUR_GRAPH, WP_CUR_NODE, WP_CUR_CONTEXT, WP_CUR_TILE_ROW, VIS_WP_CNT_INSTANCES, VIS_WP_CNT_TILES, VIS_WP_CNT_SPLIT, VIS_WP_CNT_DISP_REJECT, VIS_WP_CNT_OOB_PX, VIS_WP_CNT_HITS, VIS_WP_CNT_FETCHES, VIS_WP_CNT_MISS_STALL, VIS_WP_CNT_INPUT_WAIT, VIS_WP_CNT_BUSY_CYCLES]
def blockVis4 : List Fld := [CB_SEGMENTS, CB_SEGMENT_KIB, CB_IN_USE, VIS_CB_CNT_ECC_FIXED, VIS_CB_CNT_ECC_UNCORR, CB_PEAK_LINES, CP_BUSY, CP_RETIRED, CP_CHAIN_KIND, CP_CUR_GRAPH, CP_CUR_NODE, CP_CUR_CONTEXT, CP_CUR_DESC, CP_LAST_STATUS, CP_LAST_FAIL_DESC, VIS_CP_CNT_CHAINS, VIS_CP_CNT_DESCRIPTORS, VIS_CP_CNT_REFUSED, VIS_CP_CNT_SLOW, VIS_CP_CNT_MOVES, VIS_CP_CNT_FILLS, VIS_CP_CNT_READ_BYTES, VIS_CP_CNT_WRITE_BYTES, VIS_CP_CNT_BUSY_CYCLES]
def blockVis5 : List Fld := [VIS_CP_CNT_FENCE_WAIT, CP_COPY_JOB_PRIO, VIS_CAP]
/-- Every field of the block. -/
def blockVis : List Fld := blockVis0 ++ blockVis1 ++ blockVis2 ++ blockVis3 ++ blockVis4 ++ blockVis5

end Sys2Proof.Machine.Reg
end

