-- ==== Sys2Proof/Machine/State.lean ====
section
/-! DEFINITION. The state of the device: every piece of state the spec gives it, as plain data, and the state right after
power-on reset. The register fields live in one sparse table keyed by their bit address; what lies behind the registers has a
type of its own below. -/

namespace Sys2Proof.Machine

/-! ### Memory -/

/-- The separate byte-addressed memories the spec gives the device and its surroundings. -/
inductive Space where
  /-- Device physical memory of R20: LPDDR5X, the Quarry and the tile stores by physical core (R23). -/
  | dev
  /-- Host memory, by bus address (R350); the host's own stores have no row (DESIGN CHOICE, log entry 73). -/
  | host
  /-- The course-buffer pool (R223), byte addressed from segment 0. -/
  | course
  /-- The control cluster's SRAM and thread context frames (R332). -/
  | ctl
  /-- The external boot NOR (R436). -/
  | nor
  deriving DecidableEq, Repr

/-- The bytes of every memory, and the 8-byte words of device memory that are poisoned (R298). Each list is in the
canonical form of `twf`: addresses strictly rising, no entry equal to what an unlisted address reads as, which is 0. -/
structure MemState where
  dev : List Host.Cell
  host : List Host.Cell
  course : List Host.Cell
  ctl : List Host.Cell
  nor : List Host.Cell
  /-- Poisoned 8-byte words, by address / 8. -/
  poison : List (Nat × Bool)
  deriving DecidableEq, Repr

/-- One change of memory. -/
inductive MemOp where
  /-- Bytes stored at rising addresses. -/
  | put (sp : Space) (addr : Nat) (data : List Byte)
  /-- The addresses lo to hi - 1 return to what an unlisted address reads as. -/
  | clear (sp : Space) (lo hi : Nat)
  /-- The 8-byte word of device memory that holds an address becomes poisoned, or stops being so. -/
  | poison (addr : Nat) (on : Bool)
  deriving DecidableEq, Repr

/-! ### Time -/

/-- The clocks. tb11 is the timebase in elevenths of a nanosecond, so that a V-cycle at P0 adds 10. -/
structure Clk where
  vcycle : Nat
  tb11 : Nat
  deriving DecidableEq, Repr

/-! ### Jobs and completions -/

/-- The job a completion answers (R354): its queue, tag, opcode and NO_IRQ bit. -/
structure JobRef where
  q : Nat
  tag : Nat
  op : Nat
  noIrq : Bool
  deriving DecidableEq, Repr

/-- A unit-internal event that waits for its place in the pending work of a unit: a signal on its way to a joint flag
(R60). gen is the generation its sender expects; remote is set for a FLAG_SIGNAL of a Dravig peer (R64). -/
structure Sig where
  flag : Nat
  inc : Nat
  gen : Nat
  remote : Bool
  deriving DecidableEq, Repr

/-! ### Configuration -/

/-- A region record: its TYPE, INSTANCE, VERSION, the byte offset of its record header in the container it came in,
and its payload as 32-bit words (R34). -/
structure Region where
  typ : Nat
  idx : Nat
  ver : Nat
  off : Nat
  len : Nat
  words : List Nat
  deriving DecidableEq, Repr

/-- A resident version of a graph (R52, R59): its GRAPH and FLAG_PLAN payloads and the first flag of its pool. -/
structure GVer where
  gid : Nat
  ver : Nat
  seq : Nat
  graph : List Nat
  plan : List Nat
  base : Nat
  active : Bool
  deriving DecidableEq, Repr

/-- A superseded or active MODEL_REF whose image occupies slabs (R46, R52). -/
structure MVer where
  mid : Nat
  ver : Nat
  seq : Nat
  words : List Nat
  active : Bool
  deriving DecidableEq, Repr

/-- A job at the loader (R53): a container to load, or a model to reload. boot is set for the boot bitstream. -/
structure LoadJob where
  job : Option JobRef
  boot : Bool
  model : Option Nat
  addr : Nat
  len : Nat
  deriving DecidableEq, Repr

/-- How far the loader is with its job. -/
inductive LoadPhase where
  | staging | verifying | models
  deriving DecidableEq, Repr

/-- The loader at work: its job, its phase, the staged copy of the container (R47) and the model images still to read. -/
structure LoadRun where
  job : LoadJob
  phase : LoadPhase
  staged : List Byte
  images : List Region
  /-- Images checked so far, with the plaintext to write at commit. -/
  checked : List (Region × List Byte)
  deriving DecidableEq, Repr

/-- The loader and the configuration in force. -/
structure Loader where
  buildId : Nat
  regions : List Region
  graphs : List GVer
  models : List MVer
  nextSeq : Nat
  queue : List LoadJob
  run : Option LoadRun
  /-- Contexts that have not reached a start-of-frame since the latest commit that replaced a region they use (R54). -/
  pendingCtx : List Nat
  /-- CONTEXT_MAP entries in force per (port, virtual channel) until the next frame start after a commit (R50). -/
  mapOld : Tbl (List Nat)
  /-- Slabs under seal, by slab number, with the model they hold (R455). -/
  sealed : Tbl Nat
  /-- Slabs being zeroed (R455). -/
  zeroing : List Nat
  /-- GRAPH_RUN bindings, by context (R359): 0 = none, else graph + 1. -/
  bindings : Tbl Nat
  /-- GRAPH_RUN bindings that take effect at the context's next start-of-frame. -/
  nextBindings : Tbl Nat
  /-- Versions already released that a fill or an emit completion still owed reads (R73, R77). -/
  old : List GVer
  deriving DecidableEq, Repr

/-! ### Keystone -/

/-- The state of a node among the nodes of a graph in flight (R68, R73). -/
inductive NodeSt where
  | waiting | running | done | skipped | cut
  deriving DecidableEq, Repr

/-- A node in flight. unit is the unit that holds it, counts are the increments it has issued to each flag index (R73), reads is
how many lines or stripes it has read of each input edge index, waitFrom the TB its current wait counts from, and late whether it
finished past its deadline. -/
structure NodeRun where
  st : NodeSt
  unit : Nat
  counts : Tbl Nat
  reads : Tbl Nat
  waitFrom : Nat
  status : Nat
  late : Bool
  /-- Set when the fill of a skipped or cut node's outputs is still owed (R73). -/
  fillOwed : Bool
  /-- Core mask whose tasks have still to end, for NEURAL nodes. -/
  cores : Nat
  /-- The unit's own work for the node has ended (R55). -/
  finished : Bool
  /-- The next entry of the tile list a gated node launches (R95); of a COPY node, the descriptors whose destinations are written. -/
  tile : Nat
  /-- The fill of a skipped or cut node's outputs has been written (R73). -/
  filled : Bool
  /-- Increments a run on the partner of a retired engine still suppresses, by flag index (R479). -/
  skip : Tbl Nat
  /-- The node runs again after a retirement and has not completed since (R483). -/
  again : Bool
  /-- A cut that waits for the unit's next tile boundary (R73, R96). -/
  cutAsked : Bool
  deriving DecidableEq, Repr

/-- A frame a context has open (R108 to R115): the register values latched at its start, what has arrived, and the ledger
bits and counts so far. -/
structure OpenFrame where
  fc : Nat
  sofTb : Nat
  /-- The graph in flight that takes the frame, 0 = none yet. -/
  run : Nat
  /-- The frame's data is discarded (R66, R115). -/
  discard : Bool
  dataType : Nat
  width : Nat
  height : Nat
  padRule : Bool
  period : Nat
  dpcm : Nat
  padValue : Nat
  eofNs : Nat
  /-- SENSOR_DELAY. -/
  delay : Nat
  /-- First byte of the ring, and its depth and line pitch, as the frame began (R224). -/
  ringBase : Nat
  ringDepth : Nat
  ringPitch : Nat
  /-- Per line position taken: the ring line it went to, or none for a line the ring had no room for (R150). -/
  slots : List (Option Nat)
  firstLine : Option Nat
  /-- Number of the line start packet that precedes the next long packet. -/
  lineNo : Option Nat
  bits : Nat
  pad : Nat
  cut : Nat
  /-- Lines already signalled to the SOURCE node's flags. -/
  signalled : Nat
  paramSet : Nat
  /-- The ISP sub-blocks in force for the frame, by SUB_TYPE (R139). -/
  calib : Tbl (List Nat)
  deriving DecidableEq, Repr

/-- The frame of one stream context that a graph in flight works on, and what ingress found in it (R79). -/
structure CtxFrame where
  ctx : Nat
  fc : Nat
  sofTb : Nat
  eofTb : Nat
  /-- Word 6 bits [9:0] of the ledger entry. -/
  bits : Nat
  paramSet : Nat
  pad : Nat
  cut : Nat
  /-- Set once the frame has ended. -/
  closed : Bool
  /-- The frame as ingress had it when it ended. -/
  img : OpenFrame
  deriving DecidableEq, Repr

/-- How far a graph in flight is (R65, R76): its instantiation waits its turn, runs, or has ended. A refused frame is kept as one too, until its ledger entries and emit completions
have been written (R66), and so is an instance that has released its slot while a fill or a skipped node's emit completion is still owed (R73). -/
inductive GPhase where
  | queued | creating | running | refused | released
  deriving DecidableEq, Repr

/-- A graph in flight: the version, slot, origin and anchor of R65 and R58, its nodes, its frames, and what the ledger
entry records of it (R79). -/
structure GRun where
  id : Nat
  gid : Nat
  seq : Nat
  slot : Nat
  origin : Nat
  /-- Anchor context, 0xFF when triggered (R523). -/
  actx : Nat
  afc : Nat
  trigger : Option JobRef
  phase : GPhase
  /-- V-cycle of its start-of-frame or job start (R65). -/
  startV : Nat
  /-- The generation its instantiation gave each flag index (R65). -/
  gens : List Nat
  /-- The model versions its NEURAL nodes run, by residence number (R52). -/
  models : List Nat
  nodes : List NodeRun
  frames : List CtxFrame
  firstTimeout : Nat
  timeouts : Nat
  firstStatus : Nat
  lateNodes : Nat
  suspect : Bool
  recovered : Bool
  dropped : Bool
  truncated : Bool
  soundUs : Nat
  tilesMasked : Nat
  tilesRefined : Nat
  tilesDeferred : Nat
  /-- Set once the ledger entries have joined the order of their contexts. -/
  entered : Bool
  /-- Set once the ledger entries have been written. -/
  ledgered : Bool
  /-- HOST_EMIT nodes whose completion has been handed to its queue, and those whose completion has been posted or dropped. -/
  handed : List Nat
  emitted : List Nat
  /-- TB until which a re-execution may hold the frame, 0 = not held (R483). -/
  heldUntil : Nat
  deriving DecidableEq, Repr

/-- Who waits on a joint flag (R61). -/
inductive Waiter where
  | node (run node : Nat)
  | core (c : Nat)
  | channel (ch : Nat)
  deriving DecidableEq, Repr

/-- A waiter's entry: its threshold, whether it watches the broadcast, and the TB its delayed wake falls due under
FLAG_DELAY (R497), 0 = none. -/
structure Wait where
  who : Waiter
  threshold : Nat
  bcast : Bool
  dueTb : Nat
  deriving DecidableEq, Repr

/-- A ledger entry that waits for its predecessor in the context (R76): run, context, frame counter and, for a frame of no run, the entry's words; a run's
are made up when the entry is written. -/
structure LedgerHold where
  run : Nat
  ctx : Nat
  fc : Nat
  words : List Nat
  deriving DecidableEq, Repr

/-- The Keystone's own state beyond its registers. -/
structure Keystone where
  nextRun : Nat
  runs : List GRun
  signals : List Sig
  waits : Tbl (List Wait)
  /-- Flags poisoned by an uncorrectable error (R303). -/
  poisoned : List Nat
  /-- Frames whose instantiation was refused and whose emit completions are owed, and entries held for order. -/
  holds : List LedgerHold
  /-- Frames of a context in flight order, for the frame-counter order of R76: (context, frame counter) not yet ledgered. -/
  order : List (Nat × Nat)
  /-- Slot + 1 of the previous instance of each SEAM node, by graph × 512 + node (R98). -/
  seamSlots : Tbl Nat
  /-- The V-cycle the instantiation under way started in, or the V-cycle the last one ended in, + 1 (R65). -/
  instV : Nat
  deriving DecidableEq, Repr

def Loader.reset : Loader where
  buildId := 0
  regions := []
  graphs := []
  models := []
  nextSeq := 1
  queue := []
  run := none
  pendingCtx := []
  mapOld := []
  sealed := []
  zeroing := []
  bindings := []
  nextBindings := []
  old := []

def Keystone.reset : Keystone where
  nextRun := 1
  runs := []
  signals := []
  waits := []
  poisoned := []
  holds := []
  order := []
  seamSlots := []
  instV := 0


/-! ### One-time-programmable array -/

/-- The cornerstone OTP (R446). The manufacturing record is given by its fields; rows holds every other 32-byte row, by row
number, as a 256-bit number, a row it does not list being blank. -/
structure Otp where
  partNumber : Nat
  stepping : Nat
  dramGib : Nat
  serial : Nat
  vendorId : Nat
  subsysVendorId : Nat
  subsysId : Nat
  rows : Tbl Nat
  deriving DecidableEq, Repr

/-- The array as the part is delivered: a blank array beside the manufacturing record (DESIGN CHOICE, log entry 2). -/
def Otp.reset : Otp := ⟨Config.partNumber, 0, Config.dramGib, 0, 0, 0, 0, []⟩


/-! ### Engines at work -/

/-- What a vision engine, plumb unit, seam stage or ISP pipeline holds while it works on a node: the run and node, how far it is
(phase, level, pass and row as its chapter counts them), the tiles it has still to do, and numbers it carries along. -/
structure EngRun where
  run : Nat
  node : Nat
  phase : Nat
  level : Nat
  pass : Nat
  row : Nat
  tiles : List Nat
  data : List Nat
  /-- The V-cycle it took the node in. -/
  since : Nat
  deriving DecidableEq, Repr

def EngRun.none : EngRun := ⟨0, 0, 0, 0, 0, 0, [], [], 0⟩


/-! ### Ingress -/

/-- A pending parameter set (R121): its slot in the context's parameter area, and lengths in 8-byte units and entries. -/
structure PSet where
  setId : Nat
  target : Nat
  slot : Nat
  paramLen : Nat
  listLen : Nat
  master : Nat
  listSent : Bool
  late : Bool
  deriving DecidableEq, Repr

/-- A replay frame in progress (R116, R117): its descriptor words, its start TB and the next line. -/
structure Replay where
  words : List Nat
  sofTb : Nat
  started : Bool
  line : Nat
  deriving DecidableEq, Repr

/-- A stream context's ingress state. -/
structure CtxIn where
  /-- A frame has started since the context was enabled. -/
  ever : Bool
  lastF : Nat
  frame : Option OpenFrame
  /-- The last frame was closed by the end-of-frame timeout (R113). -/
  timedOut : Bool
  /-- Lines written to the ring and consumed from it since the context was enabled (R225). -/
  written : Nat
  consumed : Nat
  /-- FIRST_SEG, SEGMENTS, DEPTH and line pitch of the ring in use. -/
  firstSeg : Nat
  depth : Nat
  pitch : Nat
  sets : List PSet
  /-- Overrides in force, by SUB_TYPE (R139). -/
  overrides : Tbl (List Nat)
  lastSet : Nat
  replay : Option Replay
  /-- FRAME_COUNTER of the last replay descriptor and the end TB of the last replay frame. -/
  replayFc : Option Nat
  replayEnd : Nat
  /-- Closed frames that no instance has taken while one still may (R58), oldest first, with the TB they ended at. -/
  loose : List (OpenFrame × Nat)
  deriving DecidableEq, Repr

/-- An I3C master: direct commands, ledger lists with the unit an error record names, and read bytes (R119, R128). -/
structure I3c where
  fifo : List Nat
  lists : List (Nat × List Nat)
  rdata : List Byte
  /-- The message on the bus is a direct command, which a list waits for (R119). -/
  direct : Bool
  deriving DecidableEq, Repr

/-- A frame-sync generator's output (R120): its level, the TB of its next edge and of its pulse's end, 0 = none. -/
structure Fsync where
  active : Bool
  next : Nat
  pulseEnd : Nat
  deriving DecidableEq, Repr

/-- The ISP's state of a context (R147 to R149): the ISP_OUT instance it works on, the input lines it has read with their sideband
words, the output lines each port has written, and the stripe that runs: its pipeline + 1, lines, first V-cycle and switch cost. -/
structure IspCtx where
  run : Nat
  node : Nat
  lines : List (List Nat)
  sbs : List Nat
  outs : List Nat
  pipe : Nat
  count : Nat
  startV : Nat
  switch : Nat
  /-- It has run on the pipeline that LAST_PIPE names. -/
  ran : Bool
  deriving DecidableEq, Repr

/-- The ISP: per-context state, and the context whose state each pipeline holds, + 1. -/
structure Isp where
  ctxs : Tbl IspCtx
  pipes : Tbl Nat
  deriving DecidableEq, Repr

/-- The receive ports, contexts, I3C masters and frame-sync generators. -/
structure Ingress where
  ctxs : Tbl CtxIn
  /-- The context that received each port's last long packet (R114). -/
  lastCtx : Tbl Nat
  /-- TB of ENABLE of ports that have not locked yet, and ports shut off by a bad RATE (R525). -/
  locking : Tbl Nat
  shut : List Nat
  i3c : Tbl I3c
  fsync : Tbl Fsync
  deriving DecidableEq, Repr

def CtxIn.none : CtxIn := ⟨false, 0, .none, false, 0, 0, 0, 0, 0, [], [], 0xFFFF, .none, .none, 0, []⟩

def IspCtx.none : IspCtx := ⟨0, 0, [], [], [0, 0, 0, 0], 0, 0, 0, 0, false⟩

def I3c.none : I3c := ⟨[], [], [], false⟩

def Fsync.none : Fsync := ⟨false, 0, 0⟩

def Ingress.reset : Ingress := ⟨[], [], [], [], [], []⟩


/-! ### Ashlar cores -/

/-- An operand descriptor as a tile operation resolved it (R235, R236): its segment, dimensions, format, resolved base offset, extents
and strides. -/
structure Desc where
  seg : Nat
  dims : Nat
  fmt : Nat
  base : Int
  ext : List Nat
  stride : List Int
  deriving DecidableEq, Repr

/-- An operand: its data, and the block scales of an MX format. -/
structure Opnd where
  d : Desc
  scale : Option Desc
  deriving DecidableEq, Repr

/-- Setup state (R250), captured when an operation issues: truncating rounding, the FP32 scales A, B and OUT, the sparsity metadata, and
the two tables of 258 words, an empty table standing for zeros with LO = 0 and HI = 1. -/
structure Setup where
  trunc : Bool
  scaleA : Nat
  scaleB : Nat
  scaleOut : Nat
  sparse : Option Desc
  lut0 : List Nat
  lut1 : List Nat
  deriving DecidableEq, Repr

/-- An operation in a unit's queue (R230): its unit (0 array, 1 vector unit, 2 DMA engine), index, words, resolved operands, setup,
the loop counters then, the rows ACC_STORE may write, tile-store ranges it writes (R283) and reads (R232), its broadcast number, whether
its transfer has started, and whether it has taken effect. -/
structure TileOp where
  unit : Nat
  pc : Nat
  words : List Nat
  opnds : List (Option Opnd)
  setup : Setup
  lcs : List Nat
  rows : Nat
  writes : List (Nat × Nat)
  reads : List (Nat × Nat)
  bcast : Option Nat
  started : Bool
  done : Bool
  /-- The bytes its broadcast transfer delivered, in the order they were read (R247). -/
  got : List Byte
  deriving DecidableEq, Repr

/-- How far a core is with a task: idle, dispatched, copying, running (R253). -/
inductive TaskPhase where
  | idle | launching | copying | running
  deriving DecidableEq, Repr

/-- An accumulator bank (R229): 16 × 64 entries of 32 bits, row by row, an empty list standing for zeros, and whether they are INT32. -/
structure Bank where
  ent : List Nat
  int : Bool
  deriving DecidableEq, Repr

/-- An open loop (R249): its level, the index of its LOOP, BODY_LEN and count. -/
structure LoopRec where
  level : Nat
  start : Nat
  len : Nat
  count : Nat
  deriving DecidableEq, Repr

/-- An ashlar core's own state beyond its registers, by logical number (R229 to R257). -/
structure CoreSt where
  phase : TaskPhase
  run : Nat
  node : Nat
  /-- Member cores of the launch, by rank (R253). -/
  members : List Nat
  rank : Nat
  args : List Nat
  gated : Bool
  tile : Nat
  /-- V-cycle of the dispatch, from which the launch counts. -/
  since : Nat
  /-- First V-cycle the core's next launch may start in (R254). -/
  freeAt : Nat
  loops : List LoopRec
  setup : Setup
  bank0 : Bank
  bank1 : Bank
  queue : List TileOp
  /-- The core's next broadcast number, and the number of the next transfer of its group (R247). -/
  bseq : Nat
  bnext : Nat
  bwait : Option Nat
  /-- The TB its WAIT_FLAG stall began at (R256). -/
  stall : Option Nat
  /-- SIGNAL_FLAGs issued, and how many a re-execution suppresses (R257). -/
  signals : Nat
  suppress : Nat
  sat : Bool
  /-- The instruction buffer: index of its first operation, and words (R230). -/
  ibase : Nat
  ibuf : List Nat
  /-- The Keystone has asked the task to stop at its next issue (R255). -/
  stop : Bool
  reexec : Bool
  /-- The task has aborted or ended and its queue still drains. -/
  ended : Bool
  deriving DecidableEq, Repr

def Setup.launch : Setup := ⟨false, 0x3F800000, 0x3F800000, 0x3F800000, none, [], []⟩

def CoreSt.idle : CoreSt where
  phase := .idle
  run := 0
  node := 0
  members := []
  rank := 0
  args := []
  gated := false
  tile := 0
  since := 0
  freeAt := 0
  loops := []
  setup := Setup.launch
  bank0 := ⟨[], true⟩
  bank1 := ⟨[], true⟩
  queue := []
  bseq := 0
  bnext := 0
  bwait := none
  stall := none
  signals := 0
  suppress := 0
  sat := false
  ibase := 0
  ibuf := []
  stop := false
  reexec := false
  ended := false

/-- ECC bookkeeping of the tile stores and the Quarry (R297 to R301): a memory is a physical tile store 0 to 67, or 68 + slab. scrub is
the row each patrol reads next, fixes the corrected errors found in a row in this pass, by memory × 65536 + row, and spared the rows
redirected to spares. -/
structure EccSt where
  scrub : Tbl Nat
  fixes : Tbl Nat
  spared : List Nat
  deriving DecidableEq, Repr


/-! ### Copy engines -/

/-- A chain of copy descriptors (R314, R321): a COPY node's (kind 0), a job's (1) or a fill (2), with what it answers to, its descriptors'
words and the TB its origin counts from. -/
structure Chain where
  kind : Nat
  job : Option JobRef
  run : Nat
  node : Nat
  descs : List (List Nat)
  /-- Where a job's descriptors lie, and how many there are. -/
  addr : Nat
  count : Nat
  origin : Nat
  deriving DecidableEq, Repr

/-- The copy engines beyond their registers: chains of started jobs that wait for an engine, and the chain each engine runs, by engine. -/
structure CopySt where
  waiting : List Chain
  running : Tbl (Option Chain)
  deriving DecidableEq, Repr


/-! ### Mason -/

/-- The states of a thread (R332), in the order of their codes. -/
inductive ThreadSt where
  | free | suspended | ready | running | waiting | sleeping | faulted
  deriving DecidableEq, Repr

/-- How a WAIT in progress has ended at the event queue's acceptance, the comparator of R340. -/
inductive WaitEnd where
  | open | event | timeout
  deriving DecidableEq, Repr

/-- A thread control block (R332). -/
structure Thread where
  st : ThreadSt
  owner : Bool
  prio : Nat
  affinity : Nat
  lastPair : Nat
  waitCh : Nat
  /-- Delay-list deadline, 0 = none. -/
  deadline : Nat
  ended : WaitEnd
  /-- The result its last blocking command returns (R333). -/
  result : Nat
  /-- Set once KS_MSN_CNT_STRANDED has counted it (R341). -/
  stranded : Bool
  deriving DecidableEq, Repr

/-- An entry of the event queue, or one a producer offers (R336). tid is the thread of a delay expiry. -/
structure MEvent where
  channel : Nat
  source : Nat
  kind : Nat
  count : Nat
  tb : Nat
  tid : Nat
  deriving DecidableEq, Repr

/-- A pair's own state beyond its registers: KS_MSN_ARG as last written, the context frame of the thread it runs, the frame in its
prefetch slot, and the thread whose context is being written to its frame, with the state that thread takes then. -/
structure Pair where
  arg : Nat
  ctx : List Byte
  slotCtx : List Byte
  saving : Option (Nat × ThreadSt)
  /-- The V-cycle from which BUSY_CYCLES or IDLE_CYCLES is still to be counted (R344). -/
  runSince : Nat
  /-- TB at which the present thread came to the pair (R338). -/
  runTb : Nat
  /-- TB of the last return to service after a lockstep mismatch, 0 = none (R480). -/
  returnTb : Nat
  /-- Set while the pair sounding of R480 runs. -/
  retesting : Bool
  deriving DecidableEq, Repr

/-- Mason's own state beyond its registers. -/
structure Mason where
  threads : Tbl Thread
  /-- Ready threads in the order they entered READY; a preempted thread stands at the front. -/
  ready : List Nat
  /-- Woken or resumed threads that have not entered READY yet (R337). -/
  waking : List Nat
  /-- The delay list, in deadline order, ties in insertion order: (deadline, thread). -/
  delays : List (Nat × Nat)
  /-- Expired entries at the head of the list that are still to be offered. -/
  expired : List Nat
  offers : List MEvent
  evq : List MEvent
  pairs : List Pair
  /-- PENDING and the bound thread of each channel: (count, TID or 0xFFFF). -/
  channels : Tbl (Nat × Nat)
  /-- TB of the last microsecond tick handled. -/
  lastTick : Nat
  deriving DecidableEq, Repr

def Thread.none : Thread := ⟨.free, false, 0, 0, 0, 0, 0, .open, 0, false⟩

def Pair.reset : Pair := ⟨0, [], [], none, 0, 0, 0, false⟩

def Mason.reset : Mason := ⟨[], [], [], [], [], [], [], [Pair.reset, Pair.reset, Pair.reset, Pair.reset], [], 0⟩


/-! ### Queues and interrupts -/

/-- How far a job is that holds a result-buffer entry (R355, R357). -/
inductive JobSt where
  /-- A fetch read has been issued and no entry has come back. -/
  | fetching
  /-- Checked; it has not started. -/
  | checked
  /-- Started; its completion is not ready. -/
  | started
  /-- Its completion is ready and waits for its turn or for room in the CQ. -/
  | ready
  deriving DecidableEq, Repr

/-- A result-buffer entry of a queue (R357): a job, or an emit completion with its three words. -/
structure BufEnt where
  emit : Bool
  job : JobRef
  /-- The submission entry's words, or an emit completion's words 0 to 2. -/
  words : List Nat
  /-- The SQ index the entry was fetched from. -/
  slot : Nat
  st : JobSt
  status : Nat
  info : Nat
  /-- Word 3 bit 3 of an emit completion (R363). -/
  ledger : Bool
  /-- For an emit: whether the CQ's vector is sent after it (R362). -/
  irq : Bool
  /-- For an emit: the run and HOST_EMIT node it answers (R77). -/
  owner : Option (Nat × Nat)
  /-- It has waited for room in the CQ (R371). -/
  held : Bool
  deriving DecidableEq, Repr

/-- A queue pair's creation parameters, ring phase and result buffer (R351, R357, R361). -/
structure Queue where
  sqBase : Nat
  cqBase : Nat
  sqLog2 : Nat
  cqLog2 : Nat
  vector : Nat
  vectorEn : Bool
  stallMs : Nat
  /-- The PHASE bit of the next completion entry. -/
  phase : Bool
  buf : List BufEnt
  /-- Time the present stall has been suspended in D3hot (R418), in ns. -/
  paused : Nat
  /-- The DELETE_QUEUE job that waits for this queue (R361). -/
  deleter : Option JobRef
  deriving DecidableEq, Repr

/-- A FENCE wait in progress (R360); deadline is the TB its timeout ends at, 0 = none. -/
structure FenceWait where
  job : JobRef
  token : Nat
  value : Nat
  deadline : Nat
  deriving DecidableEq, Repr

/-- An MSI-X table entry (R364). -/
structure MsixEnt where
  addr : Nat
  data : Nat
  masked : Bool
  deriving DecidableEq, Repr

/-- The queue engine, the function and its timebase exchange. -/
structure HostIf where
  queues : Tbl Queue
  fences : List FenceWait
  msix : Tbl MsixEnt
  pba : List Nat
  fnMasked : Bool
  /-- Where the weighted round robin stands: grants left to each class in this round, and the last QID granted per class (R356). -/
  grants : List Nat
  lastQid : List Nat
  /-- Consecutive PTM exchanges within 50 ns, whether a first one has succeeded, and whether a request is out (R368). -/
  ptmGood : Nat
  ptmDone : Bool
  ptmOut : Bool
  ptmNext : Nat
  /-- TB at which the request that is out was issued. -/
  ptmAt : Nat
  /-- The correction still owed to the timebase, in elevenths of a nanosecond (R368, R400). -/
  slew : Int
  /-- The last answer to a BAR2 read: data, Unsupported Request, and the EP bit (R349). -/
  bar2Data : List Byte
  bar2Ur : Bool
  bar2Ep : Bool
  /-- The last value a register read returned. -/
  readData : Nat
  /-- The last register read was answered with Unsupported Request (R420). -/
  readUr : Bool
  /-- BAR2's size as a power of two (R347). -/
  bar2Log2 : Nat
  /-- True in D3hot, with the host-bound writes held there (R418). -/
  d3hot : Bool
  /-- TB at which D3hot was entered. -/
  d3Since : Nat
  heldWrites : List (Nat × List Byte)
  /-- Errors reported through AER, by status. -/
  aer : List Nat
  /-- Whether the link is up, and in L1. -/
  linkUp : Bool
  linkL1 : Bool
  deriving DecidableEq, Repr

def Queue.none : Queue := ⟨0, 0, 6, 6, 0, false, 0, true, [], 0, .none⟩

def MsixEnt.reset : MsixEnt := ⟨0, 0, true⟩

def HostIf.reset : HostIf where
  queues := []
  fences := []
  msix := []
  pba := []
  fnMasked := true
  grants := [0, 0, 0, 0, 0, 0, 0]
  lastQid := [0, 0, 0, 0, 0, 0, 0, 0]
  ptmGood := 0
  ptmDone := false
  ptmOut := false
  ptmNext := 0
  ptmAt := 0
  slew := 0
  bar2Data := []
  bar2Ur := false
  bar2Ep := false
  readData := 0
  readUr := false
  bar2Log2 := 34
  d3hot := false
  d3Since := 0
  heldWrites := []
  aer := []
  linkUp := false
  linkL1 := false


/-! ### LPDDR5X -/

/-- The steps of an evacuation (R381): copying out, training, copying back, or the channel emptied for good (R383). -/
inductive EvacStep where
  | out | training | back | gone
  deriving DecidableEq, Repr

/-- An evacuation: its channel, step and whether it is permanent (R381, R383). -/
structure Evac where
  ch : Nat
  step : EvacStep
  permanent : Bool
  deriving DecidableEq, Repr

/-- The memory subsystem beyond its registers: channels queued for retraining (R380), channels to be retired (R383), the evacuation under
way, uncorrectable errors as (channel, TB), self-refresh, and tracking still settling after it (R379). -/
structure Ddr where
  queue : List Nat
  retire : List Nat
  evac : Option Evac
  errors : List (Nat × Nat)
  selfRefresh : Bool
  settling : Bool
  deriving DecidableEq, Repr

/-! ### Dravig -/

/-- A flit that has been sent and not acknowledged (R388): its sequence number, virtual channel, the packet it carries a part of, and the TB
its replay timer counts from. -/
structure TxFlit where
  seq : Nat
  vc : Nat
  pk : DrvPacket
  tb : Nat
  deriving DecidableEq, Repr

/-- A packet that waits at a port: its virtual channel and the flits of it still to send. -/
structure TxWait where
  vc : Nat
  pk : DrvPacket
  left : Nat
  deriving DecidableEq, Repr

/-- A Dravig port beyond its registers (R386 to R388, R401, R402): the training step it is in and the steps it has failed, the widest WIDTH
code it may take, whether HELLO has matched, the sequence numbers of the next flit to send and to receive, what its next flit acknowledges, the
credits it holds on each virtual channel, the credits it owes, the replay buffer, what waits, the TBs of replays, the TB since which it has sent
nothing for want of a credit, + 1, and whether ENABLE has been written 0 since the port last trained. -/
structure DPort where
  step : Nat
  fails : Nat
  cap : Nat
  hello : Bool
  txSeq : Nat
  rxSeq : Nat
  ackValid : Bool
  nack : Bool
  credits : List Nat
  owed : List Nat
  replay : List TxFlit
  queue : List TxWait
  replays : List Nat
  stall : Nat
  off : Bool
  deriving DecidableEq, Repr

/-- A packet that has not been answered (R393): its destination, PSEQ and TAG, the DRAVIG_SEND it belongs to and its item, window and
offset, where its read data goes, and the TB it was sent at. -/
structure Unans where
  dest : Nat
  pseq : Nat
  tag : Nat
  send : Nat
  item : Nat
  window : Nat
  offset : Nat
  isRead : Bool
  addr : Nat
  len : Nat
  tb : Nat
  deriving DecidableEq, Repr

/-- A DRAVIG_SEND instance whose packets have not all been answered (R398): its number, run and node, its items' words, where its
answer record goes, the item and the bytes of it issued so far, the generations captured for its SIGNAL items, and the counts and first
failure of the record: status, item, window and offset. -/
structure SendOp where
  id : Nat
  run : Nat
  node : Nat
  items : List (List Nat)
  stride : Nat
  record : Nat
  item : Nat
  done : Nat
  gens : List Nat
  packets : Nat
  refused : Nat
  first : List Nat
  deriving DecidableEq, Repr

/-- Dravig's own state beyond its registers: the ports, the next PSEQ to a destination and the next expected from a source, packets held for a gap
with the port they came in on (R392), packets kept back at ports while the reorder store is full, unanswered packets, DRAVIG_SEND instances, the
packets applied from a source that no answer covers yet with the last of them (R393), the port that last applied a packet to each window, + 1,
the next TAG and instance number, and the time exchange: a request is out, one has succeeded, those within 50 ns, and when the next is due
(R400). -/
structure Dravig where
  ports : Tbl DPort
  nextSeq : Tbl Nat
  expect : Tbl Nat
  held : List (Nat × DrvPacket)
  kept : List (Nat × DrvPacket)
  unans : List Unans
  sends : List SendOp
  covered : Tbl (Nat × Nat)
  lastPort : Tbl Nat
  tag : Nat
  nextSend : Nat
  syncOut : Bool
  syncDone : Bool
  syncGood : Nat
  syncNext : Nat
  deriving DecidableEq, Repr

def DPort.reset : DPort := ⟨0, 0, 0, false, 0, 0, false, false, [32, 32], [0, 0], [], [], [], 0, false⟩

def Dravig.reset : Dravig := ⟨[], [], [], [], [], [], [], [], [], 0, 0, false, false, 0, 0⟩


/-! ### Power, clocks and thermal control -/

/-- Where a level transition stands (R408): its AVSBus voltage write is out, the regulator slews, or the confirming read is out. -/
inductive ShiftStep where
  | write | slew | confirm
  deriving DecidableEq, Repr

/-- A level transition of a domain (R408): the level it goes to, whether that is faster, and whether it was cancelled and only writes the
voltage back. -/
structure Shift where
  target : Nat
  faster : Bool
  back : Bool
  step : ShiftStep
  deriving DecidableEq, Repr

/-- A power domain beyond its registers (R412 to R414): the sleep state its entry goes to (0 none, 1 S1, 2 S2), the TB the entry began, whether a
wake came in during it, the TB an access stalled at, + 1, and the TB its idle timer counts from. -/
structure DomSt where
  goal : Nat
  start : Nat
  wake : Bool
  stall : Nat
  idleFrom : Nat
  deriving DecidableEq, Repr

/-- Power control beyond its registers: the thermal and cap levels of R407; the transitions of domains A and V with the TB of the next AVSBus retry, 0 = not
held; failures of a frame in a row by rail; the cap controller's count of samples above the cap, the TB since which every sample was low, + 1, its hold in
ms, its last step as (TB + 1, was it to a faster level) and the TB of its last step down, + 1; samples above a cap that cannot be held; sensors
at 115 °C or more in the last sample; channels whose MR4 reads above range; domains; the alarm set at S3 entry, a wake seen while S3 is being
entered; and whether REFCLK25 has stopped. -/
structure Power where
  capLevel : Nat
  thermalA : Nat
  thermalV : Nat
  shifts : List (Option Shift)
  retry : List Nat
  fails : List Nat
  overCap : Nat
  lowSince : Nat
  hold : Nat
  lastStep : Nat × Bool
  lastDown : Nat
  unheld : Nat
  hot : List Nat
  mr4Hot : List Nat
  doms : Tbl DomSt
  alarm : Nat
  s3Wake : Option Nat
  refStopped : Bool
  deriving DecidableEq, Repr

def DomSt.reset : DomSt := ⟨0, 0, false, 0, 0⟩

def Power.reset : Power where
  capLevel := 0
  thermalA := 0
  thermalV := 0
  shifts := [.none, .none]
  retry := [0, 0]
  fails := [0, 0, 0]
  overCap := 0
  lowSince := 0
  hold := 10
  lastStep := (0, false)
  lastDown := 0
  unheld := 0
  hot := []
  mr4Hot := []
  doms := []
  alarm := 0
  s3Wake := .none
  refStopped := false



/-! ### Security core and boot -/

/-- What the device knows of a firmware image it has accepted (R434): FW_VERSION, COMPAT_MIN, KEY_SLOT, ROLLBACK_VERSION and the SHA-256 of the
image without its trailer. -/
structure FwInfo where
  version : Nat
  compat : Nat
  slot : Nat
  rollback : Nat
  digest : List Byte
  deriving DecidableEq, Repr

/-- What a firmware image under check is for: boot from the NOR, boot from host-placed memory, or the staged bank (R435, R437, R439). -/
inductive ImgUse where
  | norBoot | hostBoot | stage
  deriving DecidableEq, Repr

/-- A firmware image under check, with the step of R434 that it failed already, by status. -/
structure ImgRun where
  use : ImgUse
  bytes : List Byte
  early : Option Nat
  deriving DecidableEq, Repr

/-- An accepted cornerstone command whose rows are being burned (R450, R451): its OP, KEY_SLOT, record ARG, the data rows and their bits, and its
digest. -/
structure Change where
  /-- The TB at which it started to burn (R451). -/
  since : Nat
  op : Nat
  slot : Nat
  arg : Nat
  rows : List (Nat × Nat)
  digest : List Byte
  deriving DecidableEq, Repr

/-- Where boot stands (R435): waiting for the root PLL, in ROM or firmware fetch, image accepted and waiting for step 7, or past step 7. -/
inductive BootAt where
  | pll | rom | started | ready
  deriving DecidableEq, Repr

/-- A handover under way (R439): the pair that drains, whether its new kernel may be started, and the TB its 100 ms count from. -/
structure Handover where
  pair : Nat
  since : Nat
  deriving DecidableEq, Repr

/-- A COUNTER_SNAP whose capture or transfer has not ended (R489 to R492), with the counters captured. -/
structure Snap where
  set : Nat
  job : Option JobRef
  taken : Bool
  counts : List Nat
  deriving DecidableEq, Repr

/-- A unit inside its isolation wrapper's reset sequence (R431), with the job that asked for it. -/
structure UReset where
  unit : Nat
  job : Option JobRef
  since : Nat
  deriving DecidableEq, Repr

/-- What the SPDM responder last answered through the DOE mailbox (R456 to R458): nothing yet; versions; the capabilities CERT, CHAL and MEAS with signatures, and
the longest message; that the algorithms of R456 are chosen; the digest of the chain of slot 0; a portion of it and how much remains; a challenge
answered with the chain's digest, a nonce and a signature; measurements as (index, value type, value) with how many there are and, where asked for, a
nonce and a signature; or an error, UnsupportedRequest or another. -/
inductive SpdmAnswer where
  | silent
  | version (major minor : Nat)
  | capabilities (cert chal meas : Bool) (longest : Nat)
  | algorithms
  | digests (chain : List Byte)
  | certificate (portion : List Byte) (rest : Nat)
  | challengeAuth (chain nonce signature : List Byte)
  | measurements (count : Nat) (blocks : List (Nat × Nat × List Byte)) (nonce signature : List Byte)
  | unsupportedRequest
  | invalidRequest
  deriving DecidableEq, Repr

/-- The security core, boot, resets and the observability units beyond their registers: where boot stands, whether the link, DRAM training and
error injection of boot have ended, the image under check, the images in the running and the staged bank, whether bank B is the running one, a handover
and the pairs on the new bank, the change being burned, model keys, whether a debug challenge is held, digests of service images, the last SPDM answer,
the last watchdog kick, a chip reset asked for by software
with its TB, units in reset, snapshots under way, the requester and result of each unit's last claim, and the loaded JTAG instruction with its data register. -/
structure Sec where
  boot : BootAt
  trained : Bool
  image : Option ImgRun
  running : Option FwInfo
  staged : Option FwInfo
  bankB : Bool
  handover : Option Handover
  moved : List Nat
  change : Option Change
  mkeys : Tbl (List Byte)
  challenge : Bool
  services : List (List Byte)
  doe : SpdmAnswer
  kick : Nat
  resetAt : Option Nat
  resets : List UReset
  snaps : List Snap
  claims : Tbl (Nat × Nat)
  deriving DecidableEq, Repr

def Sec.reset : Sec where
  boot := .pll
  trained := false
  image := .none
  running := .none
  staged := .none
  bankB := false
  handover := .none
  moved := []
  change := .none
  mkeys := []
  challenge := false
  services := []
  doe := .silent
  kick := 0
  resetAt := .none
  resets := []
  snaps := []
  claims := []

/-- The TAP's instructions (R505); an undriven TAP stays in reset (R517). -/
inductive TapIns where
  | reset | bypass | idcode | samplePreload | extest | extestPulse | extestTrain | clamp | highz
  deriving DecidableEq, Repr

/-- The JTAG port: the instruction loaded, the value its data register captured, the levels preloaded for the balls, and whether the scan holds the
balls. -/
structure Tap where
  ins : TapIns
  dr : Nat
  preload : List Bool
  held : Bool
  deriving DecidableEq, Repr

def Tap.reset : Tap := ⟨.reset, 0, [], false⟩

/-- GPIO and the general timers beyond their registers (R501, R504): the level of each GPIO ball from outside, each timer's output, and the TB of its next
expiry, + 1. -/
structure Balls where
  gpio : Nat
  timers : Nat
  next : Tbl Nat
  deriving DecidableEq, Repr



/-! ### Safety manager -/

/-- A sounding slot's own state beyond its registers (R470 to R476). -/
structure Sounding where
  running : Bool
  /-- The immediate re-sounding of R476 is under way. -/
  again : Bool
  /-- TB at which the sounding under way started. -/
  startTb : Nat
  /-- Set when a sounding is to be taken at the unit's next boundary. -/
  forced : Bool
  /-- The profile the slot's last sounding started under (R485). -/
  underNew : Bool
  /-- Node instances, as (run, node), that were ready for the unit when the sounding started (R473). -/
  waiting : List (Nat × Nat)
  /-- LAST_START_TB before the sounding under way (R475). -/
  prev : Nat
  /-- The V-cycle the unit was taken in: a re-sounding holds it on. -/
  startV : Nat
  deriving DecidableEq, Repr

/-- An entry of a unit's touch table (R477): a graph in flight that was dispatched or resumed on the unit, its anchor context and frame
counter, in the order they came; FIRST and LAST of a context are its first and last entries, and the entries of context 0xFF are the
trigger count. -/
structure Touch where
  unit : Nat
  run : Nat
  ctx : Nat
  fc : Nat
  deriving DecidableEq, Repr

/-- The safety manager's own state beyond its registers. -/
structure Safety where
  pin0 : Bool
  pin1 : Bool
  /-- TB of the next toggle of the heartbeat, 0 = none, and of the checker's last refresh (R469). -/
  hbNext : Nat
  hbRefresh : Nat
  /-- ESCALATE_RESET of the profile in force. -/
  escalate : Bool
  /-- The SAFETY_PROFILE words committed and not yet wholly in force (R485). -/
  nextProfile : Option (List Nat)
  /-- Start-time injection has passed (R484). -/
  injected : Bool
  /-- The sounding set has been written and expanded (R471). -/
  setReady : Bool
  /-- A handover has brought firmware whose sounding set has not been written, and each slot's EXPECTED still to come with that set (R471). -/
  newSet : Bool
  newExpected : List (Nat × Nat)
  slots : Tbl Sounding
  touches : List Touch
  /-- A chip reset that has been asked for, with its PWR_RESET_CAUSE bit (R428). -/
  resetAsk : Option Nat
  /-- Units the safety manager is asked to retire (R301). -/
  retireAsk : List Nat
  /-- The last watchdog kick and heartbeat causes kept for a reset that re-enters SAFE_DEGRADED (R482). -/
  stickyCause : Option (Nat × Nat × Nat)
  /-- Counters of retired cores as they last stood, by physical core, for COUNTER_SNAP until the next chip reset (R258). -/
  lostCounters : Tbl (List Nat)
  deriving DecidableEq, Repr

def Sounding.none : Sounding := ⟨false, false, 0, false, false, [], 0, 0⟩

def Safety.reset : Safety where
  pin0 := false
  pin1 := false
  hbNext := 0
  hbRefresh := 0
  escalate := false
  nextProfile := none
  injected := false
  setReady := false
  newSet := false
  newExpected := []
  slots := []
  touches := []
  resetAsk := none
  retireAsk := []
  stickyCause := none
  lostCounters := []


/-! ### Trace -/

/-- The trace unit: records accepted and not yet written, and the SEQ of the next one (R494). -/
structure Tracer where
  queue : List (List Nat)
  seq : Nat
  deriving DecidableEq, Repr

/-- Everything of the device but its memories, its one-time-programmable array and the command queue. -/
structure Dev where
  /-- The clocks (R11). -/
  clk : Clk
  /-- The register file: the value of each field copy that differs from its reset value, by bit address. -/
  regs : Tbl Nat
  /-- RW1 field copies that have taken their first write since reset (R8). -/
  locked1 : List Nat
  /-- The high-half latch of each requester: the register's offset and the latched half (R7). -/
  latches : Tbl (Nat × Nat)
  /-- The physical core that holds each logical core (R14). -/
  cores : List Nat
  /-- Unit IDs retired (R18, R31). -/
  retired : List Nat
  /-- Error records held on chip, oldest first (R369). -/
  errHeld : List (List Nat)
  /-- The model's own counter that free values are drawn with; not the spec's. -/
  fresh : Nat
  /-- The generator of perturbation choices (R497). -/
  tst : Nat
  /-- The loader and the configuration (R33 to R54). -/
  ldr : Loader
  /-- The Keystone sequencer (R55 to R82). -/
  ks : Keystone
  /-- The queue engine, the PCIe function and its interrupts (R345 to R371). -/
  hif : HostIf
  /-- The trace unit (R494). -/
  trc : Tracer
  /-- Mason and the control pairs (R329 to R344). -/
  msn : Mason
  /-- The safety manager (R467 to R487). -/
  saf : Safety
  /-- Sensor ingress and stream contexts (R104 to R128, R525). -/
  ing : Ingress
  /-- The node each engine works on and how far it is, by unit ID; a seam stage is its plumb unit + 0x100 (R55). -/
  eng : Tbl EngRun
  /-- The image pipelines (R129 to R152). -/
  isp : Isp
  /-- The ashlar cores' tasks, by logical core (R229 to R257). -/
  ash : Tbl CoreSt
  /-- ECC scrubbing and row sparing of tile stores and Quarry (R297 to R301). -/
  ecc : EccSt
  /-- The LPDDR5X subsystem (R373 to R385). -/
  ddr : Ddr
  /-- The copy engines (R314 to R328). -/
  cpy : CopySt
  /-- Dravig (R386 to R404). -/
  drv : Dravig
  /-- Power, clocks and thermal control (R405 to R422). -/
  pwr : Power
  /-- The security core, boot, resets, snapshots and claims (R423 to R464, R488 to R501). -/
  sec : Sec
  /-- The JTAG port (R505, R506). -/
  tap : Tap
  /-- GPIO and the general timers (R501, R504). -/
  balls : Balls
  /-- Ring links out of service, 0 to 3 (R15). -/
  ring : List Nat
  deriving DecidableEq, Repr

/-- The device right after power-on reset. -/
def Dev.reset : Dev where
  clk := ⟨0, 0⟩
  regs := []
  locked1 := []
  latches := []
  cores := Config.resetCores
  retired := []
  errHeld := []
  fresh := 0
  tst := 0
  ldr := Loader.reset
  ks := Keystone.reset
  hif := HostIf.reset
  trc := ⟨[], 0⟩
  msn := Mason.reset
  saf := Safety.reset
  ing := Ingress.reset
  eng := []
  isp := ⟨[], []⟩
  ash := []
  ecc := ⟨[], [], []⟩
  ddr := ⟨[], [], none, [], false, false⟩
  cpy := ⟨[], []⟩
  drv := Dravig.reset
  pwr := Power.reset
  sec := Sec.reset
  tap := Tap.reset
  balls := ⟨0, 0, []⟩
  ring := []

/-! ### The whole state -/

/-- The memories right after power-on reset: nothing listed, every byte reads 0. -/
def MemState.reset : MemState := ⟨[], [], [], [], [], []⟩

/-- The state of the device. -/
structure State where
  /-- Commands that wait, first in, first out. -/
  pending : List Instr
  /-- The one-time-programmable array (R446). -/
  otp : Otp
  /-- The memories. -/
  mem : MemState
  /-- Everything else. -/
  dev : Dev
  deriving DecidableEq, Repr

/-- The state right after power-on reset: every field at the value the spec states for it, and where it states none at the
value the assumption log names. -/
def State.reset : State := ⟨[], Otp.reset, MemState.reset, Dev.reset⟩

/-- Why a step stops with a fault. -/
inductive Fault where
  /-- No meaning raises it: the spec gives every command an effect. Safe. -/
  | unreachable
  deriving DecidableEq, Repr

/-- Why a step refuses a command. -/
inductive Refusal where
  /-- A command whose meaning has not been written; raised by its arm of exec. Safe. -/
  | notModelled (mnemonic : String)
  deriving DecidableEq, Repr

end Sys2Proof.Machine
end

