-- ==== Sys2Proof/Machine/Ops.lean ====
section
/-! DEFINITION. The named operations every meaning is built from: the working copy a command changes and the one commit that
applies it, memory access by address range, the register file, error and trace records, completions and interrupts. -/

namespace Sys2Proof.Machine

open Config

/-! ### Memories -/

/-- The cells of one memory. -/
def MemState.cells (m : MemState) : Space → List Host.Cell
  | .dev => m.dev
  | .host => m.host
  | .course => m.course
  | .ctl => m.ctl
  | .nor => m.nor

/-- The memory with the cells of one space replaced. -/
def MemState.setCells (m : MemState) (sp : Space) (c : List Host.Cell) : MemState :=
  match sp with
  | .dev => { m with dev := c }
  | .host => { m with host := c }
  | .course => { m with course := c }
  | .ctl => { m with ctl := c }
  | .nor => { m with nor := c }

/-- The byte at an address; an unlisted address reads 0 (DESIGN CHOICE, log entry 3). -/
def MemState.byte (m : MemState) (sp : Space) (a : Nat) : Byte := tget 0#8 (m.cells sp) a

/-- Store bytes at rising addresses. -/
def putCells : List Host.Cell → Nat → List Byte → List Host.Cell
  | c, _, [] => c
  | c, a, b :: bs => putCells (tset 0#8 c a b) (a + 1) bs

/-- Apply one change of memory. -/
def MemState.apply (m : MemState) : MemOp → MemState
  | .put sp a bs => m.setCells sp (putCells (m.cells sp) a bs)
  | .clear sp lo hi =>
    let m := m.setCells sp ((m.cells sp).filter (fun c => decide (c.1 < lo) || decide (hi ≤ c.1)))
    if sp = .dev then { m with poison := m.poison.filter (fun c => decide (8 * c.1 < lo) || decide (hi ≤ 8 * c.1)) } else m
  | .poison a on => { m with poison := tset false m.poison (a / 8) on }

/-- Apply changes of memory, oldest first. -/
def MemState.applyAll (m : MemState) : List MemOp → MemState
  | [] => m
  | o :: os => (m.apply o).applyAll os

/-- The canonical form of every memory. -/
def MemState.wf (m : MemState) : Bool :=
  twf 0#8 m.dev && twf 0#8 m.host && twf 0#8 m.course && twf 0#8 m.ctl && twf 0#8 m.nor && twf false m.poison

/-! ### Working copy and commit -/

/-- What a command works on: the state it started from, the device as changed so far, the changes of memory made so far,
newest first, and the OTP bits burned, as (row, bits). -/
structure Work where
  s0 : State
  d : Dev
  mops : List MemOp
  burns : List (Nat × Nat)

/-- A working copy with nothing changed. -/
def Work.start (s : State) : Work := ⟨s, s.dev, [], []⟩

/-- Burn bits of OTP rows: a burned bit stays burned (R446, R451). -/
def Otp.burnAll (o : Otp) : List (Nat × Nat) → Otp
  | [] => o
  | (r, b) :: bs => Otp.burnAll { o with rows := tset 0 o.rows r (Nat.lor (tget 0 o.rows r) b) } bs

/-- The state after a command: its memory changes applied in order, its OTP bits burned, its device state taken, and the
command queue untouched. -/
def State.commit (s : State) (w : Work) : State :=
  { s with otp := s.otp.burnAll w.burns.reverse, mem := s.mem.applyAll w.mops.reverse, dev := w.d }

/-- Run the effect of a command on a state. -/
def State.run (s : State) (f : Work → Work) : State := s.commit (f (Work.start s))

/-- The byte a single change of memory gives an address, if it gives one. -/
def MemOp.byteAt? (sp : Space) (a : Nat) : MemOp → Option Byte
  | .put sp' b bs => if sp = sp' ∧ b ≤ a ∧ a < b + bs.length then bs[a - b]? else none
  | .clear sp' lo hi => if sp = sp' ∧ lo ≤ a ∧ a < hi then some 0#8 else none
  | .poison _ _ => none

namespace Work

/-- The byte of a memory as the command sees it. -/
def byte (w : Work) (sp : Space) (a : Nat) : Byte :=
  match w.mops.findSome? (MemOp.byteAt? sp a) with
  | some b => b
  | none => w.s0.mem.byte sp a

/-- n bytes at rising addresses. -/
def bytes (w : Work) (sp : Space) (a : Nat) : Nat → List Byte
  | 0 => []
  | n + 1 => w.byte sp a :: bytes w sp (a + 1) n

/-- The little-endian number in n bytes. -/
def num (w : Work) (sp : Space) (a n : Nat) : Nat := leNat (w.bytes sp a n)

/-- Store bytes. -/
def put (w : Work) (sp : Space) (a : Nat) (bs : List Byte) : Work :=
  if bs.isEmpty then w else { w with mops := .put sp a bs :: w.mops }

/-- Is the 8-byte word of device memory at an address poisoned (R298)? -/
def poisonedAt (w : Work) (a : Nat) : Bool :=
  match w.mops.findSome? (fun o => match o with
    | .poison b on => if b / 8 = a / 8 then some on else none
    | .clear .dev lo hi => if lo ≤ a / 8 * 8 ∧ a / 8 * 8 < hi then some false else none
    | _ => none) with
  | some p => p
  | none => tget false w.s0.mem.poison (a / 8)

/-- Poison or clear the word at an address. -/
def setPoison (w : Work) (a : Nat) (on : Bool) : Work := { w with mops := .poison a on :: w.mops }

/-- Burn bits of an OTP row. -/
def burn (w : Work) (row v : Nat) : Work := { w with burns := (row, v) :: w.burns }

/-- An OTP row as the command sees it. -/
def otpRow (w : Work) (row : Nat) : Nat := tget 0 (w.s0.otp.burnAll w.burns.reverse).rows row

/-! ### Register file -/

/-- COUNT_A and COUNT_B of the block at a register offset (R27). -/
def capCounts (off : Nat) : Nat × Nat :=
  match off / 0x100000 with
  | 0 => (16, 15)
  | 1 => (4, 48)
  | 2 => (8192, 2048)
  | 3 => (256, 16384)
  | 4 => (64, 4)
  | 5 => (14, 2)
  | 6 => (64, 68)
  | 8 => (36, 16)
  | 9 => (32, 8533)
  | 10 => (4, 192)
  | 11 => (128, 2)
  | 12 => (4, 128)
  | 13 => (1536, 32)
  | 14 => (5, 0)
  | 15 => (32, 16)
  | _ => (0, 0)

/-- A capability register's value (R26). -/
def capValue (off : Nat) : Nat :=
  pack [(1, 0, 4), (1, 8, 8), ((capCounts off).1, 16, 16), ((capCounts off).2, 32, 16)]

end Work

/-- The unit a sounding slot tests, slots 90 to 127 being unused (R470). -/
def slotUnit (s : Nat) : Nat :=
  if s ≤ 67 then s else if s ≤ 75 then 0x50 + (s - 68) else if s ≤ 79 then 0x58 + (s - 76) else if s ≤ 81 then 0x5C + (s - 80)
  else if s ≤ 85 then 0x60 + (s - 82) else if s ≤ 87 then 0x74 + (s - 86) else if s ≤ 89 then 0x76 + (s - 88) else 0

/-- A slot's sounding length L_u in ns (R470). -/
def slotLength (s : Nat) : Nat :=
  if s ≤ 67 then 20000 else if s ≤ 75 then 15000 else if s ≤ 79 then 40000 else if s ≤ 81 then 25000
  else if s ≤ 85 then 20000 else if s ≤ 87 then 10000 else if s ≤ 89 then 5000 else 0

/-- A slot's boundary bound B_u in ns (R470); the ISP pipelines' depends on the configuration. -/
def slotBound (s : Nat) : Nat :=
  if s ≤ 67 then 20000 else if s ≤ 75 then 100000 else if s ≤ 79 then 2000000 else if s ≤ 81 then 500000
  else if s ≤ 85 then 0 else if s ≤ 87 then 100000 else if s ≤ 89 then 1000000 else 0

/-- The reset value of copy (i, j) of a field. -/
def Fld.resetAt (f : Fld) (i _j : Nat) : Nat :=
  match f.rst with
  | .const n => n
  | .cap => Work.capValue f.off
  | .phys => resetCores.getD i 0
  | .aperture => [0x0000000000, 0x0100000000, 0x4000000000, 0x4100000000].getD i 0
  | .slot =>
    if f = Reg.SLOT_UNIT then slotUnit i else if f = Reg.SLOT_LENGTH_NS then slotLength i
    else if f = Reg.SLOT_BOUND_NS then slotBound i else b2n (decide (i < 90))
  | .counterDir => 0

namespace Work

/-- The value of copy (i, j) of a field. -/
def rd (w : Work) (f : Fld) (i : Nat := 0) (j : Nat := 0) : Nat := tget (f.resetAt i j) w.d.regs (f.key i j)

/-- Set copy (i, j) of a field. -/
def wr (w : Work) (f : Fld) (v : Nat) (i : Nat := 0) (j : Nat := 0) : Work :=
  { w with d := { w.d with regs := tset (f.resetAt i j) w.d.regs (f.key i j) (low f.wid v) } }

/-- Add to copy (i, j) of a field, modulo its width (R9). -/
def add (w : Work) (f : Fld) (n : Nat) (i : Nat := 0) (j : Nat := 0) : Work := w.wr f (w.rd f i j + n) i j

/-- Count one event in a field (R9). -/
def inc (w : Work) (f : Fld) (i : Nat := 0) (j : Nat := 0) : Work := w.add f 1 i j

/-- Is a one-bit field set? -/
def on (w : Work) (f : Fld) (i : Nat := 0) (j : Nat := 0) : Bool := w.rd f i j == 1

/-- Raise a field to v where v is higher. -/
def raise (w : Work) (f : Fld) (v : Nat) (i : Nat := 0) (j : Nat := 0) : Work :=
  if w.rd f i j < v then w.wr f v i j else w

/-! ### Time -/

/-- The timebase, in whole nanoseconds (R11). -/
def now (w : Work) : Nat := w.d.clk.tb11 / 11

/-- Elevenths of a nanosecond in one V-cycle: 10 at V level P0 and 20 at P2 (R405, R406). -/
def vstep (w : Work) : Nat := 10 + 10 * w.rd Reg.PWR_LEVEL_V

/-- What n elevenths of a nanosecond of V-clock add of the correction owed to TB: at most one part in 5,000, so that TB never runs
backwards (R368). -/
def slewPart (w : Work) (n : Nat) : Int := clampI (-((n / 5000 : Nat) : Int)) ((n / 5000 : Nat) : Int) w.d.hif.slew

/-- Move the clocks on by a number of V-cycles. -/
def cycles (w : Work) (n : Nat) : Work :=
  let t := w.vstep * n
  let a := w.slewPart t
  { w with d := { w.d with
      clk := ⟨w.d.clk.vcycle + n, w.d.clk.tb11 + ((t : Int) + a).toNat⟩
      hif := { w.d.hif with slew := w.d.hif.slew - a } } }

/-- Move the clocks on to a V-cycle that lies ahead. -/
def reach (w : Work) (v : Nat) : Work := w.cycles (v - w.d.clk.vcycle)

/-- The V-cycles until TB has grown by a gap, in elevenths, under the correction owed to it. -/
def cyclesFor (w : Work) (gap : Nat) : Nat :=
  let v := w.vstep
  let s := w.d.hif.slew
  if gap = 0 then 0
  else if 0 ≤ s then max (ceilDiv (gap - s.toNat) v) (ceilDiv (5000 * gap) (5001 * v))
  else min (ceilDiv (gap + s.natAbs) v) (5000 * (gap - 1) / (4999 * v) + 1)

/-- Move the clocks on to the first V-cycle whose TB is at least t, where that lies ahead (DESIGN CHOICE, log entry 5). -/
def advance (w : Work) (t : Nat) : Work := w.cycles (w.cyclesFor (11 * t - w.d.clk.tb11))

/-- The first V-cycle whose TB is at least t is the present one: an arrival now meets a timeout at t (R74). -/
def atDue (w : Work) (t : Nat) : Bool := decide (t ≤ w.now ∧ (w.d.clk.tb11 < w.vstep ∨ (w.d.clk.tb11 - w.vstep) / 11 < t))

/-- An arrival at a unit whose timeout ends at a TB: under COLLIDE perturbation one that would come less than WINDOW_NS before it is held to the timeout's own
V-cycle (R498). -/
def collide (w : Work) (unit due : Nat) : Work :=
  if w.on Reg.SEC_DEBUG_UNLOCKED && bitAt (w.rd Reg.TST_EN) 4 && w.rd Reg.TST_TARGET == unit && decide (0 < w.rd Reg.TST_COLLIDE_LEFT) &&
      decide (w.now < due ∧ due < w.now + w.rd Reg.TST_WINDOW_NS) then
    (w.advance due).wr Reg.TST_COLLIDE_LEFT (w.rd Reg.TST_COLLIDE_LEFT - 1)
  else w

/-- One update of the generator of perturbation choices (R195, R497): the new number. -/
def perturb (w : Work) : Work × Nat :=
  let x := xorshift w.d.tst
  ({ w with d := { w.d with tst := x } }, x)

/-- Is a class of perturbation enabled (R496, R503)? -/
def perturbs (w : Work) (cls : Nat) : Bool := w.on Reg.SEC_DEBUG_UNLOCKED && bitAt (w.rd Reg.TST_EN) (cls - 1)

/-- Draw a free value of the given width (DESIGN CHOICE, log entry 4). -/
def free (w : Work) (wid : Nat) : Work × Nat :=
  ({ w with d := { w.d with fresh := w.d.fresh + 1 } }, low wid (freeNat w.d.fresh))

/-! ### Ranges of the device physical map -/

/-- DDR_TOP, the first unbacked address (R373). -/
def ddrTop (w : Work) : Nat := if w.s0.otp.partNumber = 0x6404 then 0x0F00000000 else 0x1E00000000

/-- Does [a, a + n) lie in backed LPDDR5X? -/
def inDram (w : Work) (a n : Nat) : Bool := decide (a + n ≤ w.ddrTop)

/-- Does [a, a + n) lie in the Quarry (R20)? -/
def inQuarry (a n : Nat) : Bool := decide (0x4000000000 ≤ a ∧ a + n ≤ 0x4024000000)

/-- Does [a, a + n) lie in the host window (R20)? -/
def inHostWin (a n : Nat) : Bool := decide (0x8000000000 ≤ a ∧ a + n ≤ 0xC000000000)

/-- Does [a, a + n) lie in the logical tile stores (R20)? -/
def inTiles (a n : Nat) : Bool := decide (0x4100000000 ≤ a ∧ a + n ≤ 0x4102000000)

/-- Does [a, a + n) lie in the physical tile-store aliases (R20)? -/
def inPhysTiles (a n : Nat) : Bool := decide (0x4200000000 ≤ a ∧ a + n ≤ 0x4202200000)

/-- The Quarry slab that holds a Quarry address (R20). -/
def slabOf (a : Nat) : Nat := (a - 0x4000000000) / 0x1000000

/-- A slab's role in the active CARVE (R40). -/
def role (w : Work) (slab : Nat) : Nat := w.rd Reg.SLAB_ROLE slab

/-- Does [a, a + n) lie wholly in slabs of one role? -/
def inRole (w : Work) (r a n : Nat) : Bool :=
  inQuarry a n && decide (0 < n) &&
    (List.range ((a + n - 1 - 0x4000000000) / 0x1000000 - slabOf a + 1)).all (fun k => w.role (slabOf a + k) == r)

/-- The storage address of a device physical address: a logical tile-store address becomes its physical store's (R23). A core without a physical core has
number 0xFF, and its alias then stands for the store that number names, past every physical one (DESIGN CHOICE, log entry 75). -/
def storage (w : Work) (a : Nat) : Nat :=
  if inTiles a 1 then
    0x4200000000 + w.d.cores.getD ((a - 0x4100000000) / 0x80000) 0 * 0x80000 + (a - 0x4100000000) % 0x80000
  else a

/-- The stretches of [a, a + n) that lie in one tile store each, as (address, bytes): physical stores need not follow one another as logical ones do
(R20, R23). A range outside the logical tile stores is one stretch. -/
def pieces (a n : Nat) : List (Nat × Nat) :=
  if !inTiles a 1 || decide (a / 0x80000 = (a + n - 1) / 0x80000) then [(a, n)]
  else (List.range ((a + n - 1) / 0x80000 + 1 - a / 0x80000)).map (fun k =>
    let lo := max a ((a / 0x80000 + k) * 0x80000)
    (lo, min (a + n) ((a / 0x80000 + k + 1) * 0x80000) - lo))

/-- The bus address of a host-window address, where its segment is enabled (R350). -/
def busAddr? (w : Work) (a : Nat) : Option Nat :=
  let n := (a - 0x8000000000) / 2 ^ 32
  if w.on Reg.QE_OB_EN n then some (w.rd Reg.QE_OB_HOST_ADDR n * 4096 + a % 2 ^ 32) else none

/-- A vision engine, ISP pipeline or plumb unit by unit ID (R18). -/
def isVision (u : Nat) : Bool :=
  decide ((0x50 ≤ u ∧ u ≤ 0x5D) ∨ (0x60 ≤ u ∧ u ≤ 0x63) ∨ u = 0x74 ∨ u = 0x75)

/-- May a unit read, or write, an unsealed slab of a role (R289)? Roles are 0 SPARE, 1 MODEL, 2 FRAME, 3 EXTEND,
4 CONTEXT, 5 SOUNDING (R40). -/
def roleAllows (u role : Nat) (write : Bool) : Bool :=
  if u = uSecurity ∨ u = uSafety then true
  else if isVision u then
    match role with
    | 1 => !write
    | 2 => true
    | 4 => decide (0x60 ≤ u ∧ u ≤ 0x63)
    | 5 => !write
    | _ => false
  else if u = 0x76 ∨ u = 0x77 then
    match role with
    | 1 => !write
    | 2 | 3 | 0 => true
    | _ => false
  else if u = uKeystone ∨ u = uMason ∨ (0x7A ≤ u ∧ u ≤ 0x7D) ∨ (0x64 ≤ u ∧ u ≤ 0x73) then
    match role with
    | 1 => !write
    | 2 | 4 => true
    | _ => false
  else if u = uHost ∨ u = uPcie then
    match role with
    | 1 | 4 | 5 => !write
    | _ => true
  else if 0x81 ≤ u ∧ u ≤ 0x84 then role == 2
  else true

/-- May a unit use a sealed slab (R455)? Only the ashlar cores' model fetches, the security core and the safety manager. -/
def sealAllows (u : Nat) : Bool := decide (u ≤ 0x43 ∨ u = uSecurity ∨ u = uSafety)

/-- The logical core a physical core holds, if it holds one (R14). -/
def logicalOf (w : Work) (p : Nat) : Option Nat := w.d.cores.findIdx? (fun x => x == p)

/-- Does the running task of the core that a tile-store byte belongs to use a model whose image is sealed (R455)? -/
def tileSealed (w : Work) (a : Nat) : Bool :=
  let c := if inTiles a 1 then some ((a - 0x4100000000) / 0x80000) else w.logicalOf ((a - 0x4200000000) / 0x80000)
  match c with
  | none => false
  | some c =>
    let k := tget CoreSt.idle w.d.ash c
    if k.phase = .idle then false
    else match w.d.ks.runs.find? (fun r => r.id == k.run) with
      | none => false
      | some r => match w.d.ldr.graphs.find? (fun g => g.seq == r.seq) with
        | none => false
        | some g => w.d.ldr.sealed.any (fun e => e.2 == bits (wd g.graph (15 + 8 * k.node)) 9 0 + 1)

/-- Is a read of tile stores refused to the host, the PCIe controller or a copy engine (R455)? -/
def tileRefused (w : Work) (u a n : Nat) (write : Bool) : Bool :=
  !write && decide (0 < n) && decide (u = uHost ∨ u = uPcie ∨ u = 0x76 ∨ u = 0x77) &&
    (List.range ((a + n - 1) / 0x80000 - a / 0x80000 + 1)).any (fun k => w.tileSealed (if k = 0 then a else (a / 0x80000 + k) * 0x80000))

/-- Why an access of n bytes at a device physical address by a unit is refused: none when it may proceed (R21, R22, R6,
R289, R350, R373, R455). -/
def refusal? (w : Work) (u a n : Nat) (write : Bool) : Option Nat :=
  if w.inDram a n then none
  else if inQuarry a n then
    let ss := (List.range ((a + n - 1 - 0x4000000000) / 0x1000000 - slabOf a + 1)).map (fun k => slabOf a + k)
    if n = 0 then none
    else if ss.all (fun s => (roleAllows u (w.role s) write || decide (u ≤ 0x43)) &&
        (tget 0 w.d.ldr.sealed s == 0 || sealAllows u)) then none
    else some stBoundFault
  else if inTiles a n then if w.tileRefused u a n write then some stBoundFault else none
  else if inPhysTiles a n then if (u = uSafety ∨ w.on Reg.SEC_DEBUG_UNLOCKED) ∧ !w.tileRefused u a n write then none else some stBoundFault
  else if inHostWin a n then if (w.busAddr? a).isSome then none else some stBoundFault
  else some stBoundFault

/-! ### Error records -/

/-- The words of an error record (R369). -/
def errWords (unit status info tb addr detail : Nat) : List Nat :=
  [pack [(unit, 0, 8), (status, 8, 8), (1, 16, 4)], low 32 info, low 32 tb, low 32 (tb / 2 ^ 32), low 32 addr,
    low 16 (addr / 2 ^ 32), low 32 detail, 0]

/-- Store bytes at a device physical address that has passed its checks: host-window bytes go to the bus, others to the
store they lie in, and every whole 8-byte word written stops being poisoned (R298). In D3hot the host's bytes are held
(R418). -/
def store (w : Work) (a : Nat) (bs : List Byte) : Work :=
  if inHostWin a 1 then
    match w.busAddr? a with
    | none => w
    | some b =>
      if w.d.hif.d3hot then { w with d := { w.d with hif := { w.d.hif with heldWrites := w.d.hif.heldWrites ++ [(b, bs)] } } }
      else w.put .host b bs
  else
    (pieces a bs.length).foldl (fun w p =>
      let sa := w.storage p.1
      let first := ceilDiv sa 8
      let last := (sa + p.2) / 8
      let healed := (List.range (last - first)).foldl
        (fun w' k => if w'.poisonedAt ((first + k) * 8) then w'.setPoison ((first + k) * 8) false else w') w
      healed.put .dev sa ((bs.drop (p.1 - a)).take p.2)) w

/-- Read bytes at a device physical address that has passed its checks. -/
def fetch (w : Work) (a n : Nat) : List Byte :=
  if inHostWin a 1 then
    match w.busAddr? a with
    | none => []
    | some b => w.bytes .host b n
  else (pieces a n).flatMap (fun p => w.bytes .dev (w.storage p.1) p.2)

/-- Does a read of [a, a + n) meet a poisoned word (R298)? -/
def meetsPoison (w : Work) (a n : Nat) : Bool :=
  if inHostWin a 1 || n == 0 then false
  else (List.range ((a + n - 1) / 8 - a / 8 + 1)).any (fun k => w.poisonedAt (w.storage ((a / 8 + k) * 8)))

/-- Send an MSI-X message (R364): a masked vector or function sets its PBA bit; otherwise the message is written to host
memory, or held there in D3hot (R418). -/
def sendVector (w : Work) (v : Nat) : Work :=
  let e := tget MsixEnt.reset w.d.hif.msix v
  if w.d.hif.fnMasked || e.masked then
    if w.d.hif.pba.contains v then w else { w with d := { w.d with hif := { w.d.hif with pba := v :: w.d.hif.pba } } }
  else if w.d.hif.d3hot then
    { w with d := { w.d with hif := { w.d.hif with heldWrites := w.d.hif.heldWrites ++ [(e.addr, leBytes 4 e.data)] } } }
  else w.put .host e.addr (leBytes 4 e.data)

/-- Write one record to the error ring, hold it while no base is set, or drop and count it (R369). -/
def errPut (w : Work) (ws : List Nat) : Work :=
  let base := w.rd Reg.QE_ERR_RING_BASE
  if base = 0 then
    if w.d.errHeld.length < 64 then { w with d := { w.d with errHeld := w.d.errHeld ++ [ws] } }
    else w.inc Reg.QE_CNT_ERR_LOST
  else
    let size := 2 ^ w.rd Reg.QE_ERR_LOG2
    let tail := w.rd Reg.QE_ERR_TAIL
    let next := (tail + 1) % size
    let a := base + 32 * tail
    if next = w.rd Reg.QE_ERR_HEAD ∨ (w.refusal? uPcie a 32 true).isSome then w.inc Reg.QE_CNT_ERR_LOST
    else
      let w := (w.store a (wordsBytes ws)).wr Reg.QE_ERR_TAIL next
      if w.on Reg.QE_ERR_VECTOR_EN then w.sendVector (w.rd Reg.QE_ERR_VECTOR) else w

/-- Write an error record at the present TB (R369). -/
def err (w : Work) (unit status : Nat) (info : Nat := 0) (addr : Nat := 0) (detail : Nat := 0) : Work :=
  w.errPut (errWords unit status info w.now addr detail)

/-- Log an event: a record with status 0 (R369). -/
def log (w : Work) (unit : Nat) (info : Nat := 0) (addr : Nat := 0) (detail : Nat := 0) : Work :=
  w.err unit stOk info addr detail

/-- Replace the loader. -/
def setLdr (w : Work) (x : Loader) : Work := { w with d := { w.d with ldr := x } }

/-- Replace the Keystone. -/
def setKs (w : Work) (x : Keystone) : Work := { w with d := { w.d with ks := x } }

/-- Replace the host interface. -/
def setHif (w : Work) (x : HostIf) : Work := { w with d := { w.d with hif := x } }

/-- Replace Mason. -/
def setMsn (w : Work) (x : Mason) : Work := { w with d := { w.d with msn := x } }

/-- Replace the safety manager. -/
def setSaf (w : Work) (x : Safety) : Work := { w with d := { w.d with saf := x } }

/-- Offer an event to Mason's queue (R336): it waits with its producer until MSN_EVENT_ACCEPT takes it. -/
def offer (w : Work) (source kind channel count : Nat) : Work :=
  w.setMsn { w.d.msn with offers := w.d.msn.offers ++ [⟨channel, source, kind, low 16 count, 0, 0⟩] }

/-! ### Errors in memory (R298, R300, R301, R376, R383) -/

/-- Is a unit retired (R31)? -/
def isRetired (w : Work) (u : Nat) : Bool := w.d.retired.contains u

/-- Enter SAFE_DEGRADED for a cause (R467, R468, R481). From DEBUG, or once degraded, nothing changes. Where escalation is in
force a chip reset is asked for (R428). -/
def degrade (w : Work) (unit status info : Nat) : Work :=
  if w.rd Reg.SAF_STATE = 2 ∨ w.rd Reg.SAF_STATE = 3 then w
  else
    let w := (((w.wr Reg.SAF_STATE 2).wr Reg.SAF_CAUSE_UNIT unit).wr Reg.SAF_CAUSE_STATUS status).wr Reg.SAF_CAUSE_INFO info
    let w := w.wr Reg.SAF_CAUSE_TB w.now
    let esc := w.d.saf.escalate || bitAt (w.rd Reg.PWR_OB 3) 4
    let w := w.setSaf { w.d.saf with
      pin0 := false, pin1 := false, hbNext := 0, stickyCause := some (unit, status, info),
      resetAsk := if esc then some 5 else w.d.saf.resetAsk }
    (w.err unit stSafeDegraded info).offer uSafety 5 (w.rd Reg.MSN_FAULT_CHANNEL) unit

/-- The unit an error record names for a Quarry slab (R298, R481). -/
def slabUnit (s : Nat) : Nat := if 32 ≤ s then uKeystone else 0x88 + 8 * (s / 8)

/-- The channel of a device address in LPDDR5X (R374). -/
def channelOf (a : Nat) : Nat :=
  let s := a / 256
  bxor (bxor (bxor (bits s 4 0) (bits s 9 5)) (bxor (bits s 14 10) (bits s 19 15))) (bxor (bits s 24 20) (bits s 28 25))

/-- Redirect a row of a memory to a spare, or report that none is left (R300, R301). A memory is a physical tile store, or 68 + slab; a
tile-store row is its index among 4,096. -/
def spareRow (w : Work) (mem row : Nat) : Work :=
  let key := mem * 65536 + row
  if w.d.ecc.spared.contains key then w
  else
    let keep := { w with d := { w.d with ecc := { w.d.ecc with spared := key :: w.d.ecc.spared } } }
    if mem < 68 then
      match w.logicalOf mem with
      | none => keep
      | some c =>
        let b := row / 256
        let left := w.rd Reg.TS_SPARES_LEFT c
        if bits left (4 * b + 3) (4 * b) = 0 then w.setSaf { w.d.saf with retireAsk := w.d.saf.retireAsk ++ [mem] }
        else ((keep.wr Reg.TS_SPARES_LEFT (left - 2 ^ (4 * b)) c).inc Reg.ASH_TS_CNT_SPARED c).log mem 0 (row * 128)
    else
      let s := mem - 68
      if w.rd Reg.SLAB_SPARES_LEFT s = 0 then w.degrade (slabUnit s) stEccUncorrectable s
      else
        let n := if s < 32 then 512 else 256
        ((keep.wr Reg.SLAB_SPARES_LEFT (w.rd Reg.SLAB_SPARES_LEFT s - 1) s).inc Reg.QRY_CNT_SPARED s).log (slabUnit s) 0 (row * n)

/-- A channel's uncorrectable errors may have reached UE_LIMIT within UE_WINDOW_MS: it is to be retired (R383). -/
def channelError (w : Work) (ch : Nat) : Work :=
  let t := w.now
  let es := (ch, t) :: w.d.ddr.errors.filter (fun e => decide (t < e.2 + w.rd Reg.DDR_UE_WINDOW_MS * 1000000))
  let w := { w with d := { w.d with ddr := { w.d.ddr with errors := es } } }
  if (es.filter (fun e => e.1 == ch)).length < w.rd Reg.DDR_UE_LIMIT ∨ w.on Reg.CH_RETIRED ch ∨ w.d.ddr.retire.contains ch then w
  else if !w.on Reg.DDR_RESERVE_FREE then w.degrade (uChannel ch) stEccUncorrectable 0
  else { w with d := { w.d with ddr := { w.d.ddr with retire := w.d.ddr.retire ++ [ch] } } }

/-- A read has met a poisoned word: the memory's counters and the error record that names its unit (R298, R376). -/
def eccReport (w : Work) (a : Nat) : Work :=
  let sa := w.storage a
  if inPhysTiles sa 1 then
    let p := (sa - 0x4200000000) / 0x80000
    let o := (sa - 0x4200000000) % 0x80000
    let w := match w.logicalOf p with
      | some c => (((w.wr Reg.TS_LAST_ECC_OFFSET o c).wr Reg.TS_LAST_ECC_UNCORR 1 c).wr Reg.TS_LAST_ECC_TB w.now c).inc Reg.ASH_TS_CNT_ECC_UNCORR c
      | none => w
    (w.err p stEccUncorrectable 0 o).spareRow p (o / 128)
  else if inQuarry sa 1 then
    let s := slabOf sa
    let o := (sa - 0x4000000000) % 0x1000000
    let w := (((w.wr Reg.SLAB_LAST_ECC_OFFSET o s).wr Reg.SLAB_LAST_ECC_UNCORR 1 s).wr Reg.SLAB_LAST_ECC_TB w.now s).inc Reg.QRY_CNT_ECC_UNCORR s
    (w.err (slabUnit s) stEccUncorrectable s o).spareRow (68 + s) (o / (if s < 32 then 512 else 256))
  else
    let ch := channelOf sa
    let w := ((w.wr Reg.CH_LAST_ECC_ADDR sa ch).wr Reg.CH_LAST_ECC_UNCORR 1 ch).inc Reg.DDR_CH_CNT_ECC_UNCORR ch
    (w.err (uChannel ch) stEccUncorrectable 0 sa).channelError ch

/-- The first poisoned word of [a, a + n) (R298). -/
def firstPoison (w : Work) (a n : Nat) : Option Nat :=
  if inHostWin a 1 || n == 0 then none
  else ((List.range ((a + n - 1) / 8 - a / 8 + 1)).map (fun k => (a / 8 + k) * 8)).find? (fun x => w.poisonedAt (w.storage x))

/-- Report the first poisoned word of a range that was read, if it holds one. -/
def reportPoison (w : Work) (a n : Nat) : Work :=
  match w.firstPoison a n with
  | some x => w.eccReport x
  | none => w

/-- The class of a requester (R378): 0 ISP ingress, 1 vision, 2 neural, 3 host. -/
def classOf (u : Nat) : Nat :=
  if u ≤ 0x43 then 2 else if 0x60 ≤ u ∧ u ≤ 0x73 then 0
  else if (0x50 ≤ u ∧ u ≤ 0x5D) ∨ (0x74 ≤ u ∧ u ≤ 0x78) ∨ (0x81 ≤ u ∧ u ≤ 0x84) then 1 else 3

/-- The STRIDED requests that read some 128-byte blocks at one stride: up to 32 blocks each, and each slab's part runs at that slab (R295, R306). -/
def stridedReads (w : Work) (blocks : List Nat) : Work :=
  let slabs := blocks.map slabOf
  slabs.eraseDups.foldl (fun w s => w.add Reg.QRY_CNT_STRIDED_REQ (ceilDiv (slabs.countP (fun x => x == s)) 32) s) w

/-- Count bytes moved at the memory that holds a range (R291, R306, R385): by slab in the Quarry, by channel and class in LPDDR5X, and at the REMOTE port of a
tile store that another unit reaches. -/
def countBytes (w : Work) (u a n : Nat) (write : Bool) : Work :=
  if n = 0 then w
  else if inQuarry a n then
    (List.range (slabOf (a + n - 1) + 1 - slabOf a)).foldl (fun w k =>
      let lo := 0x4000000000 + (slabOf a + k) * 0x1000000
      w.add (if write then Reg.QRY_CNT_WRITE_BYTES else Reg.QRY_CNT_READ_BYTES) (min (a + n) (lo + 0x1000000) - max a lo) (slabOf a + k)) w
  else if w.inDram a n then
    (List.range ((a + n - 1) / 256 - a / 256 + 1)).foldl (fun w k =>
      let s := (a / 256 + k) * 256
      let m := min (a + n) (s + 256) - max a s
      let ch := channelOf s
      (w.add (if write then Reg.DDR_CH_CNT_WRITE_BYTES else Reg.DDR_CH_CNT_READ_BYTES) m ch).add Reg.DDR_CH_CNT_CLASS_BYTES m ch (classOf u)) w
  else if inTiles a n then
    (pieces a n).foldl (fun w p =>
      let c := (p.1 - 0x4100000000) / 0x80000
      if w.d.cores.getD c 0xFF = u then w else w.add Reg.ASH_TS_CNT_REMOTE_IN_BYTES p.2 c) w
  else w

/-! ### Device accesses -/

/-- Read n bytes for a unit, with the error record of a refusal (R21, R298). -/
def readAt (w : Work) (u a n : Nat) : Work × Nat × List Byte :=
  match w.refusal? u a n false with
  | some st =>
    let w := if inQuarry a n then w.inc Reg.QRY_CNT_ROLE_REFUSED (slabOf a) else w
    (w.err u st 0 a, st, [])
  | none =>
    let w := w.countBytes u a n false
    if w.meetsPoison a n then (w.reportPoison a n, stEccUncorrectable, w.fetch a n) else (w, stOk, w.fetch a n)

/-- Read-modify-writes of LPDDR5X code words that some writes cover only in part, counted by channel (R377). Writes of one command to one code word merge;
those of different commands do not (DESIGN CHOICE, log entry 85). -/
def countRmw (w : Work) (ws : List (Nat × Nat)) : Work :=
  let parts : List (Nat × Nat) := ws.flatMap (fun (a, n) => if n = 0 ∨ !w.inDram a n then [] else
    [a / 128, (a + n - 1) / 128].eraseDups.map (fun k => (128 * k, min (a + n) (128 * k + 128) - max a (128 * k))))
  let short := (parts.filter (fun x => decide (x.2 < 128)))
  (short.map Prod.fst).eraseDups.foldl (fun w k =>
    if ((short.filter (fun x => x.1 == k)).map Prod.snd).sum < 128 then w.inc Reg.DDR_CH_CNT_RMW (channelOf k) else w) w

/-- Write bytes for a unit, with the error record of a refusal (R21), where other writes of the command may complete their code words. -/
def writePart (w : Work) (u a : Nat) (bs : List Byte) : Work × Nat :=
  match w.refusal? u a bs.length true with
  | some st =>
    let w := if inQuarry a bs.length then w.inc Reg.QRY_CNT_ROLE_REFUSED (slabOf a) else w
    (w.err u st 0 a, st)
  | none => ((w.store a bs).countBytes u a bs.length true, stOk)

/-- Write bytes for a unit, with the error record of a refusal (R21). -/
def writeAt (w : Work) (u a : Nat) (bs : List Byte) : Work × Nat :=
  let (w, st) := w.writePart u a bs
  (if st = stOk then w.countRmw [(a, bs.length)] else w, st)

/-- Is [a, a + n) wholly inside assigned and backed ranges (R358)? -/
def assigned (w : Work) (a n : Nat) : Bool :=
  w.inDram a n || inQuarry a n || inTiles a n || inPhysTiles a n || inHostWin a n

/-! ### Trace records -/

/-- Offer a trace record to the trace unit (R494, R495): accepted with the next SEQ, or dropped and counted. -/
def trace (w : Work) (unit event a b c : Nat) : Work :=
  if !w.on Reg.CNT_TRACE_EN then w
  else if 256 ≤ w.d.trc.queue.length then w.inc Reg.CNT_TRACE_LOST
  else
    let ws := [pack [(unit, 0, 8), (event, 8, 8), (1, 16, 4)], low 32 w.d.trc.seq, low 32 w.now, low 32 (w.now / 2 ^ 32),
      low 32 a, low 32 b, low 32 c, low 32 (c / 2 ^ 32)]
    { w with d := { w.d with trc := ⟨w.d.trc.queue ++ [ws], low 32 (w.d.trc.seq + 1)⟩ } }

/-- Write one accepted trace record to the ring (R494). -/
def tracePut (w : Work) (ws : List Nat) : Work :=
  let size := 2 ^ w.rd Reg.CNT_TRACE_LOG2
  let base := w.rd Reg.CNT_TRACE_BASE
  let tail := w.rd Reg.CNT_TRACE_TAIL
  let next := (tail + 1) % size
  let full := next == w.rd Reg.CNT_TRACE_HEAD
  if (full && !w.on Reg.CNT_TRACE_WRAP) || !w.inDram (base + 32 * tail) 32 then w.inc Reg.CNT_TRACE_LOST
  else
    let w := if full then w.wr Reg.CNT_TRACE_HEAD ((w.rd Reg.CNT_TRACE_HEAD + 1) % size) else w
    (w.store (base + 32 * tail) (wordsBytes ws)).wr Reg.CNT_TRACE_TAIL next

/-- Write the accepted trace records to the ring, oldest first (R494). -/
def traceDrain (w : Work) : Work :=
  match w.d.trc.queue with
  | [] => w
  | q => q.foldl tracePut { w with d := { w.d with trc := { w.d.trc with queue := [] } } }

/-! ### Queue completions -/

/-- A queue's parameters and result buffer. -/
def queue (w : Work) (q : Nat) : Queue := tget Queue.none w.d.hif.queues q

/-- Replace a queue's parameters and result buffer. -/
def setQueue (w : Work) (q : Nat) (x : Queue) : Work :=
  { w with d := { w.d with hif := { w.d.hif with queues := tset Queue.none w.d.hif.queues q x } } }

/-- Make a job's completion ready with a status and INFO (R354, R357). -/
def complete (w : Work) (j : JobRef) (status : Nat) (info : Nat := 0) : Work :=
  let qq := w.queue j.q
  let hit := fun (e : BufEnt) => decide (e.job = j) && !e.emit && decide (e.st ≠ .ready)
  match qq.buf.findIdx? hit with
  | none => w
  | some k =>
    match qq.buf[k]? with
    | none => w
    | some e => w.setQueue j.q { qq with buf := qq.buf.set k { e with st := .ready, status := status, info := info } }

/-- The numbers 0 to n - 1, in order, as a fold. -/
def upTo (w : Work) (n : Nat) (f : Work → Nat → Work) : Work := (List.range n).foldl f w

end Work

end Sys2Proof.Machine
end

