-- ==== Sys2Proof/Machine/Ddr.lean ====
section
/-! DEFINITION. The LPDDR5X subsystem's tracking, retraining, evacuation and retirement (R379 to R384), and the patrol scrub of tile
stores and Quarry slabs (R299 to R301). -/

namespace Sys2Proof.Machine

open Config

namespace Work

/-- Replace the memory subsystem's state. -/
def setDdr (w : Work) (x : Ddr) : Work := { w with d := { w.d with ddr := x } }

/-- Data stripes of one channel (R373, R381). -/
def channelStripes (w : Work) : Nat := w.ddrTop / 32 / 256

/-- Show how many channels wait for retraining. -/
def showQueued (w : Work) : Work := w.wr Reg.DDR_RETRAIN_QUEUED w.d.ddr.queue.length

/-- Queue a channel for retraining, once, unless it is retired or out already (R380, R384). -/
def queueRetrain (w : Work) (ch : Nat) : Work :=
  let out := match w.d.ddr.evac with
    | some e => e.ch == ch
    | none => false
  if w.d.ddr.queue.contains ch || out || w.on Reg.CH_RETIRED ch then w
  else (w.setDdr { w.d.ddr with queue := insertBy (fun (a b : Nat) => decide (a < b)) ch w.d.ddr.queue }).showQueued

/-- Oscillator tracking runs on a channel and finds its drift (R380). -/
def dqsTracking (w : Work) (ch drift : Nat) : Work :=
  let w := w.wr Reg.CH_DRIFT (min 0xFFFF drift) ch
  if w.rd Reg.DDR_DRIFT_LIMIT < drift then w.queueRetrain ch else w

/-- RETRAIN_INTERVAL_S has passed since a channel's last full training (R380). -/
def retrainExpiry (w : Work) (ch : Nat) : Work :=
  let s := w.rd Reg.DDR_RETRAIN_INTERVAL_S
  if s = 0 then w else (w.advance (w.rd Reg.CH_LAST_TRAIN_TB ch + s * 1000000000)).queueRetrain ch

/-- RETRAIN_NOW is written (R384). -/
def retrainNow (w : Work) (req : Nat) (own : Bool) (ch : Nat) : Work := if !own || decide (31 < ch) then w.log req else w.queueRetrain ch

/-- MR4 of a channel is read (R379): its refresh rate, and whether the temperature is above range, which counts as hot (R419). -/
def mr4Poll (w : Work) (ch rate : Nat) (hot : Bool) : Work :=
  let was := w.d.pwr.mr4Hot.contains ch
  let w := w.wr Reg.CH_MR4_RATE rate ch
  let others := w.d.pwr.mr4Hot.filter (fun c => c != ch)
  let w := { w with d := { w.d with pwr := { w.d.pwr with mr4Hot := if hot then ch :: others else others } } }
  if hot && !was then w.log (uChannel ch) 0 0 rate else w

/-- A channel is retired for good (R383). -/
def channelRetired (w : Work) (ch : Nat) : Work :=
  let w := (((w.wr Reg.CH_RETIRED 1 ch).wr Reg.CH_IN_SERVICE 0 ch).wr Reg.CH_EVACUATED 1 ch).wr Reg.DDR_RESERVE_FREE 0
  let w := (w.wr Reg.DDR_EVAC_CH ch).wr Reg.DDR_EVAC_PERMANENT 1
  let w := w.setDdr { w.d.ddr with evac := none, retire := w.d.ddr.retire.filter (fun c => c != ch), queue := w.d.ddr.queue.filter (fun c => c != ch) }
  (w.showQueued).err (uChannel ch) stEngineRetired 0

/-- An evacuation of a channel that is to be retired becomes the retirement (R383): a copy back is skipped, and the stripes already back are
copied out again. -/
def absorbRetire (w : Work) : Work :=
  match w.d.ddr.evac with
  | none => w
  | some e =>
    if e.permanent || !w.d.ddr.retire.contains e.ch then w
    else match e.step with
      | .training => w.channelRetired e.ch
      | .back =>
        let left := w.channelStripes - w.rd Reg.DDR_EVAC_STRIPES_DONE
        if w.rd Reg.DDR_EVAC_STRIPES_DONE = 0 then w.channelRetired e.ch
        else ((w.setDdr { w.d.ddr with evac := some { e with step := .out, permanent := true } }).wr Reg.DDR_EVAC_STRIPES_DONE left).wr Reg.DDR_EVAC_PERMANENT 1
      | _ => (w.setDdr { w.d.ddr with evac := some { e with permanent := true } }).wr Reg.DDR_EVAC_PERMANENT 1

/-- The next evacuation begins (R381 to R383): a retirement first, else the lowest queued channel; a retraining does not run while the reserve holds a
retired channel's data. -/
def evacuationStart (w : Work) : Work :=
  let w := w.absorbRetire
  if w.d.ddr.evac.isSome || w.d.ddr.selfRefresh then w
  else
    let begin_ := fun (w : Work) (ch : Nat) (perm : Bool) =>
      let w := w.setDdr { w.d.ddr with evac := some ⟨ch, .out, perm⟩ }
      (((w.wr Reg.DDR_EVAC_CH ch).wr Reg.DDR_EVAC_PERMANENT (b2n perm)).wr Reg.DDR_EVAC_STRIPES_DONE 0).inc Reg.DDR_CNT_EVACUATIONS
    match w.d.ddr.retire with
    | ch :: _ =>
      if w.on Reg.DDR_RESERVE_FREE then begin_ w ch true
      else (w.setDdr { w.d.ddr with retire := w.d.ddr.retire.filter (fun c => c != ch) }).degrade (uChannel ch) stEccUncorrectable 0
    | [] =>
      match w.d.ddr.queue with
      | [] => w
      | ch :: r =>
        let w := (w.setDdr { w.d.ddr with queue := r }).showQueued
        if w.on Reg.DDR_RESERVE_FREE then begin_ w ch false else w.inc Reg.DDR_CNT_RETRAIN_DEFERRED

/-- One stripe's copy is acknowledged and its requests switch to the new home (R381). With the last one the step ends. -/
def evacStripe (w : Work) : Work :=
  let w := w.absorbRetire
  match w.d.ddr.evac with
  | none => w
  | some e =>
    if w.d.ddr.selfRefresh ∨ (e.step ≠ .out ∧ e.step ≠ .back) then w
    else
      let n := w.rd Reg.DDR_EVAC_STRIPES_DONE + 1
      let w := w.wr Reg.DDR_EVAC_STRIPES_DONE n
      if n < w.channelStripes then w
      else if e.step = .out then
        if e.permanent then w.channelRetired e.ch
        else (((w.setDdr { w.d.ddr with evac := some { e with step := .training } }).wr Reg.CH_EVACUATED 1 e.ch).wr Reg.CH_IN_SERVICE 0 e.ch)
      else
        let w := (((w.setDdr { w.d.ddr with evac := none }).wr Reg.CH_EVACUATED 0 e.ch).wr Reg.CH_IN_SERVICE 1 e.ch).wr Reg.DDR_EVAC_CH 0xFF
        w.inc Reg.DDR_CH_CNT_RETRAINS e.ch

/-- Full training of the evacuated channel ends and the copy back starts (R381). -/
def channelTrained (w : Work) : Work :=
  let w := w.absorbRetire
  match w.d.ddr.evac with
  | none => w
  | some e =>
    if e.step ≠ .training then w
    else
      let w := ((w.wr Reg.CH_DRIFT 0 e.ch).wr Reg.CH_LAST_TRAIN_TB w.now e.ch).wr Reg.DDR_EVAC_STRIPES_DONE 0
      w.setDdr { w.d.ddr with evac := some { e with step := .back } }

/-- Tracking has settled after a self-refresh exit (R379). -/
def trackingSettled (w : Work) : Work :=
  if !w.d.ddr.settling then w
  else (w.setDdr { w.d.ddr with settling := false }).upTo 32 (fun w ch => w.wr Reg.CH_RATE_MTS 8533 ch)

/-- Every channel goes into self-refresh, where an evacuation pauses (R379, R382). -/
def selfRefreshEnter (w : Work) : Work := w.setDdr { w.d.ddr with selfRefresh := true }

/-- Every channel leaves self-refresh and runs at 6,400 MT/s until tracking settles (R379). -/
def selfRefreshExit (w : Work) : Work :=
  (w.setDdr { w.d.ddr with selfRefresh := false, settling := true }).upTo 32 (fun w ch => w.wr Reg.CH_RATE_MTS 6400 ch)

/-- A per-bank refresh is served: it delays requests to its bank and changes nothing (R379). -/
def refresh (w : Work) : Work := w

/-! ### Memory errors and the patrol scrub (R297 to R301, R376) -/

/-- A number of single-bit errors at a storage address are corrected: the memory's counter and its last error (R297, R376). -/
def eccFixed (w : Work) (sa n : Nat) : Work :=
  if inPhysTiles sa 1 then
    match w.logicalOf ((sa - 0x4200000000) / 0x80000) with
    | none => w
    | some c => (((w.add Reg.ASH_TS_CNT_ECC_FIXED n c).wr Reg.TS_LAST_ECC_OFFSET ((sa - 0x4200000000) % 0x80000) c).wr Reg.TS_LAST_ECC_UNCORR 0 c).wr
        Reg.TS_LAST_ECC_TB w.now c
  else if inQuarry sa 1 then
    let s := slabOf sa
    (((w.add Reg.QRY_CNT_ECC_FIXED n s).wr Reg.SLAB_LAST_ECC_OFFSET ((sa - 0x4000000000) % 0x1000000) s).wr Reg.SLAB_LAST_ECC_UNCORR 0 s).wr
      Reg.SLAB_LAST_ECC_TB w.now s
  else
    let ch := channelOf sa
    ((w.add Reg.DDR_CH_CNT_ECC_FIXED n ch).wr Reg.CH_LAST_ECC_ADDR sa ch).wr Reg.CH_LAST_ECC_UNCORR 0 ch

/-- A read finds an error in the word at a device address: a single-bit one is corrected; a double-bit one poisons the word, in LPDDR5X all 16 words of its
code word (R297, R298, R376). -/
def memError (w : Work) (a : Nat) (double : Bool) : Work :=
  let sa := w.storage a
  if inHostWin a 1 then w
  else if !double then w.eccFixed sa 1
  else if w.inDram sa 1 then (List.range 16).foldl (fun w k => w.setPoison (sa / 128 * 128 + 8 * k) true) w
  else w.setPoison (sa / 8 * 8) true

/-- Rows of a memory that is scrubbed: a physical tile store, or 68 + slab. -/
def scrubRows (mem : Nat) : Nat := if mem < 68 then 4096 else if mem < 100 then 32768 else 65536

/-- Bytes of a row. -/
def scrubBytes (mem : Nat) : Nat := if mem < 68 then 128 else if mem < 100 then 512 else 256

/-- Device address of a row. -/
def scrubAddr (mem row : Nat) : Nat :=
  if mem < 68 then 0x4200000000 + mem * 0x80000 + row * 128 else 0x4000000000 + (mem - 68) * 0x1000000 + row * scrubBytes mem

/-- The scrubber reads the next row of a memory (R299): a number of its words had single-bit errors and are corrected, and the words listed have
double-bit errors and become poisoned. A row with three corrected errors in a pass, or an uncorrectable one, is spared (R300). -/
def patrolScrub (w : Work) (mem fixed : Nat) (bad : List Nat) : Work :=
  let core := w.logicalOf mem
  let enabled := if mem < 68 then (match core with | some c => w.on Reg.TS_SCRUB_EN c | none => true) else w.on Reg.QRY_SCRUB_EN
  if !enabled || decide (103 < mem) then w
  else
    let row := tget 0 w.d.ecc.scrub mem
    let a := scrubAddr mem row
    let wrap := decide (scrubRows mem ≤ row + 1)
    let key := mem * 65536 + row
    let found := tget 0 w.d.ecc.fixes key + fixed
    let w := { w with d := { w.d with ecc := { w.d.ecc with
      scrub := tset 0 w.d.ecc.scrub mem (if wrap then 0 else row + 1), fixes := tset 0 w.d.ecc.fixes key found } } }
    let w := if fixed = 0 then w else w.eccFixed a fixed
    let words := bad.filter (fun k => decide (k < scrubBytes mem / 8))
    let w := words.foldl (fun w k => w.setPoison (a + 8 * k) true) w
    let w := match words with
      | k :: _ => w.eccReport (a + 8 * k)
      | [] => if 3 ≤ found ∧ 0 < fixed then w.spareRow mem row else w
    if !wrap then w
    else
      let w := { w with d := { w.d with ecc := { w.d.ecc with fixes := w.d.ecc.fixes.filter (fun e => decide (e.1 / 65536 ≠ mem)) } } }
      if mem < 68 then (match core with | some c => w.inc Reg.ASH_TS_CNT_SCRUB_PASSES c | none => w) else w.inc Reg.QRY_CNT_SCRUB_PASSES (mem - 68)

end Work

end Sys2Proof.Machine
end

