-- ==== Sys2Proof/Machine/Float.lean ====
section
/-! DEFINITION. Number formats and arithmetic (R237, R259 to R274): exact values, correctly rounded operations and conversions. -/

namespace Sys2Proof.Machine

/-- A floating-point value: NaN, an infinity, or a signed m × 2 ^ e; both zeros exist (R260). -/
inductive FVal where
  | nan
  | inf (neg : Bool)
  | fin (neg : Bool) (m : Nat) (e : Int)
  deriving DecidableEq, Repr

/-- A floating-point format (R260): exponent bits, mantissa bits, bias, the bits of its largest finite value, and whether it has
infinities and NaN. -/
structure FFmt where
  eb : Nat
  mb : Nat
  bias : Int
  maxFin : Nat
  hasInf : Bool
  hasNan : Bool
  nanBits : Nat
  deriving DecidableEq, Repr

def fp32 : FFmt := ⟨8, 23, 127, 0x7F7FFFFF, true, true, 0x7FC00000⟩
def bf16 : FFmt := ⟨8, 7, 127, 0x7F7F, true, true, 0x7FC0⟩
def fp16 : FFmt := ⟨5, 10, 15, 0x7BFF, true, true, 0x7E00⟩
def e5m2 : FFmt := ⟨5, 2, 15, 0x7B, true, true, 0x7F⟩
def e4m3 : FFmt := ⟨4, 3, 7, 0x7E, false, true, 0x7F⟩
def e3m2 : FFmt := ⟨3, 2, 3, 0x1F, false, false, 0⟩
def e2m3 : FFmt := ⟨2, 3, 1, 0x1F, false, false, 0⟩
def e2m1 : FFmt := ⟨2, 1, 1, 0x7, false, false, 0⟩

namespace FFmt

/-- Exponent of the lowest bit of a subnormal. -/
def emin (f : FFmt) : Int := 1 - f.bias - f.mb

/-- The value that bits stand for (R260). -/
def decode (f : FFmt) (v : Nat) : FVal :=
  let neg := bitAt v (f.eb + f.mb)
  let ex := bits v (f.eb + f.mb - 1) f.mb
  let ma := v % 2 ^ f.mb
  if f.hasInf && ex == 2 ^ f.eb - 1 then (if ma = 0 then .inf neg else .nan)
  else if f.hasNan && !f.hasInf && ex == 2 ^ f.eb - 1 && ma == 2 ^ f.mb - 1 then .nan
  else if ex = 0 then .fin neg ma f.emin
  else .fin neg (2 ^ f.mb + ma) (f.emin + (ex : Int) - 1)

/-- A quotient m / 2 ^ k as an integer: to nearest even, or toward zero (R267). -/
def shiftRound (m k : Nat) (trunc : Bool) : Nat :=
  let q := m / 2 ^ k
  let r := m % 2 ^ k
  if trunc || k == 0 then q
  else if 2 ^ (k - 1) < r ∨ (r = 2 ^ (k - 1) ∧ q % 2 = 1) then q + 1 else q

/-- Magnitude bits of m × 2 ^ e rounded into a format; a number above the largest finite one's bits has overflowed. -/
def magBits (f : FFmt) (m : Nat) (e : Int) (trunc : Bool) : Nat :=
  if m = 0 then 0
  else
    let q := max (e + (Nat.log2 m : Int) - f.mb) f.emin
    let m' := if q ≤ e then m * 2 ^ (e - q).toNat else shiftRound m (q - e).toNat trunc
    (q - f.emin).toNat * 2 ^ f.mb + m'

/-- The bits of a value in a format. Beyond the largest finite value the result is that value, or an infinity when ieee asks for it
and the format has one (R264, R268). -/
def encode (f : FFmt) (v : FVal) (trunc : Bool := false) (ieee : Bool := false) : Nat :=
  let sign := fun (neg : Bool) => b2n neg * 2 ^ (f.eb + f.mb)
  match v with
  | .nan => if f.hasNan then f.nanBits else 0
  | .inf neg => sign neg + (if f.hasInf then (2 ^ f.eb - 1) * 2 ^ f.mb else f.maxFin)
  | .fin neg m e =>
    let b := f.magBits m e trunc
    if f.maxFin < b then sign neg + (if ieee && f.hasInf then (2 ^ f.eb - 1) * 2 ^ f.mb else f.maxFin) else sign neg + b

end FFmt

/-- The integer square root of n, from bit k - 1 of the result down. -/
def isqrt (n : Nat) : Nat → Nat → Nat
  | 0, r => r
  | k + 1, r => if (r + 2 ^ k) * (r + 2 ^ k) ≤ n then isqrt n k (r + 2 ^ k) else isqrt n k r

namespace FVal

def zero : FVal := .fin false 0 0

/-- An integer as an exact value. -/
def ofInt (z : Int) : FVal := .fin (decide (z < 0)) z.natAbs 0

/-- The value of a signed mantissa times a power of two. -/
def ofMant (z : Int) (e : Int) (zeroNeg : Bool := false) : FVal := .fin (if z = 0 then zeroNeg else decide (z < 0)) z.natAbs e

/-- The signed mantissa of a finite value at a lower exponent. -/
def mantAt (neg : Bool) (m : Nat) (e q : Int) : Int := (if neg then -1 else 1) * (m * 2 ^ (e - q).toNat : Nat)

/-- The exact sum (R266). -/
def addX : FVal → FVal → FVal
  | .nan, _ => .nan
  | _, .nan => .nan
  | .inf a, .inf b => if a = b then .inf a else .nan
  | .inf a, .fin .. => .inf a
  | .fin .., .inf b => .inf b
  | .fin n1 m1 e1, .fin n2 m2 e2 =>
    let q := min e1 e2
    ofMant (mantAt n1 m1 e1 q + mantAt n2 m2 e2 q) q (n1 && n2)

/-- The exact product (R266). -/
def mulX : FVal → FVal → FVal
  | .nan, _ => .nan
  | _, .nan => .nan
  | .inf a, .inf b => .inf (a != b)
  | .inf a, .fin b m _ => if m = 0 then .nan else .inf (a != b)
  | .fin a m _, .inf b => if m = 0 then .nan else .inf (a != b)
  | .fin a m1 e1, .fin b m2 e2 => .fin (a != b) (m1 * m2) (e1 + e2)

/-- The negative of a value. -/
def neg : FVal → FVal
  | .nan => .nan
  | .inf a => .inf (!a)
  | .fin a m e => .fin (!a) m e

/-- The magnitude of a value. -/
def abs : FVal → FVal
  | .nan => .nan
  | .inf _ => .inf false
  | .fin _ m e => .fin false m e

/-- A quotient with more bits than any format keeps and a sticky last bit, for one rounding to follow. -/
def divX : FVal → FVal → FVal
  | .nan, _ => .nan
  | _, .nan => .nan
  | .inf _, .inf _ => .nan
  | .inf a, .fin b _ _ => .inf (a != b)
  | .fin a _ _, .inf b => .fin (a != b) 0 0
  | .fin a m1 e1, .fin b m2 e2 =>
    if m2 = 0 then (if m1 = 0 then .nan else .inf (a != b))
    else
      let k := Nat.log2 m2 + 66
      let n := m1 * 2 ^ k
      .fin (a != b) (2 * (n / m2) + (if n % m2 = 0 then 0 else 1)) (e1 - e2 - k - 1)

/-- A square root with more bits than any format keeps and a sticky last bit. -/
def sqrtX : FVal → FVal
  | .nan => .nan
  | .inf a => if a then .nan else .inf false
  | .fin a m e =>
    if m = 0 then .fin a 0 0
    else if a then .nan
    else
      let odd := e % 2
      let n := m * 2 ^ (130 + odd.toNat)
      let r := isqrt n (Nat.log2 n / 2 + 1) 0
      .fin false (2 * r + (if r * r = n then 0 else 1)) ((e - odd - 130) / 2 - 1)

/-- Is a value NaN? -/
def isNan : FVal → Bool
  | .nan => true
  | _ => false

/-- Is a value NaN or infinite? -/
def special : FVal → Bool
  | .fin .. => false
  | _ => true

/-- Is a value a zero of either sign? -/
def isZero : FVal → Bool
  | .fin _ 0 _ => true
  | _ => false

/-- Is a value's sign set? -/
def isNeg : FVal → Bool
  | .nan => false
  | .inf a => a
  | .fin a _ _ => a

/-- a < b as numbers; false with a NaN. -/
def lt (a b : FVal) : Bool :=
  match a, b with
  | .nan, _ => false
  | _, .nan => false
  | .inf x, .inf y => x && !y
  | .inf x, .fin .. => x
  | .fin .., .inf y => !y
  | .fin n1 m1 e1, .fin n2 m2 e2 =>
    let q := min e1 e2
    decide (mantAt n1 m1 e1 q < mantAt n2 m2 e2 q)

/-- a ≤ b as numbers. -/
def le (a b : FVal) : Bool := !a.isNan && !b.isNan && !lt b a

/-- Round to FP32, to nearest even, with IEEE overflow (R274). -/
def rn (v : FVal) : FVal := fp32.decode (fp32.encode v false true)

def add (a b : FVal) : FVal := (addX a b).rn
def sub (a b : FVal) : FVal := (addX a b.neg).rn
def mul (a b : FVal) : FVal := (mulX a b).rn
def div (a b : FVal) : FVal := (divX a b).rn
def sqrt (a : FVal) : FVal := (sqrtX a).rn
/-- a × b + c with one rounding. -/
def fma (a b c : FVal) : FVal := (addX (mulX a b) c).rn

/-- The FP32 value of 32 bits. -/
def of32 (v : Nat) : FVal := fp32.decode v

/-- The FP32 bits of a value that FP32 holds. -/
def bits32 (v : FVal) : Nat := fp32.encode v false true

/-- The greatest integer not above a finite value; 0 for others. -/
def floor : FVal → Int
  | .fin n m e => if 0 ≤ e then mantAt n m e 0 else (mantAt n m e e) / (2 ^ (-e).toNat : Nat)
  | _ => 0

/-- A finite value rounded to an integer: to nearest even, or toward zero (R267). -/
def toInt (v : FVal) (trunc : Bool := false) : Int :=
  match v with
  | .fin n m e =>
    let a : Nat := if 0 ≤ e then m * 2 ^ e.toNat else FFmt.shiftRound m (-e).toNat trunc
    if n then -(a : Int) else a
  | _ => 0

/-- A finite value rounded to the nearest integer, ties away from zero. -/
def roundAway (v : FVal) : Int :=
  match v with
  | .fin n m e =>
    let a : Nat := if 0 ≤ e then m * 2 ^ e.toNat else (2 * m + 2 ^ (-e).toNat) / (2 * 2 ^ (-e).toNat)
    if n then -(a : Int) else a
  | _ => 0

/-- Times a power of two, exactly. -/
def scale2 (v : FVal) (k : Int) : FVal :=
  match v with
  | .fin n m e => .fin n m (e + k)
  | x => x

/-- The exponent of the leading bit of a finite nonzero value. -/
def log2 : FVal → Int
  | .fin _ m e => e + (Nat.log2 m : Int)
  | _ => 0

/-- The greater of two values; NaN with a NaN, and −0 below +0 (R271). -/
def fmax (a b : FVal) : FVal :=
  if a.isNan || b.isNan then .nan
  else if lt a b then b else if lt b a then a else if a.isNeg then b else a

/-- The lesser of two values (R271). -/
def fmin (a b : FVal) : FVal :=
  if a.isNan || b.isNan then .nan
  else if lt a b then a else if lt b a then b else if a.isNeg then a else b

end FVal

/-- Exact unbounded sum of a list of values, in order. -/
def sumX (l : List FVal) : FVal :=
  match l with
  | [] => FVal.zero
  | x :: r => r.foldl FVal.addX x

/-- Convert a finite or special value to a clamped integer (R268). -/
def toClamped (v : FVal) (lo hi : Int) (trunc : Bool) : Int :=
  match v with
  | .nan => 0
  | .inf n => if n then lo else hi
  | x => clampI lo hi (x.toInt trunc)

/-! ### MX blocks (R261, R269) -/

/-- An MX element format: MXINT8, or a small floating format, with the emax of R269. -/
inductive MxFmt where
  | int8
  | flt (f : FFmt) (emax : Int)

/-- emax of a format. -/
def MxFmt.emax : MxFmt → Int
  | .int8 => 0
  | .flt _ e => e

/-- An element of an MX block from its value divided by the scale. -/
def MxFmt.conv (k : MxFmt) (v : FVal) (trunc : Bool) : Nat :=
  match k with
  | .int8 => wrapInt 8 (toClamped (v.scale2 6) (-128) 127 trunc)
  | .flt f _ => f.encode v trunc

/-- The scale byte and elements of a block (R269). -/
def mxBlock (k : MxFmt) (vs : List FVal) (trunc : Bool) : Nat × List Nat :=
  if vs.any (fun v => v.special) then (0xFF, vs.map (fun _ => 0))
  else if vs.all (fun v => v.isZero) then (0, vs.map (fun v => k.conv v trunc))
  else
    let big := ((vs.filter (fun v => !v.isZero)).map (fun v => v.log2)).foldl max (-1000)
    let x := min 127 (max (-127) (big - k.emax))
    ((x + 127).toNat, vs.map (fun v => k.conv (v.scale2 (-x)) trunc))

/-- The value of an E8M0 scale byte (R261). -/
def e8m0 (b : Nat) : FVal := if b = 0xFF then .nan else .fin false 1 ((b : Int) - 127)

/-- The value of an MX element. -/
def MxFmt.value (k : MxFmt) (v : Nat) : FVal :=
  match k with
  | .int8 => (FVal.ofInt (sext 8 v)).scale2 (-6)
  | .flt f _ => f.decode v

end Sys2Proof.Machine
end

