-- ==== Sys2Proof/Machine/HostQueue.lean ====
section
/-! DEFINITION. The host interface: queues and their rings, fence tokens, interrupts, version negotiation, the timebase
exchange with the host, and host errors (R345 to R371). -/

namespace Sys2Proof.Machine

open Config

namespace Work

/-! ### Queue rings -/

/-- Queue states of R371. -/
abbrev qInactive : Nat := 0
abbrev qActive : Nat := 1
abbrev qError : Nat := 2
abbrev qDeleting : Nat := 3

/-- May a ring of n bytes lie at a base (R351)? -/
def ringPlace (w : Work) (a n : Nat) : Bool := inHostWin a n || w.inDram a n || w.inRole 2 a n

/-- Entries of the SQ that the host has made ready and the engine has not fetched (R352). -/
def sqReady (w : Work) (q : Nat) : Nat :=
  let size := 2 ^ (w.queue q).sqLog2
  (w.rd Reg.Q_SQ_TAIL q + size - w.rd Reg.Q_SQ_HEAD q) % size

/-- Unconsumed entries of the CQ (R354). -/
def cqUsed (w : Work) (q : Nat) : Nat :=
  let size := 2 ^ (w.queue q).cqLog2
  (w.rd Reg.Q_CQ_TAIL q + size - w.rd Reg.Q_CQ_HEAD q) % size

/-- A CQ holds at most 2^k - 1 unconsumed entries (R354). -/
def cqFull (w : Work) (q : Nat) : Bool := w.cqUsed q + 1 == 2 ^ (w.queue q).cqLog2

/-- Count a queue-engine near miss (R357, R360). -/
def qeNearMiss (w : Work) : Work := (w.inc Reg.QE_CNT_NEAR_MISS).wr Reg.QE_NEAR_MISS_TB w.now

/-- A doorbell that names an INACTIVE or DELETING queue is ignored and counted (R367). -/
def dbDead (w : Work) (q : Nat) : Bool := w.rd Reg.Q_STATE q == qInactive || w.rd Reg.Q_STATE q == qDeleting

/-- A host error at a queue is logged with the host's unit ID and the QID (R367, R369; DESIGN CHOICE, log entry 84). -/
def queueLog (w : Work) (q : Nat) : Work := w.log uHost q

/-- A doorbell is ignored, counted and logged (R367). -/
def dbBad (w : Work) (q : Nat) : Work := (w.inc Reg.QE_CNT_DB_BAD).queueLog q

/-- The submission doorbell (R352, R367): TAIL in bits [15:0] of the value. In ERROR it is recorded, which is logged. -/
def submissionDoorbell (w : Work) (q v : Nat) : Work :=
  let tail := low 16 v
  if w.dbDead q ∨ 2 ^ (w.queue q).sqLog2 ≤ tail then w.dbBad q
  else
    let w := w.wr Reg.Q_SQ_TAIL tail q
    if w.rd Reg.Q_STATE q = qError then w.queueLog q else w

/-- The TB at which a queue's stall ends (R357), later by the time it was suspended (R418). -/
def stallEnd (w : Work) (q : Nat) : Nat := w.rd Reg.QE_Q_STALL_TB q + (w.queue q).stallMs * 1000000 + (w.queue q).paused

/-- The completion doorbell (R352, R367): HEAD in bits [15:0]. Freeing space in the V-cycle in which the stall timeout ends
wins and counts a near miss (R357). -/
def completionDoorbell (w : Work) (q v : Nat) : Work :=
  let head := low 16 v
  let size := 2 ^ (w.queue q).cqLog2
  if w.dbDead q ∨ size ≤ head ∨ w.cqUsed q < (head + size - w.rd Reg.Q_CQ_HEAD q) % size then w.dbBad q
  else
    let stalled := w.rd Reg.QE_Q_STALL_TB q ≠ 0 && w.rd Reg.Q_STATE q == qActive
    let w := if stalled && w.cqFull q && head != w.rd Reg.Q_CQ_HEAD q then w.collide uPcie (w.stallEnd q) else w
    let near := stalled && w.cqFull q && w.atDue (w.stallEnd q) && head != w.rd Reg.Q_CQ_HEAD q
    let w := w.wr Reg.Q_CQ_HEAD head q
    if near then w.qeNearMiss else w

/-! ### Fetch -/

/-- May a queue take a fetch grant (R356, R357)? -/
def grantable (w : Work) (q : Nat) : Bool :=
  w.rd Reg.Q_STATE q == qActive && decide (0 < w.sqReady q) && decide ((w.queue q).buf.length < 256)

/-- The queues that exist, in QID order. -/
def queueIds (w : Work) : List Nat := w.d.hif.queues.map Prod.fst

/-- The next queue of a class in round-robin order of QID (R356). -/
def nextOf (w : Work) (cls : Nat) : Option Nat :=
  let qs := w.queueIds.filter (fun q => q ≠ 0 && w.rd Reg.Q_ARB_CLASS q == cls && w.grantable q)
  let last := w.d.hif.lastQid.getD cls 0
  match qs.find? (fun q => decide (last < q)) with
  | some q => some q
  | none => qs.head?

/-- The class the weighted round robin serves next, lowest class first within a round (R356, DEDUCED, log entry 7). -/
def nextClass (w : Work) (grants : List Nat) : Option Nat :=
  (List.range 7).find? (fun c => decide (0 < grants.getD c 0) && (w.nextOf c).isSome)

/-- The grants a round gives each class: QE_ARB_WEIGHT (R356). -/
def fullGrants (w : Work) : List Nat := (List.range 7).map (fun c => w.rd Reg.QE_ARB_WEIGHT c)

/-- The queue the fetch arbiter grants next, with the round's grants after it: the admin queue first, then class 7, then the
weighted round robin (R356). -/
def arbitrate (w : Work) : Option (Nat × List Nat) :=
  if w.grantable 0 then some (0, w.d.hif.grants)
  else match w.nextOf 7 with
    | some q => some (q, w.d.hif.grants)
    | none =>
      let gs := if (w.nextClass w.d.hif.grants).isSome then w.d.hif.grants else w.fullGrants
      match w.nextClass gs with
      | none => none
      | some c => (w.nextOf c).map (fun q => (q, gs.set c (gs.getD c 0 - 1)))

/-- One fetch grant: the SQ head advances and the entry's read is issued (R355, R356); none in D3hot (R418). -/
def fetchGrant (w : Work) : Work :=
  let (w, refused) := if w.perturbs 2 && bitAt (w.rd Reg.TST_BP_MASK) 6 && w.arbitrate.isSome then
      let (w, x) := w.perturb
      (w, decide (x % 256 < w.rd Reg.TST_PROB))
    else (w, false)
  match if w.d.hif.d3hot || refused then none else w.arbitrate with
  | none => w
  | some (q, gs) =>
    let qq := w.queue q
    let head := w.rd Reg.Q_SQ_HEAD q
    let e : BufEnt := ⟨false, ⟨q, 0xFFFFFFFF, 0, false⟩, [], head, .fetching, 0, 0, false, false, none, false⟩
    let w := w.setQueue q { qq with buf := qq.buf ++ [e] }
    let cls := w.rd Reg.Q_ARB_CLASS q
    let lq := if q = 0 then w.d.hif.lastQid else w.d.hif.lastQid.set cls q
    let w := w.setHif { w.d.hif with grants := gs, lastQid := lq }
    w.wr Reg.Q_SQ_HEAD ((head + 1) % 2 ^ qq.sqLog2) q

/-! ### Entry checks -/

/-- Job opcodes of R358. -/
def opcodes : List Nat := [1, 2, 3, 4, 5, 6, 7, 0x40, 0x41, 0x42, 0x43, 0x44]

/-- The payload bits each opcode defines, words 4 to 15 (R358, R361, R121): a bit outside them is reserved. -/
def payloadMask (op : Nat) (w4 : Nat) : List Nat :=
  let full := 0xFFFFFFFF
  match op with
  | 1 => [if bits w4 17 16 = 1 then 0x0003FFFF else if bits w4 17 16 = 2 then 0xFF030000 else 0xFF03FFFF]
  | 2 => [0x1FF, 0, full, full]
  | 3 => [0x3FF]
  | 4 => [0xFFFFFF0F, full, full, full, 0x07FFFFFF, full, full]
  | 5 => [full, 0, full, full]
  | 6 => [0x1FF, full, full]
  | 7 => [0xFFFF, 0, full, full]
  | 0x40 => [0x7FFFF, 0x0FFF1F1F, full, full, full, full, 0xFFFF]
  | 0x41 => [0xFFFF]
  | 0x42 => [0xFF, 0, full, full, full]
  | 0x43 => [0xFFFF, 0, full, full, full]
  | 0x44 => [0xFF]
  | _ => []

/-- Every bit of a word that lies outside a mask is zero. -/
def inMask (v m : Nat) : Bool := Nat.land v m == v

/-- Check 4 of R355: reserved fields of the entry and its payload are zero. -/
def entryReserved (ws : List Nat) : Bool :=
  let m := payloadMask (bits (wd ws 0) 7 0) (wd ws 4)
  inMask (wd ws 0) 0x1FFF && wd ws 2 == 0 && wd ws 3 == 0 && (List.range 12).all (fun k => inMask (wd ws (4 + k)) (m.getD k 0))

/-- The opcode-specific checks that a job meets before it starts (R358, check 5 of R355): OK or the status that ends it. -/
def jobCheck (w : Work) (ws : List Nat) : Nat :=
  let w4 := wd ws 4
  match bits (wd ws 0) 7 0 with
  | 1 => if bits w4 17 16 = 3 then stDescFormat else stOk
  | 2 =>
    let n := bits w4 8 0
    if n = 0 ∨ 256 < n ∨ wd64 ws 6 % 64 ≠ 0 then stDescFormat
    else if w.assigned (wd64 ws 6) (128 * n) then stOk else stBoundFault
  | 4 => if bits w4 3 0 = 1 then stOk else stDescFormat
  | 5 =>
    if wd64 ws 6 % 8 ≠ 0 ∨ w4 = 0 ∨ 0x04000000 < w4 ∨ w4 % 8 ≠ 0 then stDescFormat
    else if w.assigned (wd64 ws 6) w4 then stOk else stBoundFault
  | 6 => if bits w4 8 8 = 0 ∧ wd ws 5 = 0 then stDescFormat else stOk
  | 0x40 =>
    let qid := bits w4 15 0
    let sq := bits (wd ws 5) 4 0
    let cq := bits (wd ws 5) 12 8
    if 8192 ≤ qid then stQueueLimit
    else if qid = 0 ∨ w.rd Reg.Q_STATE qid ≠ qInactive ∨ sq < 6 ∨ 16 < sq ∨ cq < 6 ∨ 16 < cq ∨ wd64 ws 6 % 64 ≠ 0 ∨ wd64 ws 8 % 64 ≠ 0 then
      stDescFormat
    else if w.ringPlace (wd64 ws 6) (64 * 2 ^ sq) && w.ringPlace (wd64 ws 8) (16 * 2 ^ cq) then stOk else stBoundFault
  | 0x41 =>
    let qid := bits w4 15 0
    if qid = 0 ∨ 8192 ≤ qid ∨ w.rd Reg.Q_STATE qid = qInactive ∨ w.rd Reg.Q_STATE qid = qDeleting then stDescFormat else stOk
  | 0x42 =>
    if 4 < bits w4 7 0 then stDescFormat
    else if w.assigned (wd64 ws 6) (max 1 (wd ws 8)) then stOk else stBoundFault
  | 0x43 => if w.assigned (wd64 ws 6) (max 1 (wd ws 8)) then stOk else stBoundFault
  | _ => stOk

/-- The status of a fetched entry under R355: the first check that fails, or OK. -/
def entryStatus (w : Work) (q : Nat) (ws : List Nat) : Nat :=
  let op := bits (wd ws 0) 7 0
  if bits (wd ws 0) 11 8 ≠ w.rd Reg.QE_ACTIVE_GEN then stVersionMismatch
  else if !opcodes.contains op || (decide (0x40 ≤ op) && q != 0) then stDescFormat
  else if !entryReserved ws then stDescReserved
  else w.jobCheck ws

/-- An entry's fetch returns: the oldest outstanding fetch of the queue is checked; a failing job's completion is ready at
once (R355). -/
def entryFetched (w : Work) (q : Nat) (fail : FetchFail) : Work :=
  let qq := w.queue q
  match qq.buf.findIdx? (fun e => decide (e.st = .fetching)) with
  | none => w
  | some k =>
    match qq.buf[k]? with
    | none => w
    | some e =>
      let bad (w : Work) (st : Nat) : Work := w.setQueue q { qq with buf := qq.buf.set k { e with st := .ready, status := st } }
      match fail with
      | .timeout => bad ((w.inc Reg.QE_CNT_CPL_TIMEOUT).queueLog q) stCompletionTimeout
      | .poisoned => bad ((w.inc Reg.QE_CNT_POISON_IN).queueLog q) stEccUncorrectable
      | .none =>
        let (w, st, bs) := w.readAt uPcie (qq.sqBase + 64 * e.slot) 64
        if st ≠ stOk then bad w st
        else
          let ws := bytesWords bs
          let job : JobRef := ⟨q, wd ws 1, bits (wd ws 0) 7 0, bitAt (wd ws 0) 12⟩
          let st := w.entryStatus q ws
          let e' : BufEnt := { e with job := job, words := ws, st := if st = stOk then .checked else .ready, status := st }
          w.setQueue q { qq with buf := qq.buf.set k e' }

/-! ### Completions -/

/-- The entry whose completion may post next: the oldest job when it is ready, or an emit, whichever entered the buffer
first (R357). -/
def postable (qq : Queue) : Option Nat :=
  let job := qq.buf.findIdx? (fun e => !e.emit)
  let em := qq.buf.findIdx? (fun e => e.emit)
  let jobOk := match job with
    | some k => match qq.buf[k]? with
      | some e => if e.st = .ready then some k else none
      | none => none
    | none => none
  match jobOk, em with
  | some a, some b => some (min a b)
  | some a, none => some a
  | none, b => b

/-- The four words of a completion entry (R354). -/
def cqWords (w : Work) (q : Nat) (qq : Queue) (e : BufEnt) : List Nat :=
  if e.emit then [wd e.words 0, wd e.words 1, wd e.words 2, pack [(b2n qq.phase, 0, 1), (1, 1, 2), (b2n e.ledger, 3, 1)]]
  else [e.job.tag, w.rd Reg.Q_SQ_HEAD q, pack [(e.status, 0, 8), (e.info, 16, 16)], pack [(b2n qq.phase, 0, 1)]]

/-- The completions of a queue that may post now but for the CQ's room: its emits, and its jobs as far as all before them are ready (R357). -/
def waitingPosts (qq : Queue) : List Nat :=
  let jobs := qq.buf.zipIdx.filter (fun (e : BufEnt × Nat) => !e.1.emit)
  (qq.buf.zipIdx.filter (fun (e : BufEnt × Nat) => e.1.emit)).map Prod.snd ++ (jobs.takeWhile (fun e => decide (e.1.st = .ready))).map Prod.snd

/-- The CQ is full: each completion that waits for its room counts once, and the stall starts at the first that cannot be posted (R357, R371). -/
def cqHeld (w : Work) (q : Nat) : Work :=
  let qq := w.queue q
  let ks := waitingPosts qq
  let buf := qq.buf.zipIdx.map (fun (e : BufEnt × Nat) => if ks.contains e.2 then { e.1 with held := true } else e.1)
  let fresh := qq.buf.zipIdx.countP (fun (e : BufEnt × Nat) => ks.contains e.2 && !e.1.held)
  let start := decide (w.rd Reg.QE_Q_STALL_TB q = 0)
  let w := (w.setQueue q { qq with buf := buf, paused := if start then 0 else qq.paused }).add Reg.QE_Q_CNT_HELD fresh q
  if start then w.wr Reg.QE_Q_STALL_TB w.now q else w

/-- Post the next postable completion of a queue, followed by its message; a full CQ holds it (R354, R357, R364). The stall timeout restarts where the CQ is
full again and a completion still waits. -/
def completionPost (w : Work) (q : Nat) : Work :=
  let qq := w.queue q
  if w.rd Reg.Q_STATE q ≠ qActive ∧ w.rd Reg.Q_STATE q ≠ qDeleting then w
  else match postable qq with
    | none => w
    | some k =>
      match qq.buf[k]? with
      | none => w
      | some e =>
        if w.cqFull q then w.cqHeld q
        else
          let tail := w.rd Reg.Q_CQ_TAIL q
          let size := 2 ^ qq.cqLog2
          let ws := w.cqWords q qq e
          let (w, _) := w.writeAt uPcie (qq.cqBase + 16 * tail) (wordsBytes ws)
          let next := (tail + 1) % size
          let w := w.setQueue q { qq with buf := qq.buf.eraseIdx k, phase := if next = 0 then !qq.phase else qq.phase }
          let w := (w.wr Reg.Q_CQ_TAIL next q).wr Reg.QE_Q_STALL_TB 0 q
          let w := if w.cqFull q && !(waitingPosts (w.queue q)).isEmpty then w.cqHeld q else w
          let w := if e.emit then w else (w.inc Reg.QE_CNT_JOBS).inc Reg.QE_Q_CNT_JOBS q
          let send := qq.vectorEn && (if e.emit then e.irq else !e.job.noIrq)
          if send then w.sendVector qq.vector else w

/-- The stall timeout ends with the CQ still full: the queue enters ERROR (R357); it is suspended in D3hot (R418). A DELETING queue's completions are
discarded, which ends its deletion (R361). -/
def cqStallTimeout (w : Work) (q : Nat) : Work :=
  let st := w.rd Reg.Q_STATE q
  if w.d.hif.d3hot ∨ (st ≠ qActive ∧ st ≠ qDeleting) ∨ w.rd Reg.QE_Q_STALL_TB q = 0 ∨ !w.cqFull q then w
  else
    let w := w.advance (w.stallEnd q)
    (if st = qActive then w.wr Reg.Q_STATE qError q else w.setQueue q { w.queue q with buf := [] }).err uPcie stOk q

/-- RESUME returns a queue from ERROR to ACTIVE (R357, R371). -/
def queueResume (w : Work) (q : Nat) : Work :=
  if w.rd Reg.Q_STATE q ≠ qError then w else (w.wr Reg.Q_STATE qActive q).wr Reg.QE_Q_STALL_TB 0 q

/-- The INACTIVE state of a queue whose deletion ends (R361). -/
def queueGone (w : Work) (q : Nat) : Work :=
  let w := { w with d := { w.d with hif := { w.d.hif with queues := tdel w.d.hif.queues q, fences := w.d.hif.fences.filter (fun f => f.job.q != q) } } }
  let w := (w.wr Reg.Q_STATE qInactive q).wr Reg.Q_ARB_CLASS 0 q
  ((((w.wr Reg.Q_SQ_HEAD 0 q).wr Reg.Q_SQ_TAIL 0 q).wr Reg.Q_CQ_HEAD 0 q).wr Reg.Q_CQ_TAIL 0 q).wr Reg.QE_Q_STALL_TB 0 q

/-- Create a queue pair from a CREATE_QUEUE payload (R361), its words from word 4 on. -/
def createQueue (w : Work) (ws : List Nat) : Work × Nat :=
  let st := w.jobCheck ws
  if st ≠ stOk then (w, st)
  else
    let w4 := wd ws 4
    let w5 := wd ws 5
    let q := bits w4 15 0
    let stall := bits (wd ws 10) 15 0
    let ms := if stall = 0 then w.rd Reg.QE_STALL_DEFAULT_MS else stall
    let w := w.setQueue q ⟨wd64 ws 6, wd64 ws 8, bits w5 4 0, bits w5 12 8, bits w5 26 16, bitAt w5 27, ms, true, [], 0, none⟩
    let w := (w.wr Reg.Q_STATE qActive q).wr Reg.Q_ARB_CLASS (bits w4 18 16) q
    (((((w.wr Reg.Q_SQ_HEAD 0 q).wr Reg.Q_SQ_TAIL 0 q).wr Reg.Q_CQ_HEAD 0 q).wr Reg.Q_CQ_TAIL 0 q).wr Reg.QE_Q_STALL_TB 0 q, stOk)

/-- Set a queue DELETING: it fetches nothing more, and entries not yet started, fetched or not, are abandoned (R361; DEDUCED, log entry 84). -/
def deleteQueue (w : Work) (q : Nat) (job : JobRef) : Work × Nat :=
  if q = 0 ∨ 8192 ≤ q ∨ w.rd Reg.Q_STATE q = qInactive ∨ w.rd Reg.Q_STATE q = qDeleting then (w, stDescFormat)
  else
    let qq := w.queue q
    let keep := qq.buf.filter (fun e => e.emit || decide (e.st = .started) || decide (e.st = .ready))
    let buf := if w.rd Reg.Q_STATE q = qError then [] else keep
    ((w.setQueue q { qq with buf := buf, deleter := some job }).wr Reg.Q_STATE qDeleting q, stOk)

/-- A DELETING queue with nothing left to post becomes INACTIVE and its DELETE_QUEUE job completes (R361). -/
def deleteQueueDone (w : Work) (q : Nat) : Work :=
  let qq := w.queue q
  if w.rd Reg.Q_STATE q ≠ qDeleting ∨ !qq.buf.isEmpty then w
  else
    let w := w.queueGone q
    match qq.deleter with
    | some j => w.complete j stOk
    | none => w

/-! ### Fence tokens -/

/-- Complete every fence wait that its token satisfies; one that does so in the V-cycle its timeout ends wins and counts a
near miss (R360). -/
def fenceWake (w : Work) (t : Nat) : Work :=
  let hit := w.d.hif.fences.filter (fun f => f.token == t && decide (f.value ≤ w.rd Reg.QE_FENCE t))
  let w := w.setHif { w.d.hif with fences := w.d.hif.fences.filter (fun f => !(f.token == t && decide (f.value ≤ w.rd Reg.QE_FENCE t))) }
  hit.foldl (fun w f =>
    let w := if f.deadline ≠ 0 then w.collide uPcie f.deadline else w
    let w := if f.deadline ≠ 0 && w.atDue f.deadline then w.qeNearMiss else w
    w.complete f.job stOk) w

/-- Add VALUE to a fence token, saturating (R360). -/
def fenceSignal (w : Work) (t v : Nat) : Work :=
  (w.wr Reg.QE_FENCE (min 0xFFFFFFFF (w.rd Reg.QE_FENCE t + v)) t).fenceWake t

/-- Start a fence wait (R360): it completes at once when the token is at VALUE already. -/
def fenceWait (w : Work) (job : JobRef) (t v timeout : Nat) : Work :=
  let dl := if timeout = 0 then 0 else w.now + timeout
  (w.setHif { w.d.hif with fences := w.d.hif.fences ++ [⟨job, t, v, dl⟩] }).fenceWake t

/-- The timeout of a queue's fence wait ends: it completes with FLAG_TIMEOUT (R360). -/
def fenceTimeout (w : Work) (q : Nat) : Work :=
  match w.d.hif.fences.find? (fun f => f.job.q == q && f.deadline != 0) with
  | none => w
  | some f =>
    let w := w.advance f.deadline
    (w.setHif { w.d.hif with fences := w.d.hif.fences.filter (fun g => decide (g ≠ f)) }).complete f.job stFlagTimeout

/-- A host write of a fence token sets its count (R360). -/
def fenceWrite (w : Work) (t v : Nat) : Work := (w.wr Reg.QE_FENCE v t).fenceWake t

/-! ### Emit completions -/

/-- An emit completion of a run's node joins an ACTIVE queue (R357, R361). -/
def emitReady (w : Work) (q : Nat) (owner : Nat × Nat) (irq ledger : Bool) : Work :=
  let qq := w.queue q
  w.setQueue q { qq with buf := qq.buf ++ [⟨true, ⟨q, 0, 0, !irq⟩, [], 0, .ready, 0, 0, ledger, irq, some owner, false⟩] }

/-! ### Versions and the admin queue -/

/-- Negotiate the host interface version: generation 1 supports exactly 1.1.0 (R366). -/
def negotiate (w : Work) (lo hi : Nat) : Work :=
  let key := fun v => bits v 19 16 * 65536 + bits v 15 8 * 256 + bits v 7 0
  let mine := 1 * 65536 + 1 * 256 + 0
  let w := ((w.wr Reg.QE_MIN_MINOR (bits lo 7 0)).wr Reg.QE_MIN_MAJOR (bits lo 15 8)).wr Reg.QE_MIN_GEN (bits lo 19 16)
  let w := ((w.wr Reg.QE_MAX_MINOR (bits hi 7 0)).wr Reg.QE_MAX_MAJOR (bits hi 15 8)).wr Reg.QE_MAX_GEN (bits hi 19 16)
  if key lo ≤ mine ∧ mine ≤ key hi then
    ((((w.wr Reg.QE_ACTIVE_MINOR 0).wr Reg.QE_ACTIVE_MAJOR 1).wr Reg.QE_ACTIVE_GEN 1).wr Reg.QE_ACTIVE_VALID 1).wr Reg.QE_ACTIVE_MISMATCH 0
  else
    let w := (w.wr Reg.QE_ACTIVE_VALID 0).wr Reg.QE_ACTIVE_MISMATCH 1
    w.err uPcie stVersionMismatch

/-- A write of AQ_ENABLE (R366, R370): 1 activates queue 0 from its registers while a version is valid; 0 while queue 0 is
ACTIVE is ignored and logged. -/
def aqEnable (w : Work) (req : Nat) (v : Bool) : Work :=
  let st := w.rd Reg.Q_STATE 0
  if !v then if st = qActive then w.log req else w.wr Reg.QE_AQ_ENABLE 0
  else if !w.on Reg.QE_ACTIVE_VALID then w.log req
  else if st ≠ qInactive then w.wr Reg.QE_AQ_ENABLE 1
  else
    let sq := w.rd Reg.QE_AQ_SQ_LOG2
    let cq := w.rd Reg.QE_AQ_CQ_LOG2
    let sqb := w.rd Reg.QE_AQ_SQ_BASE
    let cqb := w.rd Reg.QE_AQ_CQ_BASE
    if sq < 6 ∨ 16 < sq ∨ cq < 6 ∨ 16 < cq ∨ sqb % 64 ≠ 0 ∨ cqb % 64 ≠ 0 ∨ !w.ringPlace sqb (64 * 2 ^ sq) ∨ !w.ringPlace cqb (16 * 2 ^ cq) then w.log req
    else
      let w := w.setQueue 0 ⟨sqb, cqb, sq, cq, w.rd Reg.QE_AQ_VECTOR, w.on Reg.QE_AQ_VECTOR_EN, w.rd Reg.QE_STALL_DEFAULT_MS, true, [], 0, none⟩
      (w.wr Reg.Q_STATE qActive 0).wr Reg.QE_AQ_ENABLE 1

/-! ### Interrupt table -/

/-- The host writes a table entry with its mask bit clear, or unmasks the function: each pending vector that can now be sent
is sent once and its PBA bit clears (R364). -/
def msixFlush (w : Work) : Work :=
  let ready := w.d.hif.pba.filter (fun v => !w.d.hif.fnMasked && !(tget MsixEnt.reset w.d.hif.msix v).masked)
  let w := w.setHif { w.d.hif with pba := w.d.hif.pba.filter (fun v => !ready.contains v) }
  ready.foldl (fun w v => w.sendVector v) w

/-- Unmask the function. -/
def msixUnmaskFn (w : Work) : Work := (w.setHif { w.d.hif with fnMasked := false }).msixFlush

/-- Write a vector's table entry with its mask bit clear. -/
def msixUnmaskVec (w : Work) (v addr data : Nat) : Work :=
  (w.setHif { w.d.hif with msix := tset MsixEnt.reset w.d.hif.msix v ⟨addr, low 32 data, false⟩ }).msixFlush

/-! ### Error ring base -/

/-- A write of QE_ERR_RING_BASE (R369): accepted when aligned and wholly in LPDDR5X below DDR_TOP or the host window, and it then
flushes the held records, oldest first. -/
def errRingBase (w : Work) (req base : Nat) : Work :=
  let n := 32 * 2 ^ w.rd Reg.QE_ERR_LOG2
  if base % 64 = 0 ∧ (w.inDram base n ∨ inHostWin base n) then
    let w := w.wr Reg.QE_ERR_RING_BASE base
    if base = 0 then w
    else
      let held := w.d.errHeld
      held.foldl (fun w r => w.errPut r) { w with d := { w.d with errHeld := [] } }
  else w.log req

/-! ### Timebase exchange with the host -/

/-- Issue a PTM request (R368): one still unanswered is counted as missed. -/
def ptmRequest (w : Work) : Work :=
  if w.rd Reg.QE_TB_ROLE ≠ 1 then w
  else
    let w := if w.d.hif.ptmNext = 0 then w else w.advance w.d.hif.ptmNext
    let w := if w.d.hif.ptmOut then w.inc Reg.QE_CNT_PTM_MISSED else w
    w.setHif { w.d.hif with ptmOut := true, ptmAt := w.now, ptmNext := w.now + 1000 * w.rd Reg.QE_TB_PTM_PERIOD_US }

/-- A PTM exchange completes with a master time at the request's midpoint (R368): the offset is recorded; the first one steps
TB where allowed, others are slewed. -/
def ptmResponse (w : Work) (master : Nat) : Work :=
  if w.rd Reg.QE_TB_ROLE ≠ 1 ∨ !w.d.hif.ptmOut then w
  else
    let off : Int := ((w.d.hif.ptmAt + w.now) / 2 : Nat) - (master : Int)
    let w := w.wr Reg.QE_TB_LAST_OFFSET (wrapInt 32 off)
    let good := if off < 50 ∧ -50 < off then w.d.hif.ptmGood + 1 else 0
    let w := w.wr Reg.QE_TB_LOCKED (b2n (decide (8 ≤ good)))
    let step := !w.d.hif.ptmDone && w.on Reg.QE_TB_STEP_EN && !w.on Reg.KS_DISPATCH_EN
    let w := w.setHif { w.d.hif with ptmOut := false, ptmGood := good, ptmDone := true, slew := if step then 0 else -(11 * off) }
    if step then
      let w := { w with d := { w.d with clk := { w.d.clk with tb11 := 11 * ((w.now : Int) - off).toNat } } }
      w.err uPcie stOk 0 0 (wrapInt 32 (-off))
    else w

/-! ### Host errors -/

/-- A bad TLP is reported through AER and recorded with unit 0x80 (R367). -/
def badTlp (w : Work) (e : TlpError) (addr : Nat) : Work :=
  let w := w.setHif { w.d.hif with aer := w.d.hif.aer ++ [match e with | .malformed => 1 | .poisonedBar0 => 2 | .poisonedCpl _ => 3] }
  let w := match e with
    | .malformed => w
    | .poisonedBar0 | .poisonedCpl _ => w.inc Reg.QE_CNT_POISON_IN
  w.err uPcie stOk 0 addr

end Work

end Sys2Proof.Machine
end

