-- ==== Sys2Proof/Machine/Calib.lean ====
section
/-! DEFINITION. The sub-blocks of an ISP_CALIB region or a parameter set: their walk and their checks (R121, R134, R138). -/

namespace Sys2Proof.Machine

open Config

/-- The lowest bit of the reserved field that holds a bit: the field runs down to the next bit its mask allows. -/
def fieldStart (mask : Nat) : Nat → Nat
  | 0 => 0
  | b + 1 => if bitAt mask b then b + 1 else fieldStart mask b

/-- The byte offset of the first reserved field with a bit set, of words that start at an offset; a field of several words is named at its first nonzero
word (R49; DESIGN CHOICE, log entry 40). -/
def maskBad (at_ : Nat) (ws masks : List Nat) : Option Nat :=
  masks.zipIdx.findSome? (fun (m, k) =>
    ((List.range 32).find? (fun b => bitAt (wd ws k) b && !bitAt m b)).map (fun b => at_ + 4 * k + fieldStart m b / 8))

/-- Side of the mosaic's cell (R134). -/
def mosaicP (pattern : Nat) : Nat := if pattern = 0 then 1 else if pattern = 5 then 4 else 2

/-- The sub-blocks of a parameter block: (SUB_TYPE, its words with header) (R138, R139). -/
def Work.subBlocks : Nat → List Nat → List (Nat × List Nat)
  | 0, _ => []
  | _, [] => []
  | fuel + 1, ws =>
    let n := max 2 (ceilDiv (wd ws 1) 4)
    (bits (wd ws 0) 15 0, ws.take n) :: subBlocks fuel (ws.drop n)

/-- The words a sub-block takes with its header, by what it holds (R138); an odd number ends in a word of zeros. -/
def subWords (ws : List Nat) : Nat :=
  let p := ws.drop 2
  let even := fun (n : Nat) => roundUp n 2
  match bits (wd ws 0) 15 0 with
  | 1 => even (4 + bits (wd p 0) 15 8 * bits (wd p 0) 20 16)
  | 2 => even (4 + bits (wd p 0) 16 0)
  | 3 => 6
  | 4 => 580
  | 5 => 4
  | 6 => 4
  | 7 => 10
  | 8 => 514
  | 9 => if bits (wd p 0) 1 0 = 3 then 516 else 4
  | 10 => if bits (wd p 0) 1 0 = 3 then 12 else 4
  | _ => 6

/-- Allowed bits of a sub-block's first words past its header. -/
def subMasks (ws : List Nat) : List Nat :=
  let f := 0xFFFFFFFF
  match bits (wd ws 0) 15 0 with
  | 1 => [0x1FFF0F, 0] ++ List.replicate (subWords ws - 4) 0xFFFFF
  | 2 => [0x1FFFF, 0]
  | 3 => [1, 0xFFFFF, 0xFFFFF, 0]
  | 5 => [0xFF, 0]
  | 6 => [f, 0xFFFF]
  | 7 => [f, f, f, f, 0xFFFF, 0x1FFFFF, 0x1FFFFF, 0x1FFFFF]
  | 9 => [3, 0]
  | 10 => [3, 0, f, f, f, f, 0xFFFF, 0x1FFFF, 0x1FFFF, 0x1FFFF]
  | 11 => [f, f, f, 0xFFFF]
  | _ => []

/-- Are defects in strictly ascending raster order? -/
def ascendingRaster : List Nat → Bool
  | a :: b :: r => decide (a / 65536 < b / 65536 ∨ (a / 65536 = b / 65536 ∧ a % 65536 < b % 65536)) && ascendingRaster (b :: r)
  | _ => true

/-- Do a sub-block's values keep their ranges? P is the mosaic's. -/
def subValues (side : Nat) (ws : List Nat) : Bool :=
  let p := ws.drop 2
  match bits (wd ws 0) 15 0 with
  | 1 => decide (4 ≤ bits (wd p 0) 3 0 ∧ bits (wd p 0) 3 0 ≤ 10 ∧ 1 ≤ bits (wd p 0) 15 8 ∧ bits (wd p 0) 15 8 ≤ 128) &&
      bits (wd p 0) 20 16 == side * side
  | 2 => decide (bits (wd p 0) 16 0 ≤ 65536) && ascendingRaster ((p.drop 2).take (bits (wd p 0) 16 0))
  | 5 => decide (bits (wd p 0) 3 0 ≤ 5)
  | _ => true

/-- The words past a sub-block's last field: the zeros that pad an odd count. -/
def subPad (ws : List Nat) : Bool :=
  let p := ws.drop 2
  let n := match bits (wd ws 0) 15 0 with
    | 1 => 4 + bits (wd p 0) 15 8 * bits (wd p 0) 20 16
    | 2 => 4 + bits (wd p 0) 16 0
    | _ => subWords ws
  (ws.drop n).all (fun v => v == 0)

/-- The first reserved field set in one sub-block of the right length, as a byte offset from its header (R138). -/
def subReserved (ws : List Nat) : Option Nat :=
  match maskBad 8 (ws.drop 2) (subMasks ws) with
  | some o => some o
  | none => if subPad (ws.take (subWords ws)) then none else some (4 * (subWords ws - 1))

/-- Can a sub-block's extent be told: a defined SUB_TYPE whose length is its layout's? -/
def subShaped (ws : List Nat) : Bool :=
  within 1 11 (bits (wd ws 0) 15 0) && wd ws 1 == 4 * subWords ws && decide (subWords ws ≤ ws.length)
where within (lo hi v : Nat) : Bool := decide (lo ≤ v ∧ v ≤ hi)

/-- The first reserved field set in some sub-blocks, up to the first whose extent cannot be told (step 8 of R48). -/
def calibReserved : Nat → Nat → List Nat → Option Nat
  | 0, _, _ => none
  | _, _, [] => none
  | fuel + 1, pos, ws =>
    if bits (wd ws 0) 31 20 ≠ 0 then some (pos + 2)
    else if !subShaped ws then none
    else match subReserved ws with
      | some o => some (pos + o)
      | none => calibReserved fuel (pos + 4 * subWords ws) (ws.drop (subWords ws))

/-- The first fault of some sub-blocks: status and byte offset (R138). set is true for a parameter set, which may carry no DPC_MAP. -/
def subFaults (set : Bool) (side : Nat) : Nat → Nat → List Nat → Option (Nat × Nat)
  | 0, _, _ => none
  | _, _, [] => none
  | fuel + 1, pos, ws =>
    let t := bits (wd ws 0) 15 0
    if t = 0 ∨ 11 < t ∨ (set && t == 2) then some (stDescFormat, pos)
    else if bits (wd ws 0) 31 20 ≠ 0 then some (stDescReserved, pos + 2)
    else if bits (wd ws 0) 19 16 ≠ 1 then some (stDescFormat, pos + 2)
    else if !subShaped ws then some (stDescFormat, pos + 4)
    else match subReserved ws with
      | some o => some (stDescReserved, pos + o)
      | none =>
        if !subValues side (ws.take (subWords ws)) then some (stDescFormat, pos + 8)
        else subFaults set side fuel (pos + 4 * subWords ws) (ws.drop (subWords ws))

/-- The side of the mosaic of some sub-blocks, or the given one where they hold no MOSAIC. -/
def subSide (pattern : Nat) (ws : List Nat) : Nat :=
  match (Work.subBlocks 64 ws).find? (fun b => b.1 == 5) with
  | some b => mosaicP (bits (wd b.2 2) 3 0)
  | none => mosaicP pattern

/-- The first fault of an ISP_CALIB payload or a parameter set's block. -/
def calibFault (set : Bool) (pattern : Nat) (ws : List Nat) : Option (Nat × Nat) :=
  subFaults set (subSide pattern ws) (ws.length + 1) 0 ws

end Sys2Proof.Machine
end

