-- ==== Sys2Proof/Machine/Keystone.lean ====
section
/-! DEFINITION. The Keystone's view of the configuration, joint flags, signals and waiters, and the cut of a node (R37, R38, R55 to R64,
R73, R303). -/

namespace Sys2Proof.Machine

open Config

/-! ### Reading a graph version (R37, R38) -/

/-- NODE_COUNT. -/
def GVer.nodeCount (g : GVer) : Nat := bits (wd g.graph 0) 15 0
/-- EDGE_COUNT. -/
def GVer.edgeCount (g : GVer) : Nat := bits (wd g.graph 0) 31 16
/-- MAX_INSTANCES. -/
def GVer.maxRuns (g : GVer) : Nat := bits (wd g.graph 1) 15 0
/-- Word k of node record i. -/
def GVer.node (g : GVer) (i k : Nat) : Nat := wd g.graph (8 + 8 * i + k)
/-- Word k of edge record e. -/
def GVer.edge (g : GVer) (e k : Nat) : Nat := wd g.graph (8 + 8 * g.nodeCount + 4 * e + k)
/-- NODE_TYPE. -/
def GVer.typ (g : GVer) (i : Nat) : Nat := bits (g.node i 0) 7 0
/-- PRIORITY. -/
def GVer.prio (g : GVer) (i : Nat) : Nat := bits (g.node i 0) 13 8
/-- GATED. -/
def GVer.gated (g : GVer) (i : Nat) : Bool := bitAt (g.node i 0) 14
/-- UNIT. -/
def GVer.unit (g : GVer) (i : Nat) : Nat := bits (g.node i 3) 7 0
/-- CORE_SET. -/
def GVer.coreSet (g : GVer) (i : Nat) : Nat := g.node i 4 + 2 ^ 32 * g.node i 5
/-- MODEL_ID. -/
def GVer.model (g : GVer) (i : Nat) : Nat := bits (g.node i 7) 9 0
/-- The models that a version's NEURAL nodes use. -/
def GVer.models (g : GVer) : List Nat := ((List.range g.nodeCount).filter (fun n => g.typ n == 8)).map g.model
/-- The words of node i's parameter block. -/
def GVer.params (g : GVer) (i : Nat) : List Nat :=
  ((g.graph.drop (8 + 8 * g.nodeCount + 4 * g.edgeCount + g.node i 6 / 4)).take (2 * bits (g.node i 3) 31 16))
/-- FROM_NODE. -/
def GVer.eFrom (g : GVer) (e : Nat) : Nat := bits (g.edge e 0) 15 0
/-- TO_NODE. -/
def GVer.eTo (g : GVer) (e : Nat) : Nat := bits (g.edge e 0) 31 16
/-- KIND: 0 STREAM, 1 STRIPE, 2 FRAME. -/
def GVer.eKind (g : GVer) (e : Nat) : Nat := bits (g.edge e 1) 1 0
/-- FROM_PORT. -/
def GVer.eFromPort (g : GVer) (e : Nat) : Nat := bits (g.edge e 1) 15 8
/-- TO_PORT. -/
def GVer.eToPort (g : GVer) (e : Nat) : Nat := bits (g.edge e 1) 23 16
/-- FLAG_INDEX. -/
def GVer.eFlag (g : GVer) (e : Nat) : Nat := bits (g.edge e 2) 15 0
/-- STRIPE_LINES. -/
def GVer.eStripe (g : GVer) (e : Nat) : Nat := bits (g.edge e 2) 31 16
/-- FLAGS_PER_INSTANCE. -/
def GVer.flagCount (g : GVer) : Nat := bits (wd g.plan 0) 15 0
/-- TARGET of flag index i. -/
def GVer.target (g : GVer) (i : Nat) : Nat := bits (wd g.plan (2 + 2 * i)) 23 0
/-- REMOTE_VISIBLE of flag index i. -/
def GVer.remoteVisible (g : GVer) (i : Nat) : Bool := bitAt (wd g.plan (3 + 2 * i)) 0
/-- The edges into a node. -/
def GVer.inEdges (g : GVer) (n : Nat) : List Nat := (List.range g.edgeCount).filter (fun e => g.eTo e == n)
/-- The edges out of a node. -/
def GVer.outEdges (g : GVer) (n : Nat) : List Nat := (List.range g.edgeCount).filter (fun e => g.eFrom e == n)
/-- The flag indices a node signals on one output port. -/
def GVer.portFlags (g : GVer) (n port : Nat) : List Nat :=
  (((g.outEdges n).filter (fun e => g.eFromPort e == port)).map g.eFlag).eraseDups
/-- Every flag index a node signals. -/
def GVer.outFlags (g : GVer) (n : Nat) : List Nat := ((g.outEdges n).map g.eFlag).eraseDups
/-- The SOURCE nodes, lowest index first. -/
def GVer.sources (g : GVer) : List Nat := (List.range g.nodeCount).filter (fun n => g.typ n == 1)
/-- The anchor SOURCE node (R58). -/
def GVer.anchorNode (g : GVer) : Option Nat := g.sources.head?
/-- The anchor context (R58). -/
def GVer.anchor (g : GVer) : Option Nat := g.anchorNode.map g.unit

/-- Does a run hold an instance slot? -/
def GRun.live (r : GRun) : Bool := decide (r.phase ≠ .refused) && decide (r.phase ≠ .released)

/-- An empty version, for a run whose version cannot be found. -/
def GVer.none : GVer := ⟨0, 0, 0, [], [], 0, false⟩

/-- A node that waits. -/
def NodeRun.fresh : NodeRun := ⟨.waiting, 0xFF, [], [], 0, 0, false, false, 0, false, 0, false, [], false, false⟩

/-- Does a node keep state from one frame to the next (R92, R175, R200)? -/
def GVer.keepsState (g : GVer) (n : Nat) : Bool :=
  g.typ n == 9 || g.typ n == 0xA || (g.typ n == 6 && bitAt (wd (g.params n) (if g.gated n then 2 else 0)) 3) ||
    (g.typ n == 7 && bitAt (wd (g.params n) 0) 7)

/-- The nodes of earlier instances a node waits for: itself, and for a TEMPORAL FLOW node every gated FLOW node of its history
(R92, R175). -/
def GVer.waitsFor (g : GVer) (n : Nat) : List Nat :=
  if g.typ n = 6 then
    n :: (List.range g.nodeCount).filter (fun m => g.typ m == 6 && g.gated m && wd64 (g.params m) 24 == wd64 (g.params n) (if g.gated n then 24 else 22))
  else [n]

namespace Work

/-! ### Configuration in force -/

/-- The active version of a graph. -/
def activeGraph (w : Work) (gid : Nat) : Option GVer := w.d.ldr.graphs.find? (fun g => g.gid == gid && g.active)

/-- A version by its residence number: a resident one, or one released of which a fill or a completion is still owed. -/
def version (w : Work) (seq : Nat) : GVer := ((w.d.ldr.graphs ++ w.d.ldr.old).find? (fun g => g.seq == seq)).getD GVer.none

/-- The payload words of a region of the active configuration. -/
def region (w : Work) (typ idx : Nat) : List Nat :=
  match w.d.ldr.regions.find? (fun r => r.typ == typ && r.idx == idx) with
  | some r => r.words
  | none => []

/-- The CONTEXT_MAP words of a context (R42). -/
def ctxMap (w : Work) (c : Nat) : List Nat := ((w.region 3 0).drop (4 * c)).take 4

/-- Is a context enabled? -/
def ctxEnabled (w : Work) (c : Nat) : Bool := bitAt (wd (w.ctxMap c) 0) 0

/-- The graph a context instantiates (R42, R359): a GRAPH_RUN binding in force, else its CONTEXT_MAP entry. A binding is kept as
graph + 1, with 0x10000 for an unbinding. -/
def ctxGraph (w : Work) (c : Nat) : Nat :=
  match tget 0 w.d.ldr.bindings c with
  | 0 => bits (wd (w.ctxMap c) 1) 31 16
  | b => if b = 0x10000 then 0xFFFF else b - 1

/-! ### Graphs in flight -/

/-- A graph in flight. -/
def grun? (w : Work) (id : Nat) : Option GRun := w.d.ks.runs.find? (fun r => r.id == id)

/-- Replace a graph in flight. -/
def setRun (w : Work) (r : GRun) : Work :=
  w.setKs { w.d.ks with runs := w.d.ks.runs.map (fun x => if x.id = r.id then r else x) }

/-- Change a graph in flight. -/
def modRun (w : Work) (id : Nat) (f : GRun → GRun) : Work :=
  w.setKs { w.d.ks with runs := w.d.ks.runs.map (fun x => if x.id = id then f x else x) }

/-- A node of a graph in flight. -/
def nodeRun (r : GRun) (n : Nat) : NodeRun := r.nodes.getD n NodeRun.fresh

/-- Change a node of a graph in flight. -/
def modNode (w : Work) (id n : Nat) (f : NodeRun → NodeRun) : Work :=
  w.modRun id (fun r => { r with nodes := r.nodes.set n (f (nodeRun r n)) })

/-- The physical flag of a flag index of a run (R59). -/
def flagOf (w : Work) (r : GRun) (idx : Nat) : Nat :=
  let g := w.version r.seq
  g.base + r.slot * g.flagCount + idx

/-- Runs that hold an instance slot. -/
def liveRuns (w : Work) : List GRun := w.d.ks.runs.filter GRun.live

/-! ### Tasks (R252, R253) -/

/-- What an ashlar core holds. -/
def core (w : Work) (c : Nat) : CoreSt := tget CoreSt.idle w.d.ash c

/-- Replace what an ashlar core holds. -/
def setCore (w : Work) (c : Nat) (k : CoreSt) : Work := { w with d := { w.d with ash := tset CoreSt.idle w.d.ash c k } }

/-- The NEURAL parameter words of a core's task, behind the gating header of a gated node (R93, R252). -/
def taskParams (w : Work) (k : CoreSt) : List Nat :=
  match w.grun? k.run with
  | none => []
  | some r => ((w.version r.seq).params k.node).drop (if k.gated then 2 else 0)

/-- WAIT_LIMIT_NS of a core's task (R252). -/
def waitLimit (w : Work) (k : CoreSt) : Nat := wd (w.taskParams k) 6

/-! ### Signals (R60 to R64) -/

/-- A unit issues a signal; it takes effect when it reaches the flag (FLAG_SIGNAL_APPLY). -/
def signal (w : Work) (flag inc gen : Nat) (remote : Bool := false) : Work :=
  w.setKs { w.d.ks with signals := w.d.ks.signals ++ [⟨flag, inc, gen, remote⟩] }

/-- A node signals flag index idx of its run with the run's generation, and the increment counts as issued (R73); what a retired engine had
signalled is suppressed (R479). -/
def signalIdx (w : Work) (id n idx inc : Nat) : Work :=
  match w.grun? id with
  | none => w
  | some r =>
    let skip := min inc (tget 0 (nodeRun r n).skip idx)
    let w := if skip = 0 then w else w.modNode id n (fun x => { x with skip := tset 0 x.skip idx (tget 0 x.skip idx - skip) })
    let inc := inc - skip
    if inc = 0 then w
    else
      let f := w.flagOf r idx
      (w.modNode id n (fun x => { x with counts := tset 0 x.counts idx (tget 0 x.counts idx + inc) })).signal f inc (r.gens.getD idx 0)

/-- A node signals every flag of one of its output ports. -/
def signalPort (w : Work) (id n port inc : Nat) : Work :=
  match w.grun? id with
  | none => w
  | some r => ((w.version r.seq).portFlags n port).foldl (fun w idx => w.signalIdx id n idx inc) w

/-- The waiters of a flag. -/
def waits (w : Work) (f : Nat) : List Wait := tget [] w.d.ks.waits f

/-- Replace the waiters of a flag. -/
def setWaits (w : Work) (f : Nat) (l : List Wait) : Work := w.setKs { w.d.ks with waits := tset [] w.d.ks.waits f l }

/-- Wake one waiter (R61): a core's WAIT_FLAG stall ends, a Mason channel's event is offered with KIND 0; a node of the Keystone
is ready by its flags' counts. -/
def wake (w : Work) (x : Wait) : Work :=
  match x.who with
  | .node _ _ => w
  | .core c =>
    let k := w.core c
    let limit := w.waitLimit k
    let w := match k.stall with
      | some t =>
        let w := if limit ≠ 0 then w.collide (w.d.cores.getD c 0) (t + limit) else w
        if limit ≠ 0 ∧ w.atDue (t + limit) then (w.inc Reg.ASH_CNT_NEAR_MISS c).wr Reg.ASH_NEAR_MISS_TB w.now c else w
      | none => w
    w.wr Reg.ASH_FLAG_WAIT 0 c
  | .channel ch => w.offer uKeystone 0 ch 1

/-- The TB at which a wake of a flag falls due under FLAG_DELAY perturbation (class 1, R497): 0 to MAX V-cycles on, drawn per wake; 0 when it is not
delayed. -/
def flagDelay (w : Work) (f : Nat) : Work × Nat :=
  if w.perturbs 1 && decide (w.rd Reg.TST_FLAG_LO ≤ f ∧ f ≤ w.rd Reg.TST_FLAG_HI) then
    let (w, x) := w.perturb
    let n := x % (w.rd Reg.TST_FLAG_MAX + 1)
    (w, if n = 0 then 0 else max 1 ((w.d.clk.tb11 + w.vstep * n) / 11))
  else (w, 0)

/-- Register a waiter (R61): satisfied at once where COUNT already meets its threshold; the ninth watches the broadcast. -/
def register (w : Work) (f : Nat) (who : Waiter) (threshold : Nat) : Work :=
  if w.d.ks.poisoned.contains f then
    w.setWaits f (w.waits f ++ [⟨who, threshold, false, 0⟩])
  else if threshold ≤ w.rd Reg.FLAG_COUNT f then w.wake ⟨who, threshold, false, 0⟩
  else
    let spill := decide (8 ≤ ((w.waits f).filter (fun x => !x.bcast)).length)
    let w := if spill then w.inc Reg.KS_CNT_WAITER_OVERFLOW else w
    w.setWaits f (w.waits f ++ [⟨who, threshold, spill, 0⟩])

/-- Wake some waiters of a flag, or mark each due later under FLAG_DELAY (R497). -/
def wakeAll (w : Work) (f : Nat) (l : List Wait) : Work :=
  l.foldl (fun w x =>
    let (w, dl) := w.flagDelay f
    if dl = 0 then w.wake x else w.setWaits f (w.waits f ++ [{ x with dueTb := dl }])) w

/-- Wake every waiter whose threshold COUNT now meets (R61): the listed ones at once, those that watch the broadcast 8 V-cycles later. -/
def wakeMet (w : Work) (f : Nat) : Work :=
  let c := w.rd Reg.FLAG_COUNT f
  let hit := (w.waits f).filter (fun x => decide (x.threshold ≤ c ∧ x.dueTb = 0))
  let w := w.setWaits f ((w.waits f).filter (fun x => !decide (x.threshold ≤ c ∧ x.dueTb = 0)))
  let w := w.wakeAll f (hit.filter (fun x => !x.bcast))
  let far := hit.filter Wait.bcast
  if far.isEmpty then w else (w.cycles 8).wakeAll f far

/-- A flag's delayed wakes fall due (R497). -/
def delayedWake (w : Work) (f : Nat) : Work :=
  match ((w.waits f).filter (fun x => x.dueTb != 0)).foldl (fun (b : Option Wait) x => match b with
      | none => some x
      | some y => if x.dueTb < y.dueTb then some x else b) none with
  | none => w
  | some x =>
    let w := w.advance x.dueTb
    let hit := (w.waits f).filter (fun y => y.dueTb == x.dueTb)
    let w := w.setWaits f ((w.waits f).filter (fun y => y.dueTb != x.dueTb))
    hit.foldl (fun w y => w.wake y) w

/-! ### Readiness (R56, R68) -/

/-- COUNT of flag index idx of a run. -/
def countOf (w : Work) (r : GRun) (idx : Nat) : Nat := w.rd Reg.FLAG_COUNT (w.flagOf r idx)

/-- The count an input edge's consumer waits for: TARGET of a FRAME edge, else one more than the lines or stripes it has read (R61). -/
def edgeNeed (w : Work) (r : GRun) (n e : Nat) : Nat :=
  let g := w.version r.seq
  if g.eKind e = 2 then w.rd Reg.FLAG_TARGET (w.flagOf r (g.eFlag e)) else tget 0 (nodeRun r n).reads e + 1

/-- Is one input edge ready? A poisoned flag wakes nobody (R303), and neither does one whose wake of the node is still on its way (R497). -/
def edgeReady (w : Work) (r : GRun) (e : Nat) : Bool :=
  let g := w.version r.seq
  let f := w.flagOf r (g.eFlag e)
  if w.d.ks.poisoned.contains f || (w.waits f).any (fun x => decide (x.who = .node r.id (g.eTo e)) && x.dueTb != 0) then false
  else if g.eKind e = 2 then decide (w.rd Reg.FLAG_TARGET f ≤ w.countOf r (g.eFlag e))
  else decide (1 ≤ w.countOf r (g.eFlag e))

/-- Does a core run, or hold, a task? -/
def coreBusy (w : Work) (c : Nat) : Bool := decide ((w.core c).phase ≠ .idle)

/-- Have the nodes a state-keeping node waits for ended in every earlier instance of the graph? -/
def earlierOver (w : Work) (r : GRun) (n : Nat) : Bool :=
  let g := w.version r.seq
  !g.keepsState n || w.d.ks.runs.all (fun q => q.gid != r.gid || decide (r.id ≤ q.id) || !q.live ||
    (g.waitsFor n).all (fun m => decide ((nodeRun q m).st ≠ .waiting ∧ (nodeRun q m).st ≠ .running)))

/-- Are all of a node's inputs there (R68)? A SOURCE other than the anchor waits for its partner frame (R58). -/
def inputsReady (w : Work) (r : GRun) (n : Nat) : Bool :=
  let g := w.version r.seq
  (g.inEdges n).all (fun e => w.edgeReady r e) && (if g.typ n = 1 then r.frames.any (fun f => f.ctx == g.unit n) else true)

/-- Is a node ready (R68)? A NEURAL node also needs its cores, and one that keeps state the end of its earlier instances. -/
def nodeReady (w : Work) (r : GRun) (n : Nat) : Bool :=
  let g := w.version r.seq
  decide ((nodeRun r n).st = .waiting) && decide (r.phase = .running) && w.inputsReady r n && w.earlierOver r n && (if g.typ n = 8 then (setBits 64 (g.coreSet n)).all (fun c => !w.coreBusy c) else true)

/-- Does an input edge of a running node want the increment that takes its count past old (R72)? -/
def edgeStarved (w : Work) (r : GRun) (n e old : Nat) : Bool :=
  let g := w.version r.seq
  let k := tget 0 (nodeRun r n).reads e
  g.eKind e != 2 && decide (old ≤ k ∧ k < w.rd Reg.FLAG_TARGET (w.flagOf r (g.eFlag e)))

/-- Does COUNT's rise from old come in the V-cycle of a wait timeout of a node (R74)? That is a near miss where it makes a waiting node's inputs complete, or
gives a running consumer the line or stripe it waits for. One counts per node. -/
def nodeNearMiss (w : Work) (f old : Nat) (r : GRun) (n : Nat) : Work :=
  let g := w.version r.seq
  let x := nodeRun r n
  let t := g.node n 2
  let mine := (g.inEdges n).filter (fun e => w.flagOf r (g.eFlag e) == f)
  let won := fun (w : Work) (due : Nat) =>
    let w := w.collide uKeystone due
    if w.atDue due then (w.inc Reg.KS_CNT_NEAR_MISS).wr Reg.KS_NEAR_MISS_TB w.now else w
  if t = 0 ∨ r.phase ≠ .running ∨ mine.isEmpty then w
  else match x.st with
    | .waiting => if mine.any (fun e => decide (old < w.edgeNeed r n e)) && w.inputsReady r n then won w (r.origin + t) else w
    | .running => if mine.any (fun e => w.edgeStarved r n e old && decide (w.edgeNeed r n e ≤ w.rd Reg.FLAG_COUNT f)) then won w (x.waitFrom + t) else w
    | _ => w

/-- The near misses of every node that waits on a flag. -/
def countNearMiss (w : Work) (f old : Nat) : Work :=
  w.liveRuns.foldl (fun w r =>
    let g := w.version r.seq
    if f < g.base + r.slot * g.flagCount ∨ g.base + (r.slot + 1) * g.flagCount ≤ f then w
    else (List.range g.nodeCount).foldl (fun w n => w.nodeNearMiss f old r n) w) w

/-! ### Signals reach their flags (R60, R303) -/

/-- The first n signals on their way to a flag reach it in one V-cycle (R60): those of its generation are summed and applied as one
update, others are dropped as stale; a poisoned flag drops them all (R303). -/
def flagApply (w : Work) (f n : Nat) : Work :=
  let mine := (w.d.ks.signals.filter (fun s => s.flag == f)).take n
  let rest := w.d.ks.signals.filter (fun s => s.flag != f) ++ (w.d.ks.signals.filter (fun s => s.flag == f)).drop n
  let w := w.setKs { w.d.ks with signals := rest }
  if w.d.ks.poisoned.contains f then w.add Reg.KS_CNT_FLAG_POISON_DROP mine.length
  else
    let gen := w.rd Reg.FLAG_GENERATION f
    let good := mine.filter (fun s => s.gen == gen)
    let w := w.add Reg.KS_CNT_STALE_SIGNAL (mine.length - good.length)
    let sum := (good.map Sig.inc).sum
    if sum = 0 then w
    else
      let old := w.rd Reg.FLAG_COUNT f
      let new := old + sum
      let target := w.rd Reg.FLAG_TARGET f
      let w := w.add Reg.KS_CNT_OVERSHOOT (new - max old target)
      let w := (w.wr Reg.FLAG_COUNT (min 0xFFFFFF new) f).inc Reg.KS_CNT_FLAG_UPDATES
      (w.countNearMiss f old).wakeMet f

/-- An uncorrectable error in a flag's entry poisons the flag (R303). -/
def poisonFlag (w : Work) (f : Nat) : Work :=
  let w := (w.inc Reg.KS_CNT_FLAG_ECC_UNCORR).wr Reg.KS_LAST_ECC_FLAG f
  let w := w.setKs { w.d.ks with poisoned := f :: w.d.ks.poisoned.filter (fun x => x != f) }
  w.err uKeystone stEccUncorrectable f

/-- A host or control-pair signal through KS_FLAG_SIGNAL (R60, R63). -/
def hostFlagSignal (w : Work) (f inc gen : Nat) : Work := if low 24 inc = 0 then w else w.signal f (low 24 inc) (low 16 gen)

/-- A Mason WAIT_FLAG command registers a channel at TARGET for an expected generation (R61, R333). -/
def channelWait (w : Work) (f gen ch : Nat) : Work :=
  if w.rd Reg.FLAG_GENERATION f = low 16 gen then w.register f (.channel ch) (max 1 (w.rd Reg.FLAG_TARGET f)) else w

/-! ### Frames of a run (R58, R79) -/

/-- A context's ingress state. -/
def ctxIn (w : Work) (c : Nat) : CtxIn := tget CtxIn.none w.d.ing.ctxs c

/-- Replace a context's ingress state. -/
def setCtxIn (w : Work) (c : Nat) (x : CtxIn) : Work :=
  { w with d := { w.d with ing := { w.d.ing with ctxs := tset CtxIn.none w.d.ing.ctxs c x } } }

/-- What is known of a run's frame now: of one still open, the facts ingress has gathered so far. -/
def frameNow (w : Work) (r : GRun) (k : CtxFrame) : CtxFrame :=
  match (w.ctxIn k.ctx).frame with
  | some f => if f.run = r.id ∧ f.fc = k.fc ∧ !k.closed then { k with bits := f.bits, pad := f.pad, cut := f.cut, paramSet := f.paramSet, img := f } else k
  | none => k

/-! ### Status of a frame (R80) -/

/-- The first set of the ingress conditions of rank 6 (R80). -/
def bitStatus (b : Nat) : Nat :=
  if bitAt b 2 then stFrameShort else if bitAt b 3 then stFrameLong else if bitAt b 0 then stLineShort
  else if bitAt b 1 then stLineLong else if bitAt b 7 then stPayloadCrc else if bitAt b 6 then stHeaderEcc
  else if bitAt b 8 then stParamLate else stOk

/-- The highest-ranked condition of a run, as recorded so far (R80, R102). In SAFE_DEGRADED every entry is suspect (R468). -/
def runStatus (w : Work) (r : GRun) : Nat :=
  if r.dropped then stFrameDropped
  else if r.suspect || w.rd Reg.SAF_STATE == 2 then stResultSuspect
  else if r.phase = .refused then stInstanceBusy
  else if 0 < r.timeouts then r.firstStatus
  else if r.truncated then stFeatureTruncated
  else bitStatus (r.frames.foldl (fun b f => Nat.lor b (w.frameNow r f).bits) 0)

/-! ### Cut and skip (R73) -/

/-- BUSY, CUR_GRAPH, CUR_NODE and CUR_CONTEXT fields of an engine, with its index (R103, R173, R191, R203, R226, R227, R328). -/
def engineFields (u : Nat) : Option (Fld × Fld × Fld × Fld × Nat) :=
  if 0x50 ≤ u ∧ u ≤ 0x53 then some (Reg.PY_BUSY, Reg.PY_CUR_GRAPH, Reg.PY_CUR_NODE, Reg.PY_CUR_CONTEXT, u - 0x50)
  else if 0x54 ≤ u ∧ u ≤ 0x57 then some (Reg.WP_BUSY, Reg.WP_CUR_GRAPH, Reg.WP_CUR_NODE, Reg.WP_CUR_CONTEXT, u - 0x54)
  else if 0x58 ≤ u ∧ u ≤ 0x59 then some (Reg.ST_BUSY, Reg.ST_CUR_GRAPH, Reg.ST_CUR_NODE, Reg.ST_CUR_CONTEXT, u - 0x58)
  else if 0x5A ≤ u ∧ u ≤ 0x5B then some (Reg.FL_BUSY, Reg.FL_CUR_GRAPH, Reg.FL_CUR_NODE, Reg.FL_CUR_CONTEXT, u - 0x5A)
  else if 0x5C ≤ u ∧ u ≤ 0x5D then some (Reg.FT_BUSY, Reg.FT_CUR_GRAPH, Reg.FT_CUR_NODE, Reg.FT_CUR_CONTEXT, u - 0x5C)
  else if 0x74 ≤ u ∧ u ≤ 0x75 then some (Reg.PLB_PLUMB_BUSY, Reg.PLB_CUR_GRAPH, Reg.PLB_CUR_NODE, Reg.PLB_CUR_CONTEXT, u - 0x74)
  else if 0x76 ≤ u ∧ u ≤ 0x77 then some (Reg.CP_BUSY, Reg.CP_CUR_GRAPH, Reg.CP_CUR_NODE, Reg.CP_CUR_CONTEXT, u - 0x76)
  else none

/-- What an engine works on. -/
def eng (w : Work) (u : Nat) : EngRun := tget EngRun.none w.d.eng u

/-- Replace what an engine works on. -/
def setEng (w : Work) (u : Nat) (x : EngRun) : Work := { w with d := { w.d with eng := tset EngRun.none w.d.eng u x } }

/-- The BUSY_CYCLES counter of an engine, with its index (R173, R191, R203, R226, R227, R328). -/
def busyCounter (u : Nat) : Option (Fld × Nat) :=
  if 0x50 ≤ u ∧ u ≤ 0x53 then some (Reg.VIS_PY_CNT_BUSY_CYCLES, u - 0x50)
  else if 0x54 ≤ u ∧ u ≤ 0x57 then some (Reg.VIS_WP_CNT_BUSY_CYCLES, u - 0x54)
  else if 0x58 ≤ u ∧ u ≤ 0x59 then some (Reg.VIS_ST_CNT_BUSY_CYCLES, u - 0x58)
  else if 0x5A ≤ u ∧ u ≤ 0x5B then some (Reg.VIS_FL_CNT_BUSY_CYCLES, u - 0x5A)
  else if 0x5C ≤ u ∧ u ≤ 0x5D then some (Reg.VIS_FT_CNT_BUSY_CYCLES, u - 0x5C)
  else if 0x76 ≤ u ∧ u ≤ 0x77 then some (Reg.VIS_CP_CNT_BUSY_CYCLES, u - 0x76)
  else none

/-- Release the unit a node held. A SEAM node holds its plumb unit's seam stage, given by unit + 0x100 (R84). -/
def freeUnit (w : Work) (u : Nat) : Work :=
  let x := w.eng u
  let w := match busyCounter u with
    | some (f, i) => if x.run = 0 then w else w.add f (w.d.clk.vcycle - x.since) i
    | none => w
  let w := w.setEng u EngRun.none
  if 0x174 ≤ u ∧ u ≤ 0x175 then w.wr Reg.PLB_SEAM_BUSY 0 (u - 0x174)
  else match engineFields u with
    | some (b, _, _, _, i) => w.wr b 0 i
    | none => w

/-- Is a unit's sounding under way (R473)? -/
def sounding (w : Work) (u : Nat) : Bool :=
  (List.range 90).any (fun s => slotUnit s == u && (tget Sounding.none w.d.saf.slots s).running)

/-- Is a unit taken by a sounding or its isolation wrapper, or kept from work until its first sounding passes (R431, R471, R473)? -/
def soundingOn (w : Work) (u : Nat) : Bool :=
  w.sounding u || w.d.sec.resets.any (fun r => r.unit == u) || (List.range 90).any (fun s => slotUnit s == u && w.rd Reg.SLOT_SSTATE s == 1)

/-- Engine and core work does nothing while a sounding holds the unit (R473). -/
def unlessHeld (w : Work) (u : Nat) (f : Work → Work) : Work := if w.sounding u then w else f w

/-- What is recorded of a node skipped or cut with a status (R73, R80, R82). -/
def recordCut (w : Work) (id n status : Nat) : Work :=
  match w.grun? id with
  | none => w
  | some r =>
      let g := w.version r.seq
      let w := w.modRun id (fun r => { r with
        timeouts := r.timeouts + 1,
        firstTimeout := if r.timeouts = 0 then n else r.firstTimeout,
        firstStatus := if r.timeouts = 0 then status else r.firstStatus })
      let w := w.inc Reg.KS_CNT_TIMEOUT
      let w := ((w.wr Reg.KS_LAST_TO_GRAPH r.gid).wr Reg.KS_LAST_TO_NODE n).wr Reg.KS_LAST_TO_CONTEXT r.actx
      let w := w.wr Reg.KS_LAST_TO_STATUS status
      if w.on Reg.KS_TRACE_EN then
        w.trace uKeystone 3 (pack [(g.gid, 0, 16), (r.slot, 16, 8), (r.actx, 24, 8)]) n status
      else w

/-- A node skipped, or cut at its boundary: its unit is released, and the fill of its outputs is owed. -/
def endCut (w : Work) (id n status : Nat) : Work :=
  match w.grun? id with
  | none => w
  | some r =>
    let x := nodeRun r n
    let w := if x.st = .running then w.freeUnit x.unit else w
    w.modNode id n (fun x => { x with
      st := if x.st = .running then .cut else .skipped, status := status, fillOwed := true, cutAsked := false })

/-- A node is skipped or cut with a status (R73, R80, R82). One whose cut has been asked for already was recorded then. -/
def cutNode (w : Work) (id n status : Nat) : Work :=
  match w.grun? id with
  | none => w
  | some r =>
    let x := nodeRun r n
    if x.st ≠ .waiting ∧ x.st ≠ .running then w
    else if x.cutAsked then w.endCut id n x.status
    else (w.endCut id n status).recordCut id n status

/-- A running node is to be cut at its unit's next boundary: it is recorded now (R73). -/
def askCut (w : Work) (id n status : Nat) : Work :=
  match w.grun? id with
  | none => w
  | some r =>
    if (nodeRun r n).st ≠ .running ∨ (nodeRun r n).cutAsked then w
    else (w.modNode id n (fun x => { x with status := status, cutAsked := true })).recordCut id n status

/-- A graph in flight is dispatched or resumed on a unit: its touch-table entry (R477). -/
def touch (w : Work) (u id : Nat) : Work :=
  match w.grun? id with
  | none => w
  | some r =>
    let e : Touch := ⟨u, id, r.actx, r.afc⟩
    if w.d.saf.touches.contains e then w else w.setSaf { w.d.saf with touches := w.d.saf.touches ++ [e] }

/-- The node a unit runs: (run, node). -/
def holderOf (w : Work) (u : Nat) : Option (Nat × Nat) :=
  w.d.ks.runs.findSome? (fun r =>
    (r.nodes.findIdx? (fun x => decide (x.st = .running) && x.unit == u)).map (fun n => (r.id, n)))

/-- A node instance registers with the flag of an input edge for the count it needs next (R61); one that has read every line or stripe needs no more. -/
def waitEdge (w : Work) (id n e : Nat) : Work :=
  match w.grun? id with
  | none => w
  | some r =>
    let f := w.flagOf r ((w.version r.seq).eFlag e)
    if (w.version r.seq).eKind e ≠ 2 ∧ w.rd Reg.FLAG_TARGET f < w.edgeNeed r n e then w else w.register f (.node id n) (w.edgeNeed r n e)

/-- A running consumer has read k lines or stripes of an input edge (R56, R72): its next wait starts now, for the one after them. -/
def consumed (w : Work) (id n e k : Nat) : Work :=
  match w.grun? id with
  | none => w
  | some r =>
    if k ≤ tget 0 (nodeRun r n).reads e then w
    else
      let t := w.now
      (w.modNode id n (fun x => { x with reads := tset 0 x.reads e k, waitFrom := t })).waitEdge id n e

end Work

end Sys2Proof.Machine
end

