-- ==== Sys2Proof/Machine/Ledger.lean ====
section
/-! DEFINITION. The frame ledger: the words of an entry, their order and their writing (R76 to R80), and the entry of a frame that no instance
takes (R58). -/

namespace Sys2Proof.Machine

open Config

namespace Work

/-! ### The frame ledger (R76 to R79) -/

/-- The words of a run's ledger entry for one of its frames, but for COMPLETION_TB (R79). -/
def entryWords (w : Work) (r : GRun) (f : CtxFrame) : List Nat :=
  let g := w.version r.seq
  let refused := decide (r.phase = .refused)
  let st := w.runStatus r
  let suspect := r.suspect || w.rd Reg.SAF_STATE == 2
  [pack [(1, 0, 4), (f.ctx, 8, 8), (r.gid, 16, 16)], f.fc, low 32 f.sofTb, f.sofTb / 2 ^ 32, low 32 f.eofTb, f.eofTb / 2 ^ 32,
    pack [(f.bits, 0, 10), (f.paramSet, 16, 16)], pack [(f.pad, 0, 16), (f.cut, 16, 16)],
    pack [(min 0xFFFF r.tilesMasked, 0, 16), (min 0xFFFF r.tilesRefined, 16, 16)], pack [(min 0xFFFF r.tilesDeferred, 0, 16)],
    pack [(st, 0, 8), (b2n suspect, 8, 1), (b2n (decide (0 < r.timeouts)), 9, 1), (b2n r.recovered, 10, 1), (b2n r.dropped, 11, 1),
      (b2n (decide (0 < r.lateNodes)), 12, 1), (b2n (decide (0 < r.soundUs)), 13, 1), (b2n refused, 14, 1), (min 0xFFFF r.soundUs, 16, 16)],
    pack [(r.timeouts, 0, 16), (r.firstTimeout, 16, 16)],
    pack [(r.lateNodes, 0, 16), (r.actx, 16, 8), (if refused then 0 else r.slot, 24, 8)],
    if refused then 0 else g.ver]

/-- The address of a ledger entry (R78). -/
def ledgerAddr (w : Work) (c fc : Nat) : Nat := w.rd Reg.KS_LEDGER_BASE + (256 * c + fc % 256) * 64

/-- The words of a held entry but for COMPLETION_TB, as they stand when it is written (R80). -/
def holdWords (w : Work) (h : LedgerHold) : List Nat :=
  match w.grun? h.run with
  | none => h.words
  | some r => match r.frames.find? (fun f => f.ctx == h.ctx && f.fc == h.fc) with
    | none => h.words
    | some f => w.entryWords r f

/-- Write one entry at the present TB; its frame leaves the order of its context (R76, R79). -/
def writeEntry (w : Work) (h : LedgerHold) : Work :=
  let ws := w.holdWords h ++ [low 32 w.now, low 32 (w.now / 2 ^ 32)]
  let (w, _) := w.writeAt uKeystone (w.ledgerAddr h.ctx h.fc) (wordsBytes ws)
  let w := w.wr Reg.KSC_LAST_LEDGER_FRAME h.fc h.ctx
  w.setKs { w.d.ks with holds := w.d.ks.holds.filter (fun x => decide (x ≠ h)), order := w.d.ks.order.filter (fun e => e != (h.ctx, h.fc)) }

/-- Is an entry's frame the first of its context that has no entry yet (R76)? -/
def entryTurn (w : Work) (h : LedgerHold) : Bool :=
  match w.d.ks.order.find? (fun e => e.1 == h.ctx) with
  | some e => e.2 == h.fc
  | none => true

/-- Write every held entry whose turn has come, in frame-counter order per context; fuel is the number of held entries. -/
def flushEntries : Nat → Work → Work
  | 0, w => w
  | n + 1, w =>
    match w.d.ks.holds.find? (fun h => w.entryTurn h) with
    | none => w
    | some h => flushEntries n (w.writeEntry h)

/-- A run is ledgered once none of its entries is held. -/
def markLedgered (w : Work) : Work :=
  w.setKs { w.d.ks with runs := w.d.ks.runs.map (fun r =>
    if !r.entered ∨ w.d.ks.holds.any (fun h => h.run == r.id) then r else { r with ledgered := true }) }

/-- Write what may be written and mark the runs whose entries are all visible. -/
def flushLedger (w : Work) : Work := (flushEntries w.d.ks.holds.length w).markLedgered

/-- The entry of a frame of context c that no instance took, ended at a TB (R58): STATUS INSTANCE_BUSY and the BUSY bit, and for want of an instance GRAPH_ID
0xFFFF, ANCHOR_CONTEXT 0xFF, SLOT 0 and GRAPH_VERSION 0 (DESIGN CHOICE, log entry 76). A frame that has left the order of its context already gets
none, and so does every frame while KS_LEDGER_BASE is 0. -/
def untakenEntry (w : Work) (c : Nat) (f : OpenFrame) (eofTb : Nat) : Work :=
  let words := [pack [(1, 0, 4), (c, 8, 8), (0xFFFF, 16, 16)], f.fc, low 32 f.sofTb, f.sofTb / 2 ^ 32, low 32 eofTb, eofTb / 2 ^ 32,
    pack [(f.bits, 0, 10), (f.paramSet, 16, 16)], pack [(f.pad, 0, 16), (f.cut, 16, 16)], 0, 0,
    pack [(stInstanceBusy, 0, 8), (1, 14, 1)], 0xFFFF0000, 0x00FF0000, 0]
  if !w.d.ks.order.contains (c, f.fc) then w
  else if w.rd Reg.KS_LEDGER_BASE = 0 then
    (w.setKs { w.d.ks with order := w.d.ks.order.filter (fun e => e != (c, f.fc)) }).flushLedger
  else (w.setKs { w.d.ks with holds := w.d.ks.holds ++ [⟨0, c, f.fc, words⟩] }).flushLedger

end Work

end Sys2Proof.Machine
end

