-- ==== Sys2Proof/Machine/Ingress.lean ====
section
/-! DEFINITION. Sensor ingress: packets to frames and lines, padding, the course-buffer ring, ports, sensor control, frame sync
and the parameter ledger (R104 to R115, R119 to R128, R223 to R225, R525). -/

namespace Sys2Proof.Machine

open Config

/-! ### Pixel decode (R105, R106) -/

/-- RAW10: four pixels in five bytes. -/
def unpack10 : List Nat → List Nat
  | a :: b :: c :: d :: e :: r => [a * 4 + bits e 1 0, b * 4 + bits e 3 2, c * 4 + bits e 5 4, d * 4 + bits e 7 6] ++ unpack10 r
  | _ => []

/-- RAW12: two pixels in three bytes. -/
def unpack12 : List Nat → List Nat
  | a :: b :: c :: r => [a * 16 + bits c 3 0, b * 16 + bits c 7 4] ++ unpack12 r
  | _ => []

/-- RAW14: four pixels in seven bytes. -/
def unpack14 : List Nat → List Nat
  | a :: b :: c :: d :: e :: f :: g :: r =>
    [a * 64 + bits e 5 0, b * 64 + bits e 7 6 + 4 * bits f 3 0, c * 64 + bits f 7 4 + 16 * bits g 1 0, d * 64 + bits g 7 2] ++ unpack14 r
  | _ => []

/-- RAW16: one pixel in two bytes, low byte first (PRESUMED, log entry 8). -/
def unpack16 : List Nat → List Nat
  | a :: b :: r => (a + 256 * b) :: unpack16 r
  | _ => []

/-- RAW20: two pixels in five bytes, each pixel as two 10-bit halves packed as RAW10 (PRESUMED, log entry 8). -/
def unpack20 : List Nat → List Nat
  | a :: b :: c :: d :: e :: r =>
    [(a * 4 + bits e 1 0) * 1024 + b * 4 + bits e 3 2, (c * 4 + bits e 5 4) * 1024 + d * 4 + bits e 7 6] ++ unpack20 r
  | _ => []

/-- YUV422 8-bit as U Y V Y: Y in [7:0], U or V in [15:8] (R106, PRESUMED, log entry 8). -/
def unpackYuv : List Nat → List Nat
  | u :: y :: v :: z :: r => [y + 256 * u, z + 256 * v] ++ unpackYuv r
  | _ => []

/-- The pixels of a line's payload; a trailing partial group is dropped (R106, R110). A DPCM-compressed pixel takes one byte; what it decodes to
is a free value (PRESUMED, log entry 8). -/
def decodeLine (dt dpcm : Nat) (payload : List Byte) : List Nat :=
  let bs := payload.map BitVec.toNat
  if dt = 0x1E then unpackYuv bs
  else if dt = 0x2B then unpack10 bs
  else if dt = 0x2C then unpack12 bs
  else if dt = 0x2D then unpack14 bs
  else if dt = 0x2E then unpack16 bs
  else if dt = 0x2F then unpack20 bs
  else if 0x30 ≤ dt ∧ dt ≤ 0x37 then
    if dpcm = 1 then (List.range bs.length).map (fun i => low 10 (dpcmDecode 10 bs i)) else if dpcm = 2 then (List.range bs.length).map (fun i => low 12 (dpcmDecode 12 bs i)) else bs
  else bs

/-- Bytes per pixel in the course buffer (R106). -/
def pixelBytes (dt dpcm : Nat) : Nat :=
  if dt = 0x12 ∨ dt = 0x2A then 1 else if dt = 0x2F then 4 else if 0x30 ≤ dt ∧ dt ≤ 0x37 ∧ dpcm = 0 then 1 else 2

/-- SYNC_WINDOW of a SOURCE node (R58, R224). -/
def GVer.syncWindow (g : GVer) (n : Nat) : Nat := wd (g.params n) 0

/-- Line pitch in the ring (R224). -/
def linePitch (width px : Nat) : Nat := roundUp (width * px + 4) 64

namespace Work

/-- Replace the ingress state. -/
def setIng (w : Work) (x : Ingress) : Work := { w with d := { w.d with ing := x } }

/-- The CONTEXT_MAP in force for a port and virtual channel (R50). -/
def mapFor (w : Work) (port vc : Nat) : List Nat :=
  match tget [] w.d.ldr.mapOld (port * 32 + vc) with
  | [] => w.region 3 0
  | m => m

/-- Does CONTEXT_MAP entry c match a port and virtual channel? -/
def mapHit (m : List Nat) (c port vc : Nat) : Bool :=
  let x := wd m (4 * c)
  bitAt x 0 && !bitAt x 1 && bits x 11 8 == port && bits x 20 16 == vc

/-- Enabled contexts fed by a port and virtual channel, ascending. -/
def ctxsOf (w : Work) (port vc : Nat) : List Nat :=
  let m := w.mapFor port vc
  (List.range 64).filter (fun c => mapHit m c port vc)

/-- The error-record unit of a context: its receive port, or the Keystone for a replay context (R119). -/
def ctxUnit (w : Work) (c : Nat) : Nat :=
  let x := wd (w.ctxMap c) 0
  if bitAt x 1 then uKeystone else 0x64 + bits x 11 8

/-- Is a port receiving (R525)? -/
def portLive (w : Work) (p : Nat) : Bool := w.on Reg.PORT_ENABLE p && w.on Reg.PORT_LOCKED p

/-! ### Course-buffer ring -/

/-- The address of the n-th line written since the context was enabled, in the ring its frame went to (R224, R225). -/
def ringAddr (f : OpenFrame) (n : Nat) : Nat := f.ringBase + (if f.ringDepth = 0 then 0 else n % f.ringDepth) * f.ringPitch

/-- Bytes of a line's pixels; its sideband word follows them. -/
def lineBytes (f : OpenFrame) : Nat := f.width * pixelBytes f.dataType f.dpcm

/-- The pixels of a ring line. -/
def ringPixels (w : Work) (f : OpenFrame) (n : Nat) : List Nat :=
  let px := pixelBytes f.dataType f.dpcm
  (List.range f.width).map (fun i => w.num .course (ringAddr f n + i * px) px)

/-- The sideband word of a line (R112). -/
def sideband (padFrom : Nat) (padded crc : Bool) : Nat := pack [(padFrom, 0, 16), (b2n padded, 16, 1), (b2n crc, 17, 1)]

/-- Signal lines of a context's frame to the SOURCE node of a running run (R56). -/
def signalSource (w : Work) (r : GRun) (c lines : Nat) : Work :=
  match (w.version r.seq).sources.find? (fun n => (w.version r.seq).unit n == c) with
  | none => w
  | some n => if lines = 0 then w else w.signalPort r.id n 0 lines

/-- Every line position taken of the open frame and not yet signalled counts for the SOURCE node of the run that takes it (R56); while that run is not
instantiated they wait (R65). -/
def flushLines (w : Work) (c : Nat) : Work :=
  let x := w.ctxIn c
  match x.frame with
  | none => w
  | some f =>
    match w.grun? f.run with
    | none => w
    | some r =>
      if r.phase ≠ .running then w
      else (w.setCtxIn c { x with frame := some { f with signalled := f.slots.length } }).signalSource r c (f.slots.length - f.signalled)

/-- The lines of a run's frames that waited for its instantiation go in (R65): of open frames and of frames that have ended since. -/
def flushRun (w : Work) (id : Nat) : Work :=
  match w.grun? id with
  | none => w
  | some r => r.frames.foldl (fun w k =>
      if !k.closed then w.flushLines k.ctx
      else (w.modRun id (fun r => { r with frames := r.frames.map (fun j => if j.ctx = k.ctx then { j with img := { j.img with signalled := j.img.slots.length } } else j) })).signalSource
        r k.ctx (k.img.slots.length - k.img.signalled)) w

/-- The ISP_OUT node of a graph fed by a context's SOURCE node (R140). -/
def ispNodeOf (g : GVer) (c : Nat) : Option Nat :=
  (g.sources.find? (fun n => g.unit n == c)).bind (fun n => ((g.outEdges n).map (fun e => g.eTo e)).find? (fun m => g.typ m == 2))

/-- STRIPE_LINES of an ISP_OUT node, the whole frame with FRAME_GRAN (R140, R147). -/
def stripeLines (p : List Nat) (height : Nat) : Nat := if bitAt (wd p 0) 0 then height else bits (wd p 0) 26 16

/-- Bytes of state a context needs (R148). -/
def ispNeed (wid : Nat) : Nat := 8192 + 32 * wid

/-- WIDTH of a run's frame of a context as latched at its start (R115), else as the register holds it. -/
def runWidth (w : Work) (r : GRun) (c : Nat) : Nat := ((r.frames.find? (fun k => k.ctx == c)).map (fun k => k.img.width)).getD (w.rd Reg.CTX_WIDTH c)

/-- Does a context's need exceed ISP_STATE_STRIDE (R148)? -/
def ispShort (w : Work) (r : GRun) (c : Nat) : Bool := decide (w.rd Reg.ISP_STATE_STRIDE < ispNeed (w.runWidth r c))

/-- URGENT follows the unconsumed lines; becoming urgent counts (R150). -/
def ispUrgency (w : Work) (c : Nat) : Work :=
  let x := w.ctxIn c
  let g := match x.frame with
    | some f => (w.grun? f.run).map (fun (r : GRun) => w.version r.seq)
    | none => w.activeGraph (w.ctxGraph c)
  let height := match x.frame with
    | some f => f.height
    | none => w.rd Reg.CTX_HEIGHT c
  match g.bind (fun g => (ispNodeOf g c).map (fun n => stripeLines (g.params n) height)) with
  | none => w
  | some s =>
    let now := decide (0 < x.depth ∧ x.depth - s ≤ x.written - x.consumed)
    let w := if now && !w.on Reg.ISPC_URGENT c then w.inc Reg.ISP_CTX_CNT_URGENT c else w
    w.wr Reg.ISPC_URGENT (b2n now) c

/-- Change the open frame of a context. -/
def modFrame (w : Work) (c : Nat) (g : OpenFrame → OpenFrame) : Work :=
  let x := w.ctxIn c
  w.setCtxIn c { x with frame := x.frame.map g }

/-- Set ledger bits of the open frame. -/
def frameBits (w : Work) (c m : Nat) : Work := w.modFrame c (fun f => { f with bits := Nat.lor f.bits m })

/-- Add to PAD_COUNT of the open frame, saturating (R110). -/
def framePad (w : Work) (c : Nat) : Work := w.modFrame c (fun f => { f with pad := min 0xFFFF (f.pad + 1) })

/-- Add to CUT_COUNT of the open frame, saturating (R110). -/
def frameCut (w : Work) (c : Nat) : Work := w.modFrame c (fun f => { f with cut := min 0xFFFF (f.cut + 1) })

/-- The open frame is short (R110): FRAME_SHORT is set, and counts once per frame. -/
def frameShort (w : Work) (c : Nat) : Work :=
  match (w.ctxIn c).frame with
  | none => w
  | some f => (if bitAt f.bits 2 then w else w.inc Reg.ING_CTX_CNT_FRAME_SHORT c).frameBits c 4

/-- How a line position comes to be taken (R110, R150): by a line that arrived whole or was cut, by one that ingress padded, or by padding alone. -/
inductive LineCase where
  | whole | padded | missing
  deriving DecidableEq, Repr

/-- Put a line's pixels and sideband word into the ring at the next position. A line that finds all D lines unconsumed is discarded: its position counts as
missing, and where it arrived, as an overrun (R150, R225). A padded line adds 1 to PAD_COUNT, and so does one position once at most. -/
def putLine (w : Work) (c : Nat) (pix : List Nat) (sb : Nat) (how : LineCase) : Work :=
  let x := w.ctxIn c
  match x.frame with
  | none => w
  | some f =>
    let full := !f.discard && decide (x.depth ≤ x.written - x.consumed)
    let w := if how ≠ .whole ∨ full then w.framePad c else w
    let w := if how = .missing then w else w.wr Reg.CTX_LINES_RECEIVED (w.rd Reg.CTX_LINES_RECEIVED c + 1) c
    let w := if full then (if how = .missing then w else w.inc Reg.ISP_CTX_CNT_OVERRUN c).frameShort c else w
    if f.discard || full then (w.modFrame c (fun f => { f with slots := f.slots ++ [none] })).flushLines c
    else
      let a := ringAddr f x.written
      let bs := (pix.take f.width).flatMap (leBytes (pixelBytes f.dataType f.dpcm))
      let w := (w.put .course a bs).put .course (a + lineBytes f) (leBytes 4 sb)
      let w := w.modFrame c (fun f => { f with slots := f.slots ++ [some x.written] })
      let w := w.setCtxIn c { w.ctxIn c with written := x.written + 1 }
      ((w.raise Reg.CB_PEAK_LINES (x.written + 1 - x.consumed) c).flushLines c).ispUrgency c

/-- Pixels x ≥ from of a line padded by the pad rule (R111): constant, or copied from P pixels earlier. -/
def padPixels (f : OpenFrame) (got : List Nat) : List Nat :=
  let p := 2 ^ f.period
  (List.range f.width).foldl (fun acc i =>
    if i < got.length then acc ++ [got.getD i 0]
    else if f.padRule && decide (p ≤ i) then acc ++ [acc.getD (i - p) 0] else acc ++ [f.padValue]) []

/-- A wholly padded line (R111): constant, or a copy of line y - P where that line was received or padded. -/
def paddedLine (w : Work) (f : OpenFrame) : List Nat :=
  let p := 2 ^ f.period
  let y := f.slots.length
  let const := List.replicate f.width f.padValue
  if f.padRule ∧ p ≤ y then
    match f.slots.getD (y - p) none with
    | some n => w.ringPixels f n
    | none => const
  else const

/-- One missing line position: the whole line is padded (R110). -/
def missLine (w : Work) (c : Nat) : Work :=
  match (w.ctxIn c).frame with
  | none => w
  | some f =>
    (w.frameShort c).putLine c (w.paddedLine f) (sideband 0 true false) .missing

/-- Missing positions up to a position are padded (R110). -/
def missTo (w : Work) (c pos : Nat) : Work :=
  match (w.ctxIn c).frame with
  | none => w
  | some f => (List.range (pos - f.slots.length)).foldl (fun w _ => w.missLine c) w

/-- A line of payload for a context's open frame at its next position (R109 to R112). -/
def takeLine (w : Work) (c : Nat) (payload : List Byte) (crcOk : Bool) (lineNumEn : Bool) : Work :=
  let x := w.ctxIn c
  match x.frame with
  | none => w
  | some f =>
      let pos := match lineNumEn, f.lineNo with
        | true, some n => if n = 0 then f.slots.length else n - f.firstLine.getD n
        | _, _ => f.slots.length
      let w := w.modFrame c (fun f => { f with lineNo := none })
      if f.height ≤ pos then
        let w := if bitAt f.bits 3 then w else w.inc Reg.ING_CTX_CNT_FRAME_LONG c
        (w.frameBits c 8).frameCut c
      else if pos < f.slots.length then w
      else
        let w := w.missTo c pos
        match (w.ctxIn c).frame with
        | none => w
        | some f =>
          if !crcOk then
            (w.frameBits c 0x80).putLine c (w.paddedLine f) (sideband 0 true true) .padded
          else
            let pix := decodeLine f.dataType f.dpcm payload
            let n := pix.length
            if n < f.width then
              let w := (w.inc Reg.ING_CTX_CNT_LINE_SHORT c).frameBits c 1
              w.putLine c (padPixels f pix) (sideband n (decide (n = 0)) false) .padded
            else if f.width < n then
              let w := ((w.inc Reg.ING_CTX_CNT_LINE_LONG c).frameBits c 2).frameCut c
              w.putLine c pix (sideband f.width false false) .whole
            else w.putLine c pix (sideband f.width false false) .whole

/-! ### Frames -/

/-- The frame a run keeps for a context takes the open frame's ledger facts (R79). -/
def syncFrame (w : Work) (c eofTb : Nat) (closed : Bool) : Work :=
  match (w.ctxIn c).frame with
  | none => w
  | some f => w.modRun f.run (fun r => { r with frames := r.frames.map (fun k =>
      if k.ctx = c ∧ k.fc = f.fc then { k with bits := f.bits, pad := f.pad, cut := f.cut, paramSet := f.paramSet, eofTb := eofTb, closed := closed, img := f } else k) })

/-- The longest SYNC_WINDOW within which an active graph's SOURCE other than the anchor takes a context's frames (R58); none where no graph does. -/
def takeWindow (w : Work) (c : Nat) : Option Nat :=
  (w.d.ldr.graphs.filter GVer.active).foldl (fun b g =>
    (((g.sources.drop 1).filter (fun n => g.unit n == c)).map g.syncWindow).foldl (fun b v => some (max v (b.getD 0))) b) none

/-- A frame that no instance has taken may still be taken (R58). -/
def takeable (w : Work) (c : Nat) (f : OpenFrame) : Bool :=
  decide (f.run = 0) && !f.discard && (w.takeWindow c).any (fun v => decide (w.now ≤ f.sofTb + v))

/-- The lines of the open frame leave the ring again (R58, R66): its data is discarded, and so are its later lines. -/
def dropLines (w : Work) (c : Nat) : Work :=
  let x := w.ctxIn c
  match x.frame with
  | none => w
  | some f =>
    w.setCtxIn c { x with
      written := (f.slots.findSome? id).getD x.written
      frame := some { f with discard := true, slots := f.slots.map (fun _ => none) } }

/-- The open frame, which no instance takes, is discarded and counted for its context (R58). -/
def giveUp (w : Work) (c : Nat) : Work := (w.dropLines c).inc Reg.KSC_INSTANCE_BUSY c

/-- Close a context's open frame at the present TB: missing lines are padded, the ledger facts are recorded (R110). A frame that no
run took stays for the instances that may still take it, or gets its ledger entry now (R58). -/
def closeFrame (w : Work) (c : Nat) : Work :=
  match (w.ctxIn c).frame with
  | none => w
  | some f =>
    let w := w.missTo c f.height
    let w := (w.flushLines c).syncFrame c w.now true
    let w := match (w.ctxIn c).frame with
      | some f => if f.run ≠ 0 ∨ f.discard ∨ w.takeable c f then w else w.giveUp c
      | none => w
    let x := w.ctxIn c
    match x.frame with
    | none => w
    | some f =>
      let w := (w.setCtxIn c { x with frame := none }).wr Reg.CTX_FRAME_OPEN 0 c
      if f.run ≠ 0 then w
      else if f.discard then w.untakenEntry c f w.now
      else w.setCtxIn c { w.ctxIn c with loose := (w.ctxIn c).loose ++ [(f, w.now)] }

/-- Close a context's open frame as a short frame (R110). -/
def closeShort (w : Work) (c : Nat) : Work := (w.frameShort c).closeFrame c

/-- A closed frame that no instance took in time is discarded, counted and entered (R58); where its lines are the oldest in the ring they leave it. -/
def expireLoose (w : Work) (c : Nat) (f : OpenFrame) (eofTb : Nat) : Work :=
  let x := w.ctxIn c
  let mine := f.slots.filterMap id
  let x := { x with
    loose := x.loose.filter (fun e => decide (e.1.fc ≠ f.fc ∨ e.1.sofTb ≠ f.sofTb))
    consumed := if mine.head? = some x.consumed then mine.getLastD x.consumed + 1 else x.consumed }
  ((w.setCtxIn c x).inc Reg.KSC_INSTANCE_BUSY c).untakenEntry c f eofTb

/-- Frames whose SYNC_WINDOW has passed without an instance that takes them are given up (R58). -/
def expirePartners (w : Work) : Work :=
  (w.d.ing.ctxs.map Prod.fst).foldl (fun w c =>
    let w := (w.ctxIn c).loose.foldl (fun w e => if w.takeable c e.1 then w else w.expireLoose c e.1 e.2) w
    match (w.ctxIn c).frame with
    | some f => if f.run ≠ 0 ∨ f.discard ∨ w.takeable c f then w else w.giveUp c
    | none => w) w

/-- EXT_FC after a frame start that carries frame number f (R108): the new counter, the frames skipped and whether the number is
local. -/
def extFc (ext fcMax lastF f : Nat) (ever fcLocal : Bool) : Nat × Nat × Bool :=
  if fcLocal ∨ f = 0 then (low 32 (ext + 1), 0, true)
  else if !ever then (f, 0, false)
  else
    let d : Int := if lastF < f then f - lastF else f + fcMax - lastF
    if d = 0 then (low 32 (ext + 1), 1, false)
    else (wrapInt 32 (ext + d), (d - 1).toNat, false)

/-- A frame of a context with the register values of the present TB (R115). -/
def latched (w : Work) (c dt fc : Nat) : OpenFrame where
  fc := fc
  sofTb := w.now
  run := 0
  discard := false
  dataType := dt
  width := w.rd Reg.CTX_WIDTH c
  height := w.rd Reg.CTX_HEIGHT c
  padRule := w.on Reg.CTX_PAD_RULE c
  period := w.rd Reg.CTX_MOSAIC_PERIOD c
  dpcm := w.rd Reg.CTX_DPCM c
  padValue := w.rd Reg.CTX_PAD_VALUE c
  eofNs := w.rd Reg.CTX_EOF_TIMEOUT_NS c
  delay := w.rd Reg.CTX_SENSOR_DELAY c
  ringBase := 0
  ringDepth := 0
  ringPitch := 0
  slots := []
  firstLine := none
  lineNo := none
  bits := 0
  pad := 0
  cut := 0
  signalled := 0
  paramSet := (w.ctxIn c).lastSet
  calib := []

/-- Open a frame on a context at the present TB with the register values latched (R115). -/
def openFrame (w : Work) (c dt fc : Nat) (local_ : Bool) : Work :=
  let f := { w.latched c dt fc with bits := if local_ then 0x200 else 0 }
  let w := w.setCtxIn c { w.ctxIn c with frame := some f, ever := true, timedOut := false }
  (((w.wr Reg.CTX_EXT_FC fc c).wr Reg.CTX_FRAME_OPEN 1 c).wr Reg.CTX_LINES_RECEIVED 0 c).inc Reg.ING_CTX_CNT_FRAMES c

/-! ### Parameter ledger -/

/-- The parameter area of a context (R125). -/
def paramArea (w : Work) (c : Nat) : Nat := w.rd Reg.ING_PARAM_BASE + c * 0x20000

/-- The device address of a pending-set slot (R125). -/
def setSlot (w : Work) (c k : Nat) : Nat := w.paramArea c + 0x1000 + k * 4608

/-- Apply one set: each sub-block it carries overrides the context's (R122, R139). -/
def applySet (w : Work) (c : Nat) (s : PSet) : Work :=
  let x := w.ctxIn c
  let ws := bytesWords (w.fetch (w.setSlot c s.slot) (8 * s.paramLen))
  let ov := (subBlocks 64 ws).foldl (fun t b => tset [] t b.1 b.2) x.overrides
  w.setCtxIn c { x with overrides := ov, lastSet := s.setId }

/-- Sort sets by target, posting order kept among equal targets (R122). -/
def byTarget (l : List PSet) : List PSet :=
  l.foldl (fun acc s => acc.filter (fun t => decide (t.target ≤ s.target)) ++ [s] ++ acc.filter (fun t => !decide (t.target ≤ s.target))) []

/-- Send a set's command list to its I3C master (R124). -/
def sendList (w : Work) (c : Nat) (s : PSet) : Work :=
  let bs := w.fetch (w.setSlot c s.slot + 4096) (8 * s.listLen)
  let ws := bytesWords bs
  let entries := (List.range s.listLen).map (fun k => wd64 ws (2 * k))
  let m := tget I3c.none w.d.ing.i3c s.master
  let w := w.setIng { w.d.ing with i3c := tset I3c.none w.d.ing.i3c s.master { m with lists := m.lists ++ [(w.ctxUnit c, entries)] } }
  (w.inc Reg.ING_I3C_CNT_LISTS s.master).wr Reg.I3C_BUSY 1 s.master

/-- SENSOR_DELAY in force for a context: that of its open frame, else the register's (R115). -/
def sensorDelay (w : Work) (c : Nat) : Nat :=
  match (w.ctxIn c).frame with
  | some f => f.delay
  | none => w.rd Reg.CTX_SENSOR_DELAY c

/-- What the ledger does at a frame start (R122, R124): a list posted after its frame start had passed moves its set's target to SENSOR_DELAY frames on from
this one; pending sets whose target is reached are applied in order; then the lists due SENSOR_DELAY frames ahead are sent. -/
def ledgerStart (w : Work) (c : Nat) : Work :=
  let fc := w.rd Reg.CTX_EXT_FC c
  let delay := w.sensorDelay c
  let x := w.ctxIn c
  let w := w.setCtxIn c { x with sets := x.sets.map (fun s =>
    if s.late && decide (0 < s.listLen) && !s.listSent then { s with target := max s.target (fc + delay) } else s) }
  let sets := (w.ctxIn c).sets
  let due := byTarget (sets.filter (fun s => decide (s.target ≤ fc)))
  let late := due.any (fun s => decide (s.target < fc) || s.late)
  let w := due.foldl (fun w s =>
    let w := w.applySet c s
    if s.target < fc ∨ s.late then w.inc Reg.ING_CTX_CNT_PARAM_LATE c else w) w
  let w := w.modFrame c (fun f => { f with paramSet := (w.ctxIn c).lastSet, bits := if late then Nat.lor f.bits 0x100 else f.bits })
  let send := fun (s : PSet) => decide (0 < s.listLen) && !s.listSent && decide (s.target ≤ fc + delay)
  let w := (sets.filter send).foldl (fun w s => w.sendList c s) w
  let x := w.ctxIn c
  let w := w.setCtxIn c { x with sets := (sets.filter (fun s => !decide (s.target ≤ fc))).map (fun s => if send s then { s with listSent := true } else s) }
  let last := (w.ctxIn c).lastSet
  (w.wr Reg.CTX_LAST_PARAM_SET last c).wr Reg.CTX_PARAM_PENDING (w.ctxIn c).sets.length c

/-- The ISP sub-blocks of a frame are latched at its start: the context's override, else the ISP_CALIB in force, else the default
(R139). -/
def latchCalib (w : Work) (c : Nat) : Work :=
  let base := (subBlocks 64 (w.region 8 (bits (wd (w.ctxMap c) 1) 7 0))).foldl (fun t b => tset [] t b.1 b.2) []
  let all := (w.ctxIn c).overrides.foldl (fun t b => tset [] t b.1 b.2) base
  w.modFrame c (fun f => { f with calib := all })

/-- The mosaic pattern in force for a context: its override, else its calibration's, else 0 (R138, R139). -/
def patternOf (w : Work) (c : Nat) : Nat :=
  let blk := fun (l : List (Nat × List Nat)) => (l.find? (fun b => b.1 == 5)).map (fun b => bits (wd b.2 2) 3 0)
  (blk (w.ctxIn c).overrides).getD ((blk (subBlocks 64 (w.region 8 (bits (wd (w.ctxMap c) 1) 7 0)))).getD 0)

/-- Are the reserved bits of a command entry's word 0 zero (R119)? -/
def i3cPlain (v : Nat) : Bool := Nat.land v 0xF7F == low 32 v

/-- Is a command entry's LEN one of 1 to 4 (R119)? -/
def i3cLen (v : Nat) : Bool := decide (1 ≤ bits v 10 8 ∧ bits v 10 8 ≤ 4)

/-- A PARAM_SET post (R121 to R124): its eight record words. -/
def paramPost (w : Work) (rec : List Nat) : Work × Nat :=
  let w0 := wd rec 0
  let c := bits w0 15 8
  let setId := bits w0 31 16
  let target := wd rec 1
  let addr := wd64 rec 2
  let plen := bits (wd rec 4) 15 0
  let llen := bits (wd rec 4) 23 16
  let laddr := wd64 rec 5
  if bits w0 3 0 ≠ 1 ∨ 64 ≤ c ∨ setId = 0xFFFF ∨ !w.ctxEnabled c ∨ w.rd Reg.ING_PARAM_BASE = 0 ∨ 512 < plen ∨ 64 < llen ∨
      addr % 64 ≠ 0 ∨ (0 < llen ∧ laddr % 8 ≠ 0) then (w, stDescFormat)
  else
    let x := w.ctxIn c
    let same := x.sets.find? (fun s => s.target == target)
    if same.isNone ∧ 16 ≤ x.sets.length then (w, stParamFull)
    else
      let (w, st1, pb) := if addr = 0 then (w, stOk, []) else w.readAt uKeystone addr (8 * plen)
      let (w, st2, lb) := if llen = 0 then (w, stOk, []) else w.readAt uKeystone laddr (8 * llen)
      let lws := bytesWords lb
      if st1 ≠ stOk then (w, st1)
      else if st2 ≠ stOk then (w, st2)
      else if (List.range llen).any (fun k => !i3cPlain (wd lws (2 * k))) then (w, stDescReserved)
      else if (List.range llen).any (fun k => bitAt (wd lws (2 * k)) 11 || !i3cLen (wd lws (2 * k))) then (w, stDescFormat)
      else if (calibFault true (w.patternOf c) (if addr = 0 then [] else bytesWords pb)).isSome then
        (w, ((calibFault true (w.patternOf c) (bytesWords pb)).map (fun f => f.1)).getD stDescFormat)
      else
        let slot := match same with
          | some s => s.slot
          | none => ((List.range 16).find? (fun k => !x.sets.any (fun s => s.slot == k))).getD 0
        let w := (w.store (w.setSlot c slot) pb).store (w.setSlot c slot + 4096) lb
        let fc := w.rd Reg.CTX_EXT_FC c
        let sendAt : Int := (target : Int) - (w.sensorDelay c : Nat)
        let lateList := decide (0 < llen) && (w.ctxIn c).ever && decide (sendAt ≤ (fc : Int))
        let s : PSet := ⟨setId, target, slot, if addr = 0 then 0 else plen, llen, bits (wd rec 4) 26 24, false, lateList⟩
        let x := w.ctxIn c
        let w := w.setCtxIn c { x with sets := x.sets.filter (fun t => t.target != target) ++ [s] }
        let w := if same.isSome then w.inc Reg.ING_CTX_CNT_PARAM_SUPERSEDED c else w
        let w := w.wr Reg.CTX_PARAM_PENDING (w.ctxIn c).sets.length c
        (w, if lateList then stParamLate else stOk)

/-! ### Ports (R525) -/

/-- RATE is within the limits of R104 for the port's PHY. -/
def rateOk (w : Work) (p : Nat) : Bool :=
  let r := w.rd Reg.PORT_RATE p
  if w.rd Reg.PORT_PHY p = 0 then decide (80 ≤ r ∧ r ≤ 4500) else decide (80 ≤ r ∧ r ≤ 6000)

/-- Writing ENABLE = 1 starts the receiver; a RATE outside R104 sets LOCK_FAIL and leaves it off. -/
def portEnable (w : Work) (p : Nat) : Work :=
  if w.on Reg.PORT_ENABLE p then w
  else
    let w := w.wr Reg.PORT_ENABLE 1 p
    if w.rateOk p then w.setIng { w.d.ing with locking := tset 0 w.d.ing.locking p (w.now + 1) }
    else (w.wr Reg.PORT_LOCK_FAIL 1 p).setIng { w.d.ing with shut := p :: w.d.ing.shut }

/-- Close short the frames a port has open, under the maps in force for them (R50, R431, R525). -/
def portFrames (w : Work) (p : Nat) : Work :=
  (List.range 32).foldl (fun w vc => (w.ctxsOf p vc).foldl (fun w c => w.closeShort c) w) w

/-- Writing ENABLE = 0 turns the receiver off, clears LOCK_FAIL and keeps no frame open. -/
def portDisable (w : Work) (p : Nat) : Work :=
  let w := (((w.wr Reg.PORT_ENABLE 0 p).wr Reg.PORT_LOCK_FAIL 0 p).wr Reg.PORT_LOCKED 0 p).wr Reg.PORT_DESKEWED 0 p
  (w.setIng { w.d.ing with locking := tdel w.d.ing.locking p, shut := w.d.ing.shut.filter (fun q => q != p) }).portFrames p

/-- The receiver locks; LOCKED rises, and DESKEWED where skew calibration completed. -/
def portLocked (w : Work) (p : Nat) (deskewed : Bool) : Work :=
  if !w.on Reg.PORT_ENABLE p ∨ w.d.ing.shut.contains p then w
  else
    let w := (w.wr Reg.PORT_LOCKED 1 p).wr Reg.PORT_LOCK_FAIL 0 p
    let w := if deskewed ∧ w.rd Reg.PORT_PHY p = 0 then w.wr Reg.PORT_DESKEWED 1 p else w
    w.setIng { w.d.ing with locking := tdel w.d.ing.locking p }

/-- LOCKED has not risen within 1 ms of ENABLE; the receiver keeps trying. -/
def lockFail (w : Work) (p : Nat) : Work :=
  let t := tget 0 w.d.ing.locking p
  if t = 0 ∨ w.on Reg.PORT_LOCKED p then w else (w.advance (t - 1 + 1000000)).wr Reg.PORT_LOCK_FAIL 1 p

/-! ### Packets -/

/-- A generic short packet is discarded and counted (R105). -/
def genericShort (w : Work) (p : Nat) : Work :=
  if !w.portLive p then w else (w.inc Reg.ING_PORT_CNT_PACKETS p).inc Reg.ING_PORT_CNT_SHORT_OTHER p

/-- A line start or line end packet sets the line position where LINE_NUM_EN is 1 (R109). -/
def lineStart (w : Work) (p vc n : Nat) (isEnd : Bool) : Work :=
  if !w.portLive p then w
  else
    let w := w.inc Reg.ING_PORT_CNT_PACKETS p
    if isEnd ∨ !w.on Reg.PORT_LINE_NUM_EN p ∨ n = 0 then w
    else (w.ctxsOf p vc).foldl (fun w c =>
      w.modFrame c (fun f => { f with lineNo := some n, firstLine := match f.firstLine with | none => some n | some m => some m })) w

/-- A long packet (R107, R110, R113). One that arrives in S3, before the first useful cycle after it, is lost (R416). -/
def longPacket (w : Work) (p vc dt : Nat) (payload : List Byte) (crcOk : Bool) : Work :=
  if !w.portLive p ∨ 2 ≤ w.rd Reg.PWR_DEVICE_STATE then w
  else
    let w := w.inc Reg.ING_PORT_CNT_PACKETS p
    let w := if crcOk then w else w.inc Reg.ING_PORT_CNT_CRC p
    let m := w.mapFor p vc
    match (w.ctxsOf p vc).find? (fun c => bits (wd m (4 * c)) 29 24 == dt) with
    | none => ((w.inc Reg.ING_PORT_CNT_UNTRACKED p).wr Reg.PORT_LAST_UNTRACKED_VC vc p).wr Reg.PORT_LAST_UNTRACKED_DT dt p
    | some c =>
      let w := w.setIng { w.d.ing with lastCtx := tset 64 w.d.ing.lastCtx p c }
      match (w.ctxIn c).frame with
      | none => if (w.ctxIn c).timedOut then w.inc Reg.ING_CTX_CNT_LATE_LINES c else w.inc Reg.ING_PORT_CNT_ORPHAN p
      | some _ => w.takeLine c payload crcOk (w.on Reg.PORT_LINE_NUM_EN p)

/-- Close a context's frame at a frame end packet (R110, R113): one in the V-cycle of the end-of-frame timeout wins and counts a
near miss. -/
def endFrame (w : Work) (c : Nat) : Work :=
  match (w.ctxIn c).frame with
  | none => w
  | some f =>
    let w := w.collide (w.ctxUnit c) (f.sofTb + f.eofNs)
    let w := if w.atDue (f.sofTb + f.eofNs) then (w.inc Reg.ING_CTX_CNT_NEAR_MISS c).wr Reg.CTX_NEAR_MISS_TB w.now c else w
    w.closeFrame c

/-- A frame end packet (R107, R110). -/
def frameEnd (w : Work) (p vc : Nat) : Work :=
  if !w.portLive p then w
  else
    let w := w.inc Reg.ING_PORT_CNT_PACKETS p
    let cs := w.ctxsOf p vc
    if cs.isEmpty then w
    else cs.foldl (fun w c =>
      if (w.ctxIn c).frame.isSome then w.endFrame c
      else if (w.ctxIn c).timedOut then w.inc Reg.ING_CTX_CNT_LATE_LINES c else w.inc Reg.ING_PORT_CNT_ORPHAN p) w

/-- A packet dropped for its header: it takes one wholly padded line position of the context of the port's last long packet, unless
line numbers are in use (R114). -/
def headerDrop (w : Work) (p : Nat) : Work :=
  if !w.portLive p then w
  else
    let w := w.inc Reg.ING_PORT_CNT_HDR_DROP p
    let c := tget 64 w.d.ing.lastCtx p
    match (w.ctxIn c).frame with
    | none => w
    | some f =>
      let w := w.frameBits c 0x41
      if w.on Reg.PORT_LINE_NUM_EN p && f.firstLine.isSome then w
      else if f.height ≤ f.slots.length then w
      else
        w.putLine c (w.paddedLine f) (sideband 0 true false) .missing

/-- A corrected header is counted, and HDR_ECC_FIXED is set in the open frames the packet belongs to (R114): those of its virtual channel, of a long packet
only the one of its data type. -/
def headerFixed (w : Work) (p vc : Nat) (dt : Option Nat) : Work :=
  if !w.portLive p then w
  else
    let w := w.inc Reg.ING_PORT_CNT_HDR_FIXED p
    let m := w.mapFor p vc
    let cs := (w.ctxsOf p vc).filter (fun c => match dt with
      | some d => bits (wd m (4 * c)) 29 24 == d
      | none => true)
    cs.foldl (fun w c => w.frameBits c 0x20) w

/-- The end-of-frame timeout closes a frame still open (R113). -/
def eofTimeout (w : Work) (c : Nat) : Work :=
  match (w.ctxIn c).frame with
  | none => w
  | some f =>
    let w := (w.advance (f.sofTb + f.eofNs)).inc Reg.ING_CTX_CNT_EOF_TIMEOUT c
    let w := (w.frameBits c 0x10).closeShort c
    w.setCtxIn c { w.ctxIn c with timedOut := true }

/-! ### Sensor control (R119, R128) -/

/-- An I3C master. -/
def i3c (w : Work) (m : Nat) : I3c := tget I3c.none w.d.ing.i3c m

/-- Replace an I3C master; BUSY and FIFO_LEVEL follow. -/
def setI3c (w : Work) (m : Nat) (x : I3c) : Work :=
  let w := w.setIng { w.d.ing with i3c := tset I3c.none w.d.ing.i3c m x }
  (w.wr Reg.I3C_FIFO_LEVEL x.fifo.length m).wr Reg.I3C_BUSY (b2n (!x.fifo.isEmpty || !x.lists.isEmpty)) m

/-- Is a list about to be sent, or under way: a message of the direct FIFO that is on the bus goes first (R119)? -/
def i3cListNext (x : I3c) : Bool := !x.lists.isEmpty && !x.direct

/-- The master puts its next message on the bus (R119): a list's while it has one, else a direct command. -/
def i3cNext (x : I3c) : I3c := { x with direct := x.lists.isEmpty && !x.fifo.isEmpty }

/-- Push a direct command (R128): one onto a full FIFO, or of a reserved LEN, is ignored and logged; reserved bits are ignored (R10). -/
def i3cPush (w : Work) (m req v : Nat) : Work :=
  let x := w.i3c m
  if 64 ≤ x.fifo.length ∨ !i3cLen v then w.log req
  else
    let x := { x with fifo := x.fifo ++ [Nat.land (low 32 v) 0xF7F + v / 2 ^ 32 % 2 ^ 32 * 2 ^ 32] }
    w.setI3c m (if x.direct || !w.on Reg.I3C_ENABLE m then x else i3cNext x)

/-- A master is enabled: it puts its next message on the bus (R119). -/
def i3cEnable (w : Work) (m : Nat) : Work := if w.on Reg.I3C_ENABLE m then w else (w.wr Reg.I3C_ENABLE 1 m).setI3c m (i3cNext (w.i3c m))

/-- The message on the bus ends (R119); a disabled master sends none. A NACK aborts the rest of its list, counts and is recorded; a read's bytes are kept for
ING_I3C_RDATA. -/
def i3cDone (w : Work) (m : Nat) (ack : Bool) (data : List Byte) : Work :=
  let x := w.i3c m
  if !w.on Reg.I3C_ENABLE m then w
  else if i3cListNext x then
    match x.lists with
    | (u, _ :: es) :: ls =>
      if ack then w.setI3c m (i3cNext { x with lists := if es.isEmpty then ls else (u, es) :: ls })
      else ((w.setI3c m (i3cNext { x with lists := ls })).inc Reg.ING_I3C_CNT_NACK m).err u stOk m
    | (_, []) :: ls => w.setI3c m (i3cNext { x with lists := ls })
    | [] => w
  else
    match x.fifo with
    | [] => w
    | e :: es =>
      if ack then
        let got := if bitAt e 11 then data.take (bits e 10 8) else []
        w.setI3c m (i3cNext { x with fifo := es, rdata := x.rdata ++ got })
      else ((w.setI3c m (i3cNext { x with fifo := es })).inc Reg.ING_I3C_CNT_NACK m).err uKeystone stOk m

/-- An in-band interrupt is acknowledged and counted (R119). -/
def i3cIbi (w : Work) (m : Nat) : Work := if w.on Reg.I3C_ENABLE m then w.inc Reg.ING_I3C_CNT_IBI m else w

/-- A read of ING_I3C_RDATA pops up to four read bytes, byte 0 in [7:0] (R128). -/
def i3cRead (w : Work) (m : Nat) : Work × Nat :=
  let x := w.i3c m
  (w.setI3c m { x with rdata := x.rdata.drop 4 }, leNat (x.rdata.take 4))

/-! ### Frame sync (R120) -/

/-- A generator's output. -/
def fsync (w : Work) (n : Nat) : Fsync := tget Fsync.none w.d.ing.fsync n

/-- Replace a generator's output. -/
def setFsync (w : Work) (n : Nat) (x : Fsync) : Work :=
  w.setIng { w.d.ing with fsync := tset Fsync.none w.d.ing.fsync n x }

/-- A generator drives its active edge: the first at START_TB, each later one PERIOD_NS after the last. A pulse not shorter than
the period leaves the output inactive and is logged. -/
def fsyncEdge (w : Work) (n : Nat) : Work :=
  if !w.on Reg.SYNC_ENABLE n then w
  else
    let x := w.fsync n
    let due := if x.next = 0 then max (w.rd Reg.SYNC_START_TB n) w.now else x.next
    let w := w.advance due
    let period := w.rd Reg.SYNC_PERIOD_NS n
    let width := w.rd Reg.SYNC_WIDTH_NS n
    let once := w.on Reg.SYNC_ONE_SHOT n
    if period ≤ width then (w.setFsync n { x with active := false, next := due + period }).log uKeystone n
    else
      let w := w.setFsync n ⟨true, if once then 0 else due + period, due + width⟩
      let w := if once then w.wr Reg.SYNC_ENABLE 0 n else w
      w.inc Reg.SYNC_EDGES n

/-- A generator is turned off: its next edge, once it is on again, is a first one. -/
def fsyncOff (w : Work) (n : Nat) : Work := (w.wr Reg.SYNC_ENABLE 0 n).setFsync n { w.fsync n with next := 0 }

/-- A pulse ends after WIDTH_NS. -/
def fsyncEnd (w : Work) (n : Nat) : Work :=
  let x := w.fsync n
  if !x.active then w else (w.advance x.pulseEnd).setFsync n { x with active := false, pulseEnd := 0 }

end Work

end Sys2Proof.Machine
end

