-- ==== Sys2Proof/Machine/Sequencer.lean ====
section
/-! DEFINITION. Frame-graph sequencing: start-of-frame, instantiation, completion, timeouts, the frame ledger, emit completions and
release (R52, R55 to R80, R359, R362, R363). -/

namespace Sys2Proof.Machine

open Config

/-- LEDGER_EN of a HOST_EMIT node (R362). -/
def GVer.ledgerEn (g : GVer) (n : Nat) : Bool := bitAt (wd (g.params n) 1) 16

/-- HOST_EMIT nodes of a version, lowest index first. -/
def GVer.emits (g : GVer) : List Nat := (List.range g.nodeCount).filter (fun n => g.typ n == 0x0C)

namespace Work

/-! ### Frames and runs -/

/-- The SOURCE node that takes a context's frames: that of the graph the context instantiates, else of the first active graph
that has one. -/
def sourceOf (w : Work) (c : Nat) : Option (GVer × Nat) :=
  let has := fun (g : GVer) => (g.sources.find? (fun n => g.unit n == c)).map (fun n => (g, n))
  match (w.activeGraph (w.ctxGraph c)).bind has with
  | some x => some x
  | none => (w.d.ldr.graphs.filter (fun g => g.active)).findSome? has

/-- Set up the context's ring from its SOURCE parameters at a frame start (R224, R225). The count of lines goes on from ring to ring; in another ring none of them
waits. A context without a SOURCE node has no ring, and its frames are discarded. -/
def setRing (w : Work) (c : Nat) : Work :=
  let x := w.ctxIn c
  match x.frame with
  | none => w
  | some f =>
    match w.sourceOf c with
    | none => w.giveUp c
    | some (g, n) =>
      let p := g.params n
      let seg := bits (wd p 2) 15 0
      let depth := bits (wd p 3) 15 0
      let pitch := linePitch f.width (pixelBytes f.dataType f.dpcm)
      let x := if seg = x.firstSeg ∧ depth = x.depth then x else { x with consumed := x.written }
      w.setCtxIn c { x with
        firstSeg := seg, depth := depth, pitch := pitch
        frame := some { f with ringBase := seg * 0x40000, ringDepth := depth, ringPitch := pitch } }

/-- The lowest slot of a graph below a bound that no resident version has an instance in (R65). -/
def freeSlot (w : Work) (gid bound : Nat) : Option Nat :=
  (List.range bound).find? (fun s => !w.liveRuns.any (fun r => r.gid == gid && r.slot == s))

/-- Put a context's frame into a run (R58): its open frame, or one that has ended at a TB since. -/
def bindFrame (w : Work) (c id : Nat) : Work :=
  match (w.ctxIn c).frame with
  | none => w
  | some f =>
    let w := w.modFrame c (fun f => { f with run := id })
    let w := w.modRun id (fun r => { r with frames := r.frames ++ [⟨c, f.fc, f.sofTb, 0, f.bits, f.paramSet, f.pad, f.cut, false, { f with run := id }⟩] })
    if (w.grun? id).any (fun r => decide (r.phase = .refused)) then w.dropLines c else w.flushLines c

/-- A frame of a context that has ended and waits joins a run (R58). -/
def bindLoose (w : Work) (c id : Nat) (e : OpenFrame × Nat) : Work :=
  let f := { e.1 with run := id }
  let x := w.ctxIn c
  let w := w.setCtxIn c { x with loose := x.loose.filter (fun y => decide (y ≠ e)) }
  w.modRun id (fun r => { r with frames := r.frames ++ [⟨c, f.fc, f.sofTb, e.2, f.bits, f.paramSet, f.pad, f.cut, true, f⟩] })

/-- A partner context's frame that shares a refused anchor's INSTANCE_BUSY is counted for its context (R66, DEDUCED, log entry 76). -/
def countRefused (w : Work) (c id : Nat) : Work :=
  if (w.grun? id).any (fun r => decide (r.phase = .refused)) then w.inc Reg.KSC_INSTANCE_BUSY c else w

/-- The active version of a model. -/
def activeModel (w : Work) (m : Nat) : Option MVer := w.d.ldr.models.find? (fun x => x.mid == m && x.active)

/-- A new graph in flight: its graph version and model versions are those now active (R52). -/
def addRun (w : Work) (g : GVer) (slot actx afc : Nat) (trigger : Option JobRef) (phase : GPhase) : Work :=
  let r : GRun := {
    id := w.d.ks.nextRun, gid := g.gid, seq := g.seq, slot := slot, origin := w.now, actx := actx, afc := afc, trigger := trigger
    phase := phase, startV := w.d.clk.vcycle, gens := [], models := g.models.filterMap (fun m => (w.activeModel m).map MVer.seq)
    nodes := List.replicate g.nodeCount NodeRun.fresh, frames := [], firstTimeout := 0xFFFF, timeouts := 0
    firstStatus := 0, lateNodes := 0, suspect := false, recovered := false, dropped := false, truncated := false, soundUs := 0
    tilesMasked := 0, tilesRefined := 0, tilesDeferred := 0, entered := false, ledgered := false, handed := [], emitted := [], heldUntil := 0 }
  w.setKs { w.d.ks with nextRun := w.d.ks.nextRun + 1, runs := w.d.ks.runs ++ [r] }

/-- Frames of partner contexts that started within SYNC_WINDOW before the anchor's join the newest run, the first of each context (R58). -/
def bindEarlier (w : Work) (g : GVer) (id : Nat) : Work :=
  (g.sources.drop 1).foldl (fun w n =>
    let c := g.unit n
    let near := fun (f : OpenFrame) => decide (f.run = 0 ∧ w.now ≤ f.sofTb + g.syncWindow n) && !f.discard
    match (w.ctxIn c).loose.find? (fun e => near e.1), (w.ctxIn c).frame with
    | some e, _ => (w.bindLoose c id e).countRefused c id
    | none, some f => if near f then (w.bindFrame c id).countRefused c id else w
    | none, none => w) w

/-- The anchor's start-of-frame at the Keystone (R58, R65, R66, R67): an instance is queued in the lowest free slot, or the frame is
refused. -/
def anchorStart (w : Work) (c : Nat) : Work :=
  match w.activeGraph (w.ctxGraph c), (w.ctxIn c).frame with
  | some g, some f =>
    if g.anchor ≠ some c then w
    else
      let slot := if w.on Reg.KS_DISPATCH_EN then w.freeSlot g.gid g.maxRuns else none
      match slot with
      | some s =>
        let id := w.d.ks.nextRun
        ((w.addRun g s c f.fc none .queued).bindFrame c id).bindEarlier g id
      | none =>
        let w := w.inc Reg.KS_CNT_INSTANCE_BUSY
        if w.rd Reg.KS_LEDGER_BASE = 0 then
          let w := w.giveUp c
          w.setKs { w.d.ks with order := w.d.ks.order.filter (fun e => e != (c, f.fc)) }
        else
          let id := w.d.ks.nextRun
          (((w.inc Reg.KSC_INSTANCE_BUSY c).addRun g 0 c f.fc none .refused).bindFrame c id).bindEarlier g id
  | _, _ => w

/-- A frame of a context starts that a non-anchor SOURCE may take (R58): the oldest run within the window takes it; one that
arrives in the V-cycle of the node's timeout counts a near miss (R74). -/
def partnerStart (w : Work) (c : Nat) : Work :=
  let fits := fun (r : GRun) =>
    let g := w.version r.seq
    match (g.sources.drop 1).find? (fun n => g.unit n == c) with
    | none => false
    | some n => !r.frames.any (fun f => f.ctx == c) && decide (w.now ≤ r.origin + g.syncWindow n) &&
        (decide (r.phase = .refused) || decide (r.live ∧ (nodeRun r n).st = .waiting))
  match (w.ctxIn c).frame with
  | none => w
  | some f =>
    if f.run ≠ 0 ∨ f.discard then w
    else match w.d.ks.runs.find? fits with
      | none => w
      | some r =>
        let g := w.version r.seq
        let t := match (g.sources.drop 1).find? (fun n => g.unit n == c) with
          | some n => g.node n 2
          | none => 0
        let w := if t ≠ 0 then w.collide uKeystone (r.origin + t) else w
        let w := if t ≠ 0 ∧ w.atDue (r.origin + t) then (w.inc Reg.KS_CNT_NEAR_MISS).wr Reg.KS_NEAR_MISS_TB w.now else w
        (w.bindFrame c r.id).countRefused c r.id

/-- A context switches to what was committed or bound since its last start-of-frame (R50, R53, R54, R359). -/
def switchContext (w : Work) (c fc : Nat) : Work :=
  let b := tget 0 w.d.ldr.nextBindings c
  let w := if b = 0 then w else
    w.setLdr { w.d.ldr with bindings := tset 0 w.d.ldr.bindings c b, nextBindings := tdel w.d.ldr.nextBindings c }
  if w.d.ldr.pendingCtx.contains c then
    let w := w.setLdr { w.d.ldr with pendingCtx := w.d.ldr.pendingCtx.filter (fun x => x != c) }
    if w.on Reg.KS_TRACE_EN then w.trace uKeystone 5 c fc w.d.ldr.buildId else w
  else w

/-- A start-of-frame on one context (R108, R110, R115): an open frame is closed short, the counter advances, the frame opens, parameter
sets apply, and the Keystone sees it. ext is the new EXT_FC and local_ the LOCAL_COUNT bit. -/
def contextStart (w : Work) (c dt ext : Nat) (local_ : Bool) : Work :=
  let w := match (w.ctxIn c).frame with
    | none => w
    | some _ => w.closeShort c
  let w := (w.openFrame c dt ext local_).wr Reg.KSC_LAST_SOF_FRAME ext c
  let w := w.setKs { w.d.ks with order := w.d.ks.order ++ [(c, ext)] }
  let w := ((w.switchContext c ext).ledgerStart c).latchCalib c
  ((w.setRing c).anchorStart c).partnerStart c

/-- A frame start packet (R107, R108, R115): it acts on every enabled context of its port and virtual channel, under the newest
CONTEXT_MAP (R50). -/
def frameStart (w : Work) (p vc n : Nat) : Work :=
  if !w.portLive p then w
  else
    let w := w.inc Reg.ING_PORT_CNT_PACKETS p
    let old := w.ctxsOf p vc
    let w := w.setLdr { w.d.ldr with mapOld := tdel w.d.ldr.mapOld (p * 32 + vc) }
    let cs := w.ctxsOf p vc
    let w := (old.filter (fun c => !cs.contains c)).foldl (fun w c =>
      if (w.ctxIn c).frame.isSome then w.closeShort c else w) w
    let m := w.mapFor p vc
    cs.foldl (fun w c =>
      let dt := bits (wd m (4 * c)) 29 24
      if w.rd Reg.CTX_WIDTH c = 0 ∨ w.rd Reg.CTX_HEIGHT c = 0 then
        ((w.inc Reg.ING_PORT_CNT_UNTRACKED p).wr Reg.PORT_LAST_UNTRACKED_VC vc p).wr Reg.PORT_LAST_UNTRACKED_DT dt p
      else
        let x := w.ctxIn c
        let (ext, skip, local_) := extFc (w.rd Reg.CTX_EXT_FC c) (w.rd Reg.CTX_FC_MAX c) x.lastF n x.ever (w.on Reg.CTX_FC_LOCAL c)
        let w := w.add Reg.ING_CTX_CNT_FC_SKIP skip c
        let w := w.contextStart c dt ext local_
        w.setCtxIn c { w.ctxIn c with lastF := n }) w

/-- A packet acts on the port it came in on (R105, R107). -/
def csiPacket (w : Work) (p vc : Nat) (k : CsiPacket) : Work :=
  match k with
  | .frameStart n => w.frameStart p vc (low 16 n)
  | .frameEnd _ => w.frameEnd p vc
  | .lineStart n => w.lineStart p vc (low 16 n) false
  | .lineEnd n => w.lineStart p vc (low 16 n) true
  | .generic => w.genericShort p
  | .long dt bs ok => w.longPacket p vc (low 6 dt) bs ok

/-- A packet with a header in error (R114). A frame start marks the frame it opens; every other packet marks the frame it finds open. -/
def headerEcc (w : Work) (p : Nat) (h : HeaderFix) : Work :=
  match h with
  | .discarded => w.headerDrop p
  | .corrected vc (.frameStart n) => (w.csiPacket p vc.val (.frameStart n)).headerFixed p vc.val none
  | .corrected vc (.long dt bs ok) => (w.headerFixed p vc.val (some (low 6 dt))).csiPacket p vc.val (.long dt bs ok)
  | .corrected vc k => (w.headerFixed p vc.val none).csiPacket p vc.val k

/-! ### Instantiation (R65) -/

/-- The trace record words A of a run (R495). -/
def runTag (r : GRun) : Nat := pack [(r.gid, 0, 16), (r.slot, 16, 8), (r.actx, 24, 8)]

/-- The order in which instantiations queue (R65): by V-cycle of start; within one, start-of-frames in ascending context order, then triggers. -/
def queueKey (r : GRun) : List Nat := [r.startV, b2n r.trigger.isSome, r.actx, r.id]

/-- The first queued instantiation. -/
def firstQueued (w : Work) : Option GRun :=
  (w.d.ks.runs.filter (fun r => decide (r.phase = .queued))).foldl (fun (b : Option GRun) r =>
    match b with
    | none => some r
    | some x => if decide (queueKey r < queueKey x) then some r else some x) none

/-- A slot's flag takes the next generation, COUNT 0 and its TARGET; nodes of an earlier instance wait on it no more. A poisoned flag is whole again (R303). -/
def armFlag (w : Work) (g : GVer) (r : GRun) (i : Nat) : Work :=
  let f := w.flagOf r i
  let w := ((w.wr Reg.FLAG_GENERATION ((w.rd Reg.FLAG_GENERATION f + 1) % 65536) f).wr Reg.FLAG_COUNT 0 f).wr Reg.FLAG_TARGET (g.target i) f
  let w := w.setWaits f ((w.waits f).filter (fun x => match x.who with | .node _ _ => false | _ => true))
  if w.d.ks.poisoned.contains f then w.setKs { w.d.ks with poisoned := w.d.ks.poisoned.filter (fun x => x != f) } else w

/-- Start the first queued instantiation when none is under way, not before the V-cycle after the last one's end: its slot's flags are armed. -/
def instantiate (w : Work) : Work :=
  if w.d.ks.runs.any (fun r => decide (r.phase = .creating)) then w
  else match w.firstQueued with
    | none => w
    | some r =>
      let g := w.version r.seq
      let w := w.reach w.d.ks.instV
      let w := w.upTo g.flagCount (fun w i => w.armFlag g r i)
      let w := w.setKs { w.d.ks with instV := w.d.clk.vcycle }
      let gens := (List.range g.flagCount).map (fun i => w.rd Reg.FLAG_GENERATION (w.flagOf r i))
      let w := (w.modRun r.id (fun r => { r with phase := .creating, gens := gens })).inc Reg.KS_CNT_INSTANTIATED
      if w.on Reg.KS_TRACE_EN then w.trace uKeystone 1 (runTag r) r.afc g.ver else w

/-- V-cycles one instantiation takes (R65). -/
def instantiateCycles (g : GVer) : Nat := 16 + g.nodeCount + g.flagCount

/-! ### Completion (R55, R71, R76) -/

/-- Is a node ended one way or another? -/
def nodeOver (x : NodeRun) : Bool := decide (x.st = .done) || decide (x.st = .skipped) || decide (x.st = .cut)

/-- A node that ran again after a retirement completes (R483): with the last of them the run is held no longer, and an arrival in the
V-cycle of the bound wins. -/
def recovered (w : Work) (id n : Nat) : Work :=
  let w := w.modNode id n (fun x => { x with again := false })
  match w.grun? id with
  | none => w
  | some r =>
    if r.nodes.any NodeRun.again then w
    else
      let w := if r.heldUntil ≠ 0 ∧ w.atDue r.heldUntil then (w.inc Reg.SAF_CNT_NEAR_MISS).wr Reg.SAF_NEAR_MISS_TB w.now else w
      w.modRun id (fun r => { r with heldUntil := 0 })

/-- The context that feeds an ISP_OUT node. -/
def ispContext (g : GVer) (n : Nat) : Nat := (((g.inEdges n).find? (fun e => g.eToPort e == 0)).map (fun e => g.unit (g.eFrom e))).getD 64

/-- TB of the start of a run's frame of a context, or the run's origin where it has none. -/
def frameSof (r : GRun) (c : Nat) : Nat := ((r.frames.find? (fun k => k.ctx == c)).map (fun k => k.sofTb)).getD r.origin

/-- The deadline of a context's frame (R149). -/
def ispDeadline (w : Work) (r : GRun) (c : Nat) : Nat :=
  let b := wd (w.ctxMap c) 2
  if b = 0 then 2 ^ 64 - 1 else frameSof r c + b

/-- What the completion of an ISP_OUT instance records (R151, R152). -/
def ispDone (w : Work) (r : GRun) (n : Nat) : Work :=
  let c := ispContext (w.version r.seq) n
  let w := if w.ispDeadline r c < w.now then w.inc Reg.ISP_CTX_CNT_BUDGET_MISS c else w
  (w.wr Reg.ISPC_LAST_DONE_TB w.now c).raise Reg.ISPC_MAX_LAG_NS (w.now - frameSof r c) c

/-- A node completes (R55): its unit is released and its deadline compared (R71). -/
def completeNode (w : Work) (id n : Nat) : Work :=
  match w.grun? id with
  | none => w
  | some r =>
    let x := nodeRun r n
    if x.st ≠ .running then w
    else
      let g := w.version r.seq
      let late := decide (g.node n 1 ≠ 0) && decide (r.origin + g.node n 1 < w.now)
      let w := (w.modNode id n (fun x => { x with st := .done, late := late })).freeUnit x.unit
      let w := if x.again then w.recovered id n else w
      let w := if g.typ n = 2 then w.ispDone r n else w
      if late then (w.inc Reg.KS_CNT_NODES_LATE).modRun id (fun r => { r with lateNodes := r.lateNodes + 1 }) else w

/-- A unit's own work for a node has ended. -/
def finishNode (w : Work) (id n : Nat) : Work := w.modNode id n (fun x => { x with finished := true })

/-- Has a running node reached the point its type completes at (R55)? -/
def nodeFinished (w : Work) (r : GRun) (n : Nat) : Bool :=
  let g := w.version r.seq
  let x := nodeRun r n
  if g.typ n = 1 then
    r.frames.any (fun f => f.ctx == g.unit n && (f.closed || (match (w.ctxIn f.ctx).frame with
      | some o => o.run == r.id && o.fc == f.fc && decide (o.height ≤ o.signalled)
      | none => false)))
  else if g.typ n = 8 then x.finished && x.cores == 0
  else if g.typ n = 0x0C then r.emitted.contains n
  else x.finished

/-- A node instance completes. -/
def nodeComplete (w : Work) (id n : Nat) : Work :=
  match w.grun? id with
  | none => w
  | some r => if w.nodeFinished r n then w.completeNode id n else w

/-- Signal every output flag of a node up to its TARGET, beyond what the node itself has issued (R73). -/
def signalToTarget (w : Work) (id n : Nat) : Work :=
  match w.grun? id with
  | none => w
  | some r =>
    let g := w.version r.seq
    (g.outFlags n).foldl (fun w idx =>
      let have_ := match w.grun? id with
        | some r => tget 0 (nodeRun r n).counts idx
        | none => 0
      w.signalIdx id n idx (g.target idx - have_)) w

/-! ### Taking a node (R69, R70, R477) -/

/-- A unit takes a ready node: it is held from now on, the engine's registers name it, the touch table and the trace record it. -/
def takeNode (w : Work) (u id n : Nat) : Work :=
  match w.grun? id with
  | none => w
  | some r =>
    let t := w.now
    let w := w.modNode id n (fun x => { x with st := .running, unit := u, waitFrom := t })
    let w := w.setEng u { EngRun.none with run := id, node := n, since := w.d.clk.vcycle }
    let w := if 0x174 ≤ u ∧ u ≤ 0x175 then w.wr Reg.PLB_SEAM_BUSY 1 (u - 0x174)
      else match engineFields u with
        | some (b, gr, nd, cx, i) => (((w.wr b 1 i).wr gr r.gid i).wr nd n i).wr cx r.actx i
        | none => w
    let phys := if 0x174 ≤ u then u - 0x100 else u
    let w := (w.touch phys id).inc Reg.KS_CNT_DISPATCHED
    if w.on Reg.KS_TRACE_EN then w.trace uKeystone 2 (runTag r) (pack [(n, 0, 16), (phys, 16, 8)]) 0 else w

/-! ### The ledger point (R76) -/

/-- Has a run reached its ledger point (R76)? Its entries hold the TB and the bits of frames that have ended (R79, R110, R113), so they wait for the end of
its frames too (DEDUCED, log entry 17). -/
def atLedgerPoint (w : Work) (r : GRun) : Bool :=
  let g := w.version r.seq
  if r.phase = .refused then r.frames.all (fun f => f.closed)
  else decide (r.phase = .running) && r.frames.all (fun f => f.closed) &&
    (List.range g.nodeCount).all (fun n =>
      if g.typ n = 0x0C && g.ledgerEn n then decide ((nodeRun r n).st ≠ .waiting) else nodeOver (nodeRun r n))

/-- A run reaches its ledger point: one entry per context joins the order (R76). A triggered run and a run while
KS_LEDGER_BASE is 0 write none. While a re-execution holds the run nothing is written (R483). -/
def ledgerPoint (w : Work) (id : Nat) : Work :=
  match w.grun? id with
  | none => w
  | some r =>
    if r.ledgered || !w.atLedgerPoint r || decide (r.heldUntil ≠ 0) then w
    else if r.trigger.isSome ∨ w.rd Reg.KS_LEDGER_BASE = 0 then
      let w := w.setKs { w.d.ks with order := w.d.ks.order.filter (fun e => !r.frames.any (fun f => e == (f.ctx, f.fc))) }
      (w.modRun id (fun r => { r with ledgered := true })).flushLedger
    else if w.d.ks.holds.any (fun h => h.run == id) then w.flushLedger
    else
      let hs := r.frames.map (fun f => (⟨id, f.ctx, f.fc, []⟩ : LedgerHold))
      let w := w.setKs { w.d.ks with holds := w.d.ks.holds ++ hs }
      (w.modRun id (fun r => { r with entered := true })).flushLedger

/-! ### HOST_EMIT (R77, R362, R363) -/

/-- Copy the entries of a run to the copy ring of a HOST_EMIT; true when every copy was made (R363). -/
def ledgerCopies (w : Work) (r : GRun) (p : List Nat) : Work × Bool :=
  let k := bits (wd p 1) 15 12
  r.frames.foldl (fun (acc : Work × Bool) f =>
    let w := acc.1
    let (w, st) := w.writeAt uKeystone (wd64 p 2 + (f.ctx * 2 ^ k + f.fc % 2 ^ k) * 64) (w.fetch (w.ledgerAddr f.ctx f.fc) 64)
    (w, acc.2 && st == stOk)) (w, true)

/-- Does an older run of the same anchor context still owe the emit of HOST_EMIT node n (R76)? -/
def emitBlocked (w : Work) (r : GRun) (n : Nat) : Bool :=
  w.d.ks.runs.any (fun q => q.gid == r.gid && q.actx == r.actx && r.trigger.isNone && decide (q.id < r.id) && (w.version q.seq).typ n == 0xC &&
    !q.emitted.contains n)

/-- The words of a HOST_EMIT node's completion as it posts (R77, R354): the ledger STATUS at that moment, or of a skipped node the status recorded against it
(R73, DEDUCED, log entry 17). -/
def emitWords (w : Work) (r : GRun) (n : Nat) : List Nat :=
  let x := nodeRun r n
  let st := if x.st = .skipped ∨ x.st = .cut then x.status else w.runStatus r
  [r.afc, pack [(r.gid, 0, 16), (n, 16, 9)], pack [(st, 0, 8), (r.actx, 8, 8)]]

/-- A HOST_EMIT node's completion has been posted or dropped: the node completes (R55). -/
def emitDone (w : Work) (id n : Nat) : Work := w.modRun id (fun r => { r with emitted := n :: r.emitted })

/-- A HOST_EMIT node hands its emit completion to its queue, to be posted from there, or sends its bare message (R77, R362, R364). A queue without a free
result-buffer entry holds the node (R357). -/
def hostEmitPost (w : Work) (id n : Nat) : Work :=
  match w.grun? id with
  | none => w
  | some r =>
    let g := w.version r.seq
    let st := (nodeRun r n).st
    let open_ := decide (r.phase = .refused) || decide (st = .running) || decide (st = .skipped) || decide (st = .cut)
    if g.typ n ≠ 0x0C || !open_ || r.handed.contains n || w.emitBlocked r n then w
    else if (g.ledgerEn n || decide (r.phase = .refused) || r.entered) && !r.ledgered then w
    else if w.rd Reg.Q_STATE (bits (wd (g.params n) 0) 15 0) = qActive ∧ 256 ≤ (w.queue (bits (wd (g.params n) 0) 15 0)).buf.length then w
    else
      let p := g.params n
      let copy := g.ledgerEn n && w.on Reg.KS_LEDGER_COPY && r.trigger.isNone
      let (w, made) := if copy then w.ledgerCopies r p else (w, false)
      let q := bits (wd p 0) 15 0
      let w := w.modRun id (fun r => { r with handed := n :: r.handed })
      if q = 0xFFFF then (if bitAt (wd p 1) 11 then w.sendVector (bits (wd p 1) 10 0) else w).emitDone id n
      else if w.rd Reg.Q_STATE q ≠ qActive then (w.inc Reg.QE_CNT_EMIT_DROPPED).emitDone id n
      else w.emitReady q (id, n) (bitAt (wd p 0) 16) made

/-- The completion a queue posts next takes the words of its moment, where it answers a HOST_EMIT node (R77). -/
def emitNow (w : Work) (e : BufEnt) : BufEnt :=
  match e.owner with
  | none => e
  | some (id, n) => match w.grun? id with
    | none => e
    | some r => { e with words := w.emitWords r n }

/-- Post the next completion of a queue, an emit completion with the words of that moment (R77, R354). -/
def postNext (w : Work) (q : Nat) : Work :=
  let qq := w.queue q
  let w := match postable qq with
    | some k => w.setQueue q { qq with buf := qq.buf.modify k w.emitNow }
    | none => w
  w.completionPost q

/-- HOST_EMIT nodes whose handed completion no queue holds any more, posted or discarded with its queue, are done (R55, R361). -/
def settleEmits (w : Work) : Work :=
  w.d.ks.runs.foldl (fun w r =>
    (r.handed.filter (fun n => !r.emitted.contains n && !w.d.hif.queues.any (fun q => q.2.buf.any (fun e => e.owner == some (r.id, n))))).foldl
      (fun w n => w.emitDone r.id n) w) w

/-! ### Release (R52, R76, R455) -/

/-- Does an instance in flight use a model version? It uses those that its graph's nodes named when it started (R52). -/
def modelHeld (w : Work) (m : MVer) : Bool := w.liveRuns.any (fun r => r.models.contains m.seq)

/-- The slabs of a MODEL_REF (R46). -/
def modelSlabs (m : MVer) : List Nat := (List.range (bits (wd m.words 3) 15 8)).map (fun k => bits (wd m.words 3) 7 0 + k)

/-- Release superseded graph and model versions that no instance uses (R52); the slabs of a sealed model start being
zeroed (R455). -/
def releaseOld (w : Work) : Work :=
  let used := fun (g : GVer) => g.active || w.liveRuns.any (fun r => r.seq == g.seq)
  let owed := fun (g : GVer) => w.d.ks.runs.any (fun r => r.seq == g.seq)
  let w := w.setLdr { w.d.ldr with graphs := w.d.ldr.graphs.filter used, old := (w.d.ldr.old ++ w.d.ldr.graphs.filter (fun g => !used g)).filter owed }
  let gone := w.d.ldr.models.filter (fun m => !m.active && !w.modelHeld m)
  let kept := fun s => w.d.ldr.models.any (fun m => (m.active || w.modelHeld m) && (modelSlabs m).contains s)
  let zero := (gone.flatMap modelSlabs).filter (fun s => tget 0 w.d.ldr.sealed s != 0 && !kept s)
  w.setLdr { w.d.ldr with
    models := w.d.ldr.models.filter (fun m => m.active || w.modelHeld m), zeroing := w.d.ldr.zeroing ++ zero }

/-- Is an instance complete, with every entry visible (R76)? -/
def runComplete (w : Work) (r : GRun) : Bool :=
  let g := w.version r.seq
  decide (r.phase = .running) && (List.range g.nodeCount).all (fun n => nodeOver (nodeRun r n)) && r.ledgered

/-- Is nothing owed of a run that holds no slot: no entry, no emit completion and no fill (R66, R73)? -/
def runPaid (w : Work) (r : GRun) : Bool :=
  let g := w.version r.seq
  !r.live && r.ledgered && g.emits.all (fun n => r.emitted.contains n) && r.nodes.all (fun x => !x.fillOwed)

/-- A complete instance releases its slot (R76, R52); a trigger's job completes with the run's status (R359). What it still owes, and what a refused frame does,
is kept until it is paid. -/
def instanceComplete (w : Work) (id : Nat) : Work :=
  match w.grun? id with
  | none => w
  | some r =>
    let w := if !w.runComplete r then w
      else
        let st := w.runStatus r
        let w := if w.on Reg.KS_TRACE_EN then w.trace uKeystone 4 (runTag r) r.afc st else w
        let w := (w.inc Reg.KSG_COMPLETED r.gid).modRun id (fun r => { r with phase := .released })
        match r.trigger with
        | some j => w.complete j st
        | none => w
    match w.grun? id with
    | none => w
    | some r => (if w.runPaid r then w.setKs { w.d.ks with runs := w.d.ks.runs.filter (fun q => q.id != id) } else w).releaseOld

/-- Zeroing of a sealed slab ends and the slab is released (R455). -/
def sealZeroDone (w : Work) (slab : Nat) : Work :=
  if !w.d.ldr.zeroing.contains slab then w
  else
    let a := 0x4000000000 + slab * 0x1000000
    let w := { w with mops := .clear .dev a (a + 0x1000000) :: w.mops }
    w.setLdr { w.d.ldr with zeroing := w.d.ldr.zeroing.filter (fun s => s != slab), sealed := tdel w.d.ldr.sealed slab }

/-! ### Wait timeouts (R72, R73) -/

/-- Does a running STREAM or STRIPE consumer wait for a further line or stripe? -/
def starved (w : Work) (r : GRun) (n : Nat) : Bool :=
  let g := w.version r.seq
  (g.inEdges n).any (fun e => w.edgeStarved r n e (w.countOf r (g.eFlag e)))

/-- Is a node exempt from wait timeouts (R75)? -/
def neverWaits (g : GVer) (n : Nat) : Bool := if g.typ n = 1 then g.anchorNode == some n else (g.inEdges n).isEmpty

/-- A node's wait timeout fires (R72, R73, R148): a node not yet ready is skipped at origin + WAIT_TIMEOUT, a starved consumer is cut
WAIT_TIMEOUT after its wait began. An emit that is skipped still posts. -/
def waitTimeout (w : Work) (id n : Nat) : Work :=
  match w.grun? id with
  | none => w
  | some r =>
    let g := w.version r.seq
    let x := nodeRun r n
    let t := g.node n 2
    if t = 0 || neverWaits g n then w
    else match x.st with
      | .waiting =>
        if (w.inputsReady r n && !(g.typ n == 2 && w.ispShort r (ispContext g n))) || decide (r.phase ≠ .running) then w
        else (w.advance (r.origin + t)).cutNode id n stFlagTimeout
      | .running => if w.starved r n then (w.advance (x.waitFrom + t)).cutNode id n stFlagTimeout else w
      | _ => w

/-! ### GRAPH_RUN (R359) -/

/-- GRAPH_RUN mode 0 (R359). -/
def graphBind (w : Work) (gid c : Nat) : Work × Nat :=
  match w.activeGraph gid with
  | none => (w, stDescFormat)
  | some g =>
    if 64 ≤ c ∨ !w.ctxEnabled c ∨ g.anchor ≠ some c then (w, stDescFormat)
    else (w.setLdr { w.d.ldr with nextBindings := tset 0 w.d.ldr.nextBindings c (gid + 1) }, stOk)

/-- GRAPH_RUN mode 2 (R359). -/
def graphUnbind (w : Work) (gid c : Nat) : Work × Nat :=
  if gid ≠ 0 ∨ 64 ≤ c ∨ w.d.ldr.buildId = 0 then (w, stDescFormat)
  else (w.setLdr { w.d.ldr with nextBindings := tset 0 w.d.ldr.nextBindings c 0x10000 }, stOk)

/-- GRAPH_RUN mode 1 (R359, R66): none while the job runs on with its instance. -/
def graphTrigger (w : Work) (job : JobRef) (gid c : Nat) : Work × Option Nat :=
  if c ≠ 0 then (w, some stDescReserved)
  else match w.activeGraph gid with
    | none => (w, some stDescFormat)
    | some g =>
      if !g.sources.isEmpty then (w, some stDescFormat)
      else match (if w.on Reg.KS_DISPATCH_EN then w.freeSlot g.gid g.maxRuns else none) with
        | none => (w.inc Reg.KS_CNT_INSTANCE_BUSY, some stInstanceBusy)
        | some s => (w.addRun g s 0xFF 0 (some job) .queued, none)

end Work

end Sys2Proof.Machine
end

