-- ==== Sys2Proof/Machine/Image.lean ====
section
/-! DEFINITION. What the vision engines share: the tiled layout and the pyramid buffer, sideband words, reading and writing planes, edges
and the buffers of course producers (R93, R94, R112, R154, R204, R205, R308, R311). -/

namespace Sys2Proof.Machine

open Config

/-! ### Layouts -/

/-- A pixel's address in the tiled layout (R311). -/
def tiledAddr (base wt e x y : Nat) : Nat := base + (y / 16 * (wt / 64) + x / 64) * 1024 * e + (y % 16 * 64 + x % 64) * e

/-- True width or height of level L (R154). -/
def lvDim (n l : Nat) : Nat := ceilDiv n (2 ^ l)

/-- Tiled width of level L (R205). -/
def lvTw (width l : Nat) : Nat := roundUp (lvDim width l) 64

/-- Tiled height of level L (R205). -/
def lvTh (height l : Nat) : Nat := roundUp (lvDim height l) 16

/-- Offset of level L in a pyramid buffer of e-byte pixels (R205). -/
def pyrOff (width height e l : Nat) : Nat := ((List.range l).map (fun k => lvTw width k * lvTh height k * e)).sum

/-- Offset of level L's sideband array, after n levels of e-byte pixels, whose total is given (R205). -/
def pyrSb (planes height l : Nat) : Nat := planes + ((List.range l).map (fun k => roundUp (4 * lvTh height k) 64)).sum

/-- An image in memory: its first byte, true width and height, tiled width, bytes per pixel, whether it is tiled, the bytes between lines
of a linear one, and its sideband array, 0 = none. -/
structure Img where
  base : Nat
  w : Nat
  h : Nat
  tw : Nat
  e : Nat
  tiled : Bool
  pitch : Nat
  sb : Nat
  deriving DecidableEq, Repr

/-- The address of a pixel. -/
def Img.addr (m : Img) (x y : Nat) : Nat := if m.tiled then tiledAddr m.base m.tw m.e x y else m.base + y * m.pitch + x * m.e

/-- Bytes an image takes, its sideband array left out. -/
def Img.bytes (m : Img) : Nat := if m.tiled then m.tw * roundUp m.h 16 * m.e else m.pitch * m.h

/-- Level L of a Gaussian pyramid with a number of levels at a base (R205). -/
def pyrImg (base width height e levels l : Nat) : Img :=
  ⟨base + pyrOff width height e l, lvDim width l, lvDim height l, lvTw width l, e, true, 0,
    base + pyrSb (pyrOff width height e levels) height l⟩

/-- Bytes of the planes of an ISP output (R142, R144); chans is the number of planes of a PLANAR format. -/
def ispPlanes (d : List Nat) (chans : Nat) : Nat :=
  let pitch := wd d 7
  let h := bits (wd d 3) 31 16
  let wid := bits (wd d 3) 15 0
  let f := bits (wd d 0) 7 4
  if bitAt (wd d 0) 8 then roundUp wid 64 * roundUp h 16 * (f + 1)
  else if f = 4 ∨ f = 6 then pitch * h + pitch * (h / 2)
  else if f = 7 ∨ f = 8 then chans * pitch * h
  else if f = 9 then (if bitAt (wd d 0) 12 then pitch * h else bits (wd d 0) 15 13 * pitch * h)
  else pitch * h

/-- Bytes of the MXFP8 scales of an ISP output, from the next 64-byte boundary after its planes (R144). -/
def ispScales (d : List Nat) : Nat :=
  if bits (wd d 0) 7 4 = 9 ∧ bits (wd d 0) 11 10 = 2 then
    (if bitAt (wd d 0) 12 then 2 * bits (wd d 3) 15 0 * bits (wd d 3) 31 16 else bits (wd d 0) 15 13 * bits (wd d 3) 31 16 * (bits (wd d 3) 15 0 / 32))
  else 0

/-- Offset of an ISP output's sideband array in its slot's buffer (R145). -/
def ispSb (d : List Nat) (chans : Nat) : Nat :=
  let a := ispPlanes d chans
  if ispScales d = 0 then roundUp a 64 else roundUp (roundUp a 64 + ispScales d) 64

/-- An output descriptor of an ISP_OUT node (R140). -/
def ispDesc (p : List Nat) (port : Nat) : List Nat := (p.drop (2 + 16 * port)).take 16

/-- The median of values: the middle one, or for an even number a free function of the two middle ones, held between them
(DESIGN CHOICE, log entry 23). -/
def medianInt (l : List Int) : Int :=
  let s := l.mergeSort (fun a b => decide (a ≤ b))
  let a := s.getD ((l.length - 1) / 2) 0
  let b := s.getD (l.length / 2) 0
  if a = b then a else clampI a b (midValue a b)

namespace Work

/-- A little-endian number in device memory. -/
def mem (w : Work) (a n : Nat) : Nat := leNat (w.fetch a n)

/-- A pixel of an image. -/
def px (w : Work) (m : Img) (x y : Nat) : Nat := w.mem (m.addr x y) m.e

/-- A coordinate held to [0, n - 1]. -/
def edge (n : Nat) (z : Int) : Nat := (clampI 0 ((n : Int) - 1) z).toNat

/-- A pixel with coordinates beyond the image repeating its edge. -/
def pxE (w : Work) (m : Img) (x y : Int) : Nat := w.px m (edge m.w x) (edge m.h y)

/-- The sideband word of a line (R112); without an array, no pixel is padded. -/
def sbWord (w : Work) (m : Img) (y : Nat) : Nat := if m.sb = 0 then m.w else w.mem (m.sb + 4 * y) 4

/-- Is a pixel padded per a sideband word (R112)? -/
def sbPadded (s x : Nat) : Bool := bitAt s 16 || decide (bits s 15 0 ≤ x)

/-- Is a pixel of an image padded? Coordinates beyond it repeat its edge. -/
def padded (w : Work) (m : Img) (x y : Int) : Bool := sbPadded (w.sbWord m (edge m.h y)) (edge m.w x)

/-- Store the values of a grid of cells at their addresses, rows from y0 on. -/
def paint (w : Work) (y0 rows cols : Nat) (addr : Nat → Nat → Nat) (val : Nat → Nat → List Byte) : Work :=
  (List.range rows).foldl (fun w k => (List.range cols).foldl (fun w x => w.store (addr x (y0 + k)) (val x (y0 + k))) w) w

/-- The instance slot of a run. -/
def slotOf (r : GRun) : Nat := r.slot

/-! ### Input edges of a running node -/

/-- The input edge of a node on one of its input ports. -/
def inEdge (g : GVer) (n port : Nat) : Option Nat := (g.inEdges n).find? (fun e => g.eToPort e == port)

/-- Does the flag of an input port cover a line of the producer's output (R56)? -/
def covers (w : Work) (r : GRun) (n port line : Nat) : Bool :=
  let g := w.version r.seq
  match inEdge g n port with
  | none => true
  | some e =>
    if g.eKind e = 2 then decide (g.target (g.eFlag e) ≤ w.countOf r (g.eFlag e))
    else if g.eKind e = 1 then decide (line / max 1 (g.eStripe e) < w.countOf r (g.eFlag e))
    else decide (line < w.countOf r (g.eFlag e))

/-- A consumer has read lines up to one: its next wait is for the stripe or line after it (R56, R72). -/
def readTo (w : Work) (id n port line : Nat) : Work :=
  match w.grun? id with
  | none => w
  | some r =>
    let g := w.version r.seq
    match inEdge g n port with
    | none => w
    | some e =>
      let k := if g.eKind e = 1 then line / max 1 (g.eStripe e) + 1 else line + 1
      w.consumed id n e k

/-- The edges of an output port, one per flag: edges that share a flag share their port and kind (R56). -/
def portEdges (g : GVer) (n port : Nat) : List Nat :=
  (g.portFlags n port).filterMap (fun i => (g.outEdges n).find? (fun e => g.eFromPort e == port && g.eFlag e == i))

/-- Increments an edge's flag takes as the producer's visible lines grow from before to after, of a total (R56, R145, R167): on a STRIPE edge one per full stripe,
the last one with the last line; on a FRAME edge one, with the last line. -/
def lineIncs (g : GVer) (e before after total : Nat) : Nat :=
  if g.eKind e = 1 then
    let sl := max 1 (g.eStripe e)
    let full := fun k => if total ≤ k then ceilDiv total sl else k / sl
    full after - full before
  else b2n (decide (before < total ∧ total ≤ after))

/-- Signal the flags of an output port, each by its own edge, as lines become visible (R56, R145, R167). -/
def signalLines (w : Work) (id n port before after total : Nat) : Work :=
  match w.grun? id with
  | none => w
  | some r =>
    let g := w.version r.seq
    (portEdges g n port).foldl (fun w e => w.signalIdx id n (g.eFlag e) (lineIncs g e before after total)) w

/-- Signal every output flag of a node by 1. -/
def signalAll (w : Work) (id n : Nat) : Work :=
  match w.grun? id with
  | none => w
  | some r => ((w.version r.seq).outFlags n).foldl (fun w idx => w.signalIdx id n idx 1) w

/-- The counter of instances an engine has run, with its index (R173, R191, R203, R226, R227). -/
def instCounter (u : Nat) : Option (Fld × Nat) :=
  if 0x50 ≤ u ∧ u ≤ 0x53 then some (Reg.VIS_PY_CNT_INSTANCES, u - 0x50)
  else if 0x54 ≤ u ∧ u ≤ 0x57 then some (Reg.VIS_WP_CNT_INSTANCES, u - 0x54)
  else if 0x58 ≤ u ∧ u ≤ 0x59 then some (Reg.VIS_ST_CNT_INSTANCES, u - 0x58)
  else if 0x5A ≤ u ∧ u ≤ 0x5B then some (Reg.VIS_FL_CNT_INSTANCES, u - 0x5A)
  else if 0x5C ≤ u ∧ u ≤ 0x5D then some (Reg.VIS_FT_CNT_INSTANCES, u - 0x5C)
  else none

/-- An engine's own work for a node has ended. -/
def endNode (w : Work) (u id n : Nat) : Work :=
  let w := match instCounter u with
    | some (f, i) => w.inc f i
    | none => w
  w.finishNode id n

/-- A gated engine node after one of its tiles (R95, R96): the last one signals and ends it, and a cut that has been asked for takes effect. -/
def gatedNext (w : Work) (u id n : Nat) (last : Bool) : Work :=
  if last then (w.signalAll id n).endNode u id n
  else if (w.grun? id).any (fun r => (nodeRun r n).cutAsked) then w.cutNode id n stFlagTimeout else w

/-- Go on with a node's step unless its inputs meet a poisoned word: then the node is cut with ECC_UNCORRECTABLE (R298). -/
def unlessPoison (w : Work) (id n : Nat) (areas : List (Nat × Nat)) (f : Work → Work) : Work :=
  match areas.find? (fun a => w.meetsPoison a.1 a.2) with
  | some a => (w.reportPoison a.1 a.2).cutNode id n stEccUncorrectable
  | none => f w

/-! ### Course buffers of producers -/

/-- A buffer of pixel words: its first byte, bytes between lines, bytes per word, width and height in words. -/
structure WordBuf where
  base : Nat
  pitch : Nat
  e : Nat
  w : Nat
  h : Nat
  deriving DecidableEq, Repr

/-- The engine whose scratch area a node uses: the one its UNIT names, even on that engine's partner, else the one it runs on (R172, R189,
R479). -/
def namedUnit (g : GVer) (n u : Nat) : Nat := if g.unit n = 0xFF then u else g.unit n

/-- The parameter words of an engine node past its gating header (R93). -/
def own (g : GVer) (n : Nat) : List Nat := if g.gated n then (g.params n).drop 2 else g.params n

/-- LAST of a FLOW node (R174). -/
def flowLast (p : List Nat) : Nat := bits (wd p 0) 15 12 + bits (wd p 0) 1 0

/-- The pixel words a producer's output port holds for a slot (R97, R167, R170, R178, R184, R188). -/
def wordBuf (g : GVer) (n port slot : Nat) : Option WordBuf :=
  let p := own g n
  if g.typ n = 5 then
    let l := bits (wd p 0) 15 12
    some ⟨wd64 p (if port = 0 then 14 else 18) + slot * wd p 17, wd p 16, 4, lvDim (bits (wd p 2) 15 0) l, lvDim (bits (wd p 2) 31 16) l⟩
  else if g.typ n = 6 then
    let l := flowLast p
    some ⟨wd64 p (if port = 0 then 12 else 16) + slot * wd p 15, wd p 14, 8, lvDim (bits (wd p 2) 15 0) l, lvDim (bits (wd p 2) 31 16) l⟩
  else if g.typ n = 0xA then
    let e := if bitAt (wd p 0) 2 then 8 else 4
    some ⟨wd64 p 6 + slot * wd p 8, bits (wd p 9) 15 0 * e, e, bits (wd p 9) 15 0, bits (wd p 9) 31 16⟩
  else none

/-- The density of the flow field a node writes: a FLOW node's own, and that of its first course for a SEAM (R97, R98). -/
def fieldDensity (g : GVer) : Nat → Nat → Nat
  | 0, _ => 0
  | fuel + 1, n =>
    if g.typ n = 6 then bits (wd (own g n) 0) 1 0
    else if g.typ n = 10 then ((inEdge g n 0).map (fun e => fieldDensity g fuel (g.eFrom e))).getD 0 else 0

/-- The pixel words that feed an input port of a node. -/
def inputWords (w : Work) (r : GRun) (n port : Nat) : Option WordBuf :=
  let g := w.version r.seq
  (inEdge g n port).bind (fun e => wordBuf g (g.eFrom e) (g.eFromPort e) r.slot)

/-- The tile list that feeds an input port: its address (R86, R93). -/
def inputList (w : Work) (r : GRun) (n port : Nat) : Nat :=
  let g := w.version r.seq
  match inEdge g n port with
  | none => 0
  | some e => let p := g.params (g.eFrom e); wd64 p 8 + r.slot * wd p 7

/-- Entries of a tile list (R91). -/
def listCount (w : Work) (a : Nat) : Nat := if a = 0 then 0 else bits (w.mem (a + 8) 4) 15 0

/-- Column and row of entry i of a tile list. -/
def listTile (w : Work) (a i : Nat) : Nat × Nat := (w.mem (a + 64 + 8 * i) 2, w.mem (a + 66 + 8 * i) 2)

/-- The DONE bit of entry i of a tile list. -/
def listDone (w : Work) (a i : Nat) : Bool := bitAt (w.mem (a + 68 + 8 * i) 4) 18

/-- Set the DONE bit of entry i of a tile list (R95). -/
def setDone (w : Work) (a i : Nat) : Work :=
  w.store (a + 68 + 8 * i) (leBytes 4 (Nat.lor (w.mem (a + 68 + 8 * i) 4) (2 ^ 18)))

/-- TILE_SIZE of the PLUMB node that feeds a port, in pixels, and its WIDTH and HEIGHT. -/
def listGrid (w : Work) (r : GRun) (n port : Nat) : Nat × Nat × Nat :=
  let g := w.version r.seq
  match inEdge g n port with
  | none => (16, 0, 0)
  | some e => let p := g.params (g.eFrom e); (16 * 2 ^ bits (wd p 0) 1 0, bits (wd p 1) 15 0, bits (wd p 1) 31 16)

/-- Offset of the sideband array in the buffer of a producer of e-byte images, for the level read (R145, R205, R220). -/
def sbOffset (g : GVer) (n port e level : Nat) : Nat :=
  let p := g.params n
  if g.typ n = 3 then
    if bits (wd p 0) 1 0 = 2 then roundUp (bits (wd p 3) 15 0) 64 * roundUp (bits (wd p 3) 31 16) 16 * e
    else
      let wid := bits (wd p 2) 15 0
      let hei := bits (wd p 2) 31 16
      let lv := bits (wd p 0) 11 8
      let planes := if bits (wd p 0) 1 0 = 1 then pyrOff wid hei 2 (lv - 1) + lvTw wid (lv - 1) * lvTh hei (lv - 1) * e else pyrOff wid hei e lv
      pyrSb planes hei level
  else if g.typ n = 4 then
    roundUp (bits (wd p 0) 12 11 * wd p 9 + roundUp (bits (wd p 3) 15 0) 64 * roundUp (bits (wd p 3) 31 16) 16 * e) 64
  else ispSb (ispDesc p port) 3

/-- A level of an image that feeds an input port, given the level-0 base, size and pixel bytes that the reader's own parameters
name; the sideband array lies where its producer puts it. -/
def inputImg (w : Work) (r : GRun) (n port base width height e level : Nat) : Img :=
  let g := w.version r.seq
  let sb := match inEdge g n port with
    | some ed => base + sbOffset g (g.eFrom ed) (g.eFromPort ed) e level
    | none => 0
  ⟨base + pyrOff width height e level, lvDim width level, lvDim height level, lvTw width level, e, true, 0, sb⟩

/-- HALO of a gated node (R93). -/
def halo (g : GVer) (n : Nat) : Nat := bits (wd (g.params n) 0) 5 0
/-- LIST_PORT of a gated node (R93). -/
def listPort (g : GVer) (n : Nat) : Nat := bits (wd (g.params n) 0) 15 8

/-- A gated node's window for a tile: x, y, width, height, clipped to the image (R94). -/
def window (size width height hal tx ty : Nat) : Nat × Nat × Nat × Nat :=
  let x0 := tx * size - hal
  let y0 := ty * size - hal
  let x1 := min width ((tx + 1) * size + hal)
  let y1 := min height ((ty + 1) * size + hal)
  (x0, y0, x1 - x0, y1 - y0)

end Work

end Sys2Proof.Machine
end

