-- ==== Sys2Proof/Machine/Operands.lean ====
section
/-! DEFINITION. Tile-operation operands: format codes, operand descriptors, their resolution, footprints and elements (R234 to R237,
R259 to R261, R286 to R288). -/

namespace Sys2Proof.Machine

open Config

/-! ### Formats (R237) -/

/-- Bits of an element of a format; 0 for a reserved code. -/
def fmtBits (f : Nat) : Nat :=
  match f with
  | 0x01 | 0x02 | 0x08 | 0x09 | 0x0C | 0x10 | 0x11 | 0x1C | 0x1E => 8
  | 0x03 | 0x0D | 0x1D => 4
  | 0x0A | 0x0B => 6
  | 0x18 | 0x19 => 16
  | 0x04 | 0x1A => 32
  | _ => 0

/-- The MX element format of a code. -/
def fmtMx (f : Nat) : Option MxFmt :=
  match f with
  | 0x08 => some (.flt e4m3 8)
  | 0x09 => some (.flt e5m2 15)
  | 0x0A => some (.flt e3m2 4)
  | 0x0B => some (.flt e2m3 2)
  | 0x0C => some .int8
  | 0x0D => some (.flt e2m1 2)
  | _ => none

/-- The plain floating format of a code. -/
def fmtFlt (f : Nat) : Option FFmt :=
  match f with
  | 0x10 => some e4m3
  | 0x11 => some e5m2
  | 0x18 => some bf16
  | 0x19 => some fp16
  | 0x1A => some fp32
  | _ => none

/-- The range of an integer format (R261). -/
def fmtInt (f : Nat) : Option (Int × Int) :=
  match f with
  | 0x01 => some (-128, 127)
  | 0x02 => some (0, 255)
  | 0x03 => some (-8, 7)
  | 0x04 => some (-2147483648, 2147483647)
  | _ => none

/-- The integer an element of an integer format stands for (R261). -/
def intElem (f raw : Nat) : Int := if f = 0x02 then raw else sext (fmtBits f) raw

/-- The exact value of an element, its block scale given (R260, R261). -/
def elemValue (f raw : Nat) (scale : FVal) : FVal :=
  match fmtMx f with
  | some m => FVal.mulX (m.value raw) scale
  | none => match fmtFlt f with
    | some g => g.decode raw
    | none => if f = 0x1C then e8m0 raw else FVal.ofInt (intElem f raw)

/-- A value converted to a plain destination format (R267, R268): none where the spec gives the format no conversion. -/
def convPlain (f : Nat) (v : FVal) (trunc : Bool) : Option Nat :=
  match fmtInt f with
  | some (lo, hi) => some (wrapInt (fmtBits f) (toClamped v lo hi trunc))
  | none => (fmtFlt f).map (fun g => g.encode v trunc)

/-! ### Descriptors (R235, R236) -/

/-- Extent j of a descriptor; 1 above its dimensions. -/
def Desc.e (d : Desc) (j : Nat) : Nat := if j < d.dims then d.ext.getD j 1 else 1

/-- Bytes of a dimension-0 run. -/
def Desc.runBytes (d : Desc) : Nat := d.e 0 * fmtBits d.fmt / 8

/-- The segment offset of the run at indices (i1, i2, i3). -/
def Desc.runAt (d : Desc) (i1 i2 i3 : Nat) : Int :=
  d.base + i1 * d.stride.getD 0 0 + i2 * d.stride.getD 1 0 + i3 * d.stride.getD 2 0

/-- The index triples of a descriptor's runs, in order. -/
def Desc.rows (d : Desc) : List (Nat × Nat × Nat) :=
  (List.range (d.e 3)).flatMap (fun k => (List.range (d.e 2)).flatMap (fun j => (List.range (d.e 1)).map (fun i => (i, j, k))))

/-- The footprint: the lowest and highest segment offsets addressed, for a dimension-0 stride that differs from the element size where
given (R236, R246). -/
def Desc.footprint (d : Desc) (stride0 : Option Nat) : Int × Int :=
  let span := fun (j : Nat) => ((d.e j : Int) - 1) * d.stride.getD (j - 1) 0
  let lo := d.base + min 0 (span 1) + min 0 (span 2) + min 0 (span 3)
  let run := match stride0 with
    | some s => (d.e 0 - 1) * s + fmtBits d.fmt / 8
    | none => d.runBytes
  (lo, d.base + max 0 (span 1) + max 0 (span 2) + max 0 (span 3) + run - 1)

/-- Check 1 of R231 on the words of a descriptor (R235, R236, R237). -/
def odFormatOk (ws : List Nat) : Bool :=
  let dims := bits (wd ws 0) 7 6 + 1
  let ext := fun (j : Nat) => bits (wd ws (3 + j / 2)) (16 * (j % 2) + 15) (16 * (j % 2))
  decide (bits (wd ws 0) 3 0 = 1) && decide (0 < fmtBits (bits (wd ws 0) 13 8)) &&
    (List.range 4).all (fun j => if j < dims then decide (0 < ext j) else decide (ext j = 0)) &&
    (List.range 3).all (fun j => j + 1 < dims || wd ws (5 + j) == 0) && decide (ext 0 * fmtBits (bits (wd ws 0) 13 8) % 8 = 0)

/-- Check 2 of R231 on the words of a descriptor: its reserved bits are zero. -/
def odReservedOk (ws : List Nat) : Bool :=
  bits (wd ws 0) 15 14 == 0 && bits (wd ws 0) 31 27 == 0 && bits (wd ws 2) 31 8 == 0 && bits (wd ws 14) 31 10 == 0

/-- A descriptor resolved with loop counters and launch arguments (R236). -/
def resolveDesc (ws lcs args : List Nat) : Desc :=
  let w0 := wd ws 0
  let adv := ((List.range 4).map (fun (j : Nat) => sext 32 (wd ws (8 + j)) * (wd lcs j : Int))).sum
  let x := if bitAt w0 19 then sext 32 (wd ws 12) * (wd args (bits w0 18 16) : Int) else 0
  let y := if bitAt w0 23 then sext 32 (wd ws 13) * (wd args (bits w0 22 20) : Int) else 0
  let ping := if bitAt w0 26 && wd lcs (bits w0 25 24) % 2 == 1 then sext 32 (wd ws 15) else 0
  let dims := bits w0 7 6 + 1
  { seg := bits w0 5 4, dims := dims, fmt := bits w0 13 8
    base := (wd ws 1 + 2 ^ 32 * bits (wd ws 2) 7 0 : Nat) + adv + x + y + ping
    ext := (List.range dims).map (fun j => bits (wd ws (3 + j / 2)) (16 * (j % 2) + 15) (16 * (j % 2)))
    stride := (List.range (dims - 1)).map (fun j => sext 32 (wd ws (5 + j))) }

/-- Check 3 of R231 on a resolved descriptor. -/
def Desc.aligned (d : Desc) : Bool := d.base % 64 == 0 && d.stride.all (fun s => s % 64 == 0)

/-- How an operation uses an operand field: not at all, or reading or writing it in some segments, with its block dimensions, whether the
alignment of R236 holds for it, a dimension-0 stride of its own, and the member whose tile store it lies in. -/
structure Use where
  used : Bool
  optional : Bool
  read : Bool
  write : Bool
  segs : List Nat
  blocks : List Nat
  align : Bool
  stride0 : Option Nat
  member : Option Nat
  deriving DecidableEq, Repr

/-- A field the operation does not use. -/
def Use.no : Use := ⟨false, false, false, false, [], [], true, none, none⟩
/-- A TILE source. -/
def Use.src (blocks : List Nat := [0]) : Use := ⟨true, false, true, false, [0], blocks, true, none, none⟩
/-- A TILE destination. -/
def Use.dst : Use := ⟨true, false, false, true, [0], [0], true, none, none⟩

/-- Extents of an MX operand along its block dimensions are multiples of 32 (R237). -/
def Desc.blocksOk (d : Desc) (blocks : List Nat) : Bool := (fmtMx d.fmt).isNone || d.e (blocks.getD 0 0) % 32 == 0

/-- The extents a scale descriptor must cover: those of the data with the block dimension divided by 32 (R237). -/
def Desc.scaleOk (d s : Desc) (blocks : List Nat) : Bool :=
  s.fmt == 0x1C && (List.range 4).all (fun j => decide ((if j = blocks.getD 0 0 then d.e j / 32 else d.e j) ≤ s.e j))

namespace Work

/-! ### Segments (R286 to R288) -/

/-- Size of a segment. -/
def segSize (p : List Nat) (seg : Nat) : Nat :=
  match seg with
  | 0 => bits (wd p 8) 19 0
  | 1 => wd64 p 12
  | 2 => wd64 p 16
  | _ => wd64 p 20

/-- The device address of offset 0 of a segment, for the TILE segment of logical core c. -/
def segBase (p : List Nat) (c seg : Nat) : Nat :=
  match seg with
  | 0 => 0x4100000000 + c * 0x80000 + bits (wd p 7) 18 0
  | 1 => wd64 p 10
  | 2 => wd64 p 14
  | _ => wd64 p 18

/-- Words of operand descriptor i of a task on core c. -/
def odWords (w : Work) (p : List Nat) (c i : Nat) : List Nat := bytesWords (w.fetch (segBase p c 0 + wd p 5 + 64 * i) 64)

/-- May a task on logical core c read, or write, a slab (R288)? -/
def taskRole (w : Work) (c slab : Nat) (write : Bool) : Bool :=
  match w.role slab with
  | 1 => !write
  | 2 => true
  | 3 => w.rd Reg.SLAB_QUARTET slab == c / 4
  | _ => false

/-- Check 4 of R231: the lowest byte of a footprint that lies outside its segment, or the first in a slab whose role refuses it; with that
slab (R287, R288). -/
def boundFault (w : Work) (p : List Nat) (c : Nat) (d : Desc) (stride0 : Option Nat) (write : Bool) : Option (Int × Option Nat) :=
  let (lo, hi) := d.footprint stride0
  let size : Int := segSize p d.seg
  if lo < 0 then some (lo, none)
  else if size ≤ hi then some (max lo size, none)
  else if d.seg = 1 then
    let a := segBase p c 1 + lo.toNat
    let b := segBase p c 1 + hi.toNat
    match ((List.range (slabOf b - slabOf a + 1)).map (fun k => slabOf a + k)).find? (fun s => !w.taskRole c s write) with
    | some s => some (max lo ((0x4000000000 + s * 0x1000000 : Nat) - (segBase p c 1 : Int)), some s)
    | none => none
  else none

/-- The device address range of a footprint. -/
def footRange (p : List Nat) (c : Nat) (d : Desc) (stride0 : Option Nat) : Nat × Nat :=
  let (lo, hi) := d.footprint stride0
  (segBase p c d.seg + lo.toNat, segBase p c d.seg + hi.toNat)

/-! ### Elements (R236, R237, R259) -/

/-- Element (i0, i1, i2, i3) of an operand in the segment that starts at a device address. -/
def elem (w : Work) (base : Nat) (d : Desc) (i0 i1 i2 i3 : Nat) : Nat :=
  let b := fmtBits d.fmt
  let bit := i0 * b
  let a := ((base : Int) + d.runAt i1 i2 i3).toNat + bit / 8
  leNat (w.fetch a ((bit % 8 + b + 7) / 8)) / 2 ^ (bit % 8) % 2 ^ b

/-- The block scale of an element, bs giving each segment's device address: 1 for a format without blocks (R237). -/
def scaleOf (w : Work) (bs : Nat → Nat) (o : Opnd) (blocks : List Nat) (i0 i1 i2 i3 : Nat) : FVal :=
  match fmtMx o.d.fmt, o.scale with
  | some _, some s =>
    let k := blocks.getD 0 0
    e8m0 (w.elem (bs s.seg) s (if k = 0 then i0 / 32 else i0) (if k = 1 then i1 / 32 else i1) i2 i3)
  | _, _ => .fin false 1 0

/-- The value of an element with its block scale. -/
def value (w : Work) (bs : Nat → Nat) (o : Opnd) (blocks : List Nat) (i0 i1 i2 i3 : Nat) : FVal :=
  elemValue o.d.fmt (w.elem (bs o.d.seg) o.d i0 i1 i2 i3) (w.scaleOf bs o blocks i0 i1 i2 i3)

/-- Bytes of a run of elements (R259). -/
def packRun (b : Nat) (es : List Nat) : List Byte :=
  leBytes ((es.length * b + 7) / 8) ((es.zipIdx.map (fun (e : Nat × Nat) => e.1 * 2 ^ (b * e.2))).sum)

/-- Write a run of values converted to DST's format, with the block scales of an MX format (R267 to R269). -/
def writeRun (w : Work) (bs : Nat → Nat) (o : Opnd) (i1 i2 i3 : Nat) (vs : List FVal) (trunc : Bool) : Work :=
  let a := ((bs o.d.seg : Int) + o.d.runAt i1 i2 i3).toNat
  match fmtMx o.d.fmt, o.scale with
  | some m, some s =>
    let blocks := (List.range (vs.length / 32)).map (fun k => mxBlock m ((vs.drop (32 * k)).take 32) trunc)
    let w := w.store a (packRun (fmtBits o.d.fmt) (blocks.flatMap (fun b => b.2)))
    w.store ((bs s.seg : Int) + s.runAt i1 i2 i3).toNat (blocks.map (fun b => BitVec.ofNat 8 b.1))
  | _, _ =>
    let es := vs.map (fun v => match convPlain o.d.fmt v trunc with
      | some e => e
      | none => approxFree 9 (v.bits32) 0 % 2 ^ fmtBits o.d.fmt)
    w.store a (packRun (fmtBits o.d.fmt) es)

/-- The first poisoned word that reading an operand meets (R298). -/
def opndPoison (w : Work) (base : Nat) (d : Desc) (stride0 : Option Nat) : Option Nat :=
  let n := match stride0 with
    | some s => (d.e 0 - 1) * s + fmtBits d.fmt / 8
    | none => d.runBytes
  (d.rows.map (fun (i, j, k) => ((base : Int) + d.runAt i j k).toNat)).findSome? (fun a => w.firstPoison a n)

end Work

end Sys2Proof.Machine
end

