-- ==== Sys2Proof/Machine/Array.lean ====
section
/-! DEFINITION. The MAC array: matrix products, implicit convolution, sparsity, bank loads and drains (R238 to R242, R263 to R266, R270). -/

namespace Sys2Proof.Machine

open Config

/-- How the array multiplies a pair of formats (R239): integers at 1 or 2 products per A-cycle, MX blocks at 1 or 2, plain FP8, or 16-bit
floats. -/
inductive PairKind where
  | int (step : Nat)
  | mx (step : Nat)
  | fp8
  | half
  deriving DecidableEq, Repr

/-- The allowed operand pairs (R239). -/
def pairKind (a b : Nat) : Option PairKind :=
  let mx8 := fun (f : Nat) => decide (0x08 ≤ f ∧ f ≤ 0x0C)
  if (a = 1 ∨ a = 2) ∧ b = 1 then some (.int 1)
  else if (a = 1 ∨ a = 2 ∨ a = 3) ∧ b = 3 then some (.int 2)
  else if mx8 a && mx8 b then some (.mx 1)
  else if a = 0x0D ∧ b = 0x0D then some (.mx 2)
  else if a = 0x0D ∧ mx8 b then some (.mx 1)
  else if (a = 0x10 ∨ a = 0x11) ∧ (b = 0x10 ∨ b = 0x11) then some .fp8
  else if (a = 0x18 ∧ b = 0x18) ∨ (a = 0x19 ∧ b = 0x19) then some .half
  else none

/-- What K must be a multiple of (R239). -/
def PairKind.multiple : PairKind → Nat
  | .int s => s
  | .mx _ => 32
  | _ => 1

/-- A-cycles the array computes for K rows (R239). -/
def PairKind.cycles (p : PairKind) (k : Nat) : Nat :=
  match p with
  | .int s => ceilDiv k s
  | .mx s => ceilDiv k s
  | .fp8 => k
  | .half => 4 * k

/-- Do the accumulators hold INT32? -/
def PairKind.isInt : PairKind → Bool
  | .int _ => true
  | _ => false

/-- Cut a list into pieces of n. -/
def chunks {α : Type} (n : Nat) : Nat → List α → List (List α)
  | 0, _ => []
  | _ + 1, [] => []
  | k + 1, l => l.take n :: chunks n k (l.drop n)

/-- INT32 accumulation: each A-cycle's products are summed exactly and the sum clamped (R263). -/
def dotInt (step : Nat) (acc : Int) (ps : List Int) : Int × Bool :=
  (chunks step ps.length ps).foldl (fun (a : Int × Bool) c =>
    let s := a.1 + c.sum
    let t := clampI (-2147483648) 2147483647 s
    (t, a.2 || decide (t ≠ s))) (acc, false)

/-- FP32 accumulation of MX blocks: one rounding per block of 32 (R264). -/
def dotMx (acc : FVal) (ps : List FVal) : FVal :=
  (chunks 32 ps.length ps).foldl (fun a c => FVal.add a (sumX c)) acc

/-- FP32 accumulation of plain FP8: per group of 32, rn(G × m) and one more rounding (R265). -/
def dotFp8 (m acc : FVal) (ps : List FVal) : FVal :=
  (chunks 32 ps.length ps).foldl (fun a c => FVal.add a (FVal.mul (sumX c) m)) acc

/-- FP32 accumulation of BF16 and FP16: one rounding per product (R265). -/
def dotHalf (acc : FVal) (ps : List FVal) : FVal := ps.foldl FVal.add acc

/-- An accumulator entry after one operation, with whether it saturated. -/
def dotEntry (p : PairKind) (m : FVal) (old : Nat) (a b : List FVal) : Nat × Bool :=
  let ps := List.zipWith FVal.mulX a b
  match p with
  | .int s =>
    let (v, t) := dotInt s (sext 32 old) (List.zipWith (fun x y => x.toInt * y.toInt) a b)
    (wrapInt 32 v, t)
  | .mx _ => ((dotMx (FVal.of32 old) ps).bits32, false)
  | .fp8 => ((dotFp8 m (FVal.of32 old) ps).bits32, false)
  | .half => ((dotHalf (FVal.of32 old) ps).bits32, false)

/-- Entry (m, n) of a bank. -/
def Bank.at (b : Bank) (m n : Nat) : Nat := wd b.ent (64 * m + n)

/-- FLAGS of a tile operation. -/
def opFlags (ws : List Nat) : Nat := bits (wd ws 0) 15 8
/-- IMM of a tile operation. -/
def opImm (ws : List Nat) : Nat := bits (wd ws 0) 31 16
/-- ARG_B of a tile operation. -/
def opArgB (ws : List Nat) : Nat := wd ws 3

/-- CONV's fields (R238): kernel, stride, dilation, padding and output origin. -/
structure ConvCfg where
  kw : Nat
  kh : Nat
  sx : Nat
  sy : Nat
  dx : Nat
  dy : Nat
  px : Nat
  py : Nat
  ox : Nat
  oy : Nat
  deriving DecidableEq, Repr

/-- CONV's fields with the loop counters of its issue (R238, R240). -/
def convCfg (ws lcs : List Nat) : ConvCfg :=
  let lc := fun (k : Nat) => if k = 15 then 0 else wd lcs k
  let w2 := wd ws 2
  { kw := bits w2 13 10 + 1, kh := bits w2 17 14 + 1, sx := bits w2 19 18 + 1, sy := bits w2 21 20 + 1, dx := bits w2 23 22 + 1
    dy := bits w2 25 24 + 1, px := bits (opImm ws) 11 8, py := bits (opImm ws) 15 12
    ox := bits (opArgB ws) 15 0 + 16 * lc (bits (opImm ws) 3 0), oy := bits (opArgB ws) 31 16 + lc (bits (opImm ws) 7 4) }

/-- K of a matrix operand A: MATMUL's inner by outer K, or CONV's kernel volume (R239, R240). -/
def opK (ws : List Nat) (a : Desc) : Nat :=
  if bits (wd ws 0) 7 0 = 2 then 64 * (bits (wd ws 2) 13 10 + 1) * (bits (wd ws 2) 17 14 + 1) * a.e 3 else a.e 0 * a.e 2

namespace Work

/-- Row m of A for MATMUL (R239). -/
def matA (w : Work) (bs : Nat → Nat) (o : Opnd) (k m : Nat) : List FVal :=
  (List.range k).map (fun i => w.value bs o [0] (i % o.d.e 0) m (i / o.d.e 0) 0)

/-- Row m of A for CONV: input pixels of output pixel m, channel fastest, zero outside the input (R240). -/
def convA (w : Work) (bs : Nat → Nat) (o : Opnd) (c : ConvCfg) (k m : Nat) : List FVal :=
  (List.range k).map (fun q =>
    let x : Int := ((c.ox + m) * c.sx : Nat) - (c.px : Int) + ((q / 64) % c.kw * c.dx : Nat)
    let y : Int := (c.oy * c.sy : Nat) - (c.py : Int) + ((q / 64 / c.kw) % c.kh * c.dy : Nat)
    if 0 ≤ x ∧ x < o.d.e 1 ∧ 0 ≤ y ∧ y < o.d.e 2 then w.value bs o [0] (q % 64) x.toNat y.toNat (q / (64 * c.kw * c.kh))
    else FVal.zero)

/-- The metadata pair of four logical rows of a sparse B (R242). -/
def sparsePair (w : Work) (tile : Nat) (md : Desc) (n g : Nat) : Nat × Nat :=
  let v := w.elem tile md n g 0 0
  (bits v 1 0, bits v 3 2)

/-- Element (n, row) of B: from its segment, or from the bytes its stream delivered (R239, R247). -/
def matElem (w : Work) (bs : Nat → Nat) (o : Opnd) (got : List Byte) (n row : Nat) : Nat :=
  if o.d.seg = 1 then
    let b := fmtBits o.d.fmt
    leNat ((got.drop (row * o.d.runBytes + n * b / 8)).take ((n * b % 8 + b + 7) / 8)) / 2 ^ (n * b % 8) % 2 ^ b
  else w.elem (bs o.d.seg) o.d n row 0 0

/-- Column n of B, expanded to its logical rows where it is sparse (R239, R242). -/
def matB (w : Work) (bs : Nat → Nat) (o : Opnd) (got : List Byte) (md : Option Desc) (k n : Nat) : List FVal :=
  (List.range k).map (fun i =>
    let get := fun (row : Nat) => elemValue o.d.fmt (w.matElem bs o got n row) (w.scaleOf bs o [1] n i 0 0)
    match md with
    | none => get i
    | some d =>
      let (i0, i1) := w.sparsePair (bs 0) d n (i / 4)
      if i1 ≤ i0 then FVal.zero
      else
        if i % 4 = i0 then get (2 * (i / 4)) else if i % 4 = i1 then get (2 * (i / 4) + 1) else FVal.zero)

/-- Replace a bank of a core. -/
def setBank (w : Work) (c bank : Nat) (b : Bank) : Work :=
  let k := w.core c
  w.setCore c (if bank = 0 then { k with bank0 := b } else { k with bank1 := b })

/-- A bank of a core. -/
def bank (w : Work) (c b : Nat) : Bank := if b = 0 then (w.core c).bank0 else (w.core c).bank1

/-- An operation saturated: the task's LAST_SAT and ASH_CNT_SAT (R239, R271). -/
def saturated (w : Work) (c : Nat) (sat : Bool) : Work :=
  if sat then (w.setCore c { w.core c with sat := true }).inc Reg.ASH_CNT_SAT c else w

/-- MATMUL and CONV (R239, R240, R242): bank ← (ACC ? bank : 0) + A × B. -/
def matOp (w : Work) (p : List Nat) (c : Nat) (q : TileOp) : Work :=
  match q.opnds with
  | [_, some a, some b, _] =>
    match pairKind a.d.fmt b.d.fmt with
    | none => w
    | some kind =>
      let f := opFlags q.words
      let conv := bits (wd q.words 0) 7 0 == 2
      let bs := segBase p c
      let k := opK q.words a.d
      let md := if bitAt f 2 then q.setup.sparse else none
      let rows := if conv then 16 else a.d.e 1
      let cols := b.d.e 0
      let rs := (List.range rows).map (fun m => if conv then w.convA bs a (convCfg q.words q.lcs) k m else w.matA bs a k m)
      let cs := (List.range cols).map (fun n => w.matB bs b q.got md k n)
      let old := w.bank c (b2n (bitAt f 1))
      let m := FVal.mul (FVal.of32 q.setup.scaleA) (FVal.of32 q.setup.scaleB)
      let cells := (List.range 1024).map (fun i =>
        let o := if bitAt f 0 then wd old.ent i else 0
        match rs[i / 64]?, cs[i % 64]? with
        | some x, some y => dotEntry kind m o x y
        | _, _ => (o, false))
      let w := w.setBank c (b2n (bitAt f 1)) ⟨cells.map Prod.fst, kind.isInt⟩
      let w := w.saturated c (cells.any (fun e => e.2))
      let errs := match md with
        | none => 0
        | some d => ((List.range cols).flatMap (fun n => (List.range (k / 4)).map (fun g => w.sparsePair (bs 0) d n g))).countP (fun e => decide (e.2 ≤ e.1))
      let w := w.add Reg.ASH_CNT_SPARSE_META_ERR errs c
      w.add Reg.ASH_CNT_ARRAY_CYCLES (if md.isSome then k / 2 else kind.cycles k) c
  | _ => w

/-- ACC_LOAD (R238, R241): a bank takes a 16 × 64 operand. -/
def accLoad (w : Work) (p : List Nat) (c : Nat) (q : TileOp) : Work :=
  match q.opnds with
  | [_, some a, _, _] =>
    let base := segBase p c a.d.seg
    let ent := (List.range 1024).map (fun i => w.elem base a.d (i % 64) (i / 64) 0 0)
    w.setBank c (b2n (bitAt (opFlags q.words) 1)) ⟨ent, a.d.fmt == 4⟩
  | _ => w

/-- ACC_ZERO (R238). -/
def accZero (w : Work) (c : Nat) (q : TileOp) : Work :=
  let b := b2n (bitAt (opFlags q.words) 1)
  w.setBank c b ⟨[], (w.bank c b).int⟩

/-- The FP32 value of element n of a per-column descriptor (R270). -/
def column (w : Work) (base : Nat) (o : Option Opnd) (n : Nat) (dflt : FVal) : FVal :=
  match o with
  | none => dflt
  | some x => (elemValue x.d.fmt (w.elem base x.d n 0 0 0) FVal.zero).rn

/-- Steps 1 to 4 of R270 for one entry. -/
def drainEntry (int relu : Bool) (outScale scale bias : FVal) (v : Nat) : FVal :=
  let a := if int then (FVal.ofInt (sext 32 v)).rn else FVal.of32 v
  let m := FVal.mul outScale scale
  let f := FVal.fma a m bias
  if relu then (if f.isNan then f else FVal.fmax f FVal.zero) else f

/-- ACC_STORE (R241, R270): the rows that RELU, the extents and the clip leave are converted and written. -/
def accStore (w : Work) (p : List Nat) (c : Nat) (q : TileOp) : Work :=
  match q.opnds with
  | [some d, sc, bi, _] =>
    let f := opFlags q.words
    let b := w.bank c (b2n (bitAt f 1))
    let one := FVal.fin false 1 0
    let value := fun (m n : Nat) => drainEntry b.int (bitAt f 4) (FVal.of32 q.setup.scaleOut)
      (w.column (segBase p c 0) sc n one) (w.column (segBase p c 0) bi n FVal.zero) (b.at m n)
    (List.range q.rows).foldl (fun w m => w.writeRun (segBase p c) d m 0 0 ((List.range (d.d.e 0)).map (value m)) q.setup.trunc) w
  | _ => w

end Work

/-- Rows ACC_STORE may write (R241). -/
def storeRows (ws lcs args : List Nat) (d : Desc) : Nat :=
  let m := min 16 (d.e 1)
  if bitAt (opImm ws) 3 then min m (wd args (bits (opImm ws) 2 0) - 16 * wd lcs (bits (opImm ws) 5 4)) else m

/-- Check 1 of R231 for matrix operations (R238 to R242). -/
def matFormatOk (ws : List Nat) (os : List (Option Opnd)) (setup : Setup) : Bool :=
  let f := opFlags ws
  match bits (wd ws 0) 7 0, os with
  | 5, _ => true
  | 3, [_, some a, _, _] => (a.d.fmt == 4 || a.d.fmt == 0x1A) && a.d.dims == 2 && a.d.e 0 == 64 && a.d.e 1 == 16
  | 4, [some d, sc, bi, _] =>
    let col := fun (o : Option Opnd) => match o with
      | none => true
      | some x => (x.d.fmt == 0x1A || x.d.fmt == 0x18 || x.d.fmt == 0x19 || x.d.fmt == 4) && x.d.dims == 1 && decide (d.d.e 0 ≤ x.d.e 0)
    d.d.dims == 2 && decide (d.d.e 0 ≤ 64) && ((fmtMx d.d.fmt).isSome || (fmtFlt d.d.fmt).isSome || (fmtInt d.d.fmt).isSome) && col sc && col bi
  | op, [_, some a, some b, _] =>
    let k := opK ws a.d
    let kb := if bitAt f 2 then k / 2 else k
    let shape := if op = 2 then a.d.dims == 4 && a.d.e 0 == 64 else (a.d.dims == 2 || a.d.dims == 3) && decide (a.d.e 1 ≤ 16)
    let lcOk := fun (v : Nat) => decide (v < 4) || v == 15
    let conv := op != 2 || (lcOk (bits (opImm ws) 3 0) && lcOk (bits (opImm ws) 7 4))
    let sparse := !bitAt f 2 || (k % 4 == 0 && (b.d.fmt == 1 || b.d.fmt == 8 || b.d.fmt == 9) && match setup.sparse with
      | some d => d.fmt == 0x1D && decide (b.d.e 0 ≤ d.e 0) && decide (k / 4 ≤ d.e 1)
      | none => false)
    (match pairKind a.d.fmt b.d.fmt with
      | none => false
      | some kind => k % kind.multiple == 0) && shape && conv && sparse && b.d.dims == 2 && decide (b.d.e 0 ≤ 64) && b.d.e 1 == kb
  | _, _ => false

end Sys2Proof.Machine
end

