-- ==== Sys2Proof/Machine/Vector.lean ====
section
/-! DEFINITION. The vector unit: element-wise operations, conversion, tables, approximate functions and reductions (R243 to R245, R271 to
R273). An approximate function takes its exact result, rounded, moved by a free number of units in the last place within its bound (log
entry 27). -/

namespace Sys2Proof.Machine

open Config

/-! ### Approximate functions (R273) -/

/-- FP32 bits near an exact value: the nearest, moved by at most k units in the last place as a free value chooses. -/
def nearBits (v : FVal) (k free : Nat) : Nat :=
  let b := v.bits32
  let mag : Int := (b % 2 ^ 31 : Nat) + ((free % (2 * k + 1) : Nat) : Int) - (k : Int)
  b / 2 ^ 31 * 2 ^ 31 + (clampI 0 0x7F800000 mag).toNat

/-- ln 2 in units of 2 ^ -160. -/
def ln2Fix : Nat := 1013035739299659071135698605846798551586536899366

/-- Terms of the exponential series of r, in units of 2 ^ -160: the sum of fuel terms from the i-th, the present one given. -/
def expTerms (r : Nat) : Nat → Nat → Nat → Nat
  | 0, _, _ => 0
  | n + 1, i, t => t + expTerms r n (i + 1) (t * r / 2 ^ 160 / (i + 1))

/-- exp of a finite value, to more bits than FP32 keeps. -/
def expX (neg : Bool) (m : Nat) (e : Int) : FVal :=
  let a : Nat := if 0 ≤ e + 160 then m * 2 ^ (e + 160).toNat else m / 2 ^ (-(e + 160)).toNat
  let x : Int := if neg then -(a : Int) else a
  let k := x / (ln2Fix : Int)
  .fin false (expTerms (x - k * ln2Fix).toNat 60 0 (2 ^ 160)) (k - 160)

/-- exp(a) with a free error (R273): above 88.722839 it is +∞. -/
def vExp (code : Nat) (a : FVal) : FVal :=
  match a with
  | .nan => .nan
  | .inf neg => if neg then FVal.zero else .inf false
  | .fin neg m e =>
    if FVal.lt (FVal.divX (.ofInt 88722839) (.ofInt 1000000)) a then .inf false
    else if FVal.lt a (.ofInt (-200)) then .of32 (nearBits FVal.zero 2 (approxFree code a.bits32 0))
    else .of32 (nearBits (expX neg m e) 2 (approxFree code a.bits32 0))

/-- 1 / a with a free error (R273). -/
def vRcp (a : FVal) : FVal :=
  match a with
  | .nan => .nan
  | .inf neg => .fin neg 0 0
  | .fin neg m _ => if m = 0 then .inf neg else .of32 (nearBits (FVal.divX (.ofInt 1) a) 1 (approxFree 2 a.bits32 0))

/-- 1 / sqrt(a) with a free error (R273). -/
def vRsqrt (code : Nat) (a : FVal) : FVal :=
  match a with
  | .nan => .nan
  | .inf neg => if neg then .nan else FVal.zero
  | .fin neg m _ =>
    if m = 0 then .inf neg else if neg then .nan
    else .of32 (nearBits (FVal.divX (.ofInt 1) (FVal.sqrtX a)) 2 (approxFree code a.bits32 0))

/-- A table's entry i as FP32; an empty table holds zeros with LO = 0 and HI = 1 (R245). -/
def lutAt (t : List Nat) (i : Nat) : FVal := if t.isEmpty then (if i = 257 then .ofInt 1 else FVal.zero) else FVal.of32 (wd t i)

/-- Table lookup with interpolation (R245, R273). -/
def vLut (t : List Nat) (x : FVal) : FVal :=
  let lo := lutAt t 256
  let hi := lutAt t 257
  if x.isNan then .nan
  else if FVal.le x lo then lutAt t 0
  else if FVal.le hi x then lutAt t 255
  else
    let u := FVal.mul (FVal.sub x lo) (FVal.div (.ofInt 255) (FVal.sub hi lo))
    let i := (min 254 u.floor).toNat
    let d := FVal.addX (lutAt t (i + 1)) (lutAt t i).neg
    let exact := FVal.addX (lutAt t i) (FVal.mulX (FVal.addX u (FVal.ofInt i).neg) d)
    if exact.special then exact else .of32 (nearBits exact 2 (approxFree 5 x.bits32 i))

/-! ### Reductions (R272) -/

/-- Combine neighbours 2j and 2j + 1. -/
def pairUp {α : Type} (f : α → α → α) : List α → List α
  | a :: b :: r => f a b :: pairUp f r
  | l => l

/-- Combine partials by a balanced binary tree of a number of levels. -/
def treeFold {α : Type} (f : α → α → α) : Nat → List α → List α
  | 0, l => l
  | n + 1, l => treeFold f n (pairUp f l)

/-- Reduce a row: element i goes into partial i mod lanes in increasing i, each partial starting from z, and the partials are combined by a
balanced tree. -/
def reduceRow {α : Type} (f : α → α → α) (z : α) (lanes : Nat) (l : List α) : α :=
  let parts := (List.range lanes).map (fun i => (l.zipIdx.filter (fun e => e.2 % lanes == i)).foldl (fun acc e => f acc e.1) z)
  (treeFold f (Nat.log2 lanes) parts).headD z

/-- The greater of two values where either may be absent. -/
def maxOpt (a b : Option FVal) : Option FVal :=
  match a, b with
  | some x, some y => some (FVal.fmax x y)
  | some x, none => some x
  | none, y => y

/-! ### Integer arithmetic (R243, R271) -/

/-- An INT32 value with whether it has saturated on the way. -/
abbrev SatInt := Int × Bool

/-- Clamp to INT32. -/
def satI (z : Int) (s : Bool) : SatInt :=
  let t := clampI (-2147483648) 2147483647 z
  (t, s || decide (t ≠ z))

def satAdd (a b : SatInt) : SatInt := satI (a.1 + b.1) (a.2 || b.2)
def satSub (a b : SatInt) : SatInt := satI (a.1 - b.1) (a.2 || b.2)
def satMul (a b : SatInt) : SatInt := satI (a.1 * b.1) (a.2 || b.2)

/-! ### Operand modes and lanes (R244) -/

/-- The operands b and c an opcode reads: whether it has each. -/
def vecHas (op : Nat) : Bool × Bool :=
  match op with
  | 0x20 | 0x21 | 0x22 | 0x24 | 0x25 | 0x2E => (true, false)
  | 0x23 | 0x2F => (true, true)
  | _ => (false, false)

/-- b's and c's mode. -/
def vecModes (ws : List Nat) : Nat × Nat := (bits (opFlags ws) 1 0, bits (opFlags ws) 3 2)

/-- Does the operation take ARG_B as a scalar operand? -/
def vecScalar (ws : List Nat) : Bool :=
  let h := vecHas (bits (wd ws 0) 7 0)
  (h.1 && (vecModes ws).1 == 3) || (h.2 && (vecModes ws).2 == 3)

/-- The formats a vector operation other than VCVT accepts (R243). -/
def vecFmt (f : Nat) : Bool := [0x01, 0x02, 0x04, 0x10, 0x11, 0x18, 0x19, 0x1A].contains f

/-- Does an operation compute in INT32: is every operand and result of an integer format (R243)? A table's entries are FP32 (R245). -/
def vecInt (ws : List Nat) (os : List (Option Opnd)) : Bool := bits (wd ws 0) 7 0 != 0x28 && os.all (fun o => match o with
  | some x => (fmtInt x.d.fmt).isSome
  | none => true)

/-- The lane count of an operation (R244). -/
def vecLanes (ws : List Nat) (os : List (Option Opnd)) : Nat :=
  let op := bits (wd ws 0) 7 0
  let m := vecModes ws
  let h := vecHas op
  let full := fun (i : Nat) => i == 0 || i == 1 || (i == 2 && h.1 && m.1 == 0) || (i == 3 && h.2 && m.2 == 0)
  if op = 0x29 ∨ op = 0x2A ∨ op = 0x2B ∨ op = 0x2E then 32
  else if os.zipIdx.all (fun (o, i) => match o with
    | some x => !full i || decide (fmtBits x.d.fmt ≤ 16)
    | none => true) then 128 else 64

/-- A-cycles a vector operation takes over its elements (R244). -/
def vecCycles (ws : List Nat) (os : List (Option Opnd)) : Nat :=
  match os with
  | [some d, some a, b, c] =>
    let m := vecModes ws
    let h := vecHas (bits (wd ws 0) 7 0)
    let rd := fun (o : Option Opnd) (on : Bool) => match o with
      | some x => if on then fmtBits x.d.fmt else 0
      | none => 0
    let readBits := fmtBits a.d.fmt + rd b (h.1 && m.1 == 0) + rd c (h.2 && m.2 == 0)
    let n := a.d.e 0 * a.d.e 1 * a.d.e 2 * a.d.e 3
    let out := if d.d.e 0 = a.d.e 0 then 1024 / fmtBits d.d.fmt else 1024
    ceilDiv n (max 1 (min (vecLanes ws os) (min (1024 / readBits) out)))
  | _ => 0

/-- An element-wise floating operation (R243, R271). -/
def vecFloat (op : Nat) (lut : List Nat) (a b c : FVal) : FVal :=
  match op with
  | 0x20 => FVal.add a b
  | 0x21 => FVal.sub a b
  | 0x22 => FVal.mul a b
  | 0x23 => FVal.fma a b c
  | 0x24 => FVal.fmax a b
  | 0x25 => FVal.fmin a b
  | 0x26 => a.abs
  | 0x28 => vLut lut a
  | 0x29 => vExp 1 a
  | 0x2A => vRcp a
  | 0x2B => vRsqrt 3 a
  | 0x2E => match b with
    | .inf _ => .nan
    | _ => vExp 4 (FVal.sub a b)
  | _ => FVal.mul (FVal.sub a b) c

/-- An element-wise integer operation; an approximate function of integers is open (R243, DESIGN CHOICE, log entry 27). -/
def vecInteger (op : Nat) (a b c : Int) : SatInt :=
  match op with
  | 0x20 => satAdd (a, false) (b, false)
  | 0x21 => satSub (a, false) (b, false)
  | 0x22 => satMul (a, false) (b, false)
  | 0x23 => satAdd (satMul (a, false) (b, false)) (c, false)
  | 0x24 => (max a b, false)
  | 0x25 => (min a b, false)
  | 0x26 => satI a.natAbs false
  | 0x2F => satMul (satSub (a, false) (b, false)) (c, false)
  | _ => (sext 32 (approxFree 7 (wrapInt 32 a) op), false)

/-- VSTAT on a row: mean, and 1 / sqrt(variance + epsilon) (R243, R272). -/
def vecStat (lanes : Nat) (eps : FVal) (l : List FVal) : List FVal :=
  let n := FVal.ofInt l.length
  let mean := FVal.div (reduceRow FVal.add FVal.zero lanes l) n
  let sq := l.map (fun x => FVal.mul (FVal.sub x mean) (FVal.sub x mean))
  let var := FVal.div (reduceRow FVal.add FVal.zero lanes sq) n
  [mean, vRsqrt 6 (FVal.add var eps)]

namespace Work

/-- The value of b or c for an element under its mode (R244). -/
def modeValue (w : Work) (bs : Nat → Nat) (o : Option Opnd) (mode : Nat) (int : Bool) (argB i0 i1 i2 i3 : Nat) : FVal :=
  match o with
  | none => if mode = 3 then (if int then .ofInt (sext 32 argB) else FVal.of32 argB) else FVal.zero
  | some x =>
    let v := match mode with
      | 0 => w.value bs x [0] i0 i1 i2 i3
      | 1 => w.value bs x [0] i0 0 0 0
      | _ => w.value bs x [0] 0 i1 i2 i3
    if int then v else v.rn

/-- An element of a as a vector operation takes it (R268, R271): exact where it computes in INT32 or a is MX, and otherwise in FP32. VCVT takes an INT32
into an FP32 result by the rounding mode. -/
def vecInput (ws : List Nat) (int trunc : Bool) (a d : Nat) (v : FVal) : FVal :=
  if int || (fmtMx a).isSome then v
  else if bits (wd ws 0) 7 0 = 0x27 ∧ a = 0x04 ∧ d = 0x1A then FVal.of32 (fp32.encode v trunc)
  else v.rn

/-- A row sum joins the old contents of its place in c (R243, R271): in saturating INT32, or in FP32. -/
def joinSum (int : Bool) (s old : FVal) : FVal × Bool :=
  if int then let z := satAdd (s.toInt, false) (old.toInt, false); (.ofInt z.1, z.2) else (FVal.add s old.rn, false)

/-- The results of one row of a vector operation, with its row sum and whether it saturated (R243, R271, R272). -/
def vecRow (w : Work) (bs : Nat → Nat) (q : TileOp) (d a : Opnd) (b c : Option Opnd) (int : Bool) (i1 i2 i3 : Nat) : List FVal × FVal × Bool :=
  let op := bits (wd q.words 0) 7 0
  let argB := opArgB q.words
  let (mb, mc) := vecModes q.words
  let lanes := vecLanes q.words q.opnds
  let av := (List.range (a.d.e 0)).map (fun i => vecInput q.words int q.setup.trunc a.d.fmt d.d.fmt (w.value bs a [0] i i1 i2 i3))
  let ints := av.map (fun v => ((v.toInt, false) : SatInt))
  if op = 0x2C then
    if int then let s := reduceRow satAdd (0, false) lanes ints; ([.ofInt s.1], FVal.zero, s.2)
    else ([reduceRow FVal.add FVal.zero lanes av], FVal.zero, false)
  else if op = 0x2D then
    ([(reduceRow maxOpt none lanes (av.map some)).getD FVal.zero], FVal.zero, false)
  else if op = 0x30 then (vecStat lanes (FVal.of32 argB) av, FVal.zero, false)
  else
    let lut := if bitAt (opFlags q.words) 4 then q.setup.lut1 else q.setup.lut0
    let bv := fun (i : Nat) => w.modeValue bs b (if op = 0x2E then 2 else mb) int argB i i1 i2 i3
    let cv := fun (i : Nat) => if op = 0x2E then FVal.zero else w.modeValue bs c mc int argB i i1 i2 i3
    let rs : List (FVal × Bool) := av.zipIdx.map (fun (v, i) =>
      if op = 0x27 then (if int && q.setup.scaleOut == 0x3F800000 then v else FVal.mul (if int then v.rn else v) (FVal.of32 q.setup.scaleOut), false)
      else if int then let z := vecInteger op v.toInt (bv i).toInt (cv i).toInt; (.ofInt z.1, z.2)
      else (vecFloat op lut v (bv i) (cv i), false))
    let out := rs.map Prod.fst
    let sum := if int then (let s := reduceRow satAdd (0, false) lanes (out.map (fun v => ((v.toInt, false) : SatInt))); (FVal.ofInt s.1, s.2))
      else (reduceRow FVal.add FVal.zero lanes out, false)
    (out, sum.1, rs.any Prod.snd || (op == 0x2E && sum.2))

/-- A vector operation (R243): every row is read and computed, then DST is written, and for VSMX the row sums into c. -/
def vecOp (w : Work) (p : List Nat) (c : Nat) (q : TileOp) : Work :=
  match q.opnds with
  | [some d, some a, b, s] =>
    let bs := segBase p c
    let op := bits (wd q.words 0) 7 0
    let int := vecInt q.words q.opnds
    let rows := a.d.rows.map (fun (i, j, k) => ((i, j, k), w.vecRow bs q d a b s int i j k))
    let w' := rows.foldl (fun w' (ix, r) => w'.writeRun bs d ix.1 ix.2.1 ix.2.2 r.1 q.setup.trunc) w
    let sums : List ((Nat × Nat × Nat) × FVal × Bool) := match (if op = 0x2E then s else none) with
      | some sm => rows.map (fun (ix, r) =>
          (ix, if bitAt (opFlags q.words) 4 then joinSum int r.2.1 (w.value bs sm [0] 0 ix.1 ix.2.1 ix.2.2) else (r.2.1, false)))
      | none => []
    let w' : Work := match s with
      | some sm => sums.foldl (fun (w' : Work) (t : (Nat × Nat × Nat) × FVal × Bool) => w'.writeRun bs sm t.1.1 t.1.2.1 t.1.2.2 [t.2.1] q.setup.trunc) w'
      | none => w'
    (w'.saturated c (rows.any (fun r => r.2.2.2) || sums.any (fun t => t.2.2))).add Reg.ASH_CNT_VECTOR_CYCLES (vecCycles q.words q.opnds) c
  | _ => w

end Work

/-- Do two descriptors have the same rank and extents? -/
def Desc.sameShape (a b : Desc) : Bool := a.dims == b.dims && a.ext == b.ext

/-- Check 1 of R231 for vector operations (R243, R244). -/
def vecFormatOk (ws : List Nat) (os : List (Option Opnd)) : Bool :=
  let op := bits (wd ws 0) 7 0
  let (mb, mc) := vecModes ws
  let h := vecHas op
  match os with
  | [some d, some a, b, c] =>
    let fmts := if op = 0x27 then [d, a].all (fun x => x.d.fmt != 0x1D && x.d.fmt != 0x1E)
      else os.all (fun o => match o with
        | some x => vecFmt x.d.fmt
        | none => true)
    let out := if op = 0x2C ∨ op = 0x2D then d.d.dims == a.d.dims && d.d.ext == 1 :: a.d.ext.drop 1
      else if op = 0x30 then d.d.dims == a.d.dims && d.d.ext == 2 :: a.d.ext.drop 1 && d.d.fmt == 0x1A
      else d.d.sameShape a.d
    let shape := fun (o : Option Opnd) (mode : Nat) => match o with
      | none => mode == 3
      | some x => match mode with
        | 0 => x.d.sameShape a.d
        | 1 => x.d.e 0 == a.d.e 0 && x.d.dims == 1
        | 2 => x.d.dims == a.d.dims && x.d.ext == 1 :: a.d.ext.drop 1
        | _ => false
    let modes := if op = 0x2E then mb == 2 && (mc == 0 || mc == 2) && shape b 2 && shape c 2
      else (if h.1 then shape b mb else mb == 0) && (if h.2 then shape c mc else mc == 0) && !(mb == 3 && mc == 3)
    fmts && out && modes
  | _ => false

end Sys2Proof.Machine
end

