-- ==== Sys2Proof/Machine/Ashlar.lean ====
section
/-! DEFINITION. Ashlar cores: tasks, the tile-operation sequencer and its checks, movement, broadcast, synchronisation, control and setup (R229 to
R257, R283 to R288, R290). An operation takes effect when its unit's queue reaches it, and holds its scoreboard ranges until its completion. -/

namespace Sys2Proof.Machine

open Config

/-! ### Operation words (R233, R234, R238 to R250) -/

/-- OPCODE. -/
def opCode (ws : List Nat) : Nat := bits (wd ws 0) 7 0

/-- Operand field i: DST, SRC0, SRC1, SRC2. -/
def opField (ws : List Nat) (i : Nat) : Nat :=
  match i with
  | 0 => bits (wd ws 1) 9 0
  | 1 => bits (wd ws 1) 19 10
  | 2 => bits (wd ws 1) 29 20
  | _ => bits (wd ws 2) 9 0

/-- STREAM of a matrix operation, or LOAD_BCAST: the operation takes part in its quoin's broadcast (R247). -/
def opBcast (ws : List Nat) : Bool := ((opCode ws == 1 || opCode ws == 2) && bitAt (opFlags ws) 3) || opCode ws == 0x42

/-- How an operation uses its four operand fields; none for an opcode that is not listed. -/
def opUses (ws : List Nat) : Option (List Use) :=
  let op := opCode ws
  let f := opFlags ws
  let no := Use.no
  let opt := fun (u : Use) => { u with optional := true }
  if op = 1 ∨ op = 2 then
    let b := Use.src [1]
    some [no, Use.src [0], if bitAt f 3 then { b with segs := [1] } else b, no]
  else if op = 3 then some [no, Use.src, no, no]
  else if op = 4 then some [Use.dst, opt Use.src, opt Use.src, no]
  else if op = 5 then some [no, no, no, no]
  else if 0x20 ≤ op ∧ op ≤ 0x30 then
    let (hb, hc) := vecHas op
    let m := vecModes ws
    let b := if hb && m.1 != 3 then Use.src else no
    let c := if op = 0x2E then { Use.dst with read := bitAt f 4 } else if hc && m.2 != 3 then Use.src else no
    some [Use.dst, Use.src, b, c]
  else match op with
    | 0x40 => some [Use.dst, { Use.src with segs := [1, 2, 3] }, no, no]
    | 0x41 => some [{ Use.dst with segs := [1, 2, 3] }, Use.src, no, no]
    | 0x42 => some [Use.dst, { Use.src with segs := [1] }, no, no]
    | 0x43 => some [{ Use.dst with align := false }, { Use.src with align := false, stride0 := some (bits (opArgB ws) 15 0) }, no, no]
    | 0x44 => some [{ Use.dst with align := false }, { Use.src with align := false }, no, no]
    | 0x45 => some [{ Use.dst with member := some (bits (opImm ws) 5 0) }, Use.src, no, no]
    | 0x46 => some [Use.dst, { Use.src with member := some (bits (opImm ws) 5 0) }, no, no]
    | 0x60 | 0x61 | 0x62 | 0x80 | 0x81 | 0x82 | 0x83 | 0x84 | 0xA0 | 0xA1 => some [no, no, no, no]
    | 0xA2 => some [no, if bitAt f 0 then Use.src else no, no, no]
    | 0xA3 => some [no, Use.src, no, no]
    | _ => none

/-- The bits of FLAGS, IMM, word 2 [31:10] and ARG_B that an operation assigns. -/
def opMasks (ws : List Nat) : Nat × Nat × Nat × Nat :=
  let op := opCode ws
  if 0x20 ≤ op ∧ op ≤ 0x30 then
    let fm := 0xF + (if op = 0x28 ∨ op = 0x2E then 0x10 else 0)
    (fm, 0, 0, if vecScalar ws || op == 0x30 then 0xFFFFFFFF else 0)
  else match op with
    | 1 => (0x0F, 0, 0, 0)
    | 2 => (0x0F, 0xFFFF, 0x03FFFC00, 0xFFFFFFFF)
    | 3 => (0x02, 0, 0, 0)
    | 4 => (0x12, 0x3F, 0, 0)
    | 5 => (0x02, 0, 0, 0)
    | 0x43 => (0, 0, 0, 0xFFFF)
    | 0x44 => (1, 0, 0, 0)
    | 0x45 => (0, 0x3F, 0, 0)
    | 0x46 => (0, 0x3F, 0, 0)
    | 0x60 => (0, 0xFFFF, 0x001FFC00, 0xFFFFFF)
    | 0x61 => (0, 0xFFFF, 0, 0xFFFFFF)
    | 0x62 => (1, 0, 0, 0)
    | 0x80 => (7, 7, 0xFFFFFC00, 0xFFFFFFFF)
    | 0x81 => (3, 0, 0, 0)
    | 0x82 => (0xF, 0xFFFF, 0, 0xFFFFFF)
    | 0xA0 => (1, 0, 0, 0)
    | 0xA1 => (3, 0, 0, 0xFFFFFFFF)
    | 0xA2 => (1, 0, 0, 0)
    | 0xA3 => (1, 0, 0, 0)
    | _ => (0, 0, 0, 0)

/-- Are the reserved bits of an operation zero (R234)? -/
def opReservedOk (ws : List Nat) : Bool :=
  let (f, i, a, b) := opMasks ws
  Nat.land (opFlags ws) (0xFF - f) == 0 && Nat.land (opImm ws) (0xFFFF - i) == 0 && bits (wd ws 1) 31 30 == 0 &&
    Nat.land (wd ws 2) (0xFFFFFC00 - a) == 0 && Nat.land (wd ws 3) (0xFFFFFFFF - b) == 0

/-- The unit that executes an operation: 0 array, 1 vector unit, 2 DMA engine (R229). -/
def opUnit (ws : List Nat) : Nat :=
  if opCode ws < 0x20 then 0 else if opCode ws < 0x40 ∨ opCode ws = 0x43 ∨ opCode ws = 0x44 then 1 else 2

/-- Do two inclusive ranges overlap? -/
def overlap (a b : Nat × Nat) : Bool := decide (a.1 ≤ b.2 ∧ b.1 ≤ a.2)

namespace Work

/-- The physical unit ID of a logical core (R19). -/
def phys (w : Work) (c : Nat) : Nat := w.d.cores.getD c 0

/-- The tag word of a core's trace records (R495). -/
def coreTag (w : Work) (k : CoreSt) : Nat :=
  match w.grun? k.run with
  | some r => pack [(r.gid, 0, 16), (k.node, 16, 16)]
  | none => pack [(k.node, 16, 16)]

/-- A trace record of a core (R258, R495). -/
def coreTrace (w : Work) (c event arg : Nat) : Work :=
  if w.on Reg.ASH_TRACE_EN c then w.trace (w.phys c) event (w.coreTag (w.core c)) (w.core c).rank arg else w

/-- A core no longer waits for any flag. -/
def dropWaits (w : Work) (c : Nat) : Work :=
  w.setKs { w.d.ks with waits := (w.d.ks.waits.map (fun e => (e.1, e.2.filter (fun x => decide (x.who ≠ .core c))))).filter (fun e => !e.2.isEmpty) }

/-- A task leaves its broadcast group: operations whose transfer has not started are dropped (R247). -/
def leaveGroup (w : Work) (c : Nat) : Work :=
  let k := w.core c
  (w.setCore c { k with queue := k.queue.filter (fun q => q.bcast.isNone || q.started), bwait := none }).wr Reg.ASH_BCAST_WAIT 0 c

/-- A core stops issuing: its stalls end and its queue drains (R254, R255). -/
def stopIssue (w : Work) (c : Nat) : Work :=
  let w := ((w.dropWaits c).leaveGroup c).wr Reg.ASH_FLAG_WAIT 0 c
  w.setCore c { w.core c with ended := true, stall := none }

/-- A task aborts (R255): its status, operation index and faulting address are recorded; a non-gated launch is stopped and its node cut. -/
def abortTask (w : Work) (c status : Nat) (off : Int) (seg : Nat) (at_ : Option Nat := none) : Work :=
  let k := w.core c
  if k.ended then w
  else
    let pc := at_.getD (w.rd Reg.ASH_PC c)
    let w := ((w.wr Reg.ASH_LAST_STATUS status c).wr Reg.ASH_LAST_FAULT_OP (min 0xFFFF pc) c).wr Reg.ASH_LAST_FAULT_ADDR (wrapInt 40 off) c
    let w := ((w.wr Reg.ASH_LAST_FAULT_SEG seg c).wr Reg.ASH_LAST_SAT (b2n k.sat) c).wr Reg.ASH_LAST_REEXEC (b2n k.reexec) c
    let w := (w.inc Reg.ASH_CNT_ABORTS c).err (w.phys c) status pc (wrapInt 40 off)
    let w := (w.coreTrace c 0x12 (pack [(status, 0, 8), (pc, 16, 16)])).stopIssue c
    if k.gated then w
    else
      let w := k.members.foldl (fun w m =>
        let x := w.core m
        if m ≠ c ∧ x.run = k.run ∧ x.node = k.node ∧ x.phase ≠ .idle then w.setCore m { x with stop := true } else w) w
      w.cutNode k.run k.node status

/-! ### Movement (R246, R290) -/

/-- The logical core whose store an operand lies in. -/
def memberCore (k : CoreSt) (c : Nat) (m : Option Nat) : Nat :=
  match m with
  | some i => k.members.getD i c
  | none => c

/-- Copy runs from one range to another: all are read, then written; the first refusal or poisoned word ends the copy with its status and
device address. -/
def moveRuns (w : Work) (u : Nat) (runs : List (Nat × Nat)) (n : Nat) : Work × Option (Nat × Nat) :=
  let (w, got) := runs.foldl (fun (acc : Work × List (Nat × List Byte)) r =>
    let (w, _, bs) := acc.1.readAt u r.1 n
    (w, acc.2 ++ [(r.2, bs)])) (w, [])
  let (w, bad) := got.foldl (fun (acc : Work × Option (Nat × Nat)) e =>
    if acc.2.isSome then acc
    else
      let (w, st) := acc.1.writePart u e.1 e.2
      (w, if st = stOk then none else some (st, e.1))) (w, none)
  (w.countRmw (got.map (fun e => (e.1, e.2.length))), bad)

/-- Is a device range unreadable for a core: its status and first address? -/
def runFault (w : Work) (u a n : Nat) (write : Bool) : Option (Nat × Nat) :=
  match w.refusal? u a n write with
  | some st => some (st, a)
  | none => if write then none else (w.firstPoison a n).map (fun x => (stEccUncorrectable, x))

/-- The accesses that a request for elements at some tile-store offsets needs: the most distinct 8-byte words it touches in one lane of one bank (R278,
R282). Banks are accessed side by side. -/
def bankAccesses (e : Nat) (offs : List Nat) : Nat :=
  let ws := (offs.flatMap (fun o => (List.range ((o + e - 1) / 8 + 1 - o / 8)).map (fun k => o / 8 + k))).eraseDups
  let lane := fun (x : Nat) => x / 4096 * 16 + x % 16
  (ws.map (fun x => ws.countP (fun y => lane y == lane x))).foldl max 1

/-- Accesses beyond the first of some requests (R282, R305). -/
def laneExtra (w : Work) (c e : Nat) (reqs : List (List Nat)) : Work :=
  w.add Reg.ASH_TS_CNT_LANE_EXTRA ((reqs.map (fun r => bankAccesses e (r.map (fun a => a % 0x80000)) - 1)).sum) c

/-- The elements of RDSTRIDE in requests of 128 bytes, which is what it moves in an A-cycle (R246, DESIGN CHOICE, log entry 82). -/
def strideReqs (e : Nat) (es : List Nat) : List (List Nat) := chunks (128 / max 1 e) es.length es

/-- A movement operation: LOAD, STORE, LOAD_BCAST, RDSTRIDE, RDTRANS, REMOTE_WRITE, REMOTE_READ (R246). A LOAD of runs of 128 bytes or less reads the Quarry
with STRIDED requests along dimension 1 (R296). -/
def moveOp (w : Work) (p : List Nat) (c : Nat) (q : TileOp) : Work :=
  let k := w.core c
  let op := opCode q.words
  match q.opnds with
  | [some d, some s, _, _] =>
    let um := some (bits (opImm q.words) 5 0)
    let db := segBase p (memberCore k c (if op = 0x45 then um else none)) d.d.seg
    let sb := segBase p (memberCore k c (if op = 0x46 then um else none)) s.d.seg
    let e := fmtBits d.d.fmt / 8
    let at_ := fun (base : Nat) (x : Desc) (ix : Nat × Nat × Nat) => ((base : Int) + x.runAt ix.1 ix.2.1 ix.2.2).toNat
    let total := d.d.runBytes * d.d.e 1 * d.d.e 2 * d.d.e 3
    if op = 0x43 then
      let es := d.d.rows.flatMap (fun ix => (List.range (d.d.e 0)).map (fun i =>
        (at_ db d.d ix + i * e, at_ sb s.d ix + i * bits (opArgB q.words) 15 0)))
      let got := es.map (fun x => (x.1, w.fetch x.2 e))
      let w := (w.laneExtra c e (strideReqs e (es.map Prod.snd))).laneExtra c e (strideReqs e (es.map Prod.fst))
      (got.foldl (fun w x => w.store x.1 x.2) w).add Reg.ASH_CNT_VECTOR_CYCLES (ceilDiv total 128) c
    else if op = 0x44 then
      let side := if bitAt (opFlags q.words) 0 then 16 else 8
      let block := fun (j i : Nat) => (List.range side).flatMap (fun y => (List.range side).map (fun x =>
        (at_ db d.d (side * j + y, 0, 0) + (side * i + x) * e, at_ sb s.d (side * j + x, 0, 0) + (side * i + y) * e)))
      let bs := (List.range (d.d.e 1 / side)).flatMap (fun j => (List.range (d.d.e 0 / side)).map (fun i => block j i))
      let got := bs.flatten.map (fun x => (x.1, w.fetch x.2 e))
      let w := (w.laneExtra c e (bs.map (fun b => b.map Prod.snd))).laneExtra c e (bs.map (fun b => b.map Prod.fst))
      (got.foldl (fun w x => w.store x.1 x.2) w).add Reg.ASH_CNT_VECTOR_CYCLES (ceilDiv total 128) c
    else if op = 0x42 then
      let w := d.d.rows.zipIdx.foldl (fun w (ix, i) => (w.writeAt (w.phys c) (at_ db d.d ix) ((q.got.drop (i * d.d.runBytes)).take d.d.runBytes)).1) w
      w.add Reg.ASH_CNT_DMA_BYTES total c
    else
      let w := if op = 0x40 ∧ s.d.seg = 1 ∧ s.d.runBytes ≤ 128 then
          (List.range (s.d.e 3)).foldl (fun w k => (List.range (s.d.e 2)).foldl (fun w j =>
            w.stridedReads ((List.range (s.d.e 1)).map (fun i => at_ sb s.d (i, j, k)))) w) w
        else w
      let (w, _) := w.moveRuns (w.phys c) (d.d.rows.map (fun ix => (at_ sb s.d ix, at_ db d.d ix))) d.d.runBytes
      let w := w.add Reg.ASH_CNT_DMA_BYTES total c
      if op = 0x45 ∨ op = 0x46 then w.add Reg.ASH_TS_CNT_REMOTE_OUT_BYTES total c else w
  | _ => w

/-! ### Taking effect -/

/-- The operand reads of an operation, as (device base, descriptor, dimension-0 stride), with its scales and metadata; what a broadcast delivered has been
read. -/
def opReads (p : List Nat) (k : CoreSt) (c : Nat) (q : TileOp) : List (Nat × Desc × Option Nat) :=
  let uses := (opUses q.words).getD []
  let md := if (opCode q.words = 1 ∨ opCode q.words = 2) ∧ bitAt (opFlags q.words) 2 then q.setup.sparse.toList else []
  ((q.opnds.zip uses).flatMap (fun (o, u) => match o with
    | some x => if u.read then (if q.started && x.d.seg == 1 then [] else [(segBase p (memberCore k c u.member) x.d.seg, x.d, u.stride0)]) ++
        (x.scale.toList.map (fun s => (segBase p c s.seg, s, none))) else []
    | none => [])) ++ md.map (fun d => (segBase p c 0, d, none))

/-- The accesses of an operation outside the core that are refused or meet poison: status, segment and segment offset. -/
def opFault (w : Work) (p : List Nat) (k : CoreSt) (c : Nat) (q : TileOp) : Option (Nat × Nat × Int × Nat) :=
  let uses := (opUses q.words).getD []
  let rd := (opReads p k c q).findSome? (fun (b, d, s) =>
    let n := match s with
      | some z => (d.e 0 - 1) * z + fmtBits d.fmt / 8
      | none => d.runBytes
    d.rows.findSome? (fun (i, j, l) =>
      let a := ((b : Int) + d.runAt i j l).toNat
      (w.runFault (w.phys c) a n false).map (fun e => (e.1, d.seg, (e.2 : Int) - b, e.2))))
  match rd with
  | some e => some e
  | none => (q.opnds.zip uses).findSome? (fun (o, u) => match o with
    | some x =>
      let b := segBase p (memberCore k c u.member) x.d.seg
      if u.write then x.d.rows.findSome? (fun (i, j, l) =>
        let a := ((b : Int) + x.d.runAt i j l).toNat
        (w.runFault (w.phys c) a x.d.runBytes true).map (fun e => (e.1, x.d.seg, (e.2 : Int) - b, e.2)))
      else none
    | none => none)

/-- An operation takes effect; an unreadable operand aborts its task instead (R255, R298). -/
def perform (w : Work) (c : Nat) (q : TileOp) : Work :=
  let k := w.core c
  let p := w.taskParams k
  match w.opFault p k c q with
  | some (st, seg, off, a) =>
    let w := if st = stEccUncorrectable then w.eccReport a else w
    w.abortTask c st off seg (some q.pc)
  | none =>
    let op := opCode q.words
    if op = 1 ∨ op = 2 then w.matOp p c q
    else if op = 3 then w.accLoad p c q
    else if op = 4 then w.accStore p c q
    else if op = 5 then w.accZero c q
    else if op < 0x40 then w.vecOp p c q
    else w.moveOp p c q

/-- The first queued operation that can take effect: its transfer has started where it is broadcast, and its unit has no earlier one that has
not. -/
def nextReady (qs : List TileOp) : Option Nat :=
  (List.range qs.length).find? (fun i => match qs[i]? with
    | some q => !q.done && (q.bcast.isNone || q.started) && (qs.take i).all (fun x => x.unit != q.unit || x.done)
    | none => false)

/-- Let queued operations take effect in the order of their units' queues; fuel is the length of the queue. -/
def flushOps (c : Nat) : Nat → Work → Work
  | 0, w => w
  | n + 1, w =>
    match nextReady (w.core c).queue with
    | none => w
    | some i =>
      match (w.core c).queue[i]? with
      | none => w
      | some q =>
        let k := w.core c
        let w := w.setCore c { k with queue := k.queue.set i { q with done := true } }
        flushOps c n (w.perform c q)

/-- Let a core's queues run. -/
def runQueues (w : Work) (c : Nat) : Work := flushOps c (w.core c).queue.length w

/-! ### The end of a task (R95, R254, R255) -/

/-- A gated node's tiles are all launched and over: its outputs are signalled and it is done (R95). -/
def gatedEnd (w : Work) (id n : Nat) : Work :=
  match w.grun? id with
  | none => w
  | some r =>
    let g := w.version r.seq
    let x := nodeRun r n
    if x.st = .running ∧ x.cores = 0 ∧ w.listCount (w.inputList r n (listPort g n)) ≤ x.tile then (w.signalToTarget id n).finishNode id n else w

/-- A task that has stopped issuing and drained is over: its core frees, LAST_SAT tells whether it saturated an accumulator on the way (R263), and its node
learns of it. A gated task that ended sets DONE in its
list entry; one that aborted does not. -/
def settleTask (w : Work) (c : Nat) : Work :=
  let k := w.core c
  if !k.ended || !k.queue.isEmpty then w
  else
    let ok := w.rd Reg.ASH_LAST_STATUS c == 0 && !k.stop
    let w := ((w.setCore c { CoreSt.idle with freeAt := w.d.clk.vcycle + 48 }).wr Reg.ASH_BUSY 0 c).wr Reg.ASH_LAST_SAT (b2n k.sat) c
    let w := w.modNode k.run k.node (fun x => { x with cores := x.cores - (if bitAt x.cores c then 2 ^ c else 0) })
    match w.grun? k.run with
    | none => w
    | some r =>
      if k.gated then
        let w := if ok then w.setDone (w.inputList r k.node (listPort (w.version r.seq) k.node)) k.tile else w
        w.gatedEnd k.run k.node
      else if (nodeRun r k.node).cores = 0 ∧ (nodeRun r k.node).st = .running then w.finishNode k.run k.node else w

/-- A task aborts, its queued operations complete, and it may be over at once. -/
def abort (w : Work) (c status : Nat) (off : Int) (seg : Nat) (at_ : Option Nat := none) : Work :=
  ((w.abortTask c status off seg at_).runQueues c).settleTask c

/-- Queues run, and a task that has stopped may be over. -/
def runCore (w : Work) (c : Nat) : Work := (w.runQueues c).settleTask c

/-! ### Fetch (R230, R249) -/

/-- Why the next operation cannot be had: none, a refill, or a fault. -/
inductive FetchRes where
  | op (ws : List Nat)
  | refill
  | bad (status : Nat) (off : Int) (seg : Nat) (addr : Nat)
  deriving DecidableEq, Repr

/-- The operation at PC. -/
def fetchOp (w : Work) (c : Nat) : FetchRes :=
  let k := w.core c
  let p := w.taskParams k
  let pc := w.rd Reg.ASH_PC c
  let inTile := bitAt (wd p 0) 4
  let off := (if inTile then wd p 3 else wd p 2) + 16 * pc
  let seg := if inTile then 0 else 1
  if bits (wd p 1) 31 16 ≤ pc ∨ segSize p seg < off + 16 then .bad stBoundFault off seg 0
  else if inTile then
    let a := segBase p c 0 + off
    match w.firstPoison a 16 with
    | some x => .bad stEccUncorrectable ((x : Int) - segBase p c 0) 0 x
    | none => .op (bytesWords (w.fetch a 16))
  else if k.ibase ≤ pc ∧ 4 * (pc - k.ibase) < k.ibuf.length then .op ((k.ibuf.drop (4 * (pc - k.ibase))).take 4)
  else .refill

/-- Fill a core's instruction buffer with up to 256 operations from an index on (R229, R230). -/
def fillBuffer (w : Work) (c pc : Nat) : Work :=
  let k := w.core c
  let p := w.taskParams k
  let n := min 256 (bits (wd p 1) 31 16 - pc)
  let a := segBase p c 1 + wd p 2 + 16 * pc
  match w.firstPoison a (16 * n) with
  | some x => (w.eccReport x).abort c stEccUncorrectable ((x : Int) - segBase p c 1) 1
  | none => w.setCore c { k with ibase := pc, ibuf := bytesWords (w.fetch a (16 * n)) }

/-- A refill of the instruction buffer ends and issue resumes (R230). -/
def bufferRefilled (w : Work) (c : Nat) : Work :=
  let k := w.core c
  if k.phase ≠ .running || k.ended then w
  else match w.fetchOp c with
    | .refill => w.fillBuffer c (w.rd Reg.ASH_PC c)
    | _ => w

/-! ### The checks of issue (R231) -/

/-- Words of an operand's descriptor and of its scales', where the operation uses the field. -/
def rawOpnds (w : Work) (p : List Nat) (c : Nat) (ws : List Nat) (uses : List Use) : List (Option (List Nat × Option (List Nat))) :=
  uses.zipIdx.map (fun (u, i) =>
    if !u.used || opField ws i == 0x3FF || decide (bits (wd p 1) 15 0 ≤ opField ws i) then none
    else
      let od := w.odWords p c (opField ws i)
      let sc := bits (wd od 14) 9 0
      some (od, if (fmtMx (bits (wd od 0) 13 8)).isSome && decide (sc < bits (wd p 1) 15 0) then some (w.odWords p c sc) else none))

/-- Is FP32 word v finite and normal (R262)? -/
def normal32 (v : Nat) : Bool := bits v 30 23 != 0 && bits v 30 23 != 255

/-- Fields of operations that no unit queues, in range (R248 to R250); members of remote operations and shapes of movements (R246). -/
def fieldsOk (w : Work) (c : Nat) (k : CoreSt) (ws : List Nat) (os : List (Option Opnd)) : Bool :=
  let pc := w.rd Reg.ASH_PC c
  let f := opFlags ws
  let top := k.loops.head?
  let same := match os with
    | [some d, some s, _, _] => d.d.sameShape s.d && fmtBits d.d.fmt == fmtBits s.d.fmt
    | _ => false
  let flags := match w.grun? k.run with
    | some r => (w.version r.seq).flagCount
    | none => 0
  match opCode ws with
  | 0x40 | 0x41 | 0x42 => same
  | 0x43 => same && (match os with
    | some d :: _ => fmtBits d.d.fmt % 8 == 0 && bits (opArgB ws) 15 0 % max 1 (fmtBits d.d.fmt / 8) == 0
    | _ => false)
  | 0x44 => same && (match os with
    | some d :: _ =>
      let side := if bitAt f 0 then 16 else 8
      d.d.dims == 2 && fmtBits d.d.fmt == (if bitAt f 0 then 8 else 32) && d.d.e 0 % side == 0 && d.d.e 1 % side == 0
    | _ => false)
  | 0x45 | 0x46 => same && decide (bits (opImm ws) 5 0 < k.members.length)
  | 0x60 | 0x61 => decide (opImm ws < flags)
  | 0x80 =>
    let lv := bits f 1 0
    (match top with
      | some l => decide (l.level < lv)
      | none => true) && decide (0 < bits (wd ws 2) 31 10) && decide (0 < opArgB ws) &&
      decide (opArgB ws ≤ if bitAt f 2 then 65535 else 0xFFFFFF)
  | 0x81 => match top with
    | some l => l.level == bits f 1 0 && pc == l.start + l.len
    | none => false
  | 0x82 =>
    k.loops.any (fun l => l.level == bits f 1 0) && decide (1 ≤ opImm ws ∧ opImm ws ≤ 32767) && (match top with
      | some l => decide (pc + opImm ws ≤ l.start + l.len)
      | none => false)
  | 0xA1 => bits f 1 0 != 3 && normal32 (opArgB ws)
  | 0xA2 => match os with
    | [_, some m, _, _] => m.d.fmt == 0x1D
    | _ => true
  | 0xA3 => match os with
    | [_, some t, _, _] => t.d.fmt == 0x1A && t.d.dims == 1 && t.d.e 0 == 258
    | _ => false
  | _ => true

/-- Does an operand's descriptor name its scales as R235 and R237 ask? Movement names them and does not use them. -/
def scaleNamed (p : List Nat) (ws od : List Nat) (sc : Option (List Nat)) : Bool :=
  let i := bits (wd od 14) 9 0
  if (fmtMx (bits (wd od 0) 13 8)).isNone then i == 0x3FF
  else decide (i < bits (wd p 1) 15 0) && (decide (0x40 ≤ opCode ws) || sc.all (fun s => odFormatOk s && bits (wd s 0) 13 8 == 0x1C &&
    (bits (wd s 0) 5 4 == 0 || bits (wd s 0) 5 4 == bits (wd od 0) 5 4)))

/-- An operand resolved with the core's loop counters and arguments. -/
def resolveOpnd (lcs args : List Nat) (ws : List Nat) (raw : Option (List Nat × Option (List Nat))) : Option Opnd :=
  raw.map (fun (od, sc) => ⟨resolveDesc od lcs args, if opCode ws < 0x40 then sc.map (fun s => resolveDesc s lcs args) else none⟩)

/-- Checks 1 to 4 of R231, with those of R326 between the second and the third: the refusal's status, offset and segment, or the resolved operands. -/
def issueCheck (w : Work) (p : List Nat) (c : Nat) (k : CoreSt) (ws : List Nat) (uses : List Use) (lcs : List Nat) :
    (Nat × Int × Nat × Option Nat) ⊕ List (Option Opnd) :=
  let raws := w.rawOpnds p c ws uses
  let os := raws.map (resolveOpnd lcs k.args ws)
  let sparse := (opCode ws = 1 ∨ opCode ws = 2) ∧ bitAt (opFlags ws) 2
  let idxOk := (uses.zip raws).zipIdx.all (fun ((u, r), i) =>
    if !u.used then opField ws i == 0x3FF else r.isSome || (u.optional && opField ws i == 0x3FF))
  let odOk := ((uses.zip raws).zip os).zipIdx.all (fun (((u, r), o), i) => match r, o with
    | some (od, sc), some x => odFormatOk od && u.segs.contains x.d.seg && scaleNamed p ws od sc &&
        (decide (0x40 ≤ opCode ws) || (sparse && i == 2) || (x.d.blocksOk u.blocks && (match x.scale with
          | some s => x.d.scaleOk s u.blocks
          | none => true)))
    | _, _ => true)
  let unitOk := if opCode ws < 0x20 then matFormatOk ws os k.setup else if opCode ws < 0x40 then vecFormatOk ws os else w.fieldsOk c k ws os
  if !(idxOk && odOk && unitOk) then .inl (stDescFormat, 0, 0, none)
  else if !(opReservedOk ws && raws.all (fun r => match r with
    | some (od, sc) => odReservedOk od && sc.all odReservedOk
    | none => true)) then .inl (stDescReserved, 0, 0, none)
  else
    let all := (uses.zip os).flatMap (fun (u, o) => match o with
      | some x => (u, x.d) :: x.scale.toList.map (fun s => ({ u with stride0 := none }, s))
      | none => [])
    let alias_ := match os with
      | some d :: _ => !aliasFree (if d.d.e 0 = 1 then (fmtBits d.d.fmt + 7) / 8 else d.d.runBytes) ((List.range 3).map (fun j => (d.d.e (j + 1), d.d.stride.getD j 0)))
      | _ => false
    let meet := match os with
      | [some d, some s, _, _] => (opCode ws == 0x43 || opCode ws == 0x44) &&
          overlap (footRange p c d.d none) (footRange p c s.d ((uses.getD 1 Use.no).stride0))
      | _ => false
    if alias_ then .inl (stWriteAlias, 0, 0, none)
    else if meet then .inl (stCopyOverlap, 0, 0, none)
    else match all.find? (fun (u, d) => u.align && !d.aligned) with
    | some (_, d) => .inl (stAlignFault, d.base, d.seg, none)
    | none =>
      match all.findSome? (fun (u, d) => (w.boundFault p c d u.stride0 u.write).map (fun e => (e, d.seg))) with
      | some ((off, slab), seg) => .inl (stBoundFault, off, seg, slab)
      | none => .inr os

/-- Destination ranges of an operation, as device addresses. -/
def opDests (p : List Nat) (k : CoreSt) (c : Nat) (uses : List Use) (os : List (Option Opnd)) : List (Nat × Nat) :=
  (uses.zip os).flatMap (fun (u, o) => match o with
    | some x => if u.write then footRange p (memberCore k c u.member) x.d none :: x.scale.toList.map (fun s => footRange p c s none) else []
    | none => [])

/-- Source ranges of an operation, its scales' and metadata among them. -/
def opSources (p : List Nat) (k : CoreSt) (c : Nat) (ws : List Nat) (uses : List Use) (os : List (Option Opnd)) : List (Nat × Nat) :=
  let md := if (opCode ws = 1 ∨ opCode ws = 2) ∧ bitAt (opFlags ws) 2 then k.setup.sparse.toList else []
  ((uses.zip os).flatMap (fun (u, o) => match o with
    | some x => if u.read then footRange p (memberCore k c u.member) x.d u.stride0 :: x.scale.toList.map (fun s => footRange p c s none) else []
    | none => [])) ++ md.map (fun d => footRange p c d none)

/-- The ranges of the descriptors an operation reads (R284). -/
def descRanges (w : Work) (p : List Nat) (c : Nat) (ws : List Nat) (uses : List Use) : List (Nat × Nat) :=
  let at_ := fun (i : Nat) => (segBase p c 0 + wd p 5 + 64 * i, segBase p c 0 + wd p 5 + 64 * i + 63)
  uses.zipIdx.flatMap (fun (u, i) =>
    if !u.used || opField ws i == 0x3FF || decide (bits (wd p 1) 15 0 ≤ opField ws i) then []
    else
      let od := w.odWords p c (opField ws i)
      at_ (opField ws i) :: (if (fmtMx (bits (wd od 0) 13 8)).isSome && decide (bits (wd od 14) 9 0 < bits (wd p 1) 15 0) then [at_ (bits (wd od 14) 9 0)] else []))

/-- Does a range lie in a core's own tile store, where the scoreboard sees it (R283, R285)? -/
def ownTile (c : Nat) (r : Nat × Nat) : Bool := decide (0x4100000000 + c * 0x80000 ≤ r.1 ∧ r.1 < 0x4100000000 + (c + 1) * 0x80000)

/-- Live scoreboard entries of a core (R283). -/
def liveEntries (c : Nat) (k : CoreSt) : List (Nat × Nat) := k.queue.flatMap (fun q => q.writes.filter (ownTile c))

/-! ### Issue -/

/-- The loop counters of a core. -/
def coreLcs (w : Work) (c : Nat) : List Nat := (List.range 4).map (fun j => w.rd Reg.ASH_LC c j)

/-- The operation at PC has issued: PC takes its next value. -/
def issued (w : Work) (c pc : Nat) : Work := (w.wr Reg.ASH_PC pc c).inc Reg.ASH_CNT_OPS c

/-- SB_IN_USE and SB_PEAK follow the live entries (R305). -/
def scoreboard (w : Work) (c : Nat) : Work :=
  let n := (liveEntries c (w.core c)).length
  (w.wr Reg.TS_SB_IN_USE n c).raise Reg.TS_SB_PEAK n c

/-- Check 5 of R231 for source ranges: does a live entry overlap them (R284)? -/
def hazard (c : Nat) (k : CoreSt) (rs : List (Nat × Nat)) : Bool := rs.any (fun r => (liveEntries c k).any (overlap r))

/-- One A-cycle of a stall at checks 5 to 7 (R231, R305). -/
def issueStall (w : Work) (c : Nat) (cause : Option Fld) : Work :=
  let w := w.inc Reg.ASH_CNT_ISSUE_STALL c
  match cause with
  | some f => w.inc f c
  | none => w

/-- Issue an operation to its unit's queue, or stall (checks 5 to 7 of R231). -/
def issueUnit (w : Work) (p : List Nat) (c : Nat) (ws : List Nat) (uses : List Use) (os : List (Option Opnd)) : Work :=
  let k := w.core c
  let dst := opDests p k c uses os
  let src := opSources p k c ws uses os
  let own := (dst.filter (ownTile c)).length
  if 32 < (liveEntries c k).length + own then w.issueStall c (some Reg.ASH_TS_CNT_SB_FULL)
  else if hazard c k ((src.filter (ownTile c)) ++ w.descRanges p c ws uses) then w.issueStall c (some Reg.ASH_TS_CNT_SB_HAZARD)
  else if dst.any (fun r => k.queue.any (fun q => (q.writes ++ q.reads).any (overlap r))) then w.issueStall c none
  else if 8 ≤ (k.queue.filter (fun q => q.unit == opUnit ws)).length then w.issueStall c none
  else
    let pc := w.rd Reg.ASH_PC c
    let lcs := w.coreLcs c
    let rows := match os with
      | some d :: _ => if opCode ws = 4 then storeRows ws lcs k.args d.d else 0
      | _ => 0
    let b := opBcast ws
    let q : TileOp := { unit := opUnit ws, pc := pc, words := ws, opnds := os, setup := k.setup, lcs := lcs, rows := rows, writes := dst, reads := src
                        bcast := if b then some k.bseq else none, started := false, done := false, got := [] }
    let k := { k with queue := k.queue ++ [q], bseq := if b then k.bseq + 1 else k.bseq
                      bwait := if b && k.bwait.isNone then some w.now else k.bwait }
    let w := (w.setCore c k).issued c (pc + 1)
    let w := if b then w.wr Reg.ASH_BCAST_WAIT 1 c else w
    (w.scoreboard c).runCore c

/-- A-cycles that a time in ns makes at P0 (R11). -/
def aCycles (ns : Nat) : Nat := ns * 11 / 5

/-- WAIT_FLAG (R248): issue stalls until the flag's COUNT meets the threshold, or the core has been woken. -/
def issueWaitFlag (w : Work) (c : Nat) (ws : List Nat) : Work :=
  let k := w.core c
  let pc := w.rd Reg.ASH_PC c
  match k.stall, w.grun? k.run with
  | some t, _ =>
    if w.on Reg.ASH_FLAG_WAIT c then w
    else ((w.setCore c { k with stall := none }).add Reg.ASH_CNT_FLAG_WAIT (aCycles (w.now - t)) c).issued c (pc + 1)
  | none, some r =>
    let f := w.flagOf r (opImm ws)
    let base := if bits (opArgB ws) 23 0 = 0 then w.rd Reg.FLAG_TARGET f else bits (opArgB ws) 23 0
    let step := if bitAt (wd ws 2) 12 then bits (wd ws 2) 20 13 * w.rd Reg.ASH_LC c (bits (wd ws 2) 11 10) else 0
    let th := min 0xFFFFFF (base + step)
    if !w.d.ks.poisoned.contains f && decide (th ≤ w.rd Reg.FLAG_COUNT f) then w.issued c (pc + 1)
    else ((w.setCore c { k with stall := some w.now }).wr Reg.ASH_FLAG_WAIT 1 c).register f (.core c) th
  | none, none => w

/-- SIGNAL_FLAG (R248): once every earlier operation is over, the flag is signalled; a re-execution suppresses what the original had issued
(R257). While the flag's bank queue is full the signal is held and nothing issues (R302). -/
def issueSignal (w : Work) (c : Nat) (ws : List Nat) : Work :=
  let k := w.core c
  if !k.queue.isEmpty then w.issueStall c none
  else match w.grun? k.run with
    | none => w
    | some r =>
      let f := w.flagOf r (opImm ws)
      if 64 ≤ (w.d.ks.signals.filter (fun s => s.flag % 16 == f % 16)).length then w.inc Reg.KS_CNT_FLAG_QUEUE_STALL
      else
        let w := (w.setCore c { k with signals := k.signals + 1 }).issued c (w.rd Reg.ASH_PC c + 1)
        if k.signals < k.suppress then w else w.signalIdx k.run k.node (opImm ws) (bits (opArgB ws) 23 0)

/-- FENCE (R248). -/
def issueFence (w : Work) (c : Nat) : Work :=
  if (w.core c).queue.isEmpty then w.issued c (w.rd Reg.ASH_PC c + 1) else w.issueStall c none

/-- LOOP (R249): opens its level, or jumps past the ENDLOOP for a count of 0. -/
def issueLoop (w : Work) (c : Nat) (ws : List Nat) : Work :=
  let k := w.core c
  let pc := w.rd Reg.ASH_PC c
  let f := opFlags ws
  let lv := bits f 1 0
  let len := bits (wd ws 2) 31 10
  let count := min 0xFFFFFF (if bitAt f 2 then ceilDiv (wd k.args (bits (opImm ws) 2 0)) (opArgB ws) else opArgB ws)
  let w := w.wr Reg.ASH_LC 0 c lv
  if count = 0 then w.issued c (pc + len + 1)
  else (w.setCore c { k with loops := ⟨lv, pc, len, count⟩ :: k.loops }).issued c (pc + 1)

/-- ENDLOOP (R249). -/
def issueEndLoop (w : Work) (c : Nat) : Work :=
  let k := w.core c
  let pc := w.rd Reg.ASH_PC c
  match k.loops with
  | [] => w
  | l :: r =>
    let n := w.rd Reg.ASH_LC c l.level + 1
    let w := w.wr Reg.ASH_LC n c l.level
    if n < l.count then w.issued c (l.start + 1) else (w.setCore c { k with loops := r }).issued c (pc + 1)

/-- BRANCH (R249). -/
def issueBranch (w : Work) (c : Nat) (ws : List Nat) : Work :=
  let pc := w.rd Reg.ASH_PC c
  let v := w.rd Reg.ASH_LC c (bits (opFlags ws) 1 0)
  let x := bits (opArgB ws) 23 0
  let hit := match bits (opFlags ws) 3 2 with
    | 0 => decide (v = x)
    | 1 => decide (v ≠ x)
    | 2 => decide (v < x)
    | _ => decide (x ≤ v)
  w.issued c (if hit then pc + opImm ws else pc + 1)

/-- END (R249, R254): once every earlier operation is over the task ends with OK. -/
def issueEnd (w : Work) (c : Nat) : Work :=
  let k := w.core c
  if !k.queue.isEmpty then w.issueStall c none
  else
    let w := (((w.issued c (w.rd Reg.ASH_PC c + 1)).wr Reg.ASH_LAST_STATUS 0 c).wr Reg.ASH_LAST_SAT (b2n k.sat) c).wr Reg.ASH_LAST_REEXEC (b2n k.reexec) c
    ((((w.wr Reg.ASH_LAST_END_TB w.now c).coreTrace c 0x11 0).stopIssue c)).settleTask c

/-- NOP (R249). -/
def issueNop (w : Work) (c : Nat) : Work := w.issued c (w.rd Reg.ASH_PC c + 1)

/-- SET_ROUND and SET_SCALE (R250). -/
def issueSetNumber (w : Work) (c : Nat) (ws : List Nat) : Work :=
  let k := w.core c
  let s := k.setup
  let v := opArgB ws
  let s := if opCode ws = 0xA0 then { s with trunc := bitAt (opFlags ws) 0 }
    else match bits (opFlags ws) 1 0 with
      | 0 => { s with scaleA := v }
      | 1 => { s with scaleB := v }
      | _ => { s with scaleOut := v }
  (w.setCore c { k with setup := s }).issued c (w.rd Reg.ASH_PC c + 1)

/-- SET_SPARSE (R250): the metadata descriptor, as it resolves now, or none. A live scoreboard entry over the metadata or the descriptor stalls it (R284). -/
def issueSetSparse (w : Work) (p : List Nat) (c : Nat) (ws : List Nat) (uses : List Use) (os : List (Option Opnd)) : Work :=
  let k := w.core c
  if hazard c k (opSources p k c ws uses os ++ w.descRanges p c ws uses) then w.issueStall c (some Reg.ASH_TS_CNT_SB_HAZARD)
  else
    let d := match os with
      | [_, some m, _, _] => some m.d
      | _ => none
    (w.setCore c { k with setup := { k.setup with sparse := d } }).issued c (w.rd Reg.ASH_PC c + 1)

/-- SET_LUT (R245, R250): a slot takes the table's 258 words; HI at or below LO is refused. -/
def issueSetLut (w : Work) (p : List Nat) (c : Nat) (ws : List Nat) (uses : List Use) (os : List (Option Opnd)) : Work :=
  let k := w.core c
  match os with
  | [_, some t, _, _] =>
    let b := segBase p c 0
    if hazard c k (opSources p k c ws uses os ++ w.descRanges p c ws uses) then w.issueStall c (some Reg.ASH_TS_CNT_SB_HAZARD)
    else match w.opndPoison b t.d none with
      | some x => (w.eccReport x).abort c stEccUncorrectable ((x : Int) - b) 0
      | none =>
        let tab := (List.range 258).map (fun i => w.elem b t.d i 0 0 0)
        if FVal.le (FVal.of32 (wd tab 257)) (FVal.of32 (wd tab 256)) then w.abort c stDescFormat 0 0
        else
          let s := if bitAt (opFlags ws) 0 then { k.setup with lut1 := tab } else { k.setup with lut0 := tab }
          (w.setCore c { k with setup := s }).issued c (w.rd Reg.ASH_PC c + 1)
  | _ => w

/-- An operation that has passed checks 1 to 4 issues or stalls. -/
def issueOp (w : Work) (p : List Nat) (c : Nat) (ws : List Nat) (uses : List Use) (os : List (Option Opnd)) : Work :=
  match opCode ws with
  | 0x60 => w.issueWaitFlag c ws
  | 0x61 => w.issueSignal c ws
  | 0x62 => w.issueFence c
  | 0x80 => w.issueLoop c ws
  | 0x81 => w.issueEndLoop c
  | 0x82 => w.issueBranch c ws
  | 0x83 => w.issueEnd c
  | 0x84 => w.issueNop c
  | 0xA0 => w.issueSetNumber c ws
  | 0xA1 => w.issueSetNumber c ws
  | 0xA2 => w.issueSetSparse p c ws uses os
  | 0xA3 => w.issueSetLut p c ws uses os
  | _ => w.issueUnit p c ws uses os

/-- The sequencer of core c takes one A-cycle to issue its next operation, which is one of the given opcode (R230, R231). Where the next
operation has another opcode nothing happens; an opcode that is not listed is refused whichever is given. A poisoned word in a descriptor it reads aborts
the task (R255, R298). -/
def issue (w : Work) (c op : Nat) : Work :=
  let k := w.core c
  if k.phase ≠ .running || k.ended then w
  else if k.stop then ((w.stopIssue c).runQueues c).settleTask c
  else
    let p := w.taskParams k
    match w.fetchOp c with
    | .refill => w.inc Reg.ASH_CNT_FETCH_STALL c
    | .bad st off seg a => (if st = stEccUncorrectable then w.eccReport a else w).abort c st off seg
    | .op ws =>
      match opUses ws with
      | none => w.abort c stDescFormat 0 0
      | some uses =>
        if opCode ws ≠ op then w
        else match (w.descRanges p c ws uses).findSome? (fun r => w.firstPoison r.1 64) with
        | some x => (w.eccReport x).abort c stEccUncorrectable ((x : Int) - segBase p c 0) 0
        | none => match w.issueCheck p c k ws uses (w.coreLcs c) with
          | .inl (st, off, seg, slab) =>
            let w := match slab with
              | some s => w.inc Reg.QRY_CNT_ROLE_REFUSED s
              | none => w
            w.abort c st off seg
          | .inr os => w.issueOp p c ws uses os

/-- LOAD issues (R246). Its source's words may hold errors, each as its device address and whether it is a double-bit one, which its read finds (R297, R298,
R376). -/
def issueLoad (w : Work) (c : Nat) (errs : List (Nat × Bool)) : Work :=
  let v := w.issue c 0x40
  match if (v.core c).queue.length = (w.core c).queue.length + 1 then (v.core c).queue.getLast? else none with
  | none => v
  | some q => match q.opnds.getD 1 none with
    | none => v
    | some s =>
      let r := footRange (w.taskParams (w.core c)) c s.d none
      let met := errs.filter (fun e => decide (r.1 ≤ e.1 ∧ e.1 ≤ r.2))
      if met.isEmpty then v else (met.foldl (fun w e => w.memError e.1 e.2) w).issue c 0x40

/-- The quoins whose memory holds [a, a + n), for memory that lies in quoins (R14, R20, R374). -/
def quoinsOf (w : Work) (a n : Nat) : List Nat :=
  if inTiles a 1 then (pieces a n).map (fun p => (w.storage p.1 - 0x4200000000) / 0x80000 / 17)
  else if inQuarry a 1 then ((List.range (slabOf (a + n - 1) + 1 - slabOf a)).map (fun k => (slabOf a + k) / 8)).filter (fun q => decide (q < 4))
  else if w.inDram a n then (List.range ((a + n - 1) / 256 + 1 - a / 256)).map (fun k => channelOf ((a / 256 + k) * 256) / 8)
  else []

/-- The ring link that traffic between two quoins takes, link q being the one between quoins q and (q + 1) mod 4: that of neighbours while it is in service.
Otherwise it stays in the quoin, or goes over two bridges (R15). -/
def ringRoute (w : Work) (a b : Nat) : Option Nat :=
  let l := if (a + 1) % 4 = b then some a else if (b + 1) % 4 = a then some b else none
  l.filter (fun q => !w.d.ring.contains q)

/-- The ring links that an operation of the DMA engine moves data over (R15). -/
def opRings (w : Work) (p : List Nat) (k : CoreSt) (c : Nat) (q : TileOp) : List Nat :=
  (q.opnds.zip ((opUses q.words).getD [])).flatMap (fun (o, u) => match o with
    | some x =>
      let b := segBase p (memberCore k c u.member) x.d.seg
      x.d.rows.flatMap (fun (i, j, l) => (w.quoinsOf ((b : Int) + x.d.runAt i j l).toNat x.d.runBytes).filterMap (fun z => w.ringRoute (w.phys c / 17) z))
    | none => [])

/-- A ring link fails its error threshold under an operation's traffic: it is out of service from then on, and the loss is recorded (R15). What brings it, and
the unit and INFO its record names, are the model's (DESIGN CHOICE, log entry 83). -/
def ringFailed (w : Work) (c : Nat) (q : TileOp) (l : Nat) : Work :=
  let k := w.core c
  if q.unit = 2 ∧ (w.opRings (w.taskParams k) k c q).contains l then
    { w with d := { w.d with ring := l :: w.d.ring } }.err uKeystone stLinkDegraded l
  else w

/-- Under DRAM_STRETCH perturbation a LOAD from a channel in DDR_MASK completes 0 to DDR_MAX ns later (R497): one draw for the operation, by the channel its
source starts in (DESIGN CHOICE, log entry 86). -/
def stretched (w : Work) (c : Nat) (q : TileOp) : Work :=
  match if opCode q.words = 0x40 && w.perturbs 3 then q.opnds.getD 1 none else none with
  | none => w
  | some s =>
    let a := (footRange (w.taskParams (w.core c)) c s.d none).1
    if !w.inDram a 1 || !bitAt (w.rd Reg.TST_DDR_MASK) (channelOf a) then w
    else
      let (w, x) := w.perturb
      w.advance (w.now + x % (w.rd Reg.TST_DDR_MAX + 1))

/-- The oldest operation of a unit that has taken effect completes, and its scoreboard entries retire (R230, R283). A ring link may have failed under it. -/
def opComplete (w : Work) (c u : Nat) (ring : Option Nat) : Work :=
  let k := w.core c
  match k.queue.findIdx? (fun q => q.unit == u) with
  | none => w
  | some i =>
    match k.queue[i]? with
    | some q =>
      if q.done then
        let w := match ring with
          | some l => w.ringFailed c q l
          | none => w
        let w := w.stretched c q
        (((w.setCore c { k with queue := k.queue.eraseIdx i })).scoreboard c).settleTask c
      else w
    | none => w

/-- A LOAD from host memory gets no completion, or a poisoned one: its task aborts with the status (R255, R298, R367). -/
def loadFails (w : Work) (c st : Nat) : Work :=
  let k := w.core c
  match k.queue.find? (fun q => opCode q.words == 0x40 && ((q.opnds.getD 1 none).map (fun (o : Opnd) => o.d.seg == 3)).getD false) with
  | none => w
  | some q =>
    let off := ((q.opnds.getD 1 none).map (fun (o : Opnd) => o.d.base)).getD 0
    ((w.abortTask c st off 3 (some q.pc)).runQueues c).settleTask c

/-- A LOAD from host memory gets no completion (R367). -/
def loadTimeout (w : Work) (c : Nat) : Work :=
  if (w.core c).queue.any (fun q => opCode q.words == 0x40 && ((q.opnds.getD 1 none).map (fun (o : Opnd) => o.d.seg == 3)).getD false) then
    (w.inc Reg.QE_CNT_CPL_TIMEOUT).loadFails c stCompletionTimeout
  else w

/-! ### Broadcast (R247) -/

/-- A member's first broadcast operation whose transfer has not started. -/
def pendingBcast (k : CoreSt) : Option TileOp := k.queue.find? (fun q => q.bcast.isSome && !q.started)

/-- Address and byte count of a broadcast operation's source. -/
def bcastSource (p : List Nat) (c : Nat) (q : TileOp) : Nat × Nat :=
  let o := if opCode q.words = 0x42 then q.opnds.getD 1 none else q.opnds.getD 2 none
  match o with
  | some x => (((segBase p c 1 : Int) + x.d.base).toNat, x.d.runBytes * x.d.e 1 * x.d.e 2 * x.d.e 3)
  | none => (0, 0)

/-- The members of a core's broadcast group: those of its launch in its quoin that have not left it. -/
def bcastGroup (w : Work) (c : Nat) : List Nat :=
  let k := w.core c
  if k.gated then [c]
  else k.members.filter (fun m => m / 16 == c / 16 && (let x := w.core m; x.run == k.run && x.node == k.node && decide (x.phase ≠ .idle) && !x.ended))

/-- The bytes of a broadcast operation's source, run after run, with their traffic counted for a core; or the first run that cannot be read (R247, R298). -/
def bcastRead (w : Work) (c : Nat) (q : TileOp) : Work × (List Byte ⊕ (Nat × Int × Nat)) :=
  let p := w.taskParams (w.core c)
  match (if opCode q.words = 0x42 then q.opnds.getD 1 none else q.opnds.getD 2 none) with
  | none => (w, .inl [])
  | some x =>
    let runs := x.d.rows.map (fun (i, j, l) => ((segBase p c 1 : Int) + x.d.runAt i j l).toNat)
    match runs.findSome? (fun a => w.runFault (w.phys c) a x.d.runBytes false) with
    | some (st, a) => (w, .inr (st, (a : Int) - segBase p c 1, a))
    | none => (runs.foldl (fun w a => w.countBytes (w.phys c) a x.d.runBytes false) w, .inl (runs.flatMap (fun a => w.fetch a x.d.runBytes)))

/-- A member's pending transfer starts with the bytes it delivers: its wait ends, the group's number moves on, and its queues run. -/
def bcastDeliver (w : Work) (c n : Nat) (got : List Byte) : Work :=
  let k := w.core c
  let limit := w.waitLimit k
  let w := match k.bwait with
    | some t =>
      let w := w.add Reg.ASH_CNT_BCAST_WAIT (aCycles (w.now - t)) c
      let w := if limit ≠ 0 then w.collide (w.phys c) (t + limit) else w
      if limit ≠ 0 ∧ w.atDue (t + limit) then (w.inc Reg.ASH_CNT_NEAR_MISS c).wr Reg.ASH_NEAR_MISS_TB w.now c else w
    | none => w
  let qs := k.queue.map (fun q => if q.bcast = some n then { q with started := true, got := got } else q)
  let more := qs.any (fun q => q.bcast.isSome && !q.started)
  let w := w.setCore c { k with queue := qs, bnext := max k.bnext (n + 1), bwait := if more then some w.now else none }
  (w.wr Reg.ASH_BCAST_WAIT (b2n more) c).runCore c

/-- Some members take transfer n, read once from the source of one operation of a core; where it cannot be read, each of them aborts at its own operation n
(R247, R255). -/
def bcastServe (w : Work) (c n : Nat) (q : TileOp) (ms : List Nat) : Work :=
  let opAt := fun (w : Work) (m : Nat) => ((w.core m).queue.find? (fun y => y.bcast == some n)).map TileOp.pc
  match w.bcastRead c q with
  | (w, .inl got) => ms.foldl (fun w m => w.bcastDeliver m n got) w
  | (w, .inr (st, off, a)) =>
    ms.foldl (fun w m => w.abort m st off 1 (opAt w m)) (if st = stEccUncorrectable then w.eccReport a else w)

/-- The broadcast unit of core c's quoin starts the group's next transfer, once every member has issued its operation of that number: one read at the source
of the lowest-ranked member serves them all (R247). A re-execution's earlier numbers are read alone (R257). A member whose source differs from the
lowest-ranked member's aborts at that operation. -/
def bcastStart (w : Work) (c : Nat) : Work :=
  let k := w.core c
  match pendingBcast k with
  | none => w
  | some q =>
    let n := q.bcast.getD 0
    if n < k.bnext then w.bcastServe c n q [c]
    else
      let grp := w.bcastGroup c
      if grp.all (fun m => decide (n < (w.core m).bseq)) then
        let opOf := fun (m : Nat) => (w.core m).queue.find? (fun y => y.bcast == some n)
        let src := fun (m : Nat) => (opOf m).map (bcastSource (w.taskParams (w.core m)) m)
        let lead := grp.headD c
        let bad := grp.filter (fun m => src m ≠ src lead)
        let w := bad.foldl (fun w m => w.abort m stDescFormat 0 0 ((opOf m).map TileOp.pc)) w
        match opOf lead with
        | some x => w.bcastServe lead n x (grp.filter (fun m => !bad.contains m))
        | none => w
      else w

/-! ### Launch (R253) -/

/-- A core is given a task that launches 48 V-cycles after dispatch (R253). -/
def giveTask (w : Work) (c run node rank : Nat) (members args : List Nat) (gated : Bool) (tile : Nat) : Work :=
  let k := w.core c
  w.setCore c { CoreSt.idle with
    phase := .launching, run := run, node := node, members := members, rank := rank, args := args, gated := gated, tile := tile
    since := w.d.clk.vcycle, freeAt := k.freeAt }

/-- A task starts: its core's state is that of launch (R241, R245, R250, R253). A spare takes none before its first sounding passes (R471). -/
def taskLaunch (w : Work) (c : Nat) : Work :=
  let k := w.core c
  match k.phase, w.grun? k.run with
  | .launching, some r =>
    if w.rd Reg.SLOT_SSTATE (w.phys c) = 1 then w else
    let w := w.reach (max (k.since + 48) k.freeAt)
    let w := (((w.wr Reg.ASH_BUSY 1 c).wr Reg.ASH_RANK k.rank c).wr Reg.ASH_CUR_GRAPH r.gid c).wr Reg.ASH_CUR_NODE k.node c
    let w := (((w.wr Reg.ASH_CUR_CONTEXT r.actx c).wr Reg.ASH_CUR_SLOT r.slot c).wr Reg.ASH_PC 0 c).inc Reg.ASH_CNT_TASKS c
    let w := w.upTo 4 (fun w j => w.wr Reg.ASH_LC 0 c j)
    (w.setCore c { k with phase := .copying }).coreTrace c 0x10 0
  | _, _ => w

/-- The launch copy ends: the descriptor table, and the program where PROG_IN_TILE is set, lie in the tile store, and the task can issue its
first operation. Otherwise the instruction buffer holds the program's start (DESIGN CHOICE, log entry 27). -/
def copyDone (w : Work) (c : Nat) : Work :=
  let k := w.core c
  if k.phase ≠ .copying then w
  else
    let p := w.taskParams k
    let q := segBase p c 1
    let copy := fun (w : Work) (src dst n : Nat) =>
      if (w.core c).ended then w
      else match w.firstPoison (q + src) n with
        | some x => (w.eccReport x).abortTask c stEccUncorrectable ((x : Int) - q) 1
        | none => w.store (segBase p c 0 + dst) (w.fetch (q + src) n)
    let w := w.setCore c { k with phase := .running }
    let w := copy w (wd p 4) (wd p 5) (64 * bits (wd p 1) 15 0)
    let w := if bitAt (wd p 0) 4 then copy w (wd p 2) (wd p 3) (16 * bits (wd p 1) 31 16) else if (w.core c).ended then w else w.fillBuffer c 0
    w.settleTask c

/-- A WAIT_FLAG stall or broadcast wait, whichever began first, reaches WAIT_LIMIT_NS: the task aborts with FLAG_TIMEOUT (R256). -/
def waitLimitExpiry (w : Work) (c : Nat) : Work :=
  let k := w.core c
  let limit := w.waitLimit k
  if k.phase ≠ .running ∨ k.ended ∨ limit = 0 then w
  else match (if w.on Reg.ASH_FLAG_WAIT c then k.stall else none), k.bwait with
    | some t, some u => (w.advance (min t u + limit)).abort c stFlagTimeout 0 0
    | some t, none => (w.advance (t + limit)).abort c stFlagTimeout 0 0
    | none, some u => (w.advance (u + limit)).abort c stFlagTimeout 0 0
    | none, none => w

end Work

end Sys2Proof.Machine
end

