-- ==== Sys2Proof/Machine/Stereo.lean ====
section
/-! DEFINITION. The stereo engines: census and external cost, path aggregation, search windows, selection, classes, the left-right
check, built-in refinement and gated tiles (R153 to R169). -/

namespace Sys2Proof.Machine

open Config

/-! ### Aggregation (R157, R158) -/

/-- A pixel to aggregate: the first disparity of its window, the top 8 bits of its reference sample, and its matching costs. -/
structure SgmCell where
  lo : Nat
  i : Nat
  cs : List Nat

/-- A pixel's path costs, one list per direction. -/
structure SgmPx where
  cell : SgmCell
  ls : List (List Nat)

/-- Penalties of the path recurrence. -/
structure SgmPar where
  p1 : Nat
  p2 : Nat
  slope : Nat

/-- The least of a list, 0 for an empty one. -/
def leastOf (l : List Nat) : Nat := l.min?.getD 0

/-- One step of the path recurrence from the pixel before on the path (R157). -/
def pathStep (k : SgmPar) (c : SgmCell) (prev : Option (SgmCell × List Nat)) : List Nat :=
  match prev with
  | none => c.cs
  | some (q, pc) =>
    let m := leastOf pc
    let diff := if q.i ≤ c.i then c.i - q.i else q.i - c.i
    let p2 := max (k.p1 + 1) (k.p2 - min k.p2 (diff * k.slope / 16))
    let get := fun (d : Int) => if (q.lo : Int) ≤ d ∧ d < q.lo + pc.length then pc.getD (d - q.lo).toNat 0 else m + p2
    (List.range c.cs.length).map (fun (j : Nat) =>
      let d : Int := c.lo + j
      min 0xFFFF (c.cs.getD j 0 + min (min (get d) (get (d - 1) + k.p1)) (min (get (d + 1) + k.p1) (m + p2)) - m))

/-- One line of a raster pass with the paths from the left, above, above-left and above-right (R158). -/
def sgmRow (k : SgmPar) (above : List SgmPx) : List SgmCell → Nat → Option SgmPx → List SgmPx
  | [], _, _ => []
  | c :: r, x, left =>
    let from_ := fun (q : Option SgmPx) (dir : Nat) => q.map (fun p => (p.cell, p.ls.getD dir []))
    let up := fun (d : Int) => if 0 ≤ (x : Int) + d then above[((x : Int) + d).toNat]? else none
    let px : SgmPx := ⟨c, [pathStep k c (from_ left 0), pathStep k c (from_ (up 0) 1), pathStep k c (from_ (up (-1)) 2), pathStep k c (from_ (up 1) 3)]⟩
    px :: sgmRow k above r (x + 1) (some px)

/-- Lines of a raster pass from the line above on. -/
def sgmRows (k : SgmPar) : List (List SgmCell) → List SgmPx → List (List SgmPx)
  | [], _ => []
  | r :: rs, above => let o := sgmRow k above r 0 none; o :: sgmRows k rs o

/-- Pointwise sum of cost lists, saturating at 16 bits. -/
def addCosts (a b : List Nat) : List Nat := List.zipWith (fun x y => min 0xFFFF (x + y)) a b

/-- Path sums of four directions. -/
def sgmSums (rows : List (List SgmPx)) : List (List (List Nat)) :=
  rows.map (fun r => r.map (fun p => (p.ls.drop 1).foldl addCosts (p.ls.headD [])))

/-- Split lines into tile rows of 16. -/
def tileRows {α : Type} : Nat → List α → List (List α)
  | 0, _ => []
  | n + 1, l => if l.isEmpty then [] else l.take 16 :: tileRows n (l.drop 16)

/-- S of every pixel: four paths in one raster pass, and with eight the opposite four within each 16-line tile row (R158). -/
def sgmAll (k : SgmPar) (paths8 : Bool) (cells : List (List SgmCell)) : List (List (List Nat)) :=
  let fwd := sgmSums (sgmRows k cells [])
  if !paths8 then fwd
  else
    let back := (tileRows cells.length cells).flatMap (fun t =>
      ((sgmSums (sgmRows k (t.map List.reverse).reverse [])).map List.reverse).reverse)
    List.zipWith (fun a b => List.zipWith addCosts a b) fwd back

/-! ### Selection (R160, R164) -/

/-- What Select finds for a pixel: d*, S1, S2, κ, whether d* is a window edge, and the disparity in 1/16 px. -/
structure Pick where
  d : Nat
  s1 : Nat
  s2 : Nat
  kappa : Int
  edge : Bool
  disp : Nat

/-- A quotient rounded to the nearest integer with ties away from zero. -/
def divAway (a b : Int) : Int :=
  let q := (2 * a.natAbs + b.natAbs) / (2 * b.natAbs)
  if (a < 0) = (b < 0) then q else -(q : Int)

/-- Select (R160). Where d* = 0 opens the window it is no edge, and S[-1] is a free value (DESIGN CHOICE, log entry 23). -/
def sgmSelect (lo : Nat) (s : List Nat) (vcycle pixel : Nat) : Pick :=
  let s1 := leastOf s
  let j := (s.findIdx? (fun v => v == s1)).getD 0
  let far := ((List.range s.length).filter (fun k => decide (k + 2 ≤ j ∨ j + 2 ≤ k))).map (fun k => s.getD k 0)
  let d := lo + j
  let edge := (j == 0 && d != 0) || j + 1 == s.length
  let below : Nat := if j = 0 then low 16 (freePixel 3 vcycle pixel) else s.getD (j - 1) 0
  let above := s.getD (j + 1) 0
  let kappa : Int := (below : Int) - 2 * s1 + above
  let delta : Int := if edge ∨ kappa ≤ 0 then 0 else clampI (-8) 8 (divAway (8 * ((below : Int) - above)) kappa)
  ⟨d, s1, leastOf far, kappa, edge, (clampI 0 0xFFFE (16 * d + delta)).toNat⟩

/-- CONFIDENCE before the caps of a class (R164). -/
def sgmConf (p : Pick) : Nat := if p.s2 = 0 then 0 else 255 * (p.s2 - p.s1) / p.s2

/-- A window of c ± radius shifted to lie within dlo to dhi: its first disparity and length (R159). -/
def stereoWindow (c : Int) (radius dlo dhi : Nat) : Nat × Nat :=
  let n := min (2 * radius + 1) (dhi + 1 - dlo)
  ((clampI dlo ((dhi : Int) + 1 - n) (c - radius)).toNat, n)

/-- The 62 neighbours of a census window (R155). -/
def censusOffsets : List (Int × Int) :=
  ([-3, -2, -1, 0, 1, 2, 3].flatMap (fun (j : Int) => [-4, -3, -2, -1, 0, 1, 2, 3, 4].map (fun (i : Int) => (i, j)))).filter (fun o => o != (0, 0))

/-- A stereo node's parameters for a run. -/
structure StCtx where
  p : List Nat
  run : GRun
  node : Nat
  u : Nat
  mode : Nat
  paths8 : Bool
  lr : Bool
  coarse : Nat
  fine : Nat
  wid : Nat
  hei : Nat
  e : Nat
  nc : Nat
  dmin : Nat
  par : SgmPar

namespace Work

/-- Set up a stereo node for a run on an engine (R170). -/
def stCtx (w : Work) (r : GRun) (n u : Nat) : StCtx :=
  let p := own (w.version r.seq) n
  { p := p, run := r, node := n, u := namedUnit (w.version r.seq) n u, mode := bits (wd p 0) 1 0, paths8 := bitAt (wd p 0) 2, lr := bitAt (wd p 0) 3
    coarse := bits (wd p 0) 11 8, fine := bits (wd p 0) 15 12, wid := bits (wd p 2) 15 0, hei := bits (wd p 2) 31 16
    e := 1 + bits (wd p 1) 4 4, nc := bits (wd p 3) 8 0, dmin := bits (wd p 3) 27 16
    par := ⟨bits (wd p 4) 7 0, bits (wd p 4) 15 8, bits (wd p 4) 23 16⟩ }

/-- The image of an input port at a level (R154). -/
def stImg (w : Work) (c : StCtx) (port l : Nat) : Img :=
  w.inputImg c.run c.node port (wd64 c.p (if port = 0 then 8 else 10) + c.run.slot * wd c.p 12) c.wid c.hei c.e l

/-- First scratch byte of the engine (R170). -/
def stScratch (c : StCtx) : Nat := wd64 c.p 20 + (c.u - 0x58) * wd c.p 22

/-- Bytes of a 16-bit plane of a level, 0 above COARSE_LEVEL, rounded up to 64 (R171). -/
def stPlane (c : StCtx) (l : Nat) : Nat := if c.coarse < l then 0 else roundUp (lvTw c.wid l * lvTh c.hei l * 2) 64

/-- The prior plane that level l writes, by its parity (R171). -/
def stPrior (c : StCtx) (l : Nat) : Nat := if (l - c.fine) % 2 = 1 then stScratch c else stScratch c + stPlane c (c.fine + 1)

/-- The check plane (R165, R171). -/
def stCheck (c : StCtx) : Nat := stScratch c + stPlane c (c.fine + 1) + stPlane c (c.fine + 2)

/-- The census of a pixel: its neighbours smaller than it (R155). -/
def census (w : Work) (m : Img) (x y : Int) : List Bool :=
  let v := w.pxE m x y
  censusOffsets.map (fun o => decide (w.pxE m (x + o.1) (y + o.2) < v))

/-- The column of the matching pixel for a candidate: to the left for the left reference, to the right for the right one; beyond
the image the edge column (R155, R165). -/
def matchX (right : Bool) (n x d : Nat) : Nat := edge n (if right then (x : Int) + d else (x : Int) - d)

/-- The external cost of a candidate, none outside the supplied slices (R156). In the check pass it is that of the left pixel matched
(DESIGN CHOICE, log entry 23). -/
def extCost (w : Work) (c : StCtx) (right : Bool) (n x y d : Nat) : Option Nat :=
  let k := d - bits (wd c.p 28) 11 0
  if d < bits (wd c.p 28) 11 0 ∨ bits (wd c.p 28) 20 12 ≤ k then none
  else some (w.mem (wd64 c.p 24 + k * wd c.p 27 + y * wd c.p 26 + (if right then matchX right n x d else x)) 1)

/-- The matching cost of a candidate (R155, R156). -/
def stCost (w : Work) (c : StCtx) (cost l : Nat) (right : Bool) (mt : Img) (ref : List Bool) (x y d : Nat) : Nat :=
  let other := w.census mt (matchX right mt.w x d) y
  let cen := 4 * (List.zipWith (fun a b => b2n (a != b)) ref other).sum
  if cost = 0 ∨ l ≠ bits (wd c.p 28) 24 21 then cen
  else
    let ext := (w.extCost c right mt.w x y d).getD (bits (wd c.p 29) 7 0)
    if cost = 1 then ext else min 255 ((bits (wd c.p 5) 7 0 * cen + bits (wd c.p 5) 15 8 * ext + 8) / 16)

/-- The top 8 bits of a sample (R157). -/
def top8 (c : StCtx) (v : Nat) : Nat := if c.e = 2 then v / 256 else v

/-- The cell of a pixel for a window of disparities. -/
def stCell (w : Work) (c : StCtx) (cost l : Nat) (right : Bool) (rf mt : Img) (win : Nat × Nat) (x y : Nat) : SgmCell :=
  let ref := w.census rf x y
  ⟨win.1, top8 c (w.px rf x y), (List.range win.2).map (fun k => w.stCost c cost l right mt ref x y (win.1 + k))⟩

/-- Bounds of the search at a level (R159). -/
def stBounds (c : StCtx) (l : Nat) : Nat × Nat :=
  let k := 2 ^ (c.coarse - l)
  (c.dmin * k, (c.dmin + c.nc) * k - 1)

/-- The search window of a pixel at a level (R159). -/
def stWin (w : Work) (c : StCtx) (l x y : Nat) : Nat × Nat :=
  if l = c.coarse then (c.dmin, c.nc)
  else
    let prior := w.mem (stPrior c (l + 1) + ((y / 2) * lvTw c.wid (l + 1) + x / 2) * 2) 2
    let (dlo, dhi) := stBounds c l
    stereoWindow ((prior + 4) / 8 : Nat) (bits (wd c.p 0) 21 16) dlo dhi

/-- Slots per pixel at a level (R159). -/
def stSlots (c : StCtx) (l : Nat) : Nat := if l = c.coarse then c.nc else roundUp (2 * bits (wd c.p 0) 21 16 + 1) 8

/-- The reference and matching images of a pass at a level. -/
def stPair (w : Work) (c : StCtx) (right : Bool) (l : Nat) : Img × Img :=
  if right then (w.stImg c 1 l, w.stImg c 0 l) else (w.stImg c 0 l, w.stImg c 1 l)

/-- The cells of a level and pass. -/
def stCells (w : Work) (c : StCtx) (right : Bool) (l : Nat) : List (List SgmCell) :=
  let (rf, mt) := w.stPair c right l
  (List.range rf.h).map (fun y => (List.range rf.w).map (fun x => w.stCell c (bits (wd c.p 0) 5 4) l right rf mt (w.stWin c l x y) x y))

/-- The forward path sums of a level and pass, and where the last tile row of them is left in the forward path store: pixel by pixel, its slots in order (R158, R171,
DESIGN CHOICE, log entry 23). -/
def stForward (w : Work) (c : StCtx) (right : Bool) (l : Nat) : List (List (List Nat)) := sgmSums (sgmRows c.par (w.stCells c right l) [])

/-- The forward path store of an engine (R171). -/
def stStore (c : StCtx) : Nat := stCheck c + (if c.lr then stPlane c c.fine else 0)

/-- Leave the forward path sums of a level's last tile row in scratch. -/
def stStoreForward (w : Work) (c : StCtx) (l : Nat) (s : List (List (List Nat))) : Work :=
  let y0 := (s.length - 1) / 16 * 16
  (s.drop y0).zipIdx.foldl (fun w (row, y) => row.zipIdx.foldl (fun w (ks, x) =>
    w.store (stStore c + (y * lvTw c.wid l + x) * stSlots c l * 2) (ks.flatMap (leBytes 2))) w) w

/-- Every pixel's selection at a level and pass. -/
def stLevel (w : Work) (c : StCtx) (right : Bool) (l : Nat) : List (List Pick) :=
  let (rf, _) := w.stPair c right l
  let s := sgmAll c.par c.paths8 (w.stCells c right l)
  (List.range rf.h).map (fun y => (List.range rf.w).map (fun x =>
    sgmSelect (w.stWin c l x y).1 ((s.getD y []).getD x []) w.d.clk.vcycle (x + 65536 * y)))

/-- Candidates outside the supplied slices at a level, of a rectangle x0, y0, width, height whose pixels have some search windows (R156). -/
def extMissing (w : Work) (c : StCtx) (cost : Nat) (right : Bool) (l : Nat) (rect : Nat × Nat × Nat × Nat) (win : Nat → Nat → Nat × Nat) : Nat :=
  let (x0, y0, ww, wh) := rect
  if cost = 0 ∨ l ≠ bits (wd c.p 28) 24 21 then 0
  else ((List.range wh).map (fun b => ((List.range ww).map (fun a =>
    let q := win (x0 + a) (y0 + b)
    ((List.range q.2).filter (fun k => (w.extCost c right (lvDim c.wid l) (x0 + a) (y0 + b) (q.1 + k)).isNone)).length)).sum)).sum

/-- Is a pixel of a census window around (x, y) padded (R162)? -/
def windowPadded (w : Work) (m : Img) (x y : Int) : Bool :=
  w.padded m x y || censusOffsets.any (fun o => w.padded m (x + o.1) (y + o.2))

/-- D_R of a pixel in the check plane (R165). A gated node's check pass is left without a centre for the right image's pixels, so its D_R is a free value
(DESIGN CHOICE, log entry 23). -/
def checkDisp (w : Work) (c : StCtx) (gated : Bool) (q y : Nat) : Nat :=
  if gated then low 16 (freePixel 4 w.d.clk.vcycle (q + 65536 * y)) else w.mem (stCheck c + (y * lvTw c.wid c.fine + q) * 2) 2

/-- The class of a pixel (R162), with the left-right test of R165 where LR_CHECK is set. -/
def stClass (w : Work) (c : StCtx) (rf mt : Img) (gated : Bool) (x y : Nat) (k : Pick) : Nat :=
  let check := c.lr
  let mx : Int := (x : Int) - k.d
  let full := if c.e = 2 then 0xFFFF else 0xFF
  let q : Int := (x : Int) - ((k.disp + 8) / 16 : Nat)
  let dr := w.checkDisp c gated q.toNat y
  let off := if dr ≤ k.disp then k.disp - dr else dr - k.disp
  if w.windowPadded rf x y || w.windowPadded mt mx y then 7
  else if decide (x < 4 ∨ rf.w ≤ x + 4 ∨ y < 3 ∨ rf.h ≤ y + 3 ∨ mx < 4 ∨ (mt.w : Int) ≤ mx + 4) || (check && decide (q < 0)) then 6
  else if w.px rf x y = full ∨ w.pxE mt mx y = full then 5
  else if k.edge then 4
  else if 16 * k.s2 < bits (wd c.p 5) 31 24 * k.s1 then 3
  else if check ∧ bits (wd c.p 6) 7 0 < off then 1
  else if k.kappa < bits (wd c.p 5) 23 16 then 2
  else 0

/-- CONFIDENCE of a class (R164). -/
def classConf (cls conf cap : Nat) : Nat := if cls = 7 then 0 else if cls = 0 ∨ cls = 8 then conf else min conf cap

/-- The pixel word of a selection (R161, R163, R164). -/
def stWord (c : StCtx) (cls : Nat) (k : Pick) : Nat :=
  let d := if bitAt (wd c.p 0) 6 ∧ (cls = 3 ∨ cls = 4) then 0xFFFF else k.disp
  pack [(d, 0, 16), (classConf cls (sgmConf k) (bits (wd c.p 6) 15 8), 16, 8), (cls, 24, 4)]

/-- The sideband word of an output line over the footprint of the PADDED test (R146, R167). -/
def stSideband (w : Work) (rf mt : Img) (y : Nat) (ds : List Nat) : Nat :=
  let rows := fun (m : Img) => [-3, -2, -1, 0, 1, 2, 3].map (fun (k : Int) => w.sbWord m (edge m.h (y + k)))
  let a := rows rf
  let b := rows mt
  let pa := (a.map (fun s => bits s 15 0)).foldl min rf.w
  let pb := (b.map (fun s => bits s 15 0)).foldl min mt.w
  let hit := fun (x : Nat) => decide (pa < rf.w ∧ pa ≤ x + 4) || decide (pb < mt.w ∧ (pb : Int) ≤ (x : Int) - ds.getD x 0 + 4)
  sideband (((List.range rf.w).find? hit).getD rf.w) ((a ++ b).any (fun s => bitAt s 16)) ((a ++ b).any (fun s => bitAt s 17))

/-- The V-cycle an engine's present stage began. -/
def stageStart (x : EngRun) : Nat := max x.since (wd x.data 0)

/-- V-cycles of one level and pass (R166). -/
def stCycles (c : StCtx) (l : Nat) : Nat :=
  (1 + b2n c.paths8) * (512 + ceilDiv (lvTw c.wid l * lvTh c.hei l * stSlots c l) 128)

/-- Slots evaluated by one level and pass (R166). -/
def stCandidates (c : StCtx) (l : Nat) : Nat := (1 + b2n c.paths8) * (lvTw c.wid l * lvTh c.hei l * stSlots c l)

/-- One tile row of the first course is written at FINE_LEVEL and its stripes signalled (R160 to R167); the level's other rows are left
for later commands. -/
def stRow (w : Work) (u : Nat) (c : StCtx) (picks : List (List Pick)) : Work :=
  let x := w.eng u
  let i := u - 0x58
  let (rf, mt) := w.stPair c false c.fine
  let wb := (wordBuf (w.version c.run.seq) c.node 0 c.run.slot).getD ⟨0, 0, 4, 0, 0⟩
  let y0 := 16 * x.row
  let rows := min 16 (rf.h - y0)
  let cls := fun a b => w.stClass c rf mt false a b (((picks.getD b []).getD a ⟨0, 0, 0, 0, true, 0⟩))
  let words := (List.range rows).map (fun b => (List.range rf.w).map (fun a =>
    let k := (picks.getD (y0 + b) []).getD a ⟨0, 0, 0, 0, true, 0⟩
    stWord c (cls a (y0 + b)) k))
  let w' := (List.range rows).foldl (fun w' b => w'.store (wb.base + (y0 + b) * wb.pitch) ((words.getD b []).flatMap (leBytes 4))) w
  let sbA := roundUp (wb.base + rf.h * wb.pitch) 64
  let w' := w'.store (sbA + 4 * y0) ((List.range rows).flatMap (fun b =>
    leBytes 4 (w.stSideband rf mt (y0 + b) ((picks.getD (y0 + b) []).map (fun k => k.d)))))
  let w' := (List.range 9).foldl (fun w' k =>
    w'.add Reg.VIS_ST_CNT_CLASS ((words.flatten.filter (fun v => bits v 27 24 == k)).length) i k) w'
  let w' := (w'.setEng u { x with row := x.row + 1 }).wr Reg.ST_CUR_LINE (y0 + rows) i
  w'.signalLines c.run.id c.node 0 y0 (y0 + rows) rf.h

/-- Go on to the next level or pass, or to refinement, or end (R153, R165, R168). phase is 1 check, 0 forward, 2 refine, 3 gated. -/
def stNext (w : Work) (u : Nat) (c : StCtx) : Work :=
  let x := w.eng u
  let i := u - 0x58
  let v := w.d.clk.vcycle
  if c.fine < x.level then
    ((w.setEng u { x with level := x.level - 1, row := 0, data := [v] }).wr Reg.ST_LEVEL (x.level - 1) i).wr Reg.ST_CUR_LINE 0 i
  else if x.phase = 1 then
    (((w.setEng u { x with phase := 0, level := c.coarse, row := 0, data := [v] }).wr Reg.ST_LEVEL c.coarse i).wr Reg.ST_PASS 0 i).wr Reg.ST_CUR_LINE 0 i
  else if bitAt (wd c.p 0) 7 then (w.setEng u { x with phase := 2, row := 0, data := [v] }).wr Reg.ST_PASS 2 i
  else w.endNode u c.run.id c.node

/-- The level of a stereo engine's instance, with its images checked for poison. -/
def stWork (w : Work) (u : Nat) (f : Work → StCtx → Work) : Work :=
  let x := w.eng u
  match w.grun? x.run with
  | none => w
  | some r =>
    let c := w.stCtx r x.node u
    let l := if x.phase ≤ 1 then x.level else c.fine
    let a := w.stImg c 0 l
    let b := w.stImg c 1 l
    w.unlessPoison r.id x.node [(a.base, a.bytes), (b.base, b.bytes)] (fun w => f w c)

/-- One pass of one level is matched and stored, and the engine goes on to the next (R154 to R166). -/
def stLevelPass (w : Work) (u : Nat) (c : StCtx) (x : EngRun) : Work :=
  let i := u - 0x58
  let right := x.phase == 1
  let picks := w.stLevel c right x.level
  let miss := w.extMissing c (bits (wd c.p 0) 5 4) right x.level (0, 0, lvDim c.wid x.level, lvDim c.hei x.level) (w.stWin c x.level)
  let fwd := w.stForward c right x.level
  let w := (w.reach (stageStart x + stCycles c x.level)).add Reg.VIS_ST_CNT_CANDIDATES (stCandidates c x.level) i
  let w := w.add Reg.VIS_ST_CNT_EXT_MISSING miss i
  let w := if c.paths8 then w.stStoreForward c x.level fwd else w
  let w :=
    if x.level = c.fine ∧ !right then
      (List.range (ceilDiv (lvDim c.hei c.fine) 16 - x.row)).foldl (fun w _ => w.stRow u c picks) w
    else
      let base := if x.level = c.fine then stCheck c else stPrior c x.level
      w.paint 0 picks.length (lvDim c.wid x.level) (fun a b => base + (b * lvTw c.wid x.level + a) * 2)
        (fun a b => leBytes 2 (((picks.getD b []).getD a ⟨0, 0, 0, 0, true, 0⟩).disp))
  w.stNext u c

/-- A stereo engine finishes one pass of one level: prior values or check disparities go to scratch, and at FINE_LEVEL of the forward
pass the tile rows still missing are written (R153, R160, R165, R166). -/
def stereoLevel (w : Work) (u : Nat) : Work :=
  w.stWork u fun w c =>
    let x := w.eng u
    if 1 < x.phase then w
    else
      w.stLevelPass u c x

/-- A tile row of the forward pass at FINE_LEVEL is written (R167); with the last one the level is done. -/
def stereoRow (w : Work) (u : Nat) : Work :=
  w.stWork u fun w c =>
    let x := w.eng u
    if x.phase ≠ 0 ∨ x.level ≠ c.fine then w
    else
      let n := ceilDiv (lvDim c.hei c.fine) 16
      if n ≤ x.row + 1 then w.stereoLevel u
      else
        let w := w.reach (stageStart x + 512 + ceilDiv ((1 + b2n c.paths8) * (lvTw c.wid c.fine * 16 * (x.row + 1) * stSlots c c.fine)) 128)
        w.stRow u c (w.stLevel c false c.fine)

/-! ### Refinement (R168, R169) -/

/-- The median of a list, none of an empty one. -/
def medianOf (l : List Nat) : Option Nat := if l.isEmpty then none else some (medianInt (l.map Int.ofNat)).toNat

/-- A pixel word of a first course. -/
def firstWord (w : Work) (first : WordBuf) (x y : Nat) : Nat := w.mem (first.base + y * first.pitch + x * 4) 4

/-- The median integer disparity of an interior's pixels that have one (R168). -/
def refineMedian (w : Work) (first : WordBuf) (inner : Nat × Nat × Nat × Nat) : Option Nat :=
  let (ix, iy, iw, ih) := inner
  medianOf ((List.range ih).flatMap (fun b => (List.range iw).filterMap (fun a =>
    let d := bits (w.firstWord first (ix + a) (iy + b)) 15 0
    if d = 0xFFFF then none else some (d / 16))))

/-- The refinement's search window of a pixel, where med stands for a pixel without a value (R168). -/
def refineWin (w : Work) (c : StCtx) (first : WordBuf) (med x y : Nat) : Nat × Nat :=
  let (dlo, dhi) := stBounds c c.fine
  let d := bits (w.firstWord first x y) 15 0
  stereoWindow (if d = 0xFFFF then med else d / 16) (bits (wd c.p 0) 27 22) dlo dhi

/-- Candidates of a window outside the supplied slices (R156, R168). -/
def refineMissing (w : Work) (c : StCtx) (first : WordBuf) (win inner : Nat × Nat × Nat × Nat) : Nat :=
  match w.refineMedian first inner with
  | none => 0
  | some med => w.extMissing c (bits (wd c.p 0) 29 28) false c.fine win (w.refineWin c first med)

/-- The refined words of a window: pixel (x, y) of the window's interior with its word, replaced where R168 says so. win is the window
(x0, y0, width, height) and inner the interior. None where no centre exists. -/
def stRefine (w : Work) (c : StCtx) (first : WordBuf) (gated : Bool) (win inner : Nat × Nat × Nat × Nat) : Option (List (Nat × Nat × Nat)) :=
  let (x0, y0, ww, wh) := win
  let (ix, iy, iw, ih) := inner
  let old := w.firstWord first
  match w.refineMedian first inner with
  | none => none
  | some med =>
    let (rf, mt) := w.stPair c false c.fine
    let cells := (List.range wh).map (fun b => (List.range ww).map (fun a =>
      w.stCell c (bits (wd c.p 0) 29 28) c.fine false rf mt (w.refineWin c first med (x0 + a) (y0 + b)) (x0 + a) (y0 + b)))
    let s := sgmAll c.par false cells
    some ((List.range ih).flatMap (fun b => (List.range iw).map (fun a =>
      let x := ix + a
      let y := iy + b
      let o := old x y
      let cl := (cells.getD (y - y0) []).getD (x - x0) ⟨0, 0, []⟩
      let k := sgmSelect cl.lo ((s.getD (y - y0) []).getD (x - x0) []) w.d.clk.vcycle (x + 65536 * y)
      let better := bits o 27 24 ≠ 7 ∧ w.stClass c rf mt gated x y k = 0 ∧ bits o 23 16 < sgmConf k
      (x, y, if better then pack [(k.disp, 0, 16), (sgmConf k, 16, 8), (8, 24, 4)] else o))))

/-- Slots of the refinement search (R159, R168). -/
def refineSlots (c : StCtx) : Nat := roundUp (2 * bits (wd c.p 0) 27 22 + 1) 8

/-- Built-in refinement writes the second course and the node ends (R168). -/
def stRefinePass (w : Work) (u : Nat) (c : StCtx) (x : EngRun) : Work :=
  let i := u - 0x58
  let g := w.version c.run.seq
  let src := (wordBuf g c.node 0 c.run.slot).getD ⟨0, 0, 4, 0, 0⟩
  let dst := (wordBuf g c.node 1 c.run.slot).getD ⟨0, 0, 4, 0, 0⟩
  let wid := lvDim c.wid c.fine
  let hei := lvDim c.hei c.fine
  let blocks := (List.range (ceilDiv hei 16)).flatMap (fun b => (List.range (ceilDiv wid 16)).map (fun a => (a, b)))
  let inner := fun (q : Nat × Nat) => (16 * q.1, 16 * q.2, min 16 (wid - 16 * q.1), min 16 (hei - 16 * q.2))
  let chosen := blocks.filter (fun q =>
    let (ix, iy, iw, ih) := inner q
    (List.range ih).any (fun b => (List.range iw).any (fun a =>
      let v := w.mem (src.base + (iy + b) * src.pitch + (ix + a) * 4) 4
      bits v 27 24 != 7 && (decide (bits v 23 16 < bits (wd c.p 6) 23 16) || bitAt (wd c.p 7) (bits v 27 24)))))
  let runs := chosen.filterMap (fun q => (w.stRefine c src false (window 16 wid hei 8 q.1 q.2) (inner q)).map (fun l => (q, l)))
  let slots := runs.map (fun (q, _) => let (_, _, ww, wh) := window 16 wid hei 8 q.1 q.2; ww * wh * refineSlots c)
  let px := (slots.map (fun n => 64 + ceilDiv n 128)).sum
  let miss := (runs.map (fun (q, _) => w.refineMissing c src (window 16 wid hei 8 q.1 q.2) (inner q))).sum
  let w' := w.reach (stageStart x + max (ceilDiv (wid * hei * 4) 128) (256 + px))
  let w' := (List.range hei).foldl (fun w' y => w'.store (dst.base + y * dst.pitch) (w.fetch (src.base + y * src.pitch) (4 * wid))) w'
  let w' := runs.foldl (fun w' (_, l) => l.foldl (fun w' (a, b, v) => w'.store (dst.base + b * dst.pitch + a * 4) (leBytes 4 v)) w') w'
  let w' := w'.store (roundUp (dst.base + hei * dst.pitch) 64) (w.fetch (roundUp (src.base + hei * src.pitch) 64) (4 * hei))
  let w' := (w'.add Reg.VIS_ST_CNT_CANDIDATES slots.sum i).add Reg.VIS_ST_CNT_EXT_MISSING miss i
  let w' := (w'.add Reg.VIS_ST_CNT_REFINE_BLOCKS runs.length i).add Reg.VIS_ST_CNT_REPLACED
    ((runs.map (fun (_, l) => (l.filter (fun t => bits t.2.2 27 24 == 8)).length)).sum) i
  (w'.signalLines c.run.id c.node 1 0 hei hei).endNode u c.run.id c.node

/-- Built-in refinement ends: selected blocks are searched again, port 1 receives the whole frame with the replacements, and is
signalled (R83, R168). -/
def stereoRefine (w : Work) (u : Nat) : Work :=
  w.stWork u fun w c =>
    let x := w.eng u
    if x.phase ≠ 2 then w
    else
      w.stRefinePass u c x

/-- A listed tile is refined and written and its DONE bit set; the last one ends the node (R169). -/
def stGatedTile (w : Work) (u : Nat) (c : StCtx) (x : EngRun) (g : GVer) (lst : Nat) : Work :=
  let i := u - 0x58
  let (size, _, _) := w.listGrid c.run c.node (listPort g c.node)
  let wid := lvDim c.wid c.fine
  let hei := lvDim c.hei c.fine
  let (tx, ty) := w.listTile lst x.row
  let first := (w.inputWords c.run c.node 3).getD ⟨0, 0, 4, 0, 0⟩
  let win := window size wid hei (halo g c.node) tx ty
  let inner := (tx * size, ty * size, min size (wid - tx * size), min size (hei - ty * size))
  let keep := (List.range inner.2.2.2).flatMap (fun b => (List.range inner.2.2.1).map (fun a =>
    (inner.1 + a, inner.2.1 + b, w.firstWord first (inner.1 + a) (inner.2.1 + b))))
  let l := (w.stRefine c first true win inner).getD keep
  let passes := (1 + b2n c.lr) * (1 + b2n c.paths8)
  let slots := win.2.2.1 * win.2.2.2 * refineSlots c
  let w' := w.reach (stageStart x + passes * (64 + ceilDiv slots 128))
  let w' := (w'.add Reg.VIS_ST_CNT_CANDIDATES (passes * slots) i).add Reg.VIS_ST_CNT_EXT_MISSING (w.refineMissing c first win inner) i
  let out := wd64 c.p 18 + c.run.slot * wd c.p 17 + x.row * wd c.p 23
  let w' := l.foldl (fun w' (a, b, v) => w'.store (out + ((b - inner.2.1) * size + (a - inner.1)) * 4) (leBytes 4 v)) w'
  let w' := (w'.setDone lst x.row).setEng u { x with row := x.row + 1, data := [w'.d.clk.vcycle] }
  let w' := (w'.inc Reg.VIS_ST_CNT_GATED_TILES i).add Reg.VIS_ST_CNT_REPLACED ((l.filter (fun t => bits t.2.2 27 24 == 8)).length) i
  let w' := w'.modNode c.run.id c.node (fun k => { k with tile := x.row + 1 })
  w'.gatedNext u c.run.id c.node (decide (w.listCount lst ≤ x.row + 1))

/-- A gated stereo engine finishes its next listed tile: the interior is written, DONE set, and after the last tile the outputs are
signalled (R94, R95, R169). -/
def stereoGated (w : Work) (u : Nat) : Work :=
  w.stWork u fun w c =>
    let x := w.eng u
    let g := w.version c.run.seq
    let lst := w.inputList c.run c.node (listPort g c.node)
    if x.phase ≠ 3 ∨ w.listCount lst ≤ x.row then w
    else
      w.stGatedTile u c x g lst

end Work

end Sys2Proof.Machine
end

