-- ==== Sys2Proof/Machine/Pyramid.lean ====
section
/-! DEFINITION. The polyphase scaler's sampling grid (R143, R146, R208) and the pyramid engines (R204 to R211). -/

namespace Sys2Proof.Machine

open Config

/-! ### Sampling grid of the scaler (R143) -/

/-- The box pre-decimation for an output of out samples from in_ (R143). -/
def decimation (in_ out : Nat) : Nat := if out * 8 < in_ then 8 else if out * 4 < in_ then 4 else if out * 2 < in_ then 2 else 1

/-- Where the taps of output sample x start in the source, one tap every decimation samples, and the numerator of its coordinate over
2 × out × decimation: the coordinate is c0 + (x + 0.5) × in / out - 0.5 on the decimated grid (R143). -/
def scaleAxis (c0 in_ out taps x : Nat) : Int × Int :=
  let d := decimation in_ out
  let num : Int := 2 * out * c0 + (2 * x + 1) * in_ - out - (d - 1) * out
  let i := num / (2 * out * d : Nat)
  ((i - (taps / 2 - 1 : Nat)) * d, num)

/-- The phase of an output sample, of 64: its coordinate's fraction on the decimated grid, rounded down (R143, DESIGN CHOICE, log entry 26). -/
def scalePhase (in_ out : Nat) (num : Int) : Nat := ((64 * num / (2 * out * decimation in_ out : Nat)) % 64).toNat

/-- A scaled sample (R143): eight by six taps, each the mean of its decimation box, weighted by the coefficients of their phases; rounded to one of the two neighbouring
integers, which the spec leaves open, and saturated at top (DESIGN CHOICE, log entry 26). -/
def scaleSample (get : Int → Int → Nat) (top cx cw ow cy ch oh x y : Nat) : Nat :=
  let (fx, nx) := scaleAxis cx cw ow 8 x
  let (fy, ny) := scaleAxis cy ch oh 6 y
  let dx := decimation cw ow
  let dy := decimation ch oh
  let box := fun (i j : Nat) =>
    ((List.range dy).flatMap (fun (b : Nat) => (List.range dx).map (fun (a : Nat) => get (fx + i * dx + a) (fy + j * dy + b)))).sum
  let row := fun (j : Nat) => ((List.range 8).map (fun i => scaleTap 8 cw ow (scalePhase cw ow nx) i * (box i j : Nat))).sum
  let total : Int := ((List.range 6).map (fun j => scaleTap 6 ch oh (scalePhase ch oh ny) j * row j)).sum
  let unit : Int := (((scaleUnit + 1) * (scaleUnit + 1) * dx * dy : Nat) : Int)
  let last := if total % unit = 0 then 0 else ispFree 8 [(total % unit).toNat, unit.toNat] % 2
  (clampI 0 top (total / unit + last)).toNat

/-- First and last source coordinate an output sample's taps reach. -/
def scaleSpan (c0 in_ out taps x : Nat) : Int × Int :=
  let (f, _) := scaleAxis c0 in_ out taps x
  (f, f + taps * decimation in_ out - 1)

/-! ### Sideband words of scaled lines (R146, R209, R220) -/

/-- The smallest PAD_FROM among sideband words. -/
def sbMin (wid : Nat) (l : List Nat) : Nat := l.foldl (fun m s => min m (bits s 15 0)) wid

/-- A line's LINE_PADDED and CRC_FAIL as the OR over footprint lines, with a PAD_FROM (R146, R209). -/
def sbOr (l : List Nat) (padFrom : Nat) : Nat := Work.sideband padFrom (l.any (fun s => bitAt s 16)) (l.any (fun s => bitAt s 17))

/-- Images as rows of pixels. -/
abbrev Grid := List (List Nat)

/-- A pixel of a grid, edges repeated. -/
def Grid.at (g : Grid) (x y : Int) : Nat :=
  let r := g.getD (clampI 0 ((g.length : Int) - 1) y).toNat []
  r.getD (clampI 0 ((r.length : Int) - 1) x).toNat 0

/-- Every pixel of a wid by hei grid. -/
def Grid.make (wid hei : Nat) (f : Nat → Nat → Nat) : Grid := (List.range hei).map (fun y => (List.range wid).map (fun x => f x y))

/-- The taps of a pyramid kernel and its first tap's offset (R206). -/
def pyrKernel (k : Nat) : List Nat × Int := if k = 0 then ([1, 5, 10, 10, 5, 1], -2) else ([1, 3, 3, 1], -1)

/-- Level L + 1 of a Gaussian pyramid from the stored level L: exact separable sums, rounded half up once (R206). -/
def gaussDown (kernel wid hei : Nat) (g : Grid) : Grid :=
  let (t, o) := pyrKernel kernel
  let n := t.sum * t.sum
  Grid.make wid hei (fun x y =>
    let s := ((List.range t.length).map (fun j => wd t j *
      ((List.range t.length).map (fun i => wd t i * g.at (2 * x + i + o) (2 * y + j + o))).sum)).sum
    (2 * s + n) / (2 * n))

/-- The bilinear upsample of level L + 1 at the centre of a level-L pixel, rounded half up (R204, R207, DESIGN CHOICE, log entry 22). -/
def gaussUp (g : Grid) (x y : Nat) : Nat :=
  let ax := fun (v : Nat) => if v % 2 = 0 then (((v / 2 : Nat) : Int) - 1, 1, 3) else (((v / 2 : Nat) : Int), 3, 1)
  let (x0, a0, a1) := ax x
  let (y0, b0, b1) := ax y
  (b0 * (a0 * g.at x0 y0 + a1 * g.at (x0 + 1) y0) + b1 * (a0 * g.at x0 (y0 + 1) + a1 * g.at (x0 + 1) (y0 + 1)) + 8) / 16

/-- The stored word of a Laplacian pixel (R207). -/
def laplaceWord (gray16 : Bool) (a b : Nat) : Nat :=
  let d : Int := (a : Int) - b
  wrapInt 16 (if gray16 then clampI (-32768) 32767 ((d + 1) / 2) else d)

/-- PAD_FROM of a line of level L + 1 from the smallest one of its footprint (R209). -/
def pyrPad (kernel wid next p : Nat) : Nat := if p = wid then next else (p - (if kernel = 0 then 2 else 1)) / 2

namespace Work

/-- The input image of a PYRAMID node for a run (R210, R212). -/
def pyrInput (w : Work) (r : GRun) (n : Nat) : Img :=
  let p := (w.version r.seq).params n
  let m := w.inputImg r n 0 (wd64 p 4 + r.slot * wd p 7) (bits (wd p 2) 15 0) (bits (wd p 2) 31 16) (1 + bits (wd p 0) 3 3) 0
  if bitAt (wd p 0) 4 then m else { m with tiled := false, pitch := wd p 6 }

/-- An image's pixels. -/
def grid (w : Work) (m : Img) : Grid := Grid.make m.w m.h (fun x y => w.px m x y)

/-- Level L of the Gaussian pyramid of a node, each from the one below it (R206). -/
def gaussLevel (w : Work) (m : Img) (kernel : Nat) : Nat → Grid
  | 0 => w.grid m
  | l + 1 => gaussDown kernel (lvDim m.w (l + 1)) (lvDim m.h (l + 1)) (gaussLevel w m kernel l)

/-- Store a grid at a tiled place, tiled pixels beyond it repeating its last column or line (R205). -/
def storeGrid (w : Work) (base tw th e : Nat) (g : Grid) : Work :=
  w.paint 0 th tw (fun x y => tiledAddr base tw e x y) (fun x y => leBytes e (g.at x y))

/-- The sideband words of level L (R205, R209). -/
def pyrSideband (w : Work) (m : Img) (kernel : Nat) : Nat → List Nat
  | 0 => (List.range m.h).map (fun y => w.sbWord m y)
  | l + 1 =>
    let below := pyrSideband w m kernel l
    let wid := lvDim m.w l
    (List.range (lvDim m.h (l + 1))).map (fun (y : Nat) =>
      let rows := if kernel = 0 then [-2, -1, 0, 1, 2, 3] else [-1, 0, 1, 2]
      let fp := rows.map (fun (k : Int) => below.getD (clampI 0 ((below.length : Int) - 1) (2 * y + k)).toNat 0)
      sbOr fp (pyrPad kernel wid (lvDim m.w (l + 1)) (sbMin wid fp)))

/-- Store a sideband array, lines beyond the true height repeating its last word (R205, R209). -/
def storeSideband (w : Work) (a th : Nat) (sb : List Nat) : Work :=
  w.store a ((List.range th).flatMap (fun y => leBytes 4 (sb.getD (min y (sb.length - 1)) 0)))

/-- The sideband word of a resampled line (R146, R208). -/
def resampleSb (w : Work) (m : Img) (ow oh y : Nat) : Nat :=
  let (y0, y1) := scaleSpan 0 m.h oh 6 y
  let rows := (List.range (edge m.h y1 + 1 - edge m.h y0)).map (fun k => w.sbWord m (edge m.h y0 + k))
  let p := sbMin m.w rows
  let first := ((List.range ow).find? (fun x => decide (p ≤ edge m.w (scaleSpan 0 m.w ow 8 x).2))).getD ow
  sbOr rows (if p = m.w then ow else first)

/-- V-cycles a pyramid instance takes once its input is complete, up to publishing level L (R211). -/
def pyrCycles (p : List Nat) (l : Nat) : Nat :=
  let wid := bits (wd p 2) 15 0
  let hei := bits (wd p 2) 31 16
  if bits (wd p 0) 1 0 = 2 then
    256 + ceilDiv (max (wid * hei) (roundUp (bits (wd p 3) 15 0) 64 * roundUp (bits (wd p 3) 31 16) 16)) 4
  else 256 + ceilDiv (lvTw wid 0 * lvTh hei 0) 4 + 64 * l

/-- A level and its sideband are written and signalled; the last ends the node (R205 to R211). -/
def pyrLevel (w : Work) (u : Nat) (x : EngRun) (r : GRun) (p : List Nat) (m : Img) : Work :=
  let mode := bits (wd p 0) 1 0
  let kernel := bits (wd p 0) 2 2
  let levels := bits (wd p 0) 11 8
  let out := wd64 p 8 + r.slot * wd p 10
  let l := x.level
  let w := (w.reach (max (x.since + pyrCycles p l) (x.row + 64 * l))).readTo r.id x.node 0 (m.h - 1)
  let w :=
    if mode = 2 then
      let ow := bits (wd p 3) 15 0
      let oh := bits (wd p 3) 31 16
      let g := Grid.make ow oh (fun a b => scaleSample (fun i j => w.pxE m i j) (2 ^ (8 * m.e) - 1) 0 m.w ow 0 m.h oh a b)
      let tw := roundUp ow 64
      let th := roundUp oh 16
      (w.storeGrid out tw th m.e g).storeSideband (out + tw * th * m.e) th ((List.range oh).map (fun b => w.resampleSb m ow oh b))
    else
      let e := fun k => if mode = 1 ∧ k + 1 < levels then 2 else m.e
      let off := if mode = 1 then pyrOff m.w m.h 2 l else pyrOff m.w m.h m.e l
      let planes := if mode = 1 then pyrOff m.w m.h 2 (levels - 1) + lvTw m.w (levels - 1) * lvTh m.h (levels - 1) * m.e
        else pyrOff m.w m.h m.e levels
      let g := w.gaussLevel m kernel l
      let g := if mode = 1 ∧ l + 1 < levels then
          let up := w.gaussLevel m kernel (l + 1)
          Grid.make (lvDim m.w l) (lvDim m.h l) (fun a b => laplaceWord (m.e == 2) (g.at a b) (gaussUp up a b))
        else g
      (w.storeGrid (out + off) (lvTw m.w l) (lvTh m.h l) (e l) g).storeSideband (out + pyrSb planes m.h l) (lvTh m.h l) (w.pyrSideband m kernel l)
  let i := u - 0x50
  let w := (w.inc Reg.VIS_PY_CNT_LEVELS i).wr Reg.PY_LEVEL l i
  let w := if l = 0 then (w.add Reg.VIS_PY_CNT_PIXELS (m.w * m.h) i).wr Reg.PY_CUR_LINE m.h i else w
  let w := (w.setEng u { x with level := l + 1 }).signalPort r.id x.node 0 1
  if l + 1 = (if mode = 2 then 1 else levels) then w.endNode u r.id x.node else w

/-- A pyramid engine with a STRIPE input takes the tile rows of level 0 whose lines are signalled (R211), in the order they come; row holds the V-cycle it is done
with those it has. Its next wait starts then (R72). -/
def pyramidTake (w : Work) (u : Nat) : Work :=
  let x := w.eng u
  match w.grun? x.run with
  | none => w
  | some r =>
    let g := w.version r.seq
    match (inEdge g x.node 0).filter (fun e => g.eKind e == 1) with
    | none => w
    | some e =>
      let m := w.pyrInput r x.node
      let lines := min m.h (w.countOf r (g.eFlag e) * max 1 (g.eStripe e))
      let before := min m.h (tget 0 (nodeRun r x.node).reads e * max 1 (g.eStripe e))
      if lines ≤ before then w
      else
        let done := if x.row = 0 then x.since + 256 else x.row
        let start := max w.d.clk.vcycle done
        let row := start + ceilDiv (lvTw m.w 0 * ((if lines = m.h then lvTh m.h 0 else lines) - before)) 4
        let w := (w.add Reg.VIS_PY_CNT_INPUT_WAIT (start - done) (u - 0x50)).wr Reg.PY_CUR_LINE lines (u - 0x50)
        let w := (w.setEng u { x with row := row }).readTo r.id x.node 0 (lines - 1)
        let t := w.now + w.vstep * (row - w.d.clk.vcycle) / 11
        w.modNode r.id x.node (fun k => { k with waitFrom := t })

/-- Every pyramid engine that no sounding holds takes what its input flag now covers. -/
def pyramidsTake (w : Work) : Work := [0x50, 0x51, 0x52, 0x53].foldl (fun w u => w.unlessHeld u fun w => w.pyramidTake u) w

/-- A pyramid engine publishes its next level with its sideband array, and signals it (R205 to R210). -/
def pyramidPublish (w : Work) (u : Nat) : Work :=
  let w := w.pyramidTake u
  let x := w.eng u
  match w.grun? x.run with
  | none => w
  | some r =>
    let p := (w.version r.seq).params x.node
    let m := w.pyrInput r x.node
    if !w.covers r x.node 0 (m.h - 1) then w
    else w.unlessPoison r.id x.node [(m.base, m.bytes)] fun w =>
      w.pyrLevel u x r p m

end Work

end Sys2Proof.Machine
end

