-- ==== Sys2Proof/Machine/Warp.lean ====
section
/-! DEFINITION. The warp engines: mappings, interpolation, out-of-bounds policy, the source tile cache and output tiles (R204, R214 to
R221, R274). -/

namespace Sys2Proof.Machine

open Config

/-! ### Mappings (R214, R215) -/

/-- A source coordinate in FP32, and whether the mapping itself puts the pixel out of bounds. -/
structure WarpPt where
  sx : FVal
  sy : FVal
  out : Bool
  reject : Bool
  deriving Repr

/-- An FP32 parameter word. -/
def fpar (p : List Nat) (i : Nat) : FVal := FVal.of32 (wd p i)

/-- An integer in FP32. -/
def fint (z : Int) : FVal := (FVal.ofInt z).rn

/-- Row i of a 3 × 3 matrix times (a, b, 1), left to right (R274). -/
def row3 (p : List Nat) (at_ : Nat) (a b : FVal) : FVal :=
  FVal.add (FVal.add (FVal.mul (fpar p at_) a) (FVal.mul (fpar p (at_ + 1)) b)) (fpar p (at_ + 2))

/-- HOMOGRAPHY (R214). -/
def mapHomography (p : List Nat) (x y : Nat) : WarpPt :=
  let u := row3 p 20 (fint x) (fint y)
  let v := row3 p 23 (fint x) (fint y)
  let w := row3 p 26 (fint x) (fint y)
  ⟨FVal.div u w, FVal.div v w, FVal.le w FVal.zero, false⟩

/-- LENS (R214): words 20 to 23 FX′, FY′, CX′, CY′, 24 to 32 R, 33 to 36 FX, FY, CX, CY, 37 to 41 K1, K2, K3, P1, P2 (R221). -/
def mapLens (p : List Nat) (x y : Nat) : WarpPt :=
  let xn := FVal.div (FVal.sub (fint x) (fpar p 22)) (fpar p 20)
  let yn := FVal.div (FVal.sub (fint y) (fpar p 23)) (fpar p 21)
  let zx := row3 p 24 xn yn
  let zy := row3 p 27 xn yn
  let zz := row3 p 30 xn yn
  let a := FVal.div zx zz
  let b := FVal.div zy zz
  let two := fint 2
  let r2 := FVal.add (FVal.mul a a) (FVal.mul b b)
  let r4 := FVal.mul r2 r2
  let r6 := FVal.mul r4 r2
  let rad := FVal.add (FVal.add (FVal.add (fint 1) (FVal.mul (fpar p 37) r2)) (FVal.mul (fpar p 38) r4)) (FVal.mul (fpar p 39) r6)
  let axis := fun (c p1 p2 : FVal) =>
    FVal.add (FVal.add (FVal.mul c rad) (FVal.mul (FVal.mul (FVal.mul two p1) a) b)) (FVal.mul p2 (FVal.add r2 (FVal.mul (FVal.mul two c) c)))
  let xd := axis a (fpar p 40) (fpar p 41)
  let yd := axis b (fpar p 41) (fpar p 40)
  ⟨FVal.add (FVal.mul (fpar p 33) xd) (fpar p 35), FVal.add (FVal.mul (fpar p 34) yd) (fpar p 36), FVal.le zz FVal.zero, false⟩

/-- A signed 16.16 number in FP32. -/
def fix16 (v : Nat) : FVal := ((FVal.ofInt (sext 32 v)).scale2 (-16)).rn

/-! ### Interpolation (R216) -/

/-- A coordinate in 1/64 pixel. -/
def quant64 (s : FVal) : Int := ((FVal.addX (s.scale2 6) (.fin false 1 (-1)))).floor

/-- The Catmull-Rom weights at phase f of 64, over 2 × 64³ (R216). -/
def cubicWeights (f : Int) : List Int :=
  [-(f * f * f) + 128 * f * f - 4096 * f, 3 * f * f * f - 320 * f * f + 524288, -(3 * f * f * f) + 256 * f * f + 4096 * f, f * f * f - 64 * f * f]

/-- Taps along one axis: the first tap and the weights. -/
def warpTaps (interp : Nat) (q : Int) : Int × List Int :=
  let i := q / 64
  let f := q % 64
  if interp = 0 then ((q + 32) / 64, [1]) else if interp = 1 then (i, [64 - f, f]) else (i - 1, cubicWeights f)

/-- The interpolated sample, rounded half up and saturated to the format. -/
def warpSample (get : Int → Int → Nat) (interp bitsN : Nat) (qx qy : Int) : Nat :=
  let (x0, wx) := warpTaps interp qx
  let (y0, wy) := warpTaps interp qy
  let den : Int := wx.sum * wy.sum
  let num : Int := ((List.range wy.length).map (fun (j : Nat) => wy.getD j 0 *
    ((List.range wx.length).map (fun (i : Nat) => wx.getD i 0 * (get (x0 + i) (y0 + j) : Int))).sum)).sum
  (clampI 0 ((2 : Int) ^ bitsN - 1) ((2 * num + den) / (2 * den))).toNat

/-- A warp node's parameters for a run. -/
structure WarpCtx where
  p : List Nat
  interp : Nat
  oob : Nat
  e : Nat
  planes : Nat
  ow : Nat
  oh : Nat
  src : Img
  out : Nat
  disp : Nat
  deriving Repr

namespace Work

/-- Set up a warp node for a run (R221). -/
def warpCtx (w : Work) (r : GRun) (n : Nat) : WarpCtx :=
  let p := (w.version r.seq).params n
  let e := 1 + bits (wd p 0) 9 9
  let m := w.inputImg r n 0 (wd64 p 4 + r.slot * wd p 8) (bits (wd p 2) 15 0) (bits (wd p 2) 31 16) e 0
  { p := p, interp := bits (wd p 0) 4 3, oob := bits (wd p 0) 6 5, e := e, planes := bits (wd p 0) 12 11 + 1, ow := bits (wd p 3) 15 0
    oh := bits (wd p 3) 31 16, src := if bitAt (wd p 0) 10 then m else { m with tiled := false, pitch := wd p 6 }
    out := wd64 p 10 + r.slot * wd p 12, disp := wd64 p 16 + r.slot * wd p 19 }

/-- MESH (R214): points beyond the grid repeat its last row or column; the grid has one point for each step that starts in the output
(DESIGN CHOICE, log entry 22). -/
def mapMesh (w : Work) (c : WarpCtx) (x y : Nat) : WarpPt :=
  let g := 8 * 2 ^ bits (wd c.p 0) 8 7
  let nx := ceilDiv c.ow g
  let ny := ceilDiv c.oh g
  let pt := fun (i j k : Nat) => fix16 (w.mem (wd64 c.p 14 + min j (ny - 1) * wd c.p 13 + min i (nx - 1) * 8 + 4 * k) 4)
  let fx := (fint (x % g)).scale2 (-(Nat.log2 g : Int))
  let fy := (fint (y % g)).scale2 (-(Nat.log2 g : Int))
  let one := fint 1
  let mix := fun (k : Nat) =>
    let i := x / g
    let j := y / g
    let a := FVal.mul (FVal.mul (FVal.sub one fx) (FVal.sub one fy)) (pt i j k)
    let b := FVal.mul (FVal.mul fx (FVal.sub one fy)) (pt (i + 1) j k)
    let d := FVal.mul (FVal.mul (FVal.sub one fx) fy) (pt i (j + 1) k)
    let e := FVal.mul (FVal.mul fx fy) (pt (i + 1) (j + 1) k)
    FVal.add (FVal.add (FVal.add a b) d) e
  ⟨mix 0, mix 1, false, false⟩

/-- DISPLACEMENT (R215). -/
def mapDisplace (w : Work) (c : WarpCtx) (x y : Nat) : WarpPt :=
  let d := bits (wd c.p 0) 15 14
  let flow := !bitAt (wd c.p 0) 13
  let v := w.mem (c.disp + (y / 2 ^ d) * wd c.p 18 + (x / 2 ^ d) * (if flow then 8 else 4)) (if flow then 8 else 4)
  let rej := flow && (bits v 31 0 == 0x80008000 || bitAt (wd c.p 1) (4 + bits v 43 40))
  let off := fun (z : Nat) => (fint (sext 16 z)).scale2 (-4)
  ⟨FVal.add (fint x) (off (bits v 15 0)), FVal.add (fint y) (off (bits v 31 16)), rej, rej⟩

/-- The source coordinate of an output pixel (R214). -/
def warpMap (w : Work) (c : WarpCtx) (x y : Nat) : WarpPt :=
  match bits (wd c.p 0) 2 0 with
  | 0 => w.mapMesh c x y
  | 1 => w.mapDisplace c x y
  | 2 => mapHomography c.p x y
  | _ => mapLens c.p x y

/-- Is a source coordinate out of bounds (R204, R274)? -/
def warpOut (c : WarpCtx) (t : WarpPt) : Bool :=
  let half : FVal := .fin true 1 (-1)
  let inside := fun (s : FVal) (n : Nat) => FVal.le half s && FVal.lt s (FVal.addX (FVal.ofInt n) half)
  t.out || !inside t.sx c.src.w || !inside t.sy c.src.h

/-- A coordinate clamped into bounds, in 1/64 pixel; an infinite one goes to the end it lies beyond (R217). -/
def clampQ (n : Nat) (s : FVal) : Int :=
  match s with
  | .inf neg => if neg then -32 else 64 * n - 33
  | v => clampI (-32) (64 * (n : Int) - 33) (quant64 v)

/-- The quantised coordinates an output pixel is interpolated at; none where it takes OOB_VALUE (R216, R217). A NaN that CLAMP
meets reads a free coordinate (DESIGN CHOICE, log entry 22). -/
def warpAt (w : Work) (c : WarpCtx) (x y : Nat) : Option (Int × Int) :=
  let t := w.warpMap c x y
  if !warpOut c t then some (quant64 t.sx, quant64 t.sy)
  else if c.oob = 1 then
    let one := fun (s : FVal) (n k : Nat) => if s.isNan then clampI (-32) (64 * (n : Int) - 33) (freePixel 2 w.d.clk.vcycle (2 * (x + 65536 * y) + k)) else clampQ n s
    some (one t.sx c.src.w 0, one t.sy c.src.h 1)
  else none

/-- The value of an output pixel of one plane. -/
def warpPixel (w : Work) (c : WarpCtx) (plane x y : Nat) : Nat :=
  match w.warpAt c x y with
  | none => low (8 * c.e) (bits (wd c.p 0) 31 16)
  | some (qx, qy) =>
    let m := { c.src with base := c.src.base + plane * wd c.p 7 }
    warpSample (fun i j => w.pxE m i j) c.interp (8 * c.e) qx qy

/-- The span of source pixels an output pixel's taps read: (x0, x1, y0, y1). -/
def warpSpan (w : Work) (c : WarpCtx) (x y : Nat) : Option (Nat × Nat × Nat × Nat) :=
  (w.warpAt c x y).map (fun (qx, qy) =>
    let (x0, wx) := warpTaps c.interp qx
    let (y0, wy) := warpTaps c.interp qy
    (edge c.src.w x0, edge c.src.w (x0 + wx.length - 1), edge c.src.h y0, edge c.src.h (y0 + wy.length - 1)))

/-! ### Source tile cache (R218) -/

/-- The 64 × 16 source blocks an area of the output touches, in raster order, as by × 65536 + bx. -/
def warpBlocks (w : Work) (c : WarpCtx) (x0 y0 cols rows : Nat) : List Nat :=
  let all := (List.range rows).flatMap (fun j => (List.range cols).flatMap (fun i =>
    match w.warpSpan c (x0 + i) (y0 + j) with
    | none => []
    | some (a, b, d, e) => (List.range (e / 16 + 1 - d / 16)).flatMap (fun v => (List.range (b / 64 + 1 - a / 64)).map (fun h =>
        (d / 16 + v) * 65536 + (a / 64 + h)))))
  all.eraseDups.mergeSort (fun a b => decide (a ≤ b))

/-- The pieces a tile is processed in, each with its blocks: the tile, its quarters, lines or half lines (R218). -/
def warpPieces (w : Work) (c : WarpCtx) (x0 y0 : Nat) : List (List Nat) :=
  let whole := w.warpBlocks c x0 y0 64 16
  if whole.length ≤ 64 then [whole]
  else (List.range 4).flatMap (fun q =>
    let b := w.warpBlocks c (x0 + 16 * q) y0 16 16
    if b.length ≤ 64 then [b]
    else (List.range 16).flatMap (fun j =>
      let l := w.warpBlocks c (x0 + 16 * q) (y0 + j) 16 1
      if l.length ≤ 64 then [l] else [w.warpBlocks c (x0 + 16 * q) (y0 + j) 8 1, w.warpBlocks c (x0 + 16 * q + 8) (y0 + j) 8 1]))

/-- The block lookups of a tile in order: each piece's blocks, plane after plane. -/
def warpLookups (w : Work) (c : WarpCtx) (x0 y0 : Nat) : List Nat :=
  (w.warpPieces c x0 y0).flatMap (fun b => (List.range c.planes).flatMap (fun pl => b.map (fun k => k + pl * 2 ^ 32)))

/-- Take the lookups that hit, from position k on: the number that hit and the cache with the hit blocks most recently used, oldest
first. -/
def cacheHits : List Nat → List Nat → Nat × List Nat
  | [], c => (0, c)
  | b :: r, c => if c.contains b then
      let (n, c') := cacheHits r (c.filter (fun x => x != b) ++ [b])
      (n + 1, c')
    else (0, c)

/-- First pixel of the engine's present tile. -/
def warpOrigin (c : WarpCtx) (x : EngRun) : Nat × Nat :=
  let cols := roundUp c.ow 64 / 64
  (x.row % cols * 64, x.row / cols * 16)

/-- The last source line a tile's taps read, and the last line of its displacement words. -/
def warpNeeds (w : Work) (c : WarpCtx) (x0 y0 : Nat) : Nat × Nat :=
  ((List.range 16).foldl (fun m j => (List.range 64).foldl (fun m i =>
    match w.warpSpan c (x0 + i) (y0 + j) with
    | none => m
    | some (_, _, _, e) => max m e) m) 0, (min (y0 + 15) (c.oh - 1)) / 2 ^ bits (wd c.p 0) 15 14)

/-- Do the flags of both inputs cover what the present tile reads (R218)? -/
def warpReady (w : Work) (r : GRun) (n : Nat) (c : WarpCtx) (x0 y0 : Nat) : Bool :=
  (bits (wd c.p 0) 2 0 != 1 || w.covers r n 1 ((w.warpNeeds c x0 y0).2)) && w.covers r n 0 (w.warpNeeds c x0 y0).1

/-- A missing source block arrives in the tile cache (R218): lookups before it that hit are counted, the block takes the place of
the least recently used one. row counts tiles, pass the tile's lookups so far, and tiles holds the cache. -/
def warpFetched (w : Work) (u : Nat) : Work :=
  let x := w.eng u
  match w.grun? x.run with
  | none => w
  | some r =>
    let c := w.warpCtx r x.node
    let (x0, y0) := warpOrigin c x
    if c.oh ≤ y0 || !w.warpReady r x.node c x0 y0 then w
    else
      let i := u - 0x54
      let rest := (w.warpLookups c x0 y0).drop x.pass
      let (hits, cache) := cacheHits rest x.tiles
      match rest.drop hits with
      | [] => (w.setEng u { x with pass := x.pass + hits, tiles := cache }).add Reg.VIS_WP_CNT_HITS hits i
      | b :: _ =>
        let w := w.setEng u { x with pass := x.pass + hits + 1, tiles := cache.drop (cache.length - 127) ++ [b] }
        (w.add Reg.VIS_WP_CNT_HITS hits i).inc Reg.VIS_WP_CNT_FETCHES i

/-! ### Output (R217 to R220) -/

/-- Offset of the sideband array in an output buffer. -/
def warpSbOff (c : WarpCtx) : Nat := roundUp ((c.planes - 1) * wd c.p 9 + roundUp c.ow 64 * roundUp c.oh 16 * c.e) 64

/-- Offset of the mask in an output buffer. -/
def warpMaskOff (c : WarpCtx) : Nat := roundUp (warpSbOff c + 4 * roundUp c.oh 16) 64

/-- The sideband word of an output line (R220). -/
def warpSideband (w : Work) (c : WarpCtx) (y : Nat) : Nat :=
  let spans := (List.range c.ow).map (fun x => w.warpSpan c x y)
  let meets := fun (b : Nat) => spans.all (fun s => match s with
    | none => false
    | some (_, _, d, e) => (List.range (e + 1 - d)).any (fun k => bitAt (w.sbWord c.src (d + k)) b))
  let padPx := fun (s : Option (Nat × Nat × Nat × Nat)) => match s with
    | none => false
    | some (_, b, d, e) => (List.range (e + 1 - d)).any (fun k => sbPadded (w.sbWord c.src (d + k)) b)
  sideband ((spans.findIdx? padPx).getD c.ow) (meets 16) (meets 17)

/-- An output tile is written; at the end of a tile row its sideband and signal follow, and the last ends the node (R214 to R220). -/
def warpWrite (w0 : Work) (u : Nat) (x : EngRun) (r : GRun) (c : WarpCtx) (x0 y0 hits : Nat) (cache : List Nat) : Work :=
  let i := u - 0x54
  let tw := roundUp c.ow 64
  let rate := if c.interp = 2 then 2 else 4
  let w := w0.reach (x.since + 256 + (x.row + 1) * (1024 * c.planes / rate))
  let w := (List.range c.planes).foldl (fun w pl => w.paint y0 16 64 (fun a b => tiledAddr (c.out + pl * wd c.p 9) tw c.e (x0 + a) b)
    (fun a b => leBytes c.e (w0.warpPixel c pl (x0 + a) b))) w
  let inB := fun a b => !warpOut c (w0.warpMap c a b)
  let w := if c.oob ≠ 2 then w else (List.range 16).foldl (fun w j =>
    w.store (c.out + warpMaskOff c + (y0 + j) * (tw / 8) + x0 / 8) (leBytes 8 (((List.range 64).map (fun k => if inB (x0 + k) (y0 + j) then 2 ^ k else 0)).sum))) w
  let real := (List.range (min 16 (c.oh - y0))).flatMap (fun j => (List.range (min 64 (c.ow - x0))).map (fun k => (x0 + k, y0 + j)))
  let w := w.add Reg.VIS_WP_CNT_OOB_PX (real.filter (fun q => !inB q.1 q.2)).length i
  let w := w.add Reg.VIS_WP_CNT_DISP_REJECT (real.filter (fun q => (w0.warpMap c q.1 q.2).reject)).length i
  let w := (w.inc Reg.VIS_WP_CNT_TILES i).add Reg.VIS_WP_CNT_HITS hits i
  let w := if 1 < (w0.warpPieces c x0 y0).length then w.inc Reg.VIS_WP_CNT_SPLIT i else w
  let w := w.setEng u { x with row := x.row + 1, pass := 0, tiles := cache }
  let need := w0.warpNeeds c x0 y0
  let w := (w.readTo r.id x.node 0 need.1).readTo r.id x.node 1 need.2
  if x0 + 64 < tw then w
  else
    let w := w.store (c.out + warpSbOff c + 4 * y0) ((List.range 16).flatMap (fun j => leBytes 4 (w0.warpSideband c (min (y0 + j) (c.oh - 1)))))
    let w := (w.wr Reg.WP_CUR_TILE_ROW (y0 / 16 + 1) i).signalLines r.id x.node 0 y0 (min c.oh (y0 + 16)) c.oh
    if c.oh ≤ y0 + 16 then w.endNode u r.id x.node else w

/-- A warp engine finishes its present tile: the planes and mask of the tile are written, and after the last tile of a tile row its
sideband words, with full stripes signalled (R217 to R220). A tile with a block still missing is not finished. -/
def warpTile (w : Work) (u : Nat) : Work :=
  let x := w.eng u
  match w.grun? x.run with
  | none => w
  | some r =>
    let c := w.warpCtx r x.node
    let (x0, y0) := warpOrigin c x
    let rest := (w.warpLookups c x0 y0).drop x.pass
    let (hits, cache) := cacheHits rest x.tiles
    if c.oh ≤ y0 || !w.warpReady r x.node c x0 y0 || decide (hits < rest.length) then w
    else w.unlessPoison r.id x.node [(c.src.base, c.src.bytes)] fun w0 =>
      w0.warpWrite u x r c x0 y0 hits cache

end Work

end Sys2Proof.Machine
end

