-- ==== Sys2Proof/Machine/Flow.lean ====
section
/-! DEFINITION. The flow engines: block match, gradient steps, classes, the forward-backward check, history, refinement and gated tiles
(R174 to R186). -/

namespace Sys2Proof.Machine

open Config

/-! ### Gradient steps (R177) -/

/-- Sum in FP32, left to right. -/
def fsum (l : List FVal) : FVal :=
  match l with
  | [] => FVal.zero
  | x :: r => r.foldl FVal.add x

/-- A sample in FP32. -/
def gsample (g : Grid) (x y : Int) : FVal := FVal.ofInt (g.at x y)

/-- Horizontal gradient. -/
def gradX (g : Grid) (x y : Int) : FVal := FVal.div (FVal.sub (gsample g (x + 1) y) (gsample g (x - 1) y)) (fint 2)

/-- Vertical gradient. -/
def gradY (g : Grid) (x y : Int) : FVal := FVal.div (FVal.sub (gsample g x (y + 1)) (gsample g x (y - 1))) (fint 2)

/-- The offsets of a window of radius r, in raster order. -/
def windowOffsets (r : Nat) : List (Int × Int) :=
  (List.range (2 * r + 1)).flatMap (fun (j : Nat) => (List.range (2 * r + 1)).map (fun (i : Nat) => ((i : Int) - r, (j : Int) - r)))

/-- The structure tensor of a window: gxx, gxy, gyy. -/
def tensor (g : Grid) (r : Nat) (x y : Int) : FVal × FVal × FVal :=
  let gs := (windowOffsets r).map (fun o => (gradX g (x + o.1) (y + o.2), gradY g (x + o.1) (y + o.2)))
  (fsum (gs.map (fun q => FVal.mul q.1 q.1)), fsum (gs.map (fun q => FVal.mul q.1 q.2)), fsum (gs.map (fun q => FVal.mul q.2 q.2)))

/-- det(g). -/
def tensorDet (t : FVal × FVal × FVal) : FVal := FVal.sub (FVal.mul t.1 t.2.2) (FVal.mul t.2.1 t.2.1)

/-- λmin(g) = (gxx + gyy - sqrt((gxx - gyy)² + 4 gxy²)) / 2 (DESIGN CHOICE, log entry 24). -/
def lambdaMin (t : FVal × FVal × FVal) : FVal :=
  let d := FVal.sub t.1 t.2.2
  let s := FVal.sqrt (FVal.add (FVal.mul d d) (FVal.mul (FVal.mul (fint 4) t.2.1) t.2.1))
  FVal.div (FVal.sub (FVal.add t.1 t.2.2) s) (fint 2)

/-- λn of R180. -/
def lambdaN (t : FVal × FVal × FVal) (r : Nat) : Nat :=
  (clampI 0 65535 (FVal.div (lambdaMin t) (fint (((2 * r + 1) * (2 * r + 1) : Nat)))).floor).toNat

/-- A bilinear sample (DESIGN CHOICE, log entry 24). -/
def bilinear (g : Grid) (x y : FVal) : FVal :=
  let ix := x.floor
  let iy := y.floor
  let fx := FVal.sub x (fint ix)
  let fy := FVal.sub y (fint iy)
  let one := fint 1
  let a := FVal.mul (FVal.mul (FVal.sub one fx) (FVal.sub one fy)) (gsample g ix iy)
  let b := FVal.mul (FVal.mul fx (FVal.sub one fy)) (gsample g (ix + 1) iy)
  let c := FVal.mul (FVal.mul (FVal.sub one fx) fy) (gsample g ix (iy + 1))
  let d := FVal.mul (FVal.mul fx fy) (gsample g (ix + 1) (iy + 1))
  FVal.add (FVal.add (FVal.add a b) c) d

/-- J(q + v) - I(q). -/
def residual (gi gj : Grid) (x y : Int) (v : FVal × FVal) : FVal :=
  FVal.sub (bilinear gj (FVal.add (fint x) v.1) (FVal.add (fint y) v.2)) (gsample gi x y)

/-- One gradient step. -/
def gradStep (gi gj : Grid) (r : Nat) (x y : Int) (t : FVal × FVal × FVal) (v : FVal × FVal) : FVal × FVal :=
  let rs := (windowOffsets r).map (fun o => (residual gi gj (x + o.1) (y + o.2) v, gradX gi (x + o.1) (y + o.2), gradY gi (x + o.1) (y + o.2)))
  let bx := fsum (rs.map (fun q => FVal.mul q.1 q.2.1))
  let by_ := fsum (rs.map (fun q => FVal.mul q.1 q.2.2))
  let d := tensorDet t
  let nxy := FVal.div t.2.1.neg d
  (FVal.sub v.1 (FVal.add (FVal.mul (FVal.div t.2.2 d) bx) (FVal.mul nxy by_)),
   FVal.sub v.2 (FVal.add (FVal.mul nxy bx) (FVal.mul (FVal.div t.1 d) by_)))

/-- Hold a component to v0 ± 4 px. -/
def clampStep (v0 v : FVal) : FVal × Bool :=
  let lo := FVal.sub v0 (fint 4)
  let hi := FVal.add v0 (fint 4)
  if FVal.lt v lo then (lo, true) else if FVal.lt hi v then (hi, true) else (v, false)

/-- The step loop: v and whether a clamp set LIMIT. clamp: none for tracking (R198). -/
def gradLoop (gi gj : Grid) (r : Nat) (x y : Int) (t : FVal × FVal × FVal) (v0 : FVal × FVal) (clamp : Bool) :
    Nat → FVal × FVal → Bool → (FVal × FVal) × Bool
  | 0, v, l => (v, l)
  | n + 1, v, l =>
    if FVal.le (tensorDet t) FVal.zero then (v, l)
    else
      let s := gradStep gi gj r x y t v
      if clamp then
        let (a, la) := clampStep v0.1 s.1
        let (b, lb) := clampStep v0.2 s.2
        gradLoop gi gj r x y t v0 clamp n (a, b) (l || la || lb)
      else gradLoop gi gj r x y t v0 clamp n s l

/-- e16 = floor(16 × mean of |J(q + v) - I(q)|) (R181). -/
def e16 (gi gj : Grid) (r : Nat) (x y : Int) (v : FVal × FVal) : Nat :=
  let s := fsum ((windowOffsets r).map (fun o => (residual gi gj (x + o.1) (y + o.2) v).abs))
  (FVal.mul (fint 16) (FVal.div s (fint ((2 * r + 1) * (2 * r + 1) : Nat)))).floor.toNat

/-- A vector in 1/16 px, ties away from zero, clamped to ±2,047.9375 (R177). -/
def store16 (v : FVal) : Int := clampI (-32767) 32767 (v.scale2 4).roundAway

/-- A stored vector in pixels. -/
def load16 (v : Int) : FVal := (FVal.ofInt v).scale2 (-4)

/-! ### Block match (R176) -/

/-- What block match finds: the vector and the EDGE and AMB flags. -/
structure BmPick where
  u : Int
  w : Int
  edge : Bool
  amb : Bool
  deriving Repr

/-- Censuses of an image by pixel. -/
def censusGrid (g : Grid) (x y : Int) : List Bool :=
  let v := g.at x y
  censusOffsets.map (fun o => decide (g.at (x + o.1) (y + o.2) < v))

/-- The best candidate around a centre for the pixels of a block (R176). -/
def blockMatch (gi gj : Grid) (px : List (Nat × Nat)) (cu cw : Int) (radius uniq : Nat) : BmPick :=
  let n := 2 * radius + 1
  let cands := (List.range (n * n)).map (fun k => (((k % n : Nat) : Int) - radius, ((k / n : Nat) : Int) - radius))
  let cost := fun (c : Int × Int) => (px.map (fun q =>
    (List.zipWith (fun a b => b2n (a != b)) (censusGrid gi q.1 q.2) (censusGrid gj (q.1 + cu + c.1) (q.2 + cw + c.2))).sum)).sum
  let costs := cands.map (fun c => (c, cost c))
  let better := fun (a b : (Int × Int) × Nat) =>
    let na := a.1.1 * a.1.1 + a.1.2 * a.1.2
    let nb := b.1.1 * b.1.1 + b.1.2 * b.1.2
    decide (a.2 < b.2) || (a.2 == b.2 && (decide (na < nb) || (na == nb && (decide (a.1.2 < b.1.2) || (a.1.2 == b.1.2 && decide (a.1.1 < b.1.1))))))
  let best := costs.foldl (fun m c => if better c m then c else m) (costs.headD ((0, 0), 0))
  let far := (costs.filter (fun c => decide (2 ≤ max (c.1.1 - best.1.1).natAbs (c.1.2 - best.1.2).natAbs))).map (fun c => c.2)
  ⟨cu + best.1.1, cw + best.1.2, best.1.1.natAbs == radius || best.1.2.natAbs == radius, decide (16 * leastOf far < uniq * best.2)⟩

/-- A pixel's vector at the end of a level: 1/16 px, with inherited flags. -/
structure FlowPx where
  dx : Int
  dy : Int
  edge : Bool
  amb : Bool
  limit : Bool
  /-- The FP32 vector after the last step. -/
  v : FVal × FVal
  deriving Repr

/-- The scratch word of a pixel (DESIGN CHOICE, log entry 24). -/
def FlowPx.word (q : FlowPx) : Nat :=
  pack [(wrapInt 16 q.dx, 0, 16), (wrapInt 16 q.dy, 16, 16), (b2n q.edge, 32, 1), (b2n q.amb, 33, 1), (b2n q.limit, 34, 1)]

/-- A flow node's parameters for a run. -/
structure FlCtx where
  p : List Nat
  run : GRun
  node : Nat
  u : Nat
  density : Nat
  fb : Bool
  temporal : Bool
  r : Nat
  coarse : Nat
  last : Nat
  wid : Nat
  hei : Nat
  e : Nat
  gated : Bool

namespace Work

/-- Set up a flow node for a run on an engine (R188). -/
def flCtx (w : Work) (r : GRun) (n u : Nat) : FlCtx :=
  let g := w.version r.seq
  let p := own g n
  { p := p, run := r, node := n, u := namedUnit g n u, density := bits (wd p 0) 1 0, fb := bitAt (wd p 0) 2, temporal := bitAt (wd p 0) 3
    r := if bitAt (wd p 0) 6 then 3 else 2, coarse := bits (wd p 0) 11 8, last := flowLast p, wid := bits (wd p 2) 15 0
    hei := bits (wd p 2) 31 16, e := 1 + bits (wd p 1) 4 4, gated := g.gated n }

/-- Bytes of a level of I in the history, rounded up to 64 (R189). -/
def flHistLevel (c : FlCtx) (l : Nat) : Nat := roundUp (lvTw c.wid l * lvTh c.hei l * c.e) 64

/-- The parity area of frame n (R175). -/
def flHist (c : FlCtx) (n : Nat) : Nat := wd64 c.p 22 + n % 2 * wd c.p 24

/-- Where level l lies in a parity area. -/
def flHistAt (c : FlCtx) (n l : Nat) : Nat := flHist c n + 64 + ((List.range (l - c.last)).map (fun k => flHistLevel c (c.last + k))).sum

/-- Is a parity area's header that of frame n of some context (R175, R523)? -/
def histUsable (w : Work) (a actx n : Nat) : Bool :=
  bitAt (w.mem (a + 8) 4) 8 && decide (actx ≠ 0xFF) && decide (w.mem (a + 8) 1 ≠ 0xFF) && low 32 (w.mem (a + 4) 4 + 1) == n

/-- Has a TEMPORAL instance usable history? -/
def flHistory (w : Work) (c : FlCtx) : Bool := w.histUsable (flHist c (c.run.afc + 1)) c.run.actx c.run.afc

/-- The image I at a level. -/
def flI (w : Work) (c : FlCtx) (l : Nat) : Img := w.inputImg c.run c.node 0 (wd64 c.p 6 + c.run.slot * wd c.p 10) c.wid c.hei c.e l

/-- The image J at a level: input port 1, or the previous frame's I in the history, which carries no sideband words (R175). -/
def flJ (w : Work) (c : FlCtx) (l : Nat) : Img :=
  if c.temporal then ⟨flHistAt c (c.run.afc + 1) l, lvDim c.wid l, lvDim c.hei l, lvTw c.wid l, c.e, true, 0, 0⟩
  else w.inputImg c.run c.node 1 (wd64 c.p 8 + c.run.slot * wd c.p 10) c.wid c.hei c.e l

/-- First scratch byte of the engine. -/
def flScratch (c : FlCtx) : Nat := wd64 c.p 18 + (c.u - 0x5A) * wd c.p 20

/-- Bytes of an 8-byte plane of a level, 0 above COARSE_LEVEL (R189). -/
def flPlane (c : FlCtx) (l : Nat) : Nat := if c.coarse < l then 0 else roundUp (lvTw c.wid l * lvTh c.hei l * 8) 64

/-- The prior plane a level writes. -/
def flPrior (c : FlCtx) (l : Nat) : Nat := if (l - c.last) % 2 = 1 then flScratch c else flScratch c + flPlane c (c.last + 1)

/-- Blocks of the processed coarsest level. -/
def flBlocks (c : FlCtx) : Nat := lvTw c.wid c.coarse / 8 * (lvTh c.hei c.coarse / 8)

/-- The block table and the backward field (R189). -/
def flBlockAt (c : FlCtx) : Nat := flScratch c + flPlane c (c.last + 1) + flPlane c (c.last + 2)
def flBackward (c : FlCtx) : Nat := flBlockAt c + roundUp (8 * flBlocks c) 64

/-- The top 8 bits of an image as a grid. -/
def grid8 (w : Work) (m : Img) : Grid := Grid.make m.w m.h (fun x y => if m.e = 2 then w.px m x y / 256 else w.px m x y)

/-- Block vectors of the coarsest level, in raster order, from the pixels themselves (R155, R176). -/
def flMatch (c : FlCtx) (gi gj : Grid) : List BmPick :=
  let cols := lvTw c.wid c.coarse / 8
  (List.range (flBlocks c)).map (fun k =>
    blockMatch gi gj ((List.range 64).map (fun q => (k % cols * 8 + q % 8, k / cols * 8 + q / 8))) 0 0 (bits (wd c.p 0) 22 16) (bits (wd c.p 3) 7 0))

/-- Every pixel of a level (R177). back: I and J are exchanged. -/
def flLevel (w : Work) (c : FlCtx) (back : Bool) (l : Nat) : List (List FlowPx) :=
  let mi := if back then w.flJ c l else w.flI c l
  let mj := if back then w.flI c l else w.flJ c l
  let gi := w.grid8 mi
  let gj := w.grid8 mj
  let bm := if l = c.coarse then flMatch c (w.grid mi) (w.grid mj) else []
  let cols := lvTw c.wid c.coarse / 8
  (List.range (lvDim c.hei l)).map (fun y => (List.range (lvDim c.wid l)).map (fun x =>
    let (vx, vy, fl) : Int × Int × (Bool × Bool × Bool) :=
      if l = c.coarse then
        let k := bm.getD (y / 8 * cols + x / 8) ⟨0, 0, false, false⟩
        (16 * k.u, 16 * k.w, (k.edge, k.amb, false))
      else
        let v := w.mem (flPrior c (l + 1) + ((y / 2) * lvTw c.wid (l + 1) + x / 2) * 8) 8
        (2 * sext 16 (bits v 15 0), 2 * sext 16 (bits v 31 16), (bitAt v 32, bitAt v 33, bitAt v 34))
    let v0 := (load16 vx, load16 vy)
    let t := tensor gi c.r x y
    let (v, lim) := gradLoop gi gj c.r x y t v0 true (bits (wd c.p 0) 25 23) v0 false
    ⟨store16 v.1, store16 v.2, fl.1, fl.2.1, fl.2.2 || lim, v⟩))

/-- Is a pixel of I's window at p, or of the bilinear footprint of J's window at p + v, padded (R180)? -/
def flPadded (w : Work) (mi mj : Img) (r : Nat) (x y : Int) (v : FVal × FVal) : Bool :=
  let fx := (FVal.add (fint x) v.1).floor
  let fy := (FVal.add (fint y) v.2).floor
  (windowOffsets r).any (fun o => w.padded mi (x + o.1) (y + o.2) || w.padded mj (fx + o.1) (fy + o.2) || w.padded mj (fx + o.1 + 1) (fy + o.2) ||
    w.padded mj (fx + o.1) (fy + o.2 + 1) || w.padded mj (fx + o.1 + 1) (fy + o.2 + 1))

/-- The forward-backward test of a word (R182). -/
def flFails (w : Work) (c : FlCtx) (x y : Nat) (q : FlowPx) : Bool :=
  let qx := (16 * (x : Int) + q.dx + 8) / 16
  let qy := (16 * (y : Int) + q.dy + 8) / 16
  if 0 ≤ qx ∧ qx < lvDim c.wid c.last ∧ 0 ≤ qy ∧ qy < lvDim c.hei c.last then
    let b := w.mem (flBackward c + (qy.toNat * lvTw c.wid c.last + qx.toNat) * 8) 8
    decide (bits (wd c.p 3) 15 8 < max (q.dx + sext 16 (bits b 15 0)).natAbs (q.dy + sext 16 (bits b 31 16)).natAbs)
  else false

/-- The class of a word (R180). -/
def flClass (w : Work) (c : FlCtx) (mi mj : Img) (gi : Grid) (check : Bool) (x y : Nat) (q : FlowPx) : Nat :=
  let full := if c.e = 2 then 0xFFFF else 0xFF
  let cx := FVal.add (fint x) q.v.1
  let cy := FVal.add (fint y) q.v.2
  let r := c.r
  let inside := fun (z : FVal) (n : Nat) => FVal.le (fint r) z && FVal.le z (fint ((n : Int) - 1 - r))
  let sat := [(0, 0), (1, 0), (0, 1), (1, 1)].any (fun (o : Int × Int) => w.pxE mj (cx.floor + o.1) (cy.floor + o.2) == full)
  if w.flPadded mi mj r x y q.v then 7
  else if decide (x < r ∨ mi.w ≤ x + r ∨ y < r ∨ mi.h ≤ y + r) || !inside cx mi.w || !inside cy mi.h then 6
  else if w.px mi x y = full ∨ sat then 5
  else if q.edge || q.limit then 4
  else if q.amb then 3
  else if check && w.flFails c x y q then 1
  else if lambdaN (tensor gi r x y) r < bits (wd c.p 4) 15 0 then 2
  else 0

/-- CONFIDENCE of a vector before the caps (R181). -/
def flConf (gain : Nat) (e : Nat) : Nat := 255 - min 255 (e * gain / 256)

/-- A flow word (R178, R179, R181). -/
def flWord (c : FlCtx) (cls conf : Nat) (q : FlowPx) : Nat :=
  let k : Int := (2 ^ c.density : Nat)
  let dx := wrapInt 16 (clampI (-32767) 32767 (k * q.dx))
  let dy := wrapInt 16 (clampI (-32767) 32767 (k * q.dy))
  let none_ := bitAt (wd c.p 0) 4 && (cls == 3 || cls == 4)
  pack [(if none_ then 0x8000 else dx, 0, 16), (if none_ then 0x8000 else dy, 16, 16),
    (classConf cls conf (bits (wd c.p 3) 23 16), 32, 8), (cls, 40, 4)]

/-- The word of an instance without history: value 0, confidence 0, class PADDED (R175). -/
def flFill : Nat := 7 * 2 ^ 40

/-- V-cycles of one level and pass (R183). -/
def flCycles (c : FlCtx) (l : Nat) : Nat :=
  let n := 2 * bits (wd c.p 0) 22 16 + 1
  (if l = c.coarse then 512 + flBlocks c * ceilDiv (n * n) 32 else 0) + 512 + ceilDiv (lvTw c.wid l * lvTh c.hei l * (bits (wd c.p 0) 25 23 + 1)) 8

/-- The sideband word of an output line over the footprint of the PADDED test (R146, R184). -/
def flSideband (w : Work) (mi mj : Img) (r y : Nat) (row : List FlowPx) : Nat :=
  let rowsI := (List.range (2 * r + 1)).map (fun (k : Nat) => w.sbWord mi (edge mi.h ((y : Int) + k - r)))
  let ys := row.map (fun q => (FVal.add (fint y) q.v.2).floor)
  let lo := ys.foldl min (ys.headD 0)
  let hi := ys.foldl max (ys.headD 0)
  let rowsJ := (List.range (edge mj.h (hi + r + 1) + 1 - edge mj.h (lo - r))).map (fun k => w.sbWord mj (edge mj.h (lo - r) + k))
  let pa := sbMin mi.w rowsI
  let pb := sbMin mj.w rowsJ
  let hit := fun (x : Nat) => decide (pa < mi.w ∧ pa ≤ x + r) ||
    decide (pb < mj.w ∧ (pb : Int) ≤ (FVal.add (fint x) ((row.getD x ⟨0, 0, false, false, false, (FVal.zero, FVal.zero)⟩).v.1)).floor + r + 1)
  sbOr (rowsI ++ rowsJ) (((List.range mi.w).find? hit).getD mi.w)

/-- One tile row of the first course is written at LAST and its stripes signalled (R180 to R184). -/
def flRow (w : Work) (u : Nat) (c : FlCtx) (px : List (List FlowPx)) : Work :=
  let x := w.eng u
  let i := u - 0x5A
  let fill := x.pass == 1
  let mi := w.flI c c.last
  let mj := w.flJ c c.last
  let gi := w.grid8 mi
  let gj := w.grid8 mj
  let wb := (wordBuf (w.version c.run.seq) c.node 0 c.run.slot).getD ⟨0, 0, 8, 0, 0⟩
  let y0 := 16 * x.row
  let rows := min 16 (mi.h - y0)
  let none_ : FlowPx := ⟨0, 0, false, false, false, (FVal.zero, FVal.zero)⟩
  let words := (List.range rows).map (fun b => (List.range mi.w).map (fun a =>
    let q := (px.getD (y0 + b) []).getD a none_
    if fill then flFill
    else flWord c (w.flClass c mi mj gi c.fb a (y0 + b) q) (flConf (bits (wd c.p 4) 31 16) (e16 gi gj c.r a ((y0 + b : Nat) : Int) q.v)) q))
  let w' := (List.range rows).foldl (fun w' b => w'.store (wb.base + (y0 + b) * wb.pitch) ((words.getD b []).flatMap (leBytes 8))) w
  let w' := w'.store (roundUp (wb.base + mi.h * wb.pitch) 64 + 4 * y0) ((List.range rows).flatMap (fun b =>
    leBytes 4 (if fill then sideband 0 true false else w.flSideband mi mj c.r (y0 + b) (px.getD (y0 + b) []))))
  let w' := (List.range 9).foldl (fun w' k =>
    w'.add Reg.VIS_FL_CNT_CLASS ((words.flatten.filter (fun v => bits v 43 40 == k)).length) i k) w'
  let lim := ((List.range rows).map (fun b => ((px.getD (y0 + b) []).filter (fun q => q.limit)).length)).sum
  let w' := w'.add Reg.VIS_FL_CNT_LIMIT (if fill then 0 else lim) i
  let w' := (w'.setEng u { x with row := x.row + 1 }).wr Reg.FL_CUR_LINE (y0 + rows) i
  w'.signalLines c.run.id c.node 0 y0 (y0 + rows) mi.h

/-- I at one level is copied to the history area during the forward pass (R174, R175). -/
def flKeep (w : Work) (c : FlCtx) (l : Nat) : Work :=
  if !c.temporal then w
  else
    let m := w.flI c l
    w.store (flHistAt c c.run.afc l) (w.fetch m.base (lvTw c.wid l * lvTh c.hei l * c.e))

/-- The history header is written last, with VALID = 1 (R175). -/
def flKeepHeader (w : Work) (c : FlCtx) : Work :=
  if !c.temporal then w
  else w.store (flHist c c.run.afc) (wordsBytes ([1, c.run.afc, pack [(c.run.actx, 0, 8), (1, 8, 1)]] ++ List.replicate 13 0))

/-- Go on to the next level or pass, or to refinement, or end. phase is 1 backward, 0 forward, 2 refine, 3 gated. -/
def flNext (w : Work) (u : Nat) (c : FlCtx) : Work :=
  let x := w.eng u
  let i := u - 0x5A
  let v := w.d.clk.vcycle
  if c.last < x.level then
    ((w.setEng u { x with level := x.level - 1, row := 0, data := [v] }).wr Reg.FL_LEVEL (x.level - 1) i).wr Reg.FL_CUR_LINE 0 i
  else if x.phase = 1 then
    (((w.setEng u { x with phase := 0, level := c.coarse, row := 0, data := [v] }).wr Reg.FL_LEVEL c.coarse i).wr Reg.FL_PASS 0 i).wr Reg.FL_CUR_LINE 0 i
  else
    let w := w.flKeepHeader c
    if bitAt (wd c.p 0) 5 then (w.setEng u { x with phase := 2, row := 0, data := [v] }).wr Reg.FL_PASS 2 i
    else w.endNode u c.run.id c.node

/-- The engine's node with the images of its present level checked for poison. -/
def flWork (w : Work) (u : Nat) (f : Work → FlCtx → Work) : Work :=
  let x := w.eng u
  match w.grun? x.run with
  | none => w
  | some r =>
    let c := w.flCtx r x.node u
    let l := if x.phase ≤ 1 then x.level else c.last
    let a := w.flI c l
    let b := w.flJ c l
    w.unlessPoison r.id x.node ((a.base, a.bytes) :: (if x.pass = 1 then [] else [(b.base, b.bytes)])) (fun w => f w c)

/-- One pass of one level is computed and stored, and the engine goes on to the next (R174 to R183). -/
def flLevelPass (w : Work) (u : Nat) (c : FlCtx) (x : EngRun) : Work :=
  let i := u - 0x5A
  let back := x.phase == 1
  let px := if x.pass = 1 then [] else w.flLevel c back x.level
  let n := 2 * bits (wd c.p 0) 22 16 + 1
  let w := w.reach (stageStart x + flCycles c x.level)
  let w := if x.pass = 1 then w else
    (w.add Reg.VIS_FL_CNT_CANDIDATES (if x.level = c.coarse then flBlocks c * (n * n) else 0) i).add Reg.VIS_FL_CNT_PIXEL_ITERS
      (lvTw c.wid x.level * lvTh c.hei x.level * (bits (wd c.p 0) 25 23 + 1)) i
  let w := if back then w else w.flKeep c x.level
  let w :=
    if x.level = c.last ∧ !back then
      (List.range (ceilDiv (lvDim c.hei c.last) 16 - x.row)).foldl (fun w _ => w.flRow u c px) w
    else
      let base := if x.level = c.last then flBackward c else flPrior c x.level
      w.paint 0 px.length (lvDim c.wid x.level) (fun a b => base + (b * lvTw c.wid x.level + a) * 8)
        (fun a b => leBytes 8 ((px.getD b []).getD a ⟨0, 0, false, false, false, (FVal.zero, FVal.zero)⟩).word)
  w.flNext u c

/-- A flow engine finishes one pass of one level (R174 to R177, R182, R183). -/
def flowLevel (w : Work) (u : Nat) : Work :=
  w.flWork u fun w c =>
    let x := w.eng u
    if 1 < x.phase then w
    else
      w.flLevelPass u c x

/-- A tile row of the forward pass at LAST is written; with the last one the level is done (R184). -/
def flowRow (w : Work) (u : Nat) : Work :=
  w.flWork u fun w c =>
    let x := w.eng u
    if x.phase ≠ 0 ∨ x.level ≠ c.last then w
    else if ceilDiv (lvDim c.hei c.last) 16 ≤ x.row + 1 then w.flowLevel u
    else
      let w := w.reach (stageStart x + 512 + ceilDiv (lvTw c.wid c.last * 16 * (x.row + 1) * (bits (wd c.p 0) 25 23 + 1)) 8)
      w.flRow u c (if x.pass = 1 then [] else w.flLevel c false c.last)

/-! ### Refinement (R185, R186) -/

/-- The integer part of a first-course component in LAST pixels, toward zero (DESIGN CHOICE, log entry 24). -/
def flInt (c : FlCtx) (v : Nat) : Int := (sext 16 v).tdiv (16 * 2 ^ c.density : Nat)

/-- The refined words of a window's interior, replaced where R185 says so; none where the block holds no value. -/
def flRefine (w : Work) (c : FlCtx) (first : WordBuf) (check : Bool) (win inner : Nat × Nat × Nat × Nat) : Option (List (Nat × Nat × Nat)) :=
  let (x0, y0, ww, wh) := win
  let (ix, iy, iw, ih) := inner
  let old := fun x y => w.mem (first.base + y * first.pitch + x * 8) 8
  let held := fun (a b cols rows : Nat) => (List.range rows).flatMap (fun j => (List.range cols).filterMap (fun i =>
    let v := old (a + i) (b + j)
    if bits v 31 0 = 0x80008000 then none else some (flInt c (bits v 15 0), flInt c (bits v 31 16))))
  let all := held ix iy iw ih
  if all.isEmpty then none
  else
    let mi := w.flI c c.last
    let mj := w.flJ c c.last
    let gi := w.grid8 mi
    let gj := w.grid8 mj
    let fi := w.grid mi
    let fj := w.grid mj
    let subs := (List.range (ceilDiv wh 8)).map (fun b => (List.range (ceilDiv ww 8)).map (fun a =>
      let cols := min 8 (ww - 8 * a)
      let rows := min 8 (wh - 8 * b)
      let hv := held (x0 + 8 * a) (y0 + 8 * b) cols rows
      let hv := if hv.isEmpty then all else hv
      blockMatch fi fj ((List.range (cols * rows)).map (fun k => (x0 + 8 * a + k % cols, y0 + 8 * b + k / cols)))
        (medianInt (hv.map Prod.fst)) (medianInt (hv.map Prod.snd)) (bits (wd c.p 1) 11 5) (bits (wd c.p 3) 7 0)))
    some ((List.range ih).flatMap (fun b => (List.range iw).map (fun a =>
      let x := ix + a
      let y := iy + b
      let o := old x y
      let k := (subs.getD ((y - y0) / 8) []).getD ((x - x0) / 8) ⟨0, 0, false, false⟩
      let v0 := (fint k.u, fint k.w)
      let (v, lim) := gradLoop gi gj c.r x y (tensor gi c.r x y) v0 true (bits (wd c.p 0) 28 26) v0 false
      let q : FlowPx := ⟨store16 v.1, store16 v.2, k.edge, k.amb, lim, v⟩
      let conf := flConf (bits (wd c.p 4) 31 16) (e16 gi gj c.r x y v)
      let better := bits o 43 40 ≠ 7 ∧ w.flClass c mi mj gi check x y q = 0 ∧ bits o 39 32 < conf
      (x, y, if better then flWord c 8 conf q else o))))

/-- V-cycles of one refinement window (R185). -/
def flRefineCycles (c : FlCtx) (ww wh : Nat) : Nat :=
  let n := 2 * bits (wd c.p 1) 11 5 + 1
  64 + ceilDiv ww 8 * ceilDiv wh 8 * ceilDiv (n * n) 32 + ceilDiv (ww * wh * (bits (wd c.p 0) 28 26 + 1)) 8

/-- What the search of one refinement window adds to the counters: block candidates and pixel-iterations (R185, R191). -/
def flRefineCount (w : Work) (c : FlCtx) (i ww wh : Nat) : Work :=
  let n := 2 * bits (wd c.p 1) 11 5 + 1
  (w.add Reg.VIS_FL_CNT_CANDIDATES (ceilDiv ww 8 * ceilDiv wh 8 * (n * n)) i).add Reg.VIS_FL_CNT_PIXEL_ITERS (ww * wh * (bits (wd c.p 0) 28 26 + 1)) i

/-- Built-in refinement writes the second course and the node ends (R185). -/
def flRefinePass (w : Work) (u : Nat) (c : FlCtx) (x : EngRun) : Work :=
  let i := u - 0x5A
  let g := w.version c.run.seq
  let src := (wordBuf g c.node 0 c.run.slot).getD ⟨0, 0, 8, 0, 0⟩
  let dst := (wordBuf g c.node 1 c.run.slot).getD ⟨0, 0, 8, 0, 0⟩
  let wid := lvDim c.wid c.last
  let hei := lvDim c.hei c.last
  let blocks := (List.range (ceilDiv hei 16)).flatMap (fun b => (List.range (ceilDiv wid 16)).map (fun a => (a, b)))
  let inner := fun (q : Nat × Nat) => (16 * q.1, 16 * q.2, min 16 (wid - 16 * q.1), min 16 (hei - 16 * q.2))
  let chosen := blocks.filter (fun q =>
    let (ix, iy, iw, ih) := inner q
    (List.range ih).any (fun b => (List.range iw).any (fun a =>
      let v := w.mem (src.base + (iy + b) * src.pitch + (ix + a) * 8) 8
      bits v 43 40 != 7 && (decide (bits v 39 32 < bits (wd c.p 3) 31 24) || bitAt (wd c.p 5) (bits v 43 40)))))
  let runs := chosen.filterMap (fun q => (w.flRefine c src c.fb (window 16 wid hei 8 q.1 q.2) (inner q)).map (fun l => (q, l)))
  let cyc := (runs.map (fun (q, _) => let (_, _, ww, wh) := window 16 wid hei 8 q.1 q.2; flRefineCycles c ww wh)).sum
  let w' := w.reach (stageStart x + max (ceilDiv (wid * hei * 8) 128) (256 + cyc))
  let w' := (List.range hei).foldl (fun w' y => w'.store (dst.base + y * dst.pitch) (w.fetch (src.base + y * src.pitch) (8 * wid))) w'
  let w' := runs.foldl (fun w' (_, l) => l.foldl (fun w' (a, b, v) => w'.store (dst.base + b * dst.pitch + a * 8) (leBytes 8 v)) w') w'
  let w' := w'.store (roundUp (dst.base + hei * dst.pitch) 64) (w.fetch (roundUp (src.base + hei * src.pitch) 64) (4 * hei))
  let w' := runs.foldl (fun w' (q, _) => let (_, _, ww, wh) := window 16 wid hei 8 q.1 q.2; w'.flRefineCount c i ww wh) w'
  let w' := (w'.add Reg.VIS_FL_CNT_REFINE_BLOCKS runs.length i).add Reg.VIS_FL_CNT_REPLACED
    ((runs.map (fun (_, l) => (l.filter (fun t => bits t.2.2 43 40 == 8)).length)).sum) i
  (w'.signalLines c.run.id c.node 1 0 hei hei).endNode u c.run.id c.node

/-- Built-in flow refinement ends and port 1 is signalled (R83, R185). -/
def flowRefine (w : Work) (u : Nat) : Work :=
  w.flWork u fun w c =>
    let x := w.eng u
    if x.phase ≠ 2 then w
    else
      w.flRefinePass u c x

/-- A listed tile is refined and written and its DONE bit set; the last one ends the node (R186). -/
def flGatedTile (w : Work) (u : Nat) (c : FlCtx) (x : EngRun) (g : GVer) (lst : Nat) : Work :=
  let i := u - 0x5A
  let (size, _, _) := w.listGrid c.run c.node (listPort g c.node)
  let wid := lvDim c.wid c.last
  let hei := lvDim c.hei c.last
  let (tx, ty) := w.listTile lst x.row
  let first := (w.inputWords c.run c.node 3).getD ⟨0, 0, 8, 0, 0⟩
  let win := window size wid hei (halo g c.node) tx ty
  let inner := (tx * size, ty * size, min size (wid - tx * size), min size (hei - ty * size))
  let keep := (List.range inner.2.2.2).flatMap (fun b => (List.range inner.2.2.1).map (fun a =>
    (inner.1 + a, inner.2.1 + b, w.mem (first.base + (inner.2.1 + b) * first.pitch + (inner.1 + a) * 8) 8)))
  let l := if x.pass = 1 then keep else (w.flRefine c first false win inner).getD keep
  let w' := w.reach (stageStart x + flRefineCycles c win.2.2.1 win.2.2.2)
  let w' := if x.pass = 1 then w' else w'.flRefineCount c i win.2.2.1 win.2.2.2
  let out := wd64 c.p 16 + c.run.slot * wd c.p 15 + x.row * wd c.p 21
  let w' := l.foldl (fun w' (a, b, v) => w'.store (out + ((b - inner.2.1) * size + (a - inner.1)) * 8) (leBytes 8 v)) w'
  let w' := (w'.setDone lst x.row).setEng u { x with row := x.row + 1, data := [w'.d.clk.vcycle] }
  let w' := (w'.inc Reg.VIS_FL_CNT_GATED_TILES i).add Reg.VIS_FL_CNT_REPLACED ((l.filter (fun t => bits t.2.2 43 40 == 8)).length) i
  let w' := w'.modNode c.run.id c.node (fun k => { k with tile := x.row + 1 })
  w'.gatedNext u c.run.id c.node (decide (w.listCount lst ≤ x.row + 1))

/-- A gated flow engine finishes its next listed tile (R94, R95, R186). -/
def flowGated (w : Work) (u : Nat) : Work :=
  w.flWork u fun w c =>
    let x := w.eng u
    let g := w.version c.run.seq
    let lst := w.inputList c.run c.node (listPort g c.node)
    if x.phase ≠ 3 ∨ w.listCount lst ≤ x.row then w
    else
      w.flGatedTile u c x g lst

end Work

end Sys2Proof.Machine
end

