-- ==== Sys2Proof/Machine/Plumb.lean ====
section
/-! DEFINITION. Plumb units: tile statistics, the mask rule, selection, the tile list, and the seam (R83 to R102). -/

namespace Sys2Proof.Machine

open Config

/-! ### Tile statistics (R87, R88) -/

/-- What a plumb unit reduces a tile to: MIN_CONF, sum of confidences, low pixels, pixels, and the sixteen class counts. -/
structure TileStat where
  minC : Nat
  sum : Nat
  lowN : Nat
  pixels : Nat
  hist : List Nat
  deriving DecidableEq, Repr

/-- MEAN_CONF. -/
def TileStat.mean (t : TileStat) : Nat := t.sum / t.pixels
/-- LOW_FRAC. -/
def TileStat.lowFrac (t : TileStat) : Nat := min 255 (256 * t.lowN / t.pixels)
/-- ALL_PADDED. -/
def TileStat.allPadded (t : TileStat) : Bool := t.hist.getD 7 0 == t.pixels

/-- Fold one pixel's confidence and class into a tile. -/
def TileStat.take (t : TileStat) (thresh conf cls : Nat) : TileStat :=
  ⟨min t.minC conf, t.sum + conf, t.lowN + b2n (decide (conf < thresh)), t.pixels + 1, t.hist.set cls (t.hist.getD cls 0 + 1)⟩

def TileStat.empty : TileStat := ⟨255, 0, 0, 0, List.replicate 16 0⟩

/-- One term of the mask rule (R88). -/
def termHolds (t0 t1 : Nat) (s : TileStat) : Bool :=
  let en := bits t0 3 0
  let cls := ((List.range 16).map (fun k => if bitAt t1 k then s.hist.getD k 0 else 0)).sum
  decide (en ≠ 0) && (!bitAt en 0 || decide (s.minC < bits t0 15 8)) && (!bitAt en 1 || decide (s.mean < bits t0 23 16)) &&
    (!bitAt en 2 || decide (bits t0 31 24 ≤ s.lowFrac)) && (!bitAt en 3 || decide (bits t1 23 16 * s.pixels ≤ 256 * cls))

/-- Is a tile masked (R88)? -/
def tileMasked (p : List Nat) (s : TileStat) : Bool :=
  !s.allPadded && (List.range 4).any (fun k => termHolds (wd p (10 + 2 * k)) (wd p (11 + 2 * k)) s)

/-- The words of a tile's statistics record (R87). -/
def statWords (s : TileStat) (masked selected : Bool) : List Nat :=
  [pack [(s.minC, 0, 8), (s.mean, 8, 8), (s.lowFrac, 16, 8), (b2n masked, 24, 1), (b2n selected, 25, 1), (b2n s.allPadded, 26, 1)], s.pixels] ++
    (List.range 8).map (fun k => pack [(s.hist.getD (2 * k) 0, 0, 16), (s.hist.getD (2 * k + 1) 0, 16, 16)]) ++ List.replicate 6 0

/-- A tile as numbers an engine carries along. -/
def TileStat.nums (t : TileStat) : List Nat := [t.minC, t.sum, t.lowN, t.pixels] ++ t.hist

/-- A tile from the numbers an engine carried along. -/
def TileStat.ofNums (l : List Nat) : TileStat := ⟨wd l 0, wd l 1, wd l 2, wd l 3, (l.drop 4).take 16⟩

namespace Work

/-! ### PLUMB (R85 to R91) -/

/-- TILE_SIZE, tile columns and tile rows of a PLUMB node. -/
def plumbGrid (p : List Nat) : Nat × Nat × Nat :=
  let s := 16 * 2 ^ bits (wd p 0) 1 0
  (s, ceilDiv (bits (wd p 1) 15 0) s, ceilDiv (bits (wd p 1) 31 16) s)

/-- Confidence and class of a pixel of a PLUMB node's source (R86, R87): a field of its word, or of an 8-bit map the byte, every pixel then being VALID. A source whose
place the graph does not state reads free values (DESIGN CHOICE, log entry 20). -/
def plumbPixel (w : Work) (r : GRun) (n x y : Nat) : Nat × Nat :=
  let g := w.version r.seq
  let fmt := bits (wd (g.params n) 0) 3 2
  match inEdge g n 0 with
  | none => (low 8 (freePixel 1 w.d.clk.vcycle (x + 65536 * y)), 0)
  | some e =>
    let m := g.eFrom e
    let q := g.params m
    match wordBuf g m (g.eFromPort e) r.slot with
    | some b =>
      let a := b.base + y * b.pitch
      if fmt = 2 then (w.mem (a + x) 1, 0)
      else
        let v := w.mem (a + x * b.e) b.e
        if fmt = 1 then (bits v 39 32, bits v 43 40) else (bits v 23 16, bits v 27 24)
    | none =>
      if g.typ m = 3 then (w.mem (tiledAddr (wd64 q 8 + r.slot * wd q 10) (lvTw (bits (wd q 2) 15 0) 0) 1 x y) 1, 0)
      else if g.typ m = 4 then (w.mem (tiledAddr (wd64 q 10 + r.slot * wd q 12) (roundUp (bits (wd q 3) 15 0) 64) 1 x y) 1, 0)
      else if g.typ m = 2 then
        let d := ispDesc q (g.eFromPort e)
        let b := wd64 d 4 + r.slot * wd d 6
        (w.mem (if bitAt (wd d 0) 8 then tiledAddr b (roundUp (bits (wd d 3) 15 0) 64) 1 x y else b + y * wd d 7 + x) 1, 0)
      else (low 8 (freePixel 1 w.d.clk.vcycle (x + 65536 * y)), 0)

/-- The statistics of one tile. -/
def reduceTile (w : Work) (r : GRun) (n tx ty : Nat) : TileStat :=
  let p := (w.version r.seq).params n
  let (s, _, _) := plumbGrid p
  let cols := min s (bits (wd p 1) 15 0 - tx * s)
  let rows := min s (bits (wd p 1) 31 16 - ty * s)
  (List.range rows).foldl (fun t j => (List.range cols).foldl (fun t i =>
    let (c, k) := w.plumbPixel r n (tx * s + i) (ty * s + j)
    t.take (bits (wd p 0) 15 8) c k) t) TileStat.empty

/-- The areas of a node's confidence source a tile row reads. -/
def rowArea (w : Work) (r : GRun) (n y rows : Nat) : List (Nat × Nat) :=
  match w.inputWords r n 0 with
  | some b => [(b.base + y * b.pitch, rows * b.pitch)]
  | none => []

/-- Words of the confidence source that the reduction stage reads per V-cycle, by SOURCE_FMT (R85). -/
def reduceRate (fmt : Nat) : Nat := if fmt = 0 then 32 else if fmt = 1 then 16 else 128

/-- One tile row of the confidence source is reduced, at 128 B per V-cycle: its statistics are kept, and its lines are read (R85). pass holds the V-cycle it ends. -/
def plumbReduce (w : Work) (u : Nat) (x : EngRun) (r : GRun) (tx last : Nat) : Work :=
  let p := (w.version r.seq).params x.node
  let stats := (List.range tx).flatMap (fun t => (w.reduceTile r x.node t x.row).nums)
  let lines := last + 1 - x.row * (plumbGrid p).1
  let w := w.reach (max x.since x.pass + ceilDiv (bits (wd p 1) 15 0 * lines) (reduceRate (bits (wd p 0) 3 2)))
  let w := w.setEng u { x with row := x.row + 1, pass := w.d.clk.vcycle, data := x.data ++ stats }
  (w.add Reg.VIS_PLB_CNT_TILES tx (u - 0x74)).readTo r.id x.node 0 last

/-- A plumb unit finishes reducing one tile row, once its stripe has arrived (R85). -/
def plumbRow (w : Work) (u : Nat) : Work :=
  let x := w.eng u
  match w.grun? x.run with
  | none => w
  | some r =>
    let p := (w.version r.seq).params x.node
    let (s, tx, ty) := plumbGrid p
    let last := min (bits (wd p 1) 31 16) ((x.row + 1) * s) - 1
    if ty ≤ x.row || !w.covers r x.node 0 last then w
    else w.unlessPoison r.id x.node (w.rowArea r x.node (x.row * s) s) fun w =>
      w.plumbReduce u x r tx last

/-- Effective budget, and whether the deadline trimmed it, at the TB selection ends (R90). A trim counts against the 65,535 that BUDGET 0 stands for as it does against
BUDGET (DESIGN CHOICE, log entry 80). -/
def effBudget (w : Work) (r : GRun) (n : Nat) : Nat × Bool :=
  let g := w.version r.seq
  let p := g.params n
  let b := if bits (wd p 2) 15 0 = 0 then 65535 else bits (wd p 2) 15 0
  match (g.outEdges n).find? (fun e => g.eFromPort e == 0 && g.gated (g.eTo e)) with
  | none => (b, false)
  | some e =>
    let m := g.eTo e
    let k := if g.typ m = 8 then popCount 64 (g.coreSet m) else 1
    let dl := if g.node m 1 = 0 then 2 ^ 64 - 1 else r.origin + g.node m 1
    if wd p 3 = 0 then (b, false)
    else
      let rounds := (dl - w.now - wd p 4) / wd p 3
      (min b (rounds * k), decide (rounds * k < b))

/-- Selection takes its V-cycles (R85); the tile list, mask, statistics and ages of a node are written, its counters and ports follow, and the node is done (R86 to
R91). -/
def plumbLists (w : Work) (u : Nat) (x : EngRun) (r : GRun) (tx ty : Nat) : Work :=
  let p := (w.version r.seq).params x.node
  let tiles := List.range (tx * ty)
  let st := fun t => TileStat.ofNums (x.data.drop (20 * t))
  let age := fun t => w.mem (wd64 p 5 + t) 1
  let masked := tiles.filter (fun t => tileMasked p (st t))
  let prom := bits (wd p 0) 7 4
  let promoted := masked.filter (fun t => decide (0 < prom) && decide (prom ≤ age t))
  let rest := masked.filter (fun t => !promoted.contains t)
  let rank := fun a b => decide ((st a).minC < (st b).minC) || ((st a).minC == (st b).minC &&
    (decide ((st a).mean < (st b).mean) || ((st a).mean == (st b).mean && decide (a < b))))
  let order := sortBy rank promoted ++ sortBy rank rest
  let w := w.reach (x.pass + 256 + 2 * masked.length)
  let (eff, trim) := w.effBudget r x.node
  let sel := order.take eff
  let dropped := (tiles.filter (fun t => !masked.contains t && decide (0 < age t))).length
  let area := wd64 p 8 + r.slot * wd p 7
  let maskAt := area + roundUp (64 + 8 * (tx * ty)) 64
  let rowBytes := 8 * ceilDiv tx 64
  let statAt := roundUp (maskAt + rowBytes * ty) 64
  let entry := fun t => [pack [(t % tx, 0, 16), (t / tx, 16, 16)], pack [((st t).minC, 0, 8), ((st t).mean, 8, 8), (b2n (decide (0 < age t)), 16, 1),
    (b2n (promoted.contains t), 17, 1)]]
  let head := [1, r.afc, pack [(sel.length, 0, 16), (masked.length, 16, 16)], pack [(masked.length - sel.length, 0, 16), (dropped, 16, 16)],
    pack [(promoted.length, 0, 16), (min 0xFFFF eff, 16, 16)], pack [(tx, 0, 16), (ty, 16, 16)], low 32 w.now, low 32 (w.now / 2 ^ 32)] ++ List.replicate 8 0
  let maskRow := fun y => ((List.range tx).map (fun i => if masked.contains (y * tx + i) then 2 ^ i else 0)).sum
  let ages := tiles.map (fun t => BitVec.ofNat 8 (if masked.contains t && !sel.contains t then min 15 (age t + 1) else 0))
  let w := w.store area (wordsBytes (head ++ sel.flatMap entry))
  let w := w.store maskAt ((List.range ty).flatMap (fun y => leBytes rowBytes (maskRow y)))
  let w := w.store statAt (tiles.flatMap (fun t => wordsBytes (statWords (st t) (masked.contains t) (sel.contains t))))
  let w := w.store (wd64 p 5) ages
  let i := u - 0x74
  let w := ((w.add Reg.VIS_PLB_CNT_MASKED masked.length i).add Reg.VIS_PLB_CNT_SELECTED sel.length i).add Reg.VIS_PLB_CNT_DEFERRED (masked.length - sel.length) i
  let w := ((w.add Reg.VIS_PLB_CNT_DEFER_DROPPED dropped i).add Reg.VIS_PLB_CNT_PROMOTED promoted.length i).add Reg.VIS_PLB_CNT_TRIM (b2n trim) i
  let w := (((w.signalPort r.id x.node 0 1).signalPort r.id x.node 1 1).signalPort r.id x.node 2 1)
  let w := w.modRun r.id (fun r => { r with tilesMasked := r.tilesMasked + masked.length })
  w.finishNode r.id x.node

/-- Selection ends: the list, mask and statistics are written, the ages updated, and the outputs signalled (R87 to R91, R102). -/
def plumbSelect (w : Work) (u : Nat) : Work :=
  let x := w.eng u
  match w.grun? x.run with
  | none => w
  | some r =>
    let g := w.version r.seq
    let p := g.params x.node
    let (_, tx, ty) := plumbGrid p
    if x.row < ty then w
    else
      w.plumbLists u x r tx ty

/-- Tiles of a run's lists with DONE set and masked tiles without, over its PLUMB nodes that completed, as its ledger entries take them (R96, R102). -/
def tallyTiles (w : Work) (id : Nat) : Work :=
  match w.grun? id with
  | none => w
  | some r =>
    if r.entered then w
    else
      let g := w.version r.seq
      let ns := (List.range g.nodeCount).filter (fun n => g.typ n == 9 && decide ((nodeRun r n).st = .done))
      let done := (ns.map (fun n =>
        let a := wd64 (g.params n) 8 + r.slot * wd (g.params n) 7
        ((List.range (w.listCount a)).filter (fun i => w.listDone a i)).length)).sum
      w.modRun id (fun r => { r with tilesRefined := done, tilesDeferred := r.tilesMasked - done })

/-! ### SEAM (R97 to R100) -/

/-- Round half up of an integer quotient by 16. -/
def div16 (z : Int) : Int := (z + 8) / 16

/-- Blend two fields with weight w16 of 16 (R100). -/
def blend (w16 : Nat) (a b : Int) : Int := div16 (w16 * a + (16 - (w16 : Int)) * b)

/-- The blended pixel word of a refined and a default word (R100, R187). Where the default has no value, the refined one is taken whole and the confidence is
blended all the same (DESIGN CHOICE, log entry 81). -/
def blendWord (flow : Bool) (w16 a b : Nat) : Nat :=
  let cls := if 8 ≤ w16 then 8 else if flow then bits b 43 40 else bits b 27 24
  if flow then
    let none_ := bits b 31 0 == 0x80008000
    let k := if none_ then 16 else w16
    let dx := wrapInt 16 (blend k (sext 16 (bits a 15 0)) (sext 16 (bits b 15 0)))
    let dy := wrapInt 16 (blend k (sext 16 (bits a 31 16)) (sext 16 (bits b 31 16)))
    pack [(dx, 0, 16), (dy, 16, 16), ((blend w16 (bits a 39 32) (bits b 39 32)).toNat, 32, 8), (cls, 40, 4)]
  else
    let k := if bits b 15 0 = 0xFFFF then 16 else w16
    pack [((blend k (bits a 15 0) (bits b 15 0)).toNat, 0, 16), ((blend w16 (bits a 23 16) (bits b 23 16)).toNat, 16, 8), (cls, 24, 4)]

/-- What a SEAM works with: its parameters, grid, list and previous second course. -/
structure SeamCtx where
  p : List Nat
  flow : Bool
  e : Nat
  size : Nat
  tx : Nat
  ty : Nat
  wid : Nat
  hei : Nat
  first : WordBuf
  field : Option WordBuf
  dens : Nat
  list : Nat
  refine : Nat
  prev : Option Nat
  deriving Repr

/-- Bytes of the pixel words of a SEAM output, and the offset of its header (R97, DESIGN CHOICE, log entry 21). -/
def seamHead (p : List Nat) : Nat := roundUp (bits (wd p 9) 15 0 * bits (wd p 9) 31 16 * (if bitAt (wd p 0) 2 then 8 else 4)) 64

/-- Offset of the 4-bit ages: after the 64-byte header (DESIGN CHOICE, log entry 21). -/
def seamAges (p : List Nat) : Nat := seamHead p + 64

/-- Set up a SEAM (R98): the previous instance's buffer is used while its header is VALID and one frame older. -/
def seamCtx (w : Work) (r : GRun) (n : Nat) : SeamCtx :=
  let g := w.version r.seq
  let p := g.params n
  let size := 16 * 2 ^ bits (wd p 0) 1 0
  let wid := bits (wd p 9) 15 0
  let hei := bits (wd p 9) 31 16
  let slot := tget 0 w.d.ks.seamSlots (r.gid * 512 + n)
  let pb := wd64 p 6 + (slot - 1) * wd p 8
  let h := pb + seamHead p
  let ok := decide (0 < slot) && bitAt (w.mem (h + 8) 4) 8 && low 32 (w.mem (h + 4) 4 + 1) == r.afc
  let field := w.inputWords r n 3
  let dens := ((inEdge g n 3).map (fun e => fieldDensity g 64 (g.eFrom e))).getD 0
  { p := p, flow := bitAt (wd p 0) 2, e := if bitAt (wd p 0) 2 then 8 else 4, size := size, tx := ceilDiv wid size, ty := ceilDiv hei size,
    wid := wid, hei := hei, first := (w.inputWords r n 0).getD ⟨0, 0, 4, 0, 0⟩, field := field, dens := dens,
    list := w.inputList r n 1, refine := wd64 p 4 + r.slot * wd p 10, prev := if ok then some pb else none }

/-- The list index of a tile that is selected with DONE set. -/
def seamIndex (w : Work) (c : SeamCtx) (tx ty : Nat) : Option Nat :=
  (List.range (w.listCount c.list)).find? (fun i => w.listTile c.list i == (tx, ty) && w.listDone c.list i)

/-- The age of a tile in a previous buffer. -/
def seamAge (w : Work) (c : SeamCtx) (pb tx ty : Nat) : Nat :=
  let t := ty * c.tx + tx
  bits (w.mem (pb + seamAges c.p + t / 2) 1) (4 * (t % 2) + 3) (4 * (t % 2))

/-- The word of the first course at a pixel. -/
def seamFirst (w : Work) (c : SeamCtx) (x y : Nat) : Nat := w.mem (c.first.base + y * c.first.pitch + x * c.e) c.e

/-- The word reused for a pixel and the age of its source tile (R98). -/
def seamReuse (w : Work) (c : SeamCtx) (x y : Nat) : Option (Nat × Nat) :=
  match c.prev, c.field with
  | some pb, some b =>
    let f := w.mem (b.base + (y / 2 ^ c.dens) * b.pitch + (x / 2 ^ c.dens) * 8) 8
    let qx := (16 * (x : Int) + sext 16 (bits f 15 0) + 8) / 16
    let qy := (16 * (y : Int) + sext 16 (bits f 31 16) + 8) / 16
    if bits f 43 40 = 0 ∧ 0 ≤ qx ∧ qx < c.wid ∧ 0 ≤ qy ∧ qy < c.hei then
      let a := w.seamAge c pb (qx.toNat / c.size) (qy.toNat / c.size)
      if a < bits (wd c.p 0) 15 12 then some (w.mem (pb + (qy.toNat * c.wid + qx.toNat) * c.e) c.e, a) else none
    else none
  | _, _ => none

/-- The default word of a pixel: its value, and the age of the tile it was reused from (R98). -/
def seamDefault (w : Work) (c : SeamCtx) (x y : Nat) : Nat × Option Nat :=
  let const := if c.flow then wd64 c.p 1 else wd c.p 1
  match bits (wd c.p 0) 5 4 with
  | 0 => (w.seamFirst c x y, none)
  | 1 => match w.seamReuse c x y with
    | some (v, a) => (v, some a)
    | none => (if bits (wd c.p 0) 7 6 = 0 then w.seamFirst c x y else const, none)
  | _ => (const, none)

/-- The distance of a pixel to the nearest edge of its tile that borders a tile not refined; none without such an edge (R100). -/
def seamDist (w : Work) (c : SeamCtx) (x y : Nat) : Option Nat :=
  let tx := x / c.size
  let ty := y / c.size
  let bare := fun (i j : Int) => decide (0 ≤ i ∧ i < c.tx ∧ 0 ≤ j ∧ j < c.ty) && (w.seamIndex c i.toNat j.toNat).isNone
  let ds := (if bare ((tx : Int) - 1) ty then [x % c.size] else []) ++ (if bare (tx + 1) ty then [c.size - 1 - x % c.size] else []) ++
    (if bare tx ((ty : Int) - 1) then [y % c.size] else []) ++ (if bare tx (ty + 1) then [c.size - 1 - y % c.size] else [])
  ds.min?

/-- The second-course word of a pixel (R98, R100). -/
def seamWord (w : Work) (c : SeamCtx) (x y : Nat) : Nat :=
  let (dv, _) := w.seamDefault c x y
  match w.seamIndex c (x / c.size) (y / c.size) with
  | none => dv
  | some i =>
    let rv := w.mem (c.refine + i * wd c.p 3 + (y % c.size * c.size + x % c.size) * c.e) c.e
    let feather := bits (wd c.p 0) 11 8
    let w16 := match w.seamDist c x y with
      | none => 16
      | some d => if feather = 0 ∨ feather ≤ d then 16 else 8 * (2 * d + 1) / feather
    blendWord c.flow w16 rv dv

/-- The age of a tile of the new second course (R99). -/
def seamNewAge (w : Work) (c : SeamCtx) (tx ty : Nat) : Nat :=
  if (w.seamIndex c tx ty).isSome then 0
  else
    let ages := (List.range c.size).flatMap (fun j => (List.range c.size).filterMap (fun i =>
      if tx * c.size + i < c.wid ∧ ty * c.size + j < c.hei then (w.seamDefault c (tx * c.size + i) (ty * c.size + j)).2 else none))
    match ages.max? with
    | some a => min 15 (a + 1)
    | none => 15

/-- The seam writes every pixel word, the ages and last the history header; its counters and ports follow, and the node is done (R98 to R101). -/
def seamWrite (w0 : Work) (u : Nat) (x : EngRun) (r : GRun) (c : SeamCtx) (out : Nat) : Work :=
  let w := w0.paint 0 c.hei c.wid (fun i j => out + (j * c.wid + i) * c.e) (fun i j => leBytes c.e (w0.seamWord c i j))
  let age := fun t => w0.seamNewAge c (t % c.tx) (t / c.tx)
  let n := c.tx * c.ty
  let ages := (List.range (ceilDiv n 2)).map (fun k => BitVec.ofNat 8 (age (2 * k) + (if 2 * k + 1 < n then 16 * age (2 * k + 1) else 0)))
  let w := w.store (out + seamAges c.p) ages
  let w := w.store (out + seamHead c.p) (wordsBytes [1, r.afc, pack [(r.actx, 0, 8), (1, 8, 1)]])
  let refined := ((List.range n).filter (fun t => (w0.seamIndex c (t % c.tx) (t / c.tx)).isSome)).length
  let open_ := (List.range (c.wid * c.hei)).filter (fun k => (w0.seamIndex c (k % c.wid / c.size) (k / c.wid / c.size)).isNone)
  let reused := (open_.filter (fun k => (w0.seamDefault c (k % c.wid) (k / c.wid)).2.isSome)).length
  let i := u - 0x74
  let w := w.add Reg.VIS_PLB_CNT_SEAM_TILES refined i
  let w := if bits (wd c.p 0) 5 4 = 1 then (w.add Reg.VIS_PLB_CNT_REUSE_PX reused i).add Reg.VIS_PLB_CNT_FALLBACK_PX (open_.length - reused) i else w
  let w := w.setKs { w.d.ks with seamSlots := tset 0 w.d.ks.seamSlots (r.gid * 512 + x.node) (r.slot + 1) }
  (w.signalToTarget r.id x.node).finishNode r.id x.node

/-- The seam has written every pixel word; the history header follows with VALID set, and the output is signalled (R97 to R100). -/
def seamDone (w : Work) (u : Nat) : Work :=
  let x := w.eng (u + 0x100)
  match w.grun? x.run with
  | none => w
  | some r =>
    let c := w.seamCtx r x.node
    let out := wd64 c.p 6 + r.slot * wd c.p 8
    (w.reach (x.since + ceilDiv (c.wid * c.hei * c.e) 128)).unlessPoison r.id x.node [(c.first.base, c.first.pitch * c.hei)] fun w0 =>
      w0.seamWrite u x r c out

end Work

end Sys2Proof.Machine
end

