-- ==== Sys2Proof/Machine/Feature.lean ====
section
/-! DEFINITION. The feature engines: detection, suppression and bucketing, orientation and descriptors, matching, tracking, lists and
history (R192 to R201). -/

namespace Sys2Proof.Machine

open Config

/-! ### Angles (R195) -/

/-- cos of k × 11.25° for k = 0 to 8, times 2⁶⁴. -/
def cosTable : List Int :=
  [18446744073709551616, 18092295058859852118, 17042569291174129989, 15337907143211554842, 13043817825332782212, 10248461903483781989,
    7059263338087549767, 3598781241489102189, 0]

/-- cos of k × 11.25°, times 2⁶⁴. -/
def cos32 (k : Nat) : Int :=
  let k := k % 32
  if k ≤ 8 then cosTable.getD k 0 else if k ≤ 16 then -(cosTable.getD (16 - k) 0) else if k ≤ 24 then -(cosTable.getD (k - 16) 0) else cosTable.getD (32 - k) 0

/-- sin of k × 11.25°, times 2⁶⁴. -/
def sin32 (k : Nat) : Int := cos32 (k + 24)

/-- v / 2⁶⁴ rounded to an integer, half away from zero. -/
def round64 (v : Int) : Int := divAway v (2 ^ 64)

/-- (x, y) rotated by k × 11.25°, each coordinate rounded half away from zero (R195). -/
def rotate (k : Nat) (q : Int × Int) : Int × Int :=
  (round64 (q.1 * cos32 k - q.2 * sin32 k), round64 (q.1 * sin32 k + q.2 * cos32 k))

/-- The multiple of 11.25° nearest to atan2(m01, m10): the direction with the greatest component along it; 0 where both are 0. -/
def orientOf (m10 m01 : Int) : Nat :=
  if m10 = 0 ∧ m01 = 0 then 0
  else
    let dot := fun k => m10 * cos32 k + m01 * sin32 k
    (List.range 32).foldl (fun b k => if dot b < dot k then k else b) 0

/-! ### Binary descriptor pattern (R195) -/

/-- One draw: the next state and the value. -/
def drawStep (s : Nat) : Nat × Int :=
  let c := xorshift s
  (c, ((c % 27 : Nat) : Int) - 13)

/-- Draw point b until it differs from a; fuel bounds the tries. -/
def drawOther : Nat → Nat → Int × Int → Nat × (Int × Int)
  | 0, s, _ => (s, (0, 0))
  | n + 1, s, a =>
    let (s1, x) := drawStep s
    let (s2, y) := drawStep s1
    if (x, y) = a then drawOther n s2 a else (s2, (x, y))

/-- n point pairs from a state on. -/
def drawPairs : Nat → Nat → List ((Int × Int) × (Int × Int))
  | 0, _ => []
  | n + 1, s =>
    let (s1, x) := drawStep s
    let (s2, y) := drawStep s1
    let (s3, b) := drawOther 16 s2 (x, y)
    ((x, y), b) :: drawPairs n s3

/-- The 256 pairs of the binary descriptor. -/
def descPairs : List ((Int × Int) × (Int × Int)) := drawPairs 256 0x2545F491

/-! ### Detectors (R193) -/

/-- The circle of the segment test, in order. -/
def circle16 : List (Int × Int) :=
  [(0, -3), (1, -3), (2, -2), (3, -1), (3, 0), (3, 1), (2, 2), (1, 3), (0, 3), (-1, 3), (-2, 2), (-3, 1), (-3, 0), (-3, -1), (-2, -2), (-1, -3)]

/-- Does a cyclic list hold a run of at least n true entries? -/
def cyclicRun (n : Nat) (l : List Bool) : Bool :=
  (List.range l.length).any (fun s => (List.range n).all (fun k => l.getD ((s + k) % l.length) false))

/-- The segment-test score of a pixel. -/
def segScore (g : Grid) (arc t : Nat) (x y : Int) : Nat :=
  let s : Int := g.at x y
  let cs := circle16.map (fun o => (g.at (x + o.1) (y + o.2) : Int))
  let side := fun (up : Bool) =>
    if cyclicRun arc (cs.map (fun v => if up then decide (s + t < v) else decide (v < s - t))) then
      (cs.map (fun v => if (if up then decide (s + t < v) else decide (v < s - t)) then (v - s).natAbs - t else 0)).sum
    else 0
  max (side true) (side false)

/-- A pixel's score, floored to 32 bits and saturated. -/
def featScore (p : List Nat) (g : Grid) (x y : Int) : Nat :=
  let det := bits (wd p 0) 5 4
  if det = 2 then min 0xFFFFFFFF (segScore g (bits (wd p 0) 23 20) (bits (wd p 4) 23 16) x y)
  else
    let t := tensor g 2 x y
    let v := if det = 0 then
        let tr := FVal.add t.1 t.2.2
        FVal.sub (tensorDet t) (FVal.div (FVal.mul (fint (bits (wd p 4) 31 24)) (FVal.mul tr tr)) (fint 256))
      else lambdaMin t
    if FVal.lt v FVal.zero then 0 else (clampI 0 0xFFFFFFFF v.floor).toNat

/-! ### Features and their entries (R199) -/

/-- A feature of a list. x and y are level-0 coordinates in 1/16 px. -/
structure Feat where
  x : Nat
  y : Nat
  level : Nat
  cls : Nat
  orient : Nat
  score : Nat
  id : Nat
  link : Nat
  dist : Nat
  conf : Nat
  age : Nat
  deriving DecidableEq, Repr

/-- The words of an entry. -/
def Feat.words (f : Feat) : List Nat :=
  [pack [(f.x, 0, 20), (f.level, 20, 4), (f.cls, 24, 4)], pack [(f.y, 0, 20), (f.orient, 20, 5)], low 32 f.score, low 32 f.id,
    pack [(f.link, 0, 16), (f.dist, 16, 9)], pack [(f.conf, 0, 8), (f.age, 8, 16)], 0, 0]

/-- The feature that an entry's words spell. -/
def Feat.ofWords (ws : List Nat) : Feat :=
  ⟨bits (wd ws 0) 19 0, bits (wd ws 1) 19 0, bits (wd ws 0) 23 20, bits (wd ws 0) 27 24, bits (wd ws 1) 24 20, wd ws 2, wd ws 3,
    bits (wd ws 4) 15 0, bits (wd ws 4) 24 16, bits (wd ws 5) 7 0, bits (wd ws 5) 23 8⟩

/-- The pixel of a level nearest to a level-0 coordinate, half up (DESIGN CHOICE, log entry 25). -/
def levelPixel (c l : Nat) : Int :=
  ((c : Int) + 8) / (16 * 2 ^ l : Nat)

/-- A detection: its level, pixel and score. -/
structure Cand where
  l : Nat
  x : Nat
  y : Nat
  s : Nat
  deriving DecidableEq, Repr

/-- Level-0 coordinate of a level's pixel in 1/16 px (R193). -/
def levelCoord (v l : Nat) : Nat := 8 * (2 * v + 1) * 2 ^ l - 8

/-- Rank order of detections (R194). -/
def candBefore (a b : Cand) : Bool :=
  decide (b.s < a.s) || (a.s == b.s && (decide (a.l < b.l) || (a.l == b.l && (decide (a.y < b.y) || (a.y == b.y && decide (a.x < b.x))))))

/-- Survivors of non-maximum suppression among a level's candidates in raster order (R194). -/
def suppress (rad : Nat) (cs : List Cand) : List Cand :=
  cs.filter (fun a => cs.all (fun b =>
    let near := decide (max ((a.x : Int) - b.x).natAbs ((a.y : Int) - b.y).natAbs ≤ rad) && decide (a ≠ b)
    let earlier := decide (b.y < a.y) || (b.y == a.y && decide (b.x < a.x))
    !near || (if earlier then decide (b.s < a.s) else decide (b.s ≤ a.s))))

/-- A feature node's parameters for a run. -/
structure FtCtx where
  p : List Nat
  run : GRun
  node : Nat
  wid : Nat
  hei : Nat
  e : Nat
  levels : Nat
  tlevels : Nat
  cw : Nat
  ch : Nat
  cap : Nat
  list : Nat
  desc : Nat
  dsize : Nat

/-- Cells across and down. -/
def FtCtx.cells (c : FtCtx) : Nat × Nat := (ceilDiv c.wid c.cw, ceilDiv c.hei c.ch)

/-- The cell of a level-0 position in 1/16 px. -/
def FtCtx.cell (c : FtCtx) (x y : Nat) : Nat := y / 16 / c.ch * ceilDiv c.wid c.cw + x / 16 / c.cw

/-- Is an operation enabled? Bits 0 D, 1 S, 2 M, 3 T. -/
def FtCtx.op (c : FtCtx) (k : Nat) : Bool := bitAt (wd c.p 0) k

/-- Offset of the entries in a history area after levels 0 to TRACK_LEVELS - 1 (R200, DESIGN CHOICE, log entry 25). -/
def FtCtx.histLevel (c : FtCtx) (l : Nat) : Nat := 64 + ((List.range l).map (fun k => roundUp (lvTw c.wid k * lvTh c.hei k * c.e) 64)).sum

/-- Where the entries, descriptors and cell table lie in a history area that holds n entries. -/
def FtCtx.histList (c : FtCtx) (n : Nat) : Nat × Nat × Nat :=
  let a := c.histLevel (if c.op 3 then c.tlevels else 0)
  let d := roundUp (a + 32 * n) 64
  (a, d, roundUp (d + c.dsize * n) 64)

namespace Work

/-- Set up a feature node for a run (R202). -/
def ftCtx (w : Work) (r : GRun) (n : Nat) : FtCtx :=
  let p := (w.version r.seq).params n
  { p := p, run := r, node := n, wid := bits (wd p 2) 15 0, hei := bits (wd p 2) 31 16, e := 1 + bits (wd p 1) 4 4, levels := bits (wd p 0) 11 8
    tlevels := bits (wd p 9) 11 8, cw := max 1 (bits (wd p 3) 9 0), ch := max 1 (bits (wd p 3) 19 10), cap := bits (wd p 4) 15 0
    list := wd64 p 14 + r.slot * wd p 16, desc := wd64 p 18 + r.slot * wd p 17, dsize := if bitAt (wd p 0) 6 then 64 else 32 }

/-- The current pyramid's level. -/
def ftImg (w : Work) (c : FtCtx) (l : Nat) : Img := w.inputImg c.run c.node 0 (wd64 c.p 11 + c.run.slot * wd c.p 13) c.wid c.hei c.e l

/-- The parity area of frame n. -/
def ftHist (c : FtCtx) (n : Nat) : Nat := wd64 c.p 20 + n % 2 * wd c.p 22

/-- Has the node usable history: a header that is VALID, of a context and one frame older (R175, R199, R200)? -/
def ftUsable (w : Work) (c : FtCtx) : Bool :=
  let a := ftHist c (c.run.afc + 1)
  bitAt (wd c.p 0) 7 && bitAt (w.mem (a + 28) 4) 8 && decide (c.run.actx ≠ 0xFF) && decide (w.mem (a + 28) 1 ≠ 0xFF) &&
    low 32 (w.mem (a + 4) 4 + 1) == c.run.afc

/-- The previous pyramid's level, from history. -/
def ftPrevImg (c : FtCtx) (l : Nat) : Img :=
  ⟨ftHist c (c.run.afc + 1) + c.histLevel l, lvDim c.wid l, lvDim c.hei l, lvTw c.wid l, c.e, true, 0, 0⟩

/-- The entries of the history list. -/
def ftPrevList (w : Work) (c : FtCtx) : List Feat :=
  let a := ftHist c (c.run.afc + 1)
  let n := w.mem (a + 8) 2
  (List.range n).map (fun i => Feat.ofWords (bytesWords (w.fetch (a + (c.histList n).1 + 32 * i) 32)))

/-! ### Tracking (R198) -/

/-- Radius of the tracking window. -/
def trackRadius (c : FtCtx) : Nat := [3, 4, 5, 7].getD (bits (wd c.p 0) 25 24) 3

/-- Track a position through the levels from one pyramid to another: the level-0 vector, none where det(g) ≤ 0. -/
def trackOne (c : FtCtx) (gi gj : List Grid) (x y : Nat) : Nat → FVal × FVal → Option (FVal × FVal)
  | 0, v => some v
  | l + 1, guess =>
    let px := levelPixel x l
    let py := levelPixel y l
    let a := gi.getD l []
    let t := tensor a (trackRadius c) px py
    if FVal.le (tensorDet t) FVal.zero then none
    else
      let (v, _) := gradLoop a (gj.getD l []) (trackRadius c) px py t guess false (bits (wd c.p 0) 28 26) guess false
      if l = 0 then some v else trackOne c gi gj x y l (v.1.scale2 1, v.2.scale2 1)

/-- Track one entry of the history list with its index: the survivor, or none where it is lost. -/
def trackFeat (w : Work) (c : FtCtx) (gi gj : List Grid) (m : Img) (i : Nat) (f : Feat) : Option Feat :=
  match trackOne c gi gj f.x f.y c.tlevels (FVal.zero, FVal.zero) with
  | none => none
  | some v =>
    let r := trackRadius c
    let nx : Int := (f.x : Int) + (v.1.scale2 4).roundAway
    let ny : Int := (f.y : Int) + (v.2.scale2 4).roundAway
    let px := levelPixel f.x 0
    let py := levelPixel f.y 0
    let a := gi.getD 0 []
    let b := gj.getD 0 []
    let inside := fun (z : Int) (n : Nat) => decide (16 * (r : Int) ≤ z ∧ z ≤ 16 * ((n : Int) - 1 - r))
    let e := e16 a b r px py v
    let back := if bitAt (wd c.p 0) 29 then
        match trackOne c gj gi nx.toNat ny.toNat c.tlevels (FVal.zero, FVal.zero) with
        | none => true
        | some u =>
          let t : FVal := .fin false (bits (wd c.p 9) 7 0) (-4)
          FVal.lt t (FVal.add v.1 u.1).abs || FVal.lt t (FVal.add v.2 u.2).abs
      else false
    if !inside nx c.wid || !inside ny c.hei then none
    else
      let qx := levelPixel nx.toNat 0
      let qy := levelPixel ny.toNat 0
      if (windowOffsets r).any (fun o => w.padded m (qx + o.1) (qy + o.2)) || decide (lambdaN (tensor a r px py) r < bits (wd c.p 10) 15 0) ||
          decide (bits (wd c.p 10) 31 16 < e) || back then none
      else some { f with x := nx.toNat, y := ny.toNat, link := i, dist := 0x1FF, age := min 0xFFFF (f.age + 1), conf := flConf 256 e }

/-! ### Detection (R193, R194) -/

/-- The offsets of the pixels a detector looks at: the tensor's 5 × 5 window, or the segment test's pixel and its circle (R193). -/
def detectorWindow (p : List Nat) : List (Int × Int) :=
  if bits (wd p 0) 5 4 = 2 then (0, 0) :: circle16 else windowOffsets 2

/-- Candidates of a level in raster order, and the pixels its padding ruled out. -/
def ftCands (w : Work) (c : FtCtx) (l : Nat) : List Cand × Nat :=
  let m := w.ftImg c l
  let g := w.grid8 m
  let all := (List.range (m.h - 6)).flatMap (fun j => (List.range (m.w - 6)).map (fun i => (i + 3, j + 3)))
  let pad := fun (q : Nat × Nat) => (detectorWindow c.p).any (fun o => w.padded m (q.1 + o.1) (q.2 + o.2))
  let good := all.filter (fun q => !pad q)
  (good.filterMap (fun q =>
    let s := featScore c.p g q.1 q.2
    if 0 < s ∧ wd c.p 5 ≤ s then some ⟨l, q.1, q.2, s⟩ else none), all.length - good.length)

/-- The best k of each cell, in rank order. -/
def topK (quota : Nat → Nat) (cellOf : Cand → Nat) (l : List Cand) : List Cand :=
  (l.foldl (fun (acc : List Cand × List Nat) a =>
    let n := (acc.2.filter (fun k => k == cellOf a)).length
    if n < quota (cellOf a) then (acc.1 ++ [a], cellOf a :: acc.2) else acc) ([], [])).1

/-- What detection yields. -/
structure FtFound where
  /-- The detections kept, by cell and by rank within a cell. -/
  kept : List Cand
  /-- The survivors of each level. -/
  survivors : List Nat
  /-- Detections kept in cells. -/
  bucketed : Nat
  /-- Those of them that CAPACITY left out. -/
  dropped : Nat
  /-- Pixels that padding ruled out. -/
  skipped : Nat

/-- Detect beside the tracked features (R193, R194). -/
def ftDetect (w : Work) (c : FtCtx) (tracked : List Feat) : FtFound :=
  let per := (List.range c.levels).map (fun l => w.ftCands c l)
  let lists := per.map (fun q => suppress (1 + bits (wd c.p 0) 13 12) q.1)
  let surv := lists.flatten
  let sep := 16 * bits (wd c.p 9) 23 16
  let far := surv.filter (fun a => !tracked.any (fun f =>
    decide (((levelCoord a.x a.l : Int) - f.x).natAbs ≤ sep ∧ ((levelCoord a.y a.l : Int) - f.y).natAbs ≤ sep)))
  let cellOf := fun (a : Cand) => c.cell (levelCoord a.x a.l) (levelCoord a.y a.l)
  let quota := fun k => bits (wd c.p 0) 19 14 + 1 - (tracked.filter (fun f => c.cell f.x f.y == k)).length
  let kept := topK quota cellOf (sortBy candBefore far)
  let room := c.cap - tracked.length
  let fit := kept.take room
  let byCell := sortBy (fun a b => decide (cellOf a < cellOf b)) fit
  ⟨byCell, lists.map List.length, kept.length, kept.length - fit.length, (per.map Prod.snd).sum⟩

/-! ### Descriptors (R195, R196) -/

/-- The class of a feature at its level's pixel: BORDER where its radius-17 patch leaves the level, and otherwise VALID (R195). -/
def ftClass (c : FtCtx) (l : Nat) (px py : Int) : Nat :=
  if px < 17 ∨ (lvDim c.wid l : Int) ≤ px + 17 ∨ py < 17 ∨ (lvDim c.hei l : Int) ≤ py + 17 then 6 else 0

/-- Orientation of a feature at its level's pixel. -/
def ftOrient (g : Grid) (x y : Int) : Nat :=
  let disc := (windowOffsets 15).filter (fun o => decide (o.1 * o.1 + o.2 * o.2 ≤ 225))
  orientOf ((disc.map (fun o => o.1 * (g.at (x + o.1) (y + o.2) : Int))).sum) ((disc.map (fun o => o.2 * (g.at (x + o.1) (y + o.2) : Int))).sum)

/-- The sum over a 5 × 5 box. -/
def box5 (g : Grid) (x y : Int) : Nat := ((windowOffsets 2).map (fun o => g.at (x + o.1) (y + o.2))).sum

/-- The binary descriptor. -/
def ftBinary (g : Grid) (orient : Nat) (x y : Int) : List Byte :=
  let bs := descPairs.map (fun q =>
    let a := rotate orient q.1
    let b := rotate orient q.2
    b2n (decide (box5 g (x + a.1) (y + a.2) < box5 g (x + b.1) (y + b.2))))
  (List.range 32).map (fun k => BitVec.ofNat 8 ((List.range 8).map (fun i => bs.getD (8 * k + i) 0 * 2 ^ i)).sum)

/-- The INT8 patch descriptor (R196). -/
def ftPatch (g : Grid) (turn : Bool) (scale orient : Nat) (x y : Int) : List Byte :=
  let pts := [-14, -10, -6, -2, 2, 6, 10, 14].flatMap (fun (v : Int) => [-14, -10, -6, -2, 2, 6, 10, 14].map (fun (u : Int) => (u, v)))
  let k := if turn then orient else 0
  let c := (FVal.ofMant (cos32 k) (-64)).rn
  let s := (FVal.ofMant (sin32 k) (-64)).rn
  let smp := pts.map (fun q =>
    let px := FVal.sub (FVal.mul (fint q.1) c) (FVal.mul (fint q.2) s)
    let py := FVal.add (FVal.mul (fint q.1) s) (FVal.mul (fint q.2) c)
    bilinear g (FVal.add (fint x) px) (FVal.add (fint y) py))
  let m := FVal.div (fsum smp) (fint 64)
  let sd := FVal.sqrt (FVal.div (fsum (smp.map (fun v => FVal.mul (FVal.sub v m) (FVal.sub v m)))) (fint 64))
  smp.map (fun v =>
    if sd.isZero then 0#8
    else BitVec.ofInt 8 (clampI (-128) 127 (FVal.div (FVal.mul (fint scale) (FVal.sub v m)) sd).toInt))

/-! ### Phases -/

/-- Write entries at an address. -/
def putFeats (w : Work) (a : Nat) (fs : List Feat) : Work := w.store a (wordsBytes (fs.flatMap Feat.words))

/-- The header of a list (R199). -/
def ftHeader (c : FtCtx) (count tracked dropped lost matched nextId : Nat) (valid : Bool) : List Nat :=
  [1, c.run.afc, pack [(count, 0, 16), (tracked, 16, 16)], pack [(min 0xFFFF dropped, 0, 16), (b2n (decide (0 < dropped)), 16, 1)],
    pack [(lost, 0, 16), (matched, 16, 16)], pack [(c.cells.1, 0, 16), (c.cells.2, 16, 16)], low 32 nextId,
    pack [(c.run.actx, 0, 8), (b2n valid, 8, 1)]] ++ List.replicate 8 0

/-- What the engine carries between phases, in EngRun.data: stage start, tracked, lost, dropped, kept in cells, NEXT_ID, matched, and
the entries' words. -/
structure FtCarry where
  start : Nat
  tracked : Nat
  lost : Nat
  dropped : Nat
  bucketed : Nat
  nextId : Nat
  matched : Nat
  feats : List Feat

/-- Read what the engine carries. -/
def ftCarry (x : EngRun) : FtCarry :=
  let fw := x.data.drop 7
  ⟨wd x.data 0, wd x.data 1, wd x.data 2, wd x.data 3, wd x.data 4, wd x.data 5, wd x.data 6,
    (List.range (fw.length / 8)).map (fun i => Feat.ofWords ((fw.drop (8 * i)).take 8))⟩

/-- Write what the engine carries. -/
def FtCarry.nums (k : FtCarry) : List Nat :=
  [k.start, k.tracked, k.lost, k.dropped, k.bucketed, k.nextId, k.matched] ++ k.feats.flatMap Feat.words

/-- The phase after one: 0 track, 1 detect, 2 write, 3 describe, 4 match, 5 the end (R192, R203). -/
def ftNextPhase (c : FtCtx) (ph : Nat) : Nat :=
  match ph with
  | 0 => if c.op 0 then 1 else 2
  | 1 => 2
  | 2 => if c.op 1 then 3 else if c.op 2 then 4 else 5
  | 3 => if c.op 2 then 4 else 5
  | _ => 5

/-- The cell table of the DETECT entries (R199). -/
def ftCells (c : FtCtx) (tracked : Nat) (fs : List Feat) : List Nat :=
  let n := c.cells.1 * c.cells.2
  let ks := (fs.drop tracked).map (fun f => c.cell f.x f.y)
  (List.range n).map (fun k => pack [(tracked + (ks.filter (fun j => decide (j < k))).length, 0, 16), ((ks.filter (fun j => j == k)).length, 16, 16)])

/-- The reference list of MATCH (R192): (entries, first DETECT entry, descriptor base). -/
def ftReference (w : Work) (c : FtCtx) : List Feat × Nat × Nat :=
  let get := fun (a n : Nat) => (List.range n).map (fun i => Feat.ofWords (bytesWords (w.fetch (a + 32 * i) 32)))
  if bitAt (wd c.p 0) 7 then
    let a := ftHist c (c.run.afc + 1)
    let n := w.mem (a + 8) 2
    if w.ftUsable c then (get (a + (c.histList n).1) n, w.mem (a + 10) 2, a + (c.histList n).2.1) else ([], 0, 0)
  else
    let g := w.version c.run.seq
    match inEdge g c.node 1 with
    | none => ([], 0, 0)
    | some e =>
      let q := w.ftCtx c.run (g.eFrom e)
      (get (q.list + 64) (w.mem (q.list + 8) 2), w.mem (q.list + 10) 2, q.desc)

/-- Hamming distance of two 32-byte descriptors. -/
def hamming (a b : List Byte) : Nat := (List.zipWith (fun x y => popCount 8 (Nat.xor x.toNat y.toNat)) a b).sum

/-- Match one detection: its LINK and DIST where accepted, and the pairs compared (R197). -/
def ftMatchOne (w : Work) (c : FtCtx) (ref : List Feat × Nat × Nat) (i : Nat) (f : Feat) : Option (Nat × Nat) × Nat :=
  let dx := sext 16 (bits (wd c.p 8) 15 0)
  let dy := sext 16 (bits (wd c.p 8) 31 16)
  let near := fun (v o d : Int) (win : Nat) => decide ((v - (o + 16 * d)).natAbs ≤ 16 * win)
  let cands := (List.range ref.1.length).filter (fun j =>
    let r := ref.1.getD j ⟨0, 0, 0, 0, 0, 0, 0, 0, 0, 0, 0⟩
    decide (ref.2.1 ≤ j) && near r.x f.x dx (bits (wd c.p 7) 15 0) && near r.y f.y dy (bits (wd c.p 7) 31 16))
  let mine := w.fetch (c.desc + 32 * i) 32
  let ds := cands.map (fun j => (j, hamming mine (w.fetch (ref.2.2 + 32 * j) 32)))
  match ds with
  | [] => (none, 0)
  | h :: t =>
    let best := t.foldl (fun m q => if q.2 < m.2 then q else m) h
    let others := (ds.filter (fun q => q.1 != best.1)).map Prod.snd
    let ok := decide (best.2 ≤ bits (wd c.p 6) 8 0) && (others.isEmpty || decide (16 * best.2 < bits (wd c.p 6) 23 16 * leastOf others))
    (if ok then some best else none, ds.length)

/-- The list is complete: the history copy and its header follow, then the output is signalled (R192, R199, R200). -/
def ftEnd (w : Work) (u : Nat) (c : FtCtx) (k : FtCarry) : Work :=
  let i := u - 0x5C
  let n := k.feats.length
  let w := w.store c.list (wordsBytes (ftHeader c n k.tracked k.dropped k.lost k.matched k.nextId false))
  let w := if !bitAt (wd c.p 0) 7 then w
    else
      let a := ftHist c c.run.afc
      let (el, ds, ct) := c.histList n
      let w := w.store (a + el) (w.fetch (c.list + 64) (32 * n))
      let w := if c.op 1 then w.store (a + ds) (w.fetch c.desc (c.dsize * n)) else w
      let w := if c.op 0 then w.store (a + ct) (wordsBytes (ftCells c k.tracked k.feats)) else w
      w.store a (wordsBytes (ftHeader c n k.tracked k.dropped k.lost k.matched k.nextId true))
  let w := if k.dropped = 0 then w
    else ((w.inc Reg.VIS_FT_CNT_TRUNCATED i).add Reg.VIS_FT_CNT_DROPPED k.dropped i).modRun c.run.id (fun r => { r with truncated := true })
  let w := (w.add Reg.VIS_FT_CNT_TRACKED k.tracked i).add Reg.VIS_FT_CNT_LOST k.lost i
  let w := (w.add Reg.VIS_FT_CNT_DETECTED (n - k.tracked) i).add Reg.VIS_FT_CNT_MATCHED k.matched i
  (w.signalPort c.run.id c.node 0 1).endNode u c.run.id c.node

/-- Entries of the reference cells that a query's window overlaps (R197, R201). -/
def cellReads (c : FtCtx) (ref : List Feat × Nat × Nat) (f : Feat) : Nat :=
  let dx := sext 16 (bits (wd c.p 8) 15 0)
  let dy := sext 16 (bits (wd c.p 8) 31 16)
  let hit := fun (v o : Nat) (d : Int) (win cell : Nat) =>
    decide (((o : Int) / 16 + d - win) / cell ≤ (v / 16 / cell : Nat) ∧ ((v / 16 / cell : Nat) : Int) ≤ ((o : Int) / 16 + d + win) / cell)
  ((ref.1.drop ref.2.1).filter (fun r => hit r.x f.x dx (bits (wd c.p 7) 15 0) c.cw && hit r.y f.y dy (bits (wd c.p 7) 31 16) c.ch)).length

/-- The track, detect, write, describe or match phase is carried out, and the engine goes on to the next (R192 to R201). -/
def featureStep (w : Work) (u : Nat) (x : EngRun) (c : FtCtx) : Work :=
  let i := u - 0x5C
  let k := ftCarry x
  let use_ := w.ftUsable c
  let go := fun (w : Work) (k : FtCarry) (cyc : Nat) =>
    let w := w.reach (max x.since k.start + cyc)
    let ph := ftNextPhase c x.phase
    let k := { k with start := w.d.clk.vcycle }
    if ph = 5 then w.ftEnd u c k
    else (w.setEng u { x with phase := ph, data := k.nums }).wr Reg.FT_PHASE ph i
  let keepPyr := fun (w : Work) =>
    if !c.op 3 then w
    else w.upTo c.tlevels (fun w l =>
      let m := w.ftImg c l
      w.store (ftHist c c.run.afc + c.histLevel l) (w.fetch m.base (lvTw c.wid l * lvTh c.hei l * c.e)))
  match x.phase with
  | 0 =>
    let prev := if use_ then w.ftPrevList c else []
    let gi := (List.range c.tlevels).map (fun l => w.grid8 (ftPrevImg c l))
    let gj := (List.range c.tlevels).map (fun l => w.grid8 (w.ftImg c l))
    let m := w.ftImg c 0
    let tryIt := (List.range prev.length).filterMap (fun j =>
      let f := prev.getD j ⟨0, 0, 0, 0, 0, 0, 0, 0, 0, 0, 0⟩
      if f.cls = 0 ∨ f.cls = 6 then some (w.trackFeat c gi gj m j f) else none)
    let kept := tryIt.filterMap id
    let win := 2 * trackRadius c + 1
    let cyc := 512 + prev.length * c.tlevels * ceilDiv (win * win) 16 * (1 + bits (wd c.p 0) 28 26) * (1 + bits (wd c.p 0) 29 29)
    go (keepPyr w) { k with tracked := kept.length, lost := tryIt.length - kept.length, feats := kept } cyc
  | 1 =>
    let q := w.ftDetect c k.feats
    let ds := q.kept
    let news := (List.range ds.length).map (fun j =>
      let a := ds.getD j ⟨0, 0, 0, 0⟩
      (⟨levelCoord a.x a.l, levelCoord a.y a.l, a.l, ftClass c a.l a.x a.y, 0, a.s, k.nextId + j, 0xFFFF, 0x1FF, 255, 0⟩ : Feat))
    let cyc := ((List.range c.levels).map (fun l => 256 + max (ceilDiv (lvTw c.wid l * lvTh c.hei l) 4) (q.survivors.getD l 0))).sum
    let w := (w.add Reg.VIS_FT_CNT_SURVIVORS q.survivors.sum i).add Reg.VIS_FT_CNT_PADDED_SKIP q.skipped i
    go w { k with dropped := q.dropped, bucketed := q.bucketed, nextId := low 32 (k.nextId + ds.length), feats := k.feats ++ news } cyc
  | 2 =>
    let w := w.putFeats (c.list + 64) k.feats
    let w := if c.op 0 then w.store (roundUp (c.list + 64 + 32 * k.feats.length) 64) (wordsBytes (ftCells c k.tracked k.feats)) else w
    go w k (256 + 2 * (k.tracked + k.bucketed))
  | 3 =>
    let gs := (List.range c.levels).map (fun l => w.grid8 (w.ftImg c l))
    let fs := k.feats.map (fun f =>
      let g := gs.getD f.level []
      let px := levelPixel f.x f.level
      let py := levelPixel f.y f.level
      ({ f with orient := ftOrient g px py, cls := ftClass c f.level px py } : Feat))
    let w := w.putFeats (c.list + 64) fs
    let w := w.upTo fs.length (fun w j =>
      let f := fs.getD j ⟨0, 0, 0, 0, 0, 0, 0, 0, 0, 0, 0⟩
      let g := gs.getD f.level []
      let px := levelPixel f.x f.level
      let py := levelPixel f.y f.level
      w.store (c.desc + c.dsize * j) (if c.dsize = 64 then ftPatch g (bitAt (wd c.p 1) 5) (bits (wd c.p 6) 31 24) f.orient px py
        else ftBinary g f.orient px py))
    go w { k with feats := fs } (8 * fs.length)
  | _ =>
    let ref := w.ftReference c
    let res := (List.range k.feats.length).map (fun j =>
      let f := k.feats.getD j ⟨0, 0, 0, 0, 0, 0, 0, 0, 0, 0, 0⟩
      if j < k.tracked then ((none : Option (Nat × Nat)), 0, 0) else
        let q := w.ftMatchOne c ref j f
        (q.1, q.2, 16 + ceilDiv (cellReads c ref f) 16))
    let fs := (List.range k.feats.length).map (fun j =>
      let f := k.feats.getD j ⟨0, 0, 0, 0, 0, 0, 0, 0, 0, 0, 0⟩
      match (res.getD j (none, 0, 0)).1 with
      | some (l, d) => ({ f with link := l, dist := d } : Feat)
      | none => f)
    let w := (w.putFeats (c.list + 64) fs).add Reg.VIS_FT_CNT_HAMMING ((res.map (fun q => q.2.1)).sum) i
    go w { k with feats := fs, matched := (res.filter (fun q => q.1.isSome)).length } ((res.map (fun q => q.2.2)).sum)

/-- A feature engine finishes its present phase (R192 to R201). -/
def featurePhase (w : Work) (u : Nat) : Work :=
  let x := w.eng u
  match w.grun? x.run with
  | none => w
  | some r =>
    let c := w.ftCtx r x.node
    let areas := (List.range c.levels).map (fun l => let m := w.ftImg c l; (m.base, m.bytes))
    w.unlessPoison r.id x.node areas fun w =>
      w.featureStep u x c

end Work

end Sys2Proof.Machine
end

