-- ==== Sys2Proof/Machine/Isp.lean ====
section
/-! DEFINITION. The image pipelines: stages, calibration, output formats, sideband words, stripes and the deadline scheduler (R129 to
R151). -/

namespace Sys2Proof.Machine

open Config

/-! ### Mosaics (R131, R134) -/

/-- The channel at a mosaic position: 0 R, 1 G, 2 B, 3 IR, 4 clear or monochrome (R134). -/
def mosaicChan (pattern pos : Nat) : Nat :=
  (match pattern with
    | 0 => [4]
    | 1 => [0, 1, 1, 2]
    | 2 => [0, 4, 4, 2]
    | 3 => [0, 4, 4, 4]
    | 4 => [0, 1, 2, 4]
    | _ => [2, 1, 0, 1, 1, 3, 1, 3, 0, 1, 2, 1, 1, 3, 1, 3]).getD pos 4

/-- The shading channel at a mosaic position (R134). -/
def shadeChan (pattern pos : Nat) : Nat := if pattern = 0 then 0 else if pattern = 5 then mosaicChan 5 pos else pos

/-- Channels of the sense colour plane (R134). -/
def senseChans (pattern : Nat) : List Nat :=
  match pattern with
  | 0 => []
  | 2 => [0, 2]
  | 3 => [0]
  | _ => [0, 1, 2]

/-- Bit depth of a data type after decode (R130). -/
def bitDepth (dt dpcm : Nat) : Nat :=
  if dt = 0x2B then 10 else if dt = 0x2C then 12 else if dt = 0x2D then 14 else if dt = 0x2E then 16 else if dt = 0x2F then 20
  else if 0x30 ≤ dt ∧ dt ≤ 0x37 then (if dpcm = 1 then 10 else if dpcm = 2 then 12 else 8) else 8

/-- What a pipeline works with for one frame: the latched sub-blocks and geometry, and the input lines available. -/
structure IspIn where
  calib : Tbl (List Nat)
  dt : Nat
  dpcm : Nat
  wid : Nat
  hei : Nat
  raw : Grid
  sbs : List Nat

/-- The payload words of a sub-block, none where it is absent (R138). -/
def IspIn.sub (k : IspIn) (t : Nat) : Option (List Nat) :=
  match tget [] k.calib t with
  | [] => none
  | ws => some (ws.drop 2)

/-- 16-bit entry i of a list of words. -/
def half (ws : List Nat) (i : Nat) : Nat := bits (wd ws (i / 2)) (16 * (i % 2) + 15) (16 * (i % 2))

/-- PATTERN and phases (R138). -/
def IspIn.pattern (k : IspIn) : Nat := bits (wd ((k.sub 5).getD []) 0) 3 0

/-- The mosaic position of a pixel (R131). -/
def IspIn.pos (k : IspIn) (x y : Nat) : Nat :=
  let m := wd ((k.sub 5).getD []) 0
  let p := mosaicP k.pattern
  ((y + bits m 7 6) % p) * p + (x + bits m 5 4) % p

/-- The channel of a pixel. -/
def IspIn.chan (k : IspIn) (x y : Nat) : Nat := mosaicChan k.pattern (k.pos x y)

/-- Is an input pixel padded (R112)? -/
def IspIn.padded (k : IspIn) (x y : Nat) : Bool := Work.sbPadded (k.sbs.getD y 0) x

/-- Stages 1 and 2 (R130, R131). -/
def IspIn.black (k : IspIn) : Grid :=
  let b := bitDepth k.dt k.dpcm
  Grid.make k.wid k.raw.length (fun x y =>
    let s := k.raw.at x y * 2 ^ (20 - b)
    match k.sub 1 with
    | none => s
    | some ws =>
      let g := min (y / 2 ^ bits (wd ws 0) 3 0) (bits (wd ws 0) 15 8 - 1)
      s - bits (wd ws (2 + g * bits (wd ws 0) 20 16 + k.pos x y)) 19 0)

/-- Same-channel neighbours of a pixel, nearest first, up to eight; padded ones only where there is no other (R132). -/
def IspIn.neighbours (k : IspIn) (g : Grid) (x y : Nat) : List Nat :=
  let r := if k.pattern = 5 then 3 else 2
  let all := (List.range (2 * r + 1)).flatMap (fun (j : Nat) => (List.range (2 * r + 1)).map (fun (i : Nat) => ((i : Int) - r, (j : Int) - r)))
  let ok := all.filter (fun o =>
    let a : Int := x + o.1
    let b : Int := y + o.2
    o != (0, 0) && decide (0 ≤ a ∧ a < k.wid ∧ 0 ≤ b ∧ b < k.raw.length) && k.chan a.toNat b.toNat == k.chan x y)
  let good := ok.filter (fun o => !k.padded ((x : Int) + o.1).toNat ((y : Int) + o.2).toNat)
  let use_ := if good.isEmpty then ok else good
  ((use_.mergeSort (fun a b => decide (a.1 * a.1 + a.2 * a.2 ≤ b.1 * b.1 + b.2 * b.2))).take 8).map (fun o => g.at ((x : Int) + o.1) ((y : Int) + o.2))

/-- The median of neighbours. -/
def medianNat (l : List Nat) : Nat := (medianInt (l.map Int.ofNat)).toNat

/-- Is a pixel a static defect, or a dynamic one: 1 or 2, 0 for neither (R132)? -/
def IspIn.defect (k : IspIn) (g : Grid) (x y : Nat) : Nat :=
  let fixed := match k.sub 2 with
    | none => false
    | some ws => (List.range (bits (wd ws 0) 16 0)).any (fun i => wd ws (2 + i) == x + 65536 * y)
  if k.padded x y then 0
  else if fixed then 1
  else match k.sub 3 with
    | none => 0
    | some ws =>
      let ns := k.neighbours g x y
      let v := g.at x y
      if bitAt (wd ws 0) 0 && !ns.isEmpty &&
          (decide (ns.foldl max 0 + bits (wd ws 1) 19 0 < v) || decide (v + bits (wd ws 2) 19 0 < leastNat ns)) then 2 else 0
where
  /-- The least of a list. -/
  leastNat (l : List Nat) : Nat := l.foldl min (l.headD 0)

/-- Lines of the defect window on each side of a pixel (R132). -/
def IspIn.dpcReach (k : IspIn) : Nat := if k.pattern = 5 then 3 else 2

/-- Static and dynamic defects among the lines from a to b - 1 (R132). -/
def IspIn.defects (k : IspIn) (a b : Nat) : Nat × Nat :=
  let g := k.black
  let l := (List.range (b - a)).flatMap (fun j => (List.range k.wid).map (fun i => k.defect g i (a + j)))
  ((l.filter (fun d => d == 1)).length, (l.filter (fun d => d == 2)).length)

/-- Stages 3 and 4: defects replaced, then lens shading (R132, R133). -/
def IspIn.corrected (k : IspIn) : Grid :=
  let b := k.black
  Grid.make k.wid k.raw.length (fun x y =>
    let s := if k.defect b x y = 0 then b.at x y else medianNat (k.neighbours b x y)
    match k.sub 4 with
    | none => s
    | some ws =>
      let ax := fun (v n : Nat) =>
        let d := max 1 (n - 1)
        let i := min 15 (16 * v / d)
        (i, 16 * v - i * d, d)
      let (i, fx, dx) := ax x k.wid
      let (j, fy, dy) := ax y k.hei
      let g := fun a c => half ws (shadeChan k.pattern (k.pos x y) * 289 + c * 17 + a)
      let gain := (dx - fx) * (dy - fy) * g i j + fx * (dy - fy) * g (i + 1) j + (dx - fx) * fy * g i (j + 1) + fx * fy * g (i + 1) (j + 1)
      let den := 4096 * dx * dy
      min 0xFFFFF ((2 * s * gain + den) / (2 * den)))

/-! ### Sense path (R136) -/

/-- The 5 × 5 window around a pixel. -/
def window5 (g : Grid) (x y : Int) : List Nat :=
  [-2, -1, 0, 1, 2].flatMap (fun (j : Int) => [-2, -1, 0, 1, 2].map (fun (i : Int) => g.at (x + i) (y + j)))

/-- The mean of a channel's samples in a 2 × 2 cell, none where it has none. -/
def IspIn.cellMean (k : IspIn) (g : Grid) (ch : Nat) (cx cy : Int) : Option Nat :=
  let hw := ceilDiv k.wid 2
  let hh := ceilDiv k.raw.length 2
  let cx := (clampI 0 ((hw : Int) - 1) cx).toNat
  let cy := (clampI 0 ((hh : Int) - 1) cy).toNat
  let vs := ([(0, 0), (1, 0), (0, 1), (1, 1)] : List (Nat × Nat)).filterMap (fun o =>
    let x := 2 * cx + o.1
    let y := 2 * cy + o.2
    if x < k.wid ∧ y < k.raw.length ∧ k.chan x y = ch then some (g.at x y) else none)
  if vs.isEmpty then none else some ((2 * vs.sum + vs.length) / (2 * vs.length))

/-- A sample of a half-resolution channel plane: a cell without a sample is filled from its neighbours (DESIGN CHOICE, log entry 26). -/
def IspIn.cell (k : IspIn) (g : Grid) (ch : Nat) (cx cy : Int) : Nat :=
  match k.cellMean g ch cx cy with
  | some v => v
  | none => low 20 (ispFree 3 (ch :: [-1, 0, 1].flatMap (fun (j : Int) => [-1, 0, 1].map (fun (i : Int) => (k.cellMean g ch (cx + i) (cy + j)).getD 0x100000))))

/-- Sub-block SENSE's IR_SUB weight (1.15) of a channel. -/
def IspIn.irSub (k : IspIn) (ch : Nat) : Nat := match k.sub 11 with | none => 0 | some ws => half ws (if ch = 4 then 3 else ch)

/-- LUMA_W of R, G or B (1.15): 0.2126, 0.7152 and 0.0722 by default, rounded to nearest. -/
def IspIn.lumaW (k : IspIn) (ch : Nat) : Nat := match k.sub 11 with | none => [6966, 23436, 2366].getD ch 0 | some ws => half ws (4 + ch)

/-- v - w × t with a 1.15 weight, rounded half up and clamped at 0. -/
def subW (v w t : Nat) : Nat := ((2 * ((v : Int) * 32768 - (w * t : Nat)) + 32768) / 65536).toNat

/-- A separated colour sample of a cell (R136). -/
def IspIn.colour (k : IspIn) (g : Grid) (ch : Nat) (cx cy : Int) : Nat :=
  let v := k.cell g ch cx cy
  if k.pattern = 5 then subW v (k.irSub ch) (k.cell g 3 cx cy) else v

/-- Demosaiced R, G or B of a Bayer pixel (R135, DESIGN CHOICE, log entry 26). -/
def IspIn.bayer (g : Grid) (ch pos x y : Nat) : Nat := low 20 (ispFree 0 (ch :: pos :: window5 g x y))

/-- The weighted luma of three components. -/
def IspIn.weigh (k : IspIn) (c : Nat → Nat) : Nat :=
  min 0xFFFFF ((2 * (k.lumaW 0 * c 0 + k.lumaW 1 * c 1 + k.lumaW 2 * c 2) + 32768) / 65536)

/-- The clear or luma plane at a pixel (R136). -/
def IspIn.luma (k : IspIn) (g : Grid) (x y : Nat) : Nat :=
  match k.pattern with
  | 0 => g.at x y
  | 1 => k.weigh (fun c => IspIn.bayer g c (k.pos x y) x y)
  | 5 => k.weigh (fun c => k.colour g c (x / 2 : Nat) (y / 2 : Nat))
  | _ => if k.chan x y = 4 then g.at x y else low 20 (ispFree 1 (k.pos x y :: window5 g x y))

/-! ### View path (R135) -/

/-- A S3.12 coefficient times a value summed with others and an offset, rounded half up and saturated. -/
def matRow (cs : List Int) (vs : List Nat) (off : Int) (top : Int) : Nat :=
  let s := (List.zipWith (fun (a : Int) (b : Nat) => a * b) cs vs).sum
  (clampI 0 top ((s + 2048) / 4096 + off)).toNat

/-- Nine signed S3.12 coefficients of words. -/
def coeffs (ws : List Nat) : List Int := (List.range 9).map (fun i => sext 16 (half ws i))

/-- Entry i of a table of 1,024 interpolated by the low bits, entry 1,024 taken as 0xFFFF, rounded half up. -/
def tableAt (entry : Nat → Nat) (v lowBits : Nat) : Nat :=
  let i := v / 2 ^ lowBits
  let f := v % 2 ^ lowBits
  let a := entry i
  let b := if i = 1023 then 0xFFFF else entry (i + 1)
  (2 * (a * (2 ^ lowBits - f) + b * f) + 2 ^ lowBits) / (2 * 2 ^ lowBits)

/-- The largest 16-bit number that a test admits, of a test that larger numbers fail. -/
def largest16 (ok : Nat → Bool) : Nat := ((List.range 16).reverse).foldl (fun y b => if ok (y + 2 ^ b) then y + 2 ^ b else y) 0

/-- The curve of IEC 61966-2-1 (sRGB, mode 1) or ITU-R BT.709 (mode 2) at v / 65,535, times 65,535 and rounded down: linear below 0.0031308 and 0.018, above
them 1.055 L^(5/12) - 0.055 and 1.099 L^(9/20) - 0.099 (PRESUMED, log entry 77). -/
def gammaFloor (m v : Nat) : Nat :=
  if m = 1 then
    if 10000000 * v ≤ 31308 * 65535 then 1292 * v / 100
    else largest16 (fun y => decide ((1000 * y + 55 * 65535) ^ 12 * 65535 ^ 5 ≤ v ^ 5 * (1055 * 65535) ^ 12))
  else if 1000 * v < 18 * 65535 then 45 * v / 10
  else largest16 (fun y => decide ((1000 * y + 99 * 65535) ^ 20 * 65535 ^ 9 ≤ v ^ 9 * (1099 * 65535) ^ 20))

/-- A named gamma curve (R135): its value rounded to one of the two neighbouring integers, which the spec leaves open (log entry 77). -/
def gammaAt (m v : Nat) : Nat := if v = 0 ∨ v = 0xFFFF then v else min 0xFFFF (gammaFloor m v + ispFree 4 [m, v] % 2)

/-- Kr and Kb in 1/10,000 of ITU-R BT.601, BT.709 and BT.2020 (PRESUMED, log entry 77). -/
def lumaKs (m : Nat) : Int × Int := if m = 0 then (2990, 1140) else if m = 1 then (2126, 722) else (2627, 593)

/-- Coefficient i, or with i from 9 on offset i - 9, of a fixed colour-space matrix on 16-bit values (R135, R138): full range for MATRIX 0, else Y from 16 × 256 over
219 × 256 and Cb, Cr around 32,768 over 224 × 256. A coefficient is one of the two neighbouring S3.12 numbers of the standard's value, and which is left open
(PRESUMED, log entry 77). -/
def cscCoeff (m i : Nat) : Int :=
  let (kr, kb) := lumaKs m
  let kg := 10000 - kr - kb
  let row := [kr, kg, kb, -kr, -kg, 10000 - kb, 10000 - kr, -kg, -kb].getD i 0
  let den : Int := if i < 3 then 10000 else if i < 6 then 2 * (10000 - kb) else 2 * (10000 - kr)
  let range : Int := if m = 0 then 65535 else if i < 3 then 219 * 256 else 224 * 256
  let num := 4096 * row * range
  if i = 9 then (if m = 0 then 0 else 4096)
  else if 9 < i then 32768
  else num / (den * 65535) + (if num % (den * 65535) = 0 then 0 else (ispFree 7 [m, i] % 2 : Nat))

/-- Step 1: the 20-bit colour of a pixel. -/
def IspIn.rgb0 (k : IspIn) (g : Grid) (x y : Nat) : List Nat :=
  let up := fun (ch : Nat) => low 20 (ispFree 2 ([ch, x % 2, y % 2] ++
    [-1, 0, 1].flatMap (fun (j : Int) => [-1, 0, 1].map (fun (i : Int) => k.colour g ch ((x / 2 : Nat) + i) ((y / 2 : Nat) + j))) ++ [k.luma g x y]))
  match k.pattern with
  | 0 | 3 => List.replicate 3 (k.luma g x y)
  | 1 => (List.range 3).map (fun c => IspIn.bayer g c (k.pos x y) x y)
  | 2 =>
    let r := up 0
    let b := up 2
    let num : Int := (k.luma g x y : Int) * 32768 - (k.lumaW 0 * r : Nat) - (k.lumaW 2 * b : Nat)
    let wg := k.lumaW 1
    [r, if wg = 0 then low 20 (ispFree 6 [r, b, k.luma g x y]) else (clampI 0 0xFFFFF ((2 * num + wg) / (2 * wg))).toNat, b]
  | _ => [up 0, up 1, up 2]

/-- Steps 2 to 5: 16-bit R, G and B. -/
def IspIn.rgb (k : IspIn) (g : Grid) (x y : Nat) : List Nat :=
  let c0 := k.rgb0 g x y
  let wb := fun i => match k.sub 6 with | none => 4096 | some ws => half ws i
  let c1 := (List.range 3).map (fun i => min 0xFFFFF ((2 * c0.getD i 0 * wb i + 4096) / 8192))
  let c2 := match k.sub 7 with
    | none => c1
    | some ws => (List.range 3).map (fun i => matRow ((coeffs ws).drop (3 * i)) c1 (sext 21 (wd ws (5 + i))) 0xFFFFF)
  let tone := fun i => match k.sub 8 with | none => 64 * i | some ws => half ws i
  let c3 := c2.map (fun v => tableAt tone v 10)
  match k.sub 9 with
  | none => c3
  | some ws =>
    match bits (wd ws 0) 1 0 with
    | 0 => c3
    | 3 => c3.map (fun v => tableAt (fun i => half (ws.drop 2) i) v 6)
    | m => c3.map (gammaAt m)

/-- Step 6: 16-bit Y, Cb and Cr. -/
def IspIn.yuv (k : IspIn) (rgb : List Nat) : List Nat :=
  let m := match k.sub 10 with | none => 1 | some ws => bits (wd ws 0) 1 0
  (List.range 3).map (fun i =>
    if m = 3 then
      let ws := (k.sub 10).getD []
      matRow ((coeffs (ws.drop 2)).drop (3 * i)) rgb (sext 17 (wd ws (7 + i))) 0xFFFF
    else matRow ((List.range 3).map (fun j => cscCoeff m (3 * i + j))) rgb (cscCoeff m (9 + i)) 0xFFFF)

/-! ### Source planes and samples (R141 to R144) -/

/-- Is the context YUV422, whose samples bypass stages 2 to 5 (R130)? -/
def IspIn.isYuv (k : IspIn) : Bool := k.dt == 0x1E

/-- A YUV422 sample as 16 bits: component 0 Y, 1 Cb, 2 Cr. -/
def IspIn.yuvRaw (k : IspIn) (comp x y : Nat) : Nat :=
  let v := k.raw.at (if comp = 0 then x else if comp = 1 then (x / 2 * 2 : Nat) else (x / 2 * 2 + 1 : Nat)) y
  (if comp = 0 then bits v 7 0 else bits v 15 8) * 256

/-- A plane of a source: its width and lines available, whether it is linear 20-bit data, and its samples. comp counts R, G, B, Y, Cb, Cr
for VIEW and channels for COLOUR. -/
def IspIn.plane (k : IspIn) (source comp : Nat) : Bool × Grid :=
  let g := k.corrected
  let h := k.raw.length
  match source with
  | 0 => (false, Grid.make k.wid h (fun x y =>
      if k.isYuv then (if comp < 3 then 0 else k.yuvRaw (comp - 3) x y)
      else
        let c := k.rgb g x y
        if comp < 3 then c.getD comp 0 else (k.yuv c).getD (comp - 3) 0))
  | 1 => (true, Grid.make k.wid h (fun x y => k.luma g x y))
  | 2 => (true, Grid.make (ceilDiv k.wid 2) (ceilDiv h 2) (fun x y => k.colour g ((senseChans k.pattern).getD comp 0) x y))
  | 3 => (true, Grid.make (ceilDiv k.wid 2) (ceilDiv h 2) (fun x y => k.cell g 3 x y))
  | _ => (true, g)

/-- Channels a tensor or planar output takes from a source (R144). -/
def sourceChans (pattern source : Nat) : Nat := if source = 0 then 3 else if source = 2 then (senseChans pattern).length else 1

/-- v / 2 ^ n rounded half up, held to w bits (R142). -/
def reduceBits (v n w : Nat) : Nat := min (2 ^ w - 1) ((v + 2 ^ n / 2) / 2 ^ n)

/-- An output descriptor read (R141). -/
structure IspOut where
  d : List Nat
  source : Nat
  fmt : Nat
  tiled : Bool
  bgr : Bool
  elem : Nat
  c64 : Bool
  chans : Nat
  cx : Nat
  cy : Nat
  cw : Nat
  ch : Nat
  ow : Nat
  oh : Nat
  base : Nat
  pitch : Nat

/-- Read an output descriptor for an instance slot. -/
def ispOut (d : List Nat) (slot : Nat) : IspOut where
  d := d
  source := bits (wd d 0) 3 0
  fmt := bits (wd d 0) 7 4
  tiled := bitAt (wd d 0) 8
  bgr := bitAt (wd d 0) 9
  elem := bits (wd d 0) 11 10
  c64 := bitAt (wd d 0) 12
  chans := bits (wd d 0) 15 13
  cx := bits (wd d 1) 15 0
  cy := bits (wd d 1) 31 16
  cw := bits (wd d 2) 15 0
  ch := bits (wd d 2) 31 16
  ow := bits (wd d 3) 15 0
  oh := bits (wd d 3) 31 16
  base := wd64 d 4 + slot * wd d 6
  pitch := wd d 7

/-- A 16-bit output sample of a component (R142, R143). -/
def IspIn.sample (k : IspIn) (o : IspOut) (comp x y : Nat) : Nat :=
  let (lin, g) := k.plane o.source comp
  let v := scaleSample (fun a b => g.at a b) (if lin then 0xFFFFF else 0xFFFF) o.cx o.cw o.ow o.cy o.ch o.oh x y
  if lin then reduceBits v 4 16 else v

/-- The bytes an output line writes, as (offset from the slot's buffer, bytes) (R142, R144). -/
def IspIn.lineBytes (k : IspIn) (o : IspOut) (y : Nat) : List (Nat × List Byte) :=
  let s := fun c x => k.sample o c x y
  let b8 := fun v => BitVec.ofNat 8 (reduceBits v 8 8)
  let rgbOrder := if o.bgr then [2, 1, 0] else [0, 1, 2]
  let cols := List.range o.ow
  let chroma := fun c x => (reduceBits (low 16 (ispFree 5 ([(0 : Nat), 1].flatMap (fun j => [(0 : Nat), 1].map (fun i => k.sample o c (2 * x + i) (y - 1 + j)))))))
  let uvLine := y / 2 * o.pitch + o.pitch * o.oh
  let comp := fun c => if o.source = 0 then rgbOrder.getD c c else if o.source = 2 ∧ o.bgr then o.chans - 1 - c else c
  let yc := if o.source = 0 then 3 else 0
  match o.fmt with
  | 0 => cols.map (fun x => (if o.tiled then tiledAddr 0 (roundUp o.ow 64) 1 x y else y * o.pitch + x, [b8 (s yc x)]))
  | 1 => cols.map (fun x => (if o.tiled then tiledAddr 0 (roundUp o.ow 64) 2 x y else y * o.pitch + 2 * x, leBytes 2 (s yc x)))
  | 2 => [(y * o.pitch, cols.flatMap (fun x => rgbOrder.map (fun c => b8 (s c x))))]
  | 3 => [(y * o.pitch, cols.flatMap (fun x => rgbOrder.map (fun c => b8 (s c x)) ++ [0xFF#8]))]
  | 4 => (y * o.pitch, cols.map (fun x => b8 (s 3 x))) ::
      (if y % 2 = 1 then [(uvLine, (List.range (o.ow / 2)).flatMap (fun x => [BitVec.ofNat 8 (chroma 4 x 8 8), BitVec.ofNat 8 (chroma 5 x 8 8)]))] else [])
  | 5 => [(y * o.pitch, (List.range (o.ow / 2)).flatMap (fun x =>
      let uv := fun c => BitVec.ofNat 8 (reduceBits (low 16 (ispFree 5 [s c (2 * x), s c (2 * x + 1)])) 8 8)
      [b8 (s 3 (2 * x)), uv 4, b8 (s 3 (2 * x + 1)), uv 5]))]
  | 6 => (y * o.pitch, cols.flatMap (fun x => leBytes 2 (reduceBits (s 3 x) 6 10 * 64))) ::
      (if y % 2 = 1 then [(uvLine, (List.range (o.ow / 2)).flatMap (fun x => leBytes 2 (chroma 4 x 6 10 * 64) ++ leBytes 2 (chroma 5 x 6 10 * 64)))] else [])
  | 7 => (List.range (sourceChans k.pattern o.source)).map (fun c => (c * o.pitch * o.oh + y * o.pitch, cols.map (fun x => b8 (s (if o.source = 0 then rgbOrder.getD c c else c) x))))
  | 8 => (List.range (sourceChans k.pattern o.source)).map (fun c =>
      (c * o.pitch * o.oh + y * o.pitch, cols.flatMap (fun x => leBytes 2 (s (if o.source = 0 then rgbOrder.getD c c else c) x))))
  | _ =>
    let t := fun c x => FVal.mul (FVal.sub (FVal.div (FVal.ofInt (s (comp c) x)) (FVal.ofInt 65535)) (FVal.of32 (wd o.d (8 + c)))) (FVal.of32 (wd o.d (12 + c)))
    let plain := fun v => if o.elem = 0 then wrapInt 8 (toClamped v (-128) 127 false) else e4m3.encode v
    let mx := MxFmt.flt e4m3 8
    let scales := roundUp (ispPlanes o.d 3) 64
    if o.c64 then
      cols.flatMap (fun x =>
        let vs := (List.range o.chans).map (fun c => t c x)
        if o.elem = 2 then
          let all := vs ++ List.replicate (64 - o.chans) FVal.zero
          [all.take 32, all.drop 32].zipIdx.flatMap (fun (blk, j) =>
            let (sc, es) := mxBlock mx blk false
            [(y * o.pitch + 64 * x + 32 * j, es.map (BitVec.ofNat 8)), (scales + 2 * (y * o.ow + x) + j, [BitVec.ofNat 8 sc])])
        else [(y * o.pitch + 64 * x, vs.map (fun v => BitVec.ofNat 8 (plain v)) ++ List.replicate (64 - o.chans) 0#8)])
    else
      (List.range o.chans).flatMap (fun c =>
        let line := c * o.pitch * o.oh + y * o.pitch
        if o.elem = 2 then
          (List.range (o.ow / 32)).flatMap (fun j =>
            let (sc, es) := mxBlock mx ((List.range 32).map (fun i => t c (32 * j + i))) false
            [(line + 32 * j, es.map (BitVec.ofNat 8)), (scales + (c * o.oh + y) * (o.ow / 32) + j, [BitVec.ofNat 8 sc])])
        else [(line, cols.map (fun x => BitVec.ofNat 8 (plain (t c x))))])

/-- Half-resolution sources (R141). -/
def halfRes (source : Nat) : Bool := source == 2 || source == 3

/-- The sideband word of an output line (R146). -/
def IspIn.outSb (k : IspIn) (o : IspOut) (y : Nat) : Nat :=
  let m : Int := if k.pattern = 5 then 3 else 2
  let f : Int := if halfRes o.source then 2 else 1
  let (y0, y1) := scaleSpan o.cy o.ch o.oh 6 y
  let lo := Work.edge k.hei (f * y0 - m)
  let hi := Work.edge k.hei (f * y1 + (f - 1) + m)
  let rows := (List.range (hi + 1 - lo)).map (fun j => k.sbs.getD (lo + j) k.wid)
  let p := sbMin k.wid rows
  let first := ((List.range o.ow).find? (fun x => decide ((p : Int) ≤ f * (scaleSpan o.cx o.cw o.ow 8 x).2 + (f - 1) + m))).getD o.ow
  sbOr rows (if p = k.wid then o.ow else first)

/-- Lines beyond a source line that its samples draw on: those of its path, behind those of the defect window; never fewer than the footprint of R146. -/
def IspIn.margin (k : IspIn) (source : Nat) : Nat :=
  k.dpcReach + (if k.isYuv then 0 else match source, k.pattern with
    | 0, 0 => 0
    | 0, 2 | 0, 4 => 3
    | 0, 5 => 5
    | 1, 0 => 0
    | 1, 5 => 3
    | 0, _ | 1, _ => 2
    | 2, 5 => 2
    | _, _ => 0)

/-- The last input line that output line y needs, through every stage's history (R129, DESIGN CHOICE, log entry 26). -/
def IspIn.reach (k : IspIn) (o : IspOut) (y : Nat) : Int :=
  let m : Int := k.margin o.source
  let f : Int := if halfRes o.source then 2 else 1
  f * (scaleSpan o.cy o.ch o.oh 6 y).2 + (f - 1) + m

namespace Work

/-! ### Frames at the pipelines -/

/-- A context's ISP state. -/
def ispCtx (w : Work) (c : Nat) : IspCtx := tget IspCtx.none w.d.isp.ctxs c

/-- Replace a context's ISP state. -/
def setIspCtx (w : Work) (c : Nat) (x : IspCtx) : Work :=
  { w with d := { w.d with isp := { w.d.isp with ctxs := tset IspCtx.none w.d.isp.ctxs c x } } }

/-- The SOURCE node of a run that takes a context's frames. -/
def sourceIn (w : Work) (r : GRun) (c : Nat) : Option NodeRun := ((w.version r.seq).sources.find? (fun n => (w.version r.seq).unit n == c)).map (nodeRun r)

/-- Has a SOURCE node ended, with its fill signalled where it was skipped (R73)? -/
def sourceOver (w : Work) (r : GRun) (c : Nat) : Bool := (w.sourceIn r c).any (fun x => nodeOver x && !x.fillOwed)

/-- The frame of a run's context as ingress has it, open or ended. Where the SOURCE node was skipped and filled there is none, and the fill's lines of zeros stand
for it, marked discard (R73, DEDUCED, log entry 28). -/
def frameOf (w : Work) (r : GRun) (c : Nat) : Option OpenFrame :=
  match (w.ctxIn c).frame.filter (fun f => f.run == r.id), r.frames.find? (fun k => k.ctx == c) with
  | some f, _ => some f
  | none, some k => if k.closed then some k.img else none
  | none, none => if w.sourceOver r c then some { w.latched c 0 0 with run := r.id, discard := true } else none

/-- The running ISP_OUT instance that a context's stripes belong to: the oldest one (R147). -/
def ispInst (w : Work) (c : Nat) : Option (GRun × Nat) :=
  w.d.ks.runs.findSome? (fun r =>
    let g := w.version r.seq
    ((List.range g.nodeCount).find? (fun n => g.typ n == 2 && decide ((nodeRun r n).st = .running) && ispContext g n == c)).map (fun n => (r, n)))

/-- A context's ready stripe: its run, node and lines (R147). -/
def ispReady (w : Work) (c : Nat) : Option (GRun × Nat × Nat) :=
  match w.ispInst c with
  | none => none
  | some (r, n) =>
    match w.frameOf r c with
    | none => none
    | some f =>
      let x := w.ispCtx c
      let next := if x.run = r.id ∧ x.node = n then x.lines.length else 0
      let p := (w.version r.seq).params n
      let count := min (stripeLines p f.height) (f.height - next)
      if x.pipe ≠ 0 ∨ count = 0 then none
      else if w.covers r n 0 (next + count - 1) ∨ (next + count = f.height ∧ w.sourceOver r c) then some (r, n, count) else none

/-- The pipeline that a context's state sits in, + 1: the last one it ran on, while no other context has run there since; 0 for none. -/
def ispHolder (w : Work) (c : Nat) : Nat :=
  let p := w.rd Reg.ISPC_LAST_PIPE c
  if (w.ispCtx c).ran ∧ tget 0 w.d.isp.pipes p = c + 1 then p + 1 else 0

/-- Is a sounding due on a pipeline? It goes ahead of any stripe (R149). -/
def soundingDueOn (w : Work) (u : Nat) : Bool := (List.range 90).any (fun s => slotUnit s == u && (tget Sounding.none w.d.saf.slots s).forced)

/-- May a pipeline take a stripe? -/
def pipeFree (w : Work) (p : Nat) : Bool :=
  !w.on Reg.PIPE_BUSY p && !w.isRetired (0x60 + p) && !w.soundingOn (0x60 + p) && !w.soundingDueOn (0x60 + p)

/-- The address of a context's state area (R148). -/
def ispArea (w : Work) (c : Nat) : Nat := w.rd Reg.ISP_STATE_BASE + c * w.rd Reg.ISP_STATE_STRIDE

/-- The context that leaves a pipeline is saved to its state area, whose bytes the spec leaves open (R148, DESIGN CHOICE, log entry 78). -/
def ispSave (w : Work) (p : Nat) : Work :=
  match tget 0 w.d.isp.pipes p with
  | 0 => w
  | c + 1 =>
    let v := w.d.clk.vcycle
    (w.writeAt (0x60 + p) (w.ispArea c) ((List.range (ispNeed (((w.ispCtx c).lines.headD []).length))).map (fun i => BitVec.ofNat 8 (ispFree 9 [v, c, i])))).1

/-- Does candidate a come before b for a pipeline (R149)? -/
def ispBefore (w : Work) (p : Nat) (a b : Nat × GRun × Nat × Nat) : Bool :=
  let key := fun (q : Nat × GRun × Nat × Nat) =>
    let x := w.ispCtx q.1
    [1 - w.rd Reg.ISPC_URGENT q.1, w.ispDeadline q.2.1 q.1, 63 - (w.version q.2.1.seq).prio q.2.2.1,
      1 - b2n (x.ran && w.rd Reg.ISPC_LAST_PIPE q.1 == p), q.1]
  decide (key a < key b)

/-- A pipeline takes a stripe of a context: it is touched and busy, and the context switches in where another was (R148, R149). -/
def ispTake (w : Work) (p c : Nat) (r : GRun) (n count : Nat) : Work :=
  let x := w.ispCtx c
  let x := if x.run = r.id ∧ x.node = n then x else { x with run := r.id, node := n, lines := [], sbs := [], outs := [0, 0, 0, 0] }
  let wid := match w.frameOf r c with
    | some f => f.width
    | none => 0
  let here := decide (tget 0 w.d.isp.pipes p = c + 1)
  let switch := if here then 0 else 192 + (if x.lines.isEmpty then 0 else 16 * wid / 32)
  let w := w.touch (0x60 + p) r.id
  let w := if here then w else w.ispSave p
  let w := if here || x.lines.isEmpty then w else (w.readAt (0x60 + p) (w.ispArea c) (ispNeed wid)).1
  let w := w.setIspCtx c { x with pipe := p + 1, count := count, startV := w.d.clk.vcycle, switch := switch, ran := true }
  let w := { w with d := { w.d with isp := { w.d.isp with pipes := tset 0 w.d.isp.pipes p (c + 1) } } }
  let w := ((w.wr Reg.PIPE_BUSY 1 p).wr Reg.PIPE_CUR_CONTEXT c p).wr Reg.PIPE_CUR_LINE x.lines.length p
  let w := ((w.wr Reg.ISPC_LAST_PIPE p c).wr Reg.ISPC_NEXT_LINE x.lines.length c).wr Reg.ISPC_DEADLINE_TB (w.ispDeadline r c) c
  let w := (w.inc Reg.ISP_PIPE_CNT_STRIPES p).inc Reg.ISP_CTX_CNT_STRIPES c
  if switch = 0 then w else w.inc Reg.ISP_PIPE_CNT_SWITCHES p

/-- The stripe a pipeline takes next: the first of the ready ones by the deadline scheduler, one whose state sits in another free pipeline being left to
that pipeline (R147 to R149). It is given by context, run, node and lines. -/
def ispChoice (w : Work) (p : Nat) : Option (Nat × GRun × Nat × Nat) :=
  let cand := (List.range 64).filterMap (fun c => (w.ispReady c).map (fun q => (c, q)))
  let mine := cand.filter (fun q =>
    let h := w.ispHolder q.1
    h == 0 || h == p + 1 || !w.pipeFree (h - 1))
  mine.foldl (fun (b : Option (Nat × GRun × Nat × Nat)) a => match b with | none => some a | some z => if w.ispBefore p a z then some a else some z) none

/-- A freed pipeline takes the next ready stripe (R149). -/
def ispStart (w : Work) (p : Nat) : Work :=
  if !w.on Reg.ISP_SCHED_EN || !w.pipeFree p then w
  else match w.ispChoice p with
    | none => w
    | some (c, r, n, count) => w.ispTake p c r n count

/-- Read input lines of a frame from the ring; a position the ring has no line for is padded (R111, R150). A line that the ring holds with an uncorrectable
error has pixels the spec leaves open and LINE_PADDED in its sideband word (R223, DESIGN CHOICE, log entry 79). -/
def ispRead (w : Work) (c : Nat) (f : OpenFrame) (bad : List Nat) : Nat → List (List Nat) × List Nat → List (List Nat) × List Nat
  | 0, a => a
  | k + 1, (ls, sb) =>
    let y := ls.length
    let p := 2 ^ f.period
    let (l, s) := match f.slots.getD y none with
      | some n =>
        let s := w.num .course (ringAddr f n + lineBytes f) 4
        if bad.contains y then
          ((List.range f.width).map (fun i => low (8 * pixelBytes f.dataType f.dpcm) (ispFree 10 [w.d.clk.vcycle, c, y, i])), Nat.lor s 0x10000)
        else (w.ringPixels f n, s)
      | none =>
        if f.discard then (List.replicate f.width 0, 0)
        else (if f.padRule ∧ p ≤ y then ls.getD (y - p) [] else List.replicate f.width f.padValue, sideband 0 true false)
    ispRead w c f bad k (ls ++ [l], sb ++ [s])

/-- The errors that a stripe meets in the ring (R223): corrected ones count, and so does every ring line with an uncorrectable one, which is recorded against the
pipeline (DESIGN CHOICE, log entry 79). -/
def courseErrors (w : Work) (p c : Nat) (f : OpenFrame) (from_ count fixed : Nat) (bad : List Nat) : Work :=
  let hit := (List.range count).filter (fun k => bad.contains (from_ + k) && (f.slots.getD (from_ + k) none).isSome)
  hit.foldl (fun w k => (w.inc Reg.VIS_CB_CNT_ECC_UNCORR).err (0x60 + p) stEccUncorrectable c 0 (from_ + k)) (w.add Reg.VIS_CB_CNT_ECC_FIXED fixed)

/-- Bytes a port writes for a line (R137). -/
def ispLineLoad (l : List (Nat × List Byte)) : Nat := (l.map (fun q => q.2.length)).sum

/-- A stripe ends: its output lines are written and signalled, its counters follow, and the pipeline is free (R129 to R149). -/
def ispStripe (w : Work) (p c : Nat) (x : IspCtx) (r : GRun) (f : OpenFrame) (fixed : Nat) (bad : List Nat) : Work :=
  let g := w.version r.seq
  let prm := g.params x.node
  let (lines, sbs) := w.ispRead c f bad x.count (x.lines, x.sbs)
  let k : IspIn := ⟨f.calib, f.dataType, f.dpcm, f.width, f.height, lines, sbs⟩
  let last := decide (f.height ≤ lines.length)
  let ports := (List.range 4).filter (fun q => bitAt (bits (wd prm 0) 7 4) q)
  let ready := fun (o : IspOut) (from_ : Nat) =>
    from_ + ((List.range (o.oh - from_)).takeWhile (fun j => last || decide (k.reach o (from_ + j) < lines.length))).length
  let live := decide ((nodeRun r x.node).st = .running)
  let work := ports.map (fun q =>
    let o := ispOut (ispDesc prm q) r.slot
    let a := x.outs.getD q 0
    let b := if live then ready o a else a
    (q, o, a, b, (List.range (b - a)).map (fun j => k.lineBytes o (a + j))))
  let pix := ceilDiv (f.width * x.count) 4
  let port := (work.map (fun t => ceilDiv ((t.2.2.2.2.map ispLineLoad).sum) 64)).foldl max 0
  let stall := port - pix
  let w := w.reach (x.startV + x.switch + pix + stall)
  let w := w.add Reg.ISP_PIPE_CNT_BUSY_CYCLES (x.switch + pix + stall) p
  let w := (w.add Reg.ISP_PIPE_CNT_SWITCH_CYCLES x.switch p).add Reg.ISP_PIPE_CNT_OUT_STALL stall p
  let w := w.courseErrors p c f x.lines.length x.count fixed bad
  let defects := if k.isYuv then (0, 0) else k.defects (x.lines.length - k.dpcReach) (if last then lines.length else lines.length - k.dpcReach)
  let w := (w.add Reg.ISP_PIPE_CNT_DPC_STATIC defects.1 p).add Reg.ISP_PIPE_CNT_DPC_DYNAMIC defects.2 p
  let w := work.foldl (fun w (q, o, a, b, ls) =>
    let w := ls.foldl (fun w l => l.foldl (fun w (off, bs) => (w.writeAt (0x60 + p) (o.base + off) bs).1) w) w
    let w := if a = b then w else
      (w.writeAt (0x60 + p) (o.base + ispSb o.d (sourceChans k.pattern o.source) + 4 * a)
        ((List.range (b - a)).flatMap (fun j => leBytes 4 (k.outSb o (a + j))))).1
    w.signalLines r.id x.node q a b o.oh) w
  let ring := w.ctxIn c
  let top := (f.slots.take lines.length).foldl (fun m s => match s with | some n => max m (n + 1) | none => m) ring.consumed
  let w := if f.ringBase = ring.firstSeg * 0x40000 ∧ f.ringDepth = ring.depth then w.setCtxIn c { ring with consumed := top } else w
  let outs := (List.range 4).map (fun q => match work.find? (fun t => t.1 == q) with | some t => t.2.2.2.1 | none => x.outs.getD q 0)
  let w := w.setIspCtx c { x with lines := lines, sbs := sbs, outs := outs, pipe := 0 }
  let w := ((w.wr Reg.PIPE_BUSY 0 p).wr Reg.PIPE_CUR_LINE lines.length p).wr Reg.ISPC_NEXT_LINE (if last then 0 else lines.length) c
  let w := w.ispUrgency c
  let w := w.readTo r.id x.node 0 (lines.length - 1)
  if last && live then w.finishNode r.id x.node else w

/-- A pipeline finishes its stripe: output lines whose taps are all there are written and signalled, the ring lines are consumed, and
the pipeline frees (R137, R145 to R150). -/
def ispEnd (w : Work) (p fixed : Nat) (bad : List Nat) : Work :=
  let c := w.rd Reg.PIPE_CUR_CONTEXT p
  let x := w.ispCtx c
  if !w.on Reg.PIPE_BUSY p || decide (x.pipe ≠ p + 1) then w
  else
    let release := fun (w : Work) => (w.wr Reg.PIPE_BUSY 0 p).setIspCtx c { w.ispCtx c with pipe := 0 }
    match w.grun? x.run with
    | none => release w
    | some r =>
      match w.frameOf r c with
      | none => release w
      | some f => w.ispStripe p c x r f fixed bad

end Work

end Sys2Proof.Machine
end

