-- ==== Sys2Proof/Machine/Fill.lean ====
section
/-! DEFINITION. The fill of a skipped or cut node's outputs (R73, R92, R96, R99). -/

namespace Sys2Proof.Machine

open Config

namespace Work

/-- Lines of an output port a node has already produced, of a total. -/
def producedLines (g : GVer) (x : NodeRun) (n port total : Nat) : Nat :=
  match (g.outEdges n).find? (fun e => g.eFromPort e == port) with
  | none => 0
  | some e =>
    let c := tget 0 x.counts (g.eFlag e)
    if g.eKind e = 1 then min total (c * max 1 (g.eStripe e)) else if g.target (g.eFlag e) ≤ c then total else 0

/-- The fill of pixel words: value fields 0, confidence 0, class PADDED (R73). -/
def fillWords (b : WordBuf) (from_ : Nat) : List (Nat × List Byte) :=
  let v := if b.e = 8 then 7 * 2 ^ 40 else 7 * 2 ^ 24
  (List.range (b.h - from_)).map (fun k => (b.base + (from_ + k) * b.pitch, (List.range b.w).flatMap (fun _ => leBytes b.e v)))

/-- Zero bytes over the lines of a tiled plane from one on. -/
def fillTiled (base tw th e from_ : Nat) : List (Nat × List Byte) :=
  (List.range (th - from_)).flatMap (fun k => (List.range (tw / 64)).map (fun t => (tiledAddr base tw e (64 * t) (from_ + k), List.replicate (64 * e) 0#8)))

/-- What the fill of a node writes, as (address, bytes) (R73). Nodes whose outputs no parameter places take none (DEDUCED, log entry 28). -/
def fillWrites (w : Work) (r : GRun) (n : Nat) : List (Nat × List Byte) :=
  let g := w.version r.seq
  let x := nodeRun r n
  let p := g.params n
  if g.gated n then []
  else match g.typ n with
    | 2 =>
      let ports := ((g.outEdges n).map g.eFromPort).eraseDups
      ports.flatMap (fun k =>
        let o := ispOut (ispDesc p k) r.slot
        let z : IspIn := ⟨[], 0, 0, o.ow, o.oh, [], []⟩
        let done := producedLines g x n k o.oh
        (List.range (o.oh - done)).flatMap (fun y => (z.lineBytes o (done + y)).map (fun e => (o.base + e.1, e.2.map (fun _ => 0#8)))))
    | 3 =>
      let out := wd64 p 8 + r.slot * wd p 10
      let m := w.pyrInput r n
      let done := ((g.portFlags n 0).map (fun i => tget 0 x.counts i)).foldl max 0
      if bits (wd p 0) 1 0 = 2 then
        if 0 < done then [] else fillTiled out (roundUp (bits (wd p 3) 15 0) 64) (roundUp (bits (wd p 3) 31 16) 16) m.e 0
      else
        let levels := bits (wd p 0) 11 8
        let lap := decide (bits (wd p 0) 1 0 = 1)
        (List.range (levels - done)).flatMap (fun k =>
          let l := done + k
          fillTiled (out + pyrOff m.w m.h (if lap then 2 else m.e) l) (lvTw m.w l) (lvTh m.h l) (if lap && l + 1 != levels then 2 else m.e) 0)
    | 4 =>
      let c := w.warpCtx r n
      let done := producedLines g x n 0 c.oh
      (List.range c.planes).flatMap (fun pl => fillTiled (c.out + pl * wd c.p 9) (roundUp c.ow 64) (roundUp c.oh 16) c.e done)
    | 5 | 6 =>
      let ports := ((g.outEdges n).map g.eFromPort).eraseDups
      ports.flatMap (fun k => match wordBuf g n k r.slot with
        | some b => fillWords b (producedLines g x n k b.h)
        | none => [])
    | 7 => let c := w.ftCtx r n; [(c.list, wordsBytes (ftHeader c 0 0 0 0 0 1 false))]
    | 9 =>
      let t := 16 * 2 ^ bits (wd p 0) 1 0
      let tx := ceilDiv (bits (wd p 1) 15 0) t
      let ty := ceilDiv (bits (wd p 1) 31 16) t
      let area := wd64 p 8 + r.slot * wd p 7
      let maskAt := area + roundUp (64 + 8 * (tx * ty)) 64
      let statAt := roundUp (maskAt + 8 * ceilDiv tx 64 * ty) 64
      [(area, wordsBytes ([1, r.afc, 0, 0, 0, pack [(tx, 0, 16), (ty, 16, 16)], 0, 0] ++ List.replicate 8 0)),
        (maskAt, List.replicate (8 * ceilDiv tx 64 * ty) 0#8), (statAt, List.replicate (64 * (tx * ty)) 0#8)]
    | 0xA => match wordBuf g n 0 r.slot with
      | some b =>
        let head := b.base + roundUp (b.w * b.h * b.e) 64
        fillWords b 0 ++ [(head, wordsBytes [1, r.afc, pack [(r.actx, 0, 8)]])]
      | none => []
    | _ => []

end Work

end Sys2Proof.Machine
end

