-- ==== Sys2Proof/Machine/Copy.lean ====
section
/-! DEFINITION. Copy engines: chains of copy descriptors, their checks, paths and effects (R312 to R324, R328). -/

namespace Sys2Proof.Machine

open Config

/-! ### Descriptors (R315) -/

/-- A copy descriptor, its base addresses moved to an instance slot. -/
structure CpDesc where
  fill : Bool
  e : Nat
  rank : Nat
  fence : Bool
  src : Nat
  dst : Nat
  ext : List Nat
  ss : List Int
  ds : List Int
  pattern : List Byte
  deriving DecidableEq, Repr

/-- Read a descriptor's fields. -/
def cpDesc (ws : List Nat) : CpDesc :=
  let rank := bits (wd ws 0) 13 11 + 1
  { fill := bits (wd ws 0) 5 4 == 1, e := 2 ^ bits (wd ws 0) 10 8, rank := rank, fence := bitAt (wd ws 0) 14
    src := bits (wd64 ws 2) 47 0, dst := bits (wd64 ws 4) 47 0
    ext := (List.range rank).map (fun k => wd ws (6 + k))
    ss := (List.range rank).map (fun k => sext 32 (wd ws (11 + k)))
    ds := (List.range rank).map (fun k => sext 32 (wd ws (16 + k)))
    pattern := wordsBytes ((ws.drop 21).take 4) }

/-- Check 1 of R316. -/
def cpFormatOk (ws : List Nat) : Bool :=
  bits (wd ws 0) 3 0 == 1 && decide (bits (wd ws 0) 5 4 ≤ 1) && decide (bits (wd ws 0) 10 8 ≤ 4) && decide (bits (wd ws 0) 13 11 ≤ 4)

/-- Check 2 of R316: reserved fields, fields above RANK and fields the operation does not use are zero. -/
def cpReservedOk (ws : List Nat) : Bool :=
  let rank := bits (wd ws 0) 13 11 + 1
  let fill := bits (wd ws 0) 5 4 == 1
  let zero := fun (l : List Nat) => l.all (fun i => wd ws i == 0)
  bits (wd ws 0) 7 6 == 0 && bits (wd ws 0) 31 15 == 0 && zero [1] && bits (wd ws 3) 31 16 == 0 && bits (wd ws 5) 31 16 == 0 &&
    (List.range 5).all (fun k => decide (k < rank) || (wd ws (6 + k) == 0 && wd ws (11 + k) == 0 && wd ws (16 + k) == 0)) &&
    (if fill then zero [2, 3, 11, 12, 13, 14, 15] else zero [21, 22, 23, 24]) && zero [25, 26, 27, 28, 29, 30, 31]

/-- Lowest and highest byte of a side of a descriptor (R315). -/
def cpFoot (e base : Nat) (ext : List Nat) (st : List Int) : Int × Int :=
  let spans := List.zipWith (fun (n : Nat) (s : Int) => ((n : Int) - 1) * s) ext st
  (base + (spans.map (fun x => min 0 x)).sum, base + (spans.map (fun x => max 0 x)).sum + e - 1)

/-- Dimensions with extent above 1, in ascending order, as (extent, source stride, destination stride). -/
def CpDesc.dims (c : CpDesc) : List (Nat × Int × Int) :=
  ((List.range c.rank).map (fun k => (c.ext.getD k 0, c.ss.getD k 0, c.ds.getD k 0))).filter (fun d => decide (1 < d.1))

/-- Merge dimensions where both sides go on contiguously (R313). -/
def mergeDims : List (Nat × Int × Int) → List (Nat × Int × Int)
  | [] => []
  | d :: r =>
    match mergeDims r with
    | [] => [d]
    | x :: t => if x.2.1 = d.1 * d.2.1 ∧ x.2.2 = d.1 * d.2.2 then (d.1 * x.1, d.2.1, d.2.2) :: t else d :: x :: t

/-- Is a copy linear (R313)? -/
def CpDesc.linear (c : CpDesc) : Bool :=
  match mergeDims c.dims with
  | [] => true
  | [d] => d.2.1 == c.e && d.2.2 == c.e
  | _ => false

/-- Do two inclusive spans meet? -/
def spansMeet (a b : Int × Int) : Bool := decide (a.1 ≤ b.2 ∧ b.1 ≤ a.2)

/-- Does a descriptor run on the fast path (R317)? -/
def CpDesc.fast (c : CpDesc) : Bool :=
  let ok := fun (s : Int) => decide (s % 64 = 0) || decide (s.natAbs = c.e)
  decide (c.dst % 64 = 0) && (c.fill || decide (c.src % 64 = 0)) && c.dims.all (fun d => ok d.2.2 && (c.fill || ok d.2.1))

/-- The index tuples of extents, the first dimension running fastest. -/
def tuples : List Nat → List (List Nat)
  | [] => [[]]
  | n :: r => (tuples r).flatMap (fun t => (List.range n).map (fun i => i :: t))

/-- The offset of a tuple under strides. -/
def tupleOff (st : List Int) (t : List Nat) : Int := (List.zipWith (fun (s : Int) (i : Nat) => s * i) st t).sum

/-- The contiguous destination runs of a descriptor, as (destination, sources of its elements): along the dimension whose destination stride
is the element size, where there is one. -/
def CpDesc.runs (c : CpDesc) : List (Nat × List Nat) :=
  let k := (List.range c.rank).findIdx? (fun k => decide (1 < c.ext.getD k 0) && c.ds.getD k 0 == c.e)
  let outer := match k with
    | some k => c.ext.set k 1
    | none => c.ext
  (tuples outer).map (fun t =>
    let d := ((c.dst : Int) + tupleOff c.ds t).toNat
    let s := (c.src : Int) + tupleOff c.ss t
    match k with
    | some k => (d, (List.range (c.ext.getD k 0)).map (fun (i : Nat) => (s + c.ss.getD k 0 * (i : Int)).toNat))
    | none => (d, [s.toNat]))

/-- 128-byte windows that elements at some addresses touch. -/
def windows (e : Nat) (addrs : List Int) : Nat := (addrs.flatMap (fun (a : Int) => [a / 128, (a + (e : Int) - 1) / 128])).eraseDups.length

/-- The inner dimension of a side: the smallest nonzero stride among dimensions of extent above 1, lowest index on a tie (R319). -/
def innerDim (ext : List Nat) (st : List Int) : Option Nat :=
  ((List.range ext.length).filter (fun k => decide (1 < ext.getD k 0) && decide (st.getD k 0 ≠ 0))).foldl
    (fun (b : Option Nat) k => match b with
      | none => some k
      | some j => if (st.getD k 0).natAbs < (st.getD j 0).natAbs then some k else some j) none

/-- Windows touched by the runs of a side along a dimension, summed over its runs (R319). -/
def runWindows (e base : Nat) (ext : List Nat) (st : List Int) (k : Option Nat) : Nat :=
  let outer := match k with
    | some k => ext.set k 1
    | none => ext
  ((tuples outer).map (fun t =>
    let a := (base : Int) + tupleOff st t
    windows e (match k with
      | some k => (List.range (ext.getD k 0)).map (fun (i : Nat) => a + st.getD k 0 * (i : Int))
      | none => [a]))).sum

/-- Windows touched per turn block of the plane of two dimensions, summed over blocks and outer indices (R319). -/
def blockWindows (e base : Nat) (ext : List Nat) (st : List Int) (a b : Nat) : Nat :=
  let side := 128 / e
  let na := ceilDiv (ext.getD a 1) side
  let nb := ceilDiv (ext.getD b 1) side
  ((tuples ((ext.set a 1).set b 1)).map (fun t =>
    let o := (base : Int) + tupleOff st t
    ((List.range na).flatMap (fun i => (List.range nb).map (fun j =>
      windows e ((List.range (min side (ext.getD a 1 - i * side))).flatMap (fun x => (List.range (min side (ext.getD b 1 - j * side))).map
        (fun y => o + st.getD a 0 * ((i * side + x : Nat) : Int) + st.getD b 0 * ((j * side + y : Nat) : Int))))))).sum)).sum

/-- V-cycles of a descriptor (R319). -/
def CpDesc.cycles (c : CpDesc) : Nat :=
  let di := innerDim c.ext c.ds
  let si := innerDim c.ext c.ss
  let n :=
    if c.fill then runWindows c.e c.dst c.ext c.ds di
    else match si, di with
      | some s, some d =>
        if c.linear || s == d then max (runWindows c.e c.src c.ext c.ss (some d)) (runWindows c.e c.dst c.ext c.ds (some d))
        else max (blockWindows c.e c.src c.ext c.ss s d) (blockWindows c.e c.dst c.ext c.ds s d)
      | _, _ => max (runWindows c.e c.src c.ext c.ss si) (runWindows c.e c.dst c.ext c.ds di)
  64 + n * (if c.fast then 1 else 2)

/-- The descriptors of a COPY node for an instance slot, as words (R324). -/
def copyNodeDescs (p : List Nat) (slot : Nat) : List (List Nat) :=
  (List.range (bits (wd p 0) 8 0)).map (fun i =>
    let ws := (p.drop (4 + 32 * i)).take 32
    let s := bits (wd64 ws 2) 47 0 + (if bits (wd ws 0) 5 4 = 1 then 0 else slot * wd p 2)
    let d := bits (wd64 ws 4) 47 0 + slot * wd p 3
    (((ws.set 2 (low 32 s)).set 3 (s / 2 ^ 32)).set 4 (low 32 d)).set 5 (d / 2 ^ 32))

namespace Work

/-- Check 4 of R316 for one footprint: why it is out of reach. -/
def cpReach (w : Work) (u : Nat) (f : Int × Int) (write : Bool) : Option Nat :=
  if f.1 < 0 then some stBoundFault else w.refusal? u f.1.toNat (f.2 - f.1 + 1).toNat write

/-- The first failing check of a chain: status, descriptor and address (R316). -/
def chainFault (w : Work) (u : Nat) (descs : List (List Nat)) : Option (Nat × Nat × Nat) :=
  descs.zipIdx.findSome? (fun (ws, i) =>
    let c := cpDesc ws
    let fs := cpFoot c.e c.src c.ext c.ss
    let fd := cpFoot c.e c.dst c.ext c.ds
    if !cpFormatOk ws then some (stDescFormat, i, 0)
    else if !cpReservedOk ws then some (stDescReserved, i, 0)
    else if c.ext.contains 0 then some (stZeroExtent, i, 0)
    else if !c.fill && (w.cpReach u fs false).isSome then some (stBoundFault, i, fs.1.toNat)
    else if (w.cpReach u fd true).isSome then some (stBoundFault, i, fd.1.toNat)
    else if !aliasFree c.e (c.ext.zip c.ds) then some (stWriteAlias, i, c.dst)
    else if !c.fill && !c.linear && spansMeet fs fd then some (stCopyOverlap, i, c.dst)
    else none)

/-- The requests that read some source runs along a dimension, which lie in groups of one stride: STRIDED where a run is 128 B or less, and otherwise
LINEAR, which nothing counts (R320). -/
def runReads (w : Work) (e : Nat) (groups : List (List Int)) (n : Nat) (stride : Int) : Work :=
  if 128 < (n - 1) * stride.natAbs + e then w
  else groups.foldl (fun w g => w.stridedReads (g.flatMap (fun a =>
    ((List.range n).flatMap (fun (i : Nat) => let x := a + stride * (i : Int); [(x / 128).toNat, ((x + (e : Int) - 1) / 128).toNat])).eraseDups.map (fun b => 128 * b)))) w

/-- The starts of the runs of a source along a dimension, grouped along the first other dimension with more than one index where its stride allows a
STRIDED request (R295). -/
def runGroups (c : CpDesc) (k : Option Nat) : List (List Int) :=
  let outer := match k with
    | some k => c.ext.set k 1
    | none => c.ext
  match (List.range c.rank).find? (fun j => decide (1 < outer.getD j 0 ∧ c.ss.getD j 0 % 64 = 0)) with
  | some j => (tuples (outer.set j 1)).map (fun t => (List.range (outer.getD j 0)).map (fun (i : Nat) => (c.src : Int) + tupleOff c.ss (t.set j i)))
  | none => (tuples outer).map (fun t => [(c.src : Int) + tupleOff c.ss t])

/-- The requests a descriptor's source reads make in the Quarry (R295, R320). A transposing copy takes each whole turn block with one TRANSPOSE request
where its element size and stride allow it; what else it reads goes run by run, as far as a turn block reaches. -/
def copyRequests (w : Work) (c : CpDesc) : Work :=
  if c.fill || !inQuarry c.src 1 then w
  else match innerDim c.ext c.ss, innerDim c.ext c.ds with
    | some s, some d =>
      if c.linear || s == d then w.runReads c.e (runGroups c (some s)) (c.ext.getD s 1) (c.ss.getD s 0)
      else
        let side := 128 / c.e
        let es := c.ext.getD s 1
        let ed := c.ext.getD d 1
        let turn := decide (c.e ≤ 4 ∧ c.ss.getD d 0 % 64 = 0)
        (tuples ((c.ext.set s 1).set d 1)).foldl (fun w t =>
          (List.range (ceilDiv es side)).foldl (fun w i => (List.range (ceilDiv ed side)).foldl (fun w j =>
            let at_ := fun (y : Nat) => (c.src : Int) + tupleOff c.ss t + c.ss.getD s 0 * ((i * side : Nat) : Int) + c.ss.getD d 0 * ((j * side + y : Nat) : Int)
            let ns := min side (es - i * side)
            let nd := min side (ed - j * side)
            if turn && ns == side && nd == side then
              ((List.range nd).map (fun y => slabOf (at_ y).toNat)).eraseDups.foldl (fun w x => w.inc Reg.QRY_CNT_TRANSPOSE_REQ x) w
            else w.runReads c.e (if c.ss.getD d 0 % 64 = 0 then [(List.range nd).map at_] else (List.range nd).map (fun y => [at_ y])) ns (c.ss.getD s 0)) w) w) w
    | k, _ => w.runReads c.e (runGroups c k) (match k with | some k => c.ext.getD k 1 | none => 1) (match k with | some k => c.ss.getD k 0 | none => 0)

/-- One descriptor's writes: every source is read, then the runs are stored, and what would take a poisoned word's bytes is stored poisoned;
true where one was met (R313, R322). -/
def runDesc (w : Work) (u : Nat) (c : CpDesc) : Work × Bool :=
  let w := w.copyRequests c
  let w := c.runs.foldl (fun w g =>
    let w := if c.fill then w else g.2.foldl (fun w s => w.countBytes u s c.e false) w
    w.countBytes u g.1 (g.2.length * c.e) true) w
  let got := c.runs.map (fun (d, ss) =>
    (d, if c.fill then ss.flatMap (fun _ => c.pattern.take c.e) else ss.flatMap (fun s => w.fetch s c.e),
      if c.fill then [] else ss.zipIdx.filterMap (fun (s, i) => if w.meetsPoison s c.e then some (d + i * c.e) else none)))
  let w := (got.foldl (fun w g => w.store g.1 g.2.1) w).countRmw (got.map (fun g => (g.1, g.2.1.length)))
  let bad := got.flatMap (fun g => g.2.2)
  let w := bad.foldl (fun w a => if inHostWin a 1 then w
    else (List.range ((a + c.e - 1) / 8 - a / 8 + 1)).foldl (fun w k => w.setPoison (w.storage ((a / 8 + k) * 8)) true) w) w
  (w, !bad.isEmpty)

/-! ### Chains (R318, R321) -/

/-- A copy engine's chain. -/
def chainOf (w : Work) (u : Nat) : Option Chain := tget none w.d.cpy.running u

/-- Give a copy engine a chain, or take it away. -/
def setChain (w : Work) (u : Nat) (c : Option Chain) : Work :=
  { w with d := { w.d with cpy := { w.d.cpy with running := tset none w.d.cpy.running u c } } }

/-- The copy engine a node's UNIT stands for: a retired engine's partner (R479). -/
def copyUnit (w : Work) (u : Nat) : Nat := if w.isRetired u then (if u = 0x76 then 0x77 else 0x76) else u

/-- Candidates of an engine, with the order's key: PRIORITY, deadline, origin, context, node (R69, R321). -/
def chainCands (w : Work) (u : Nat) : List ((Nat × Nat × Nat × Nat × Nat) × Chain) :=
  let runs := w.d.ks.runs
  let dl := fun (r : GRun) (n : Nat) => let d := (w.version r.seq).node n 1; if d = 0 then 2 ^ 64 - 1 else r.origin + d
  let nodes := runs.flatMap (fun r =>
    let g := w.version r.seq
    ((List.range g.nodeCount).filter (fun n => g.typ n == 0xB && (g.unit n == 0xFF || w.copyUnit (g.unit n) == u) && w.nodeReady r n)).map (fun n =>
      ((63 - g.prio n, dl r n, r.origin, r.actx, n), (⟨0, none, r.id, n, copyNodeDescs (g.params n) r.slot, 0, 0, r.origin⟩ : Chain))))
  let jobs := w.d.cpy.waiting.map (fun c => ((63 - w.rd Reg.CP_COPY_JOB_PRIO, 2 ^ 64 - 1, c.origin, 0xFF, 0), c))
  let busy := fun (id n : Nat) => w.d.cpy.running.any (fun e => match e.2 with
    | some c => c.kind == 2 && c.run == id && c.node == n
    | none => false)
  let fills := runs.flatMap (fun r =>
    ((List.range r.nodes.length).filter (fun n => (nodeRun r n).fillOwed && !(nodeRun r n).filled && !busy r.id n)).map (fun n =>
      ((0, dl r n, r.origin, r.actx, n), (⟨2, none, r.id, n, [], 0, 0, r.origin⟩ : Chain))))
  fills ++ nodes ++ jobs

/-- Lexicographic order of a key. -/
def keyLt (a b : Nat × Nat × Nat × Nat × Nat) : Bool :=
  let f := fun (x : Nat × Nat × Nat × Nat × Nat) => [x.1, x.2.1, x.2.2.1, x.2.2.2.1, x.2.2.2.2]
  decide (f a < f b)

/-- The registers of an engine that takes a chain; a job has no anchor, which CUR_CONTEXT shows as 0xFF (R328, R523). -/
def showChain (w : Work) (u : Nat) (c : Chain) : Work :=
  let i := u - 0x76
  let (gr, nd, cx) := match c.job, w.grun? c.run with
    | some j, _ => (j.q, 0, 0xFF)
    | none, some r => (r.gid, c.node, r.actx)
    | none, none => (0, 0, 0)
  (((((w.wr Reg.CP_BUSY 1 i).wr Reg.CP_CHAIN_KIND c.kind i).wr Reg.CP_CUR_GRAPH gr i).wr Reg.CP_CUR_NODE nd i).wr Reg.CP_CUR_CONTEXT cx i).wr Reg.CP_CUR_DESC 0 i

/-- A chain ends with a status: its registers and what it answers to (R318, R322, R324, R328). -/
def endChain (w : Work) (u : Nat) (c : Chain) (status fail : Nat) : Work :=
  let i := u - 0x76
  let w := (w.wr Reg.CP_LAST_STATUS status i).wr Reg.CP_LAST_FAIL_DESC fail i
  let w := w.setChain u none
  match c.job with
  | some j => (w.freeUnit u).complete j status fail
  | none =>
    if c.kind = 2 then (w.freeUnit u).modNode c.run c.node (fun x => { x with filled := true })
    else if status = stOk ∨ status = stMisalignedSlow then ((w.signalAll c.run c.node).finishNode c.run c.node)
    else w.cutNode c.run c.node status

/-- An engine takes a chain and checks it whole (R314 to R321). -/
def copyTake (w : Work) (u : Nat) (c : Chain) : Work :=
  let i := u - 0x76
  let w := { w with d := { w.d with cpy := { w.d.cpy with waiting := w.d.cpy.waiting.filter (fun y => decide (y.job ≠ c.job)) } } }
  let w := if c.kind = 0 then w.takeNode u c.run c.node else w.setEng u { EngRun.none with run := c.run, node := c.node, since := w.d.clk.vcycle }
  let w := w.showChain u c
  let (w, st, c) := if c.kind ≠ 1 then (w, stOk, c)
    else
      let (w, st, bs) := w.readAt u c.addr (128 * c.count)
      let ws := bytesWords bs
      (w, if c.count = 0 ∨ 256 < c.count then stDescFormat else st, { c with descs := (List.range c.count).map (fun k => (ws.drop (32 * k)).take 32) })
  if st ≠ stOk then (w.inc Reg.VIS_CP_CNT_REFUSED i).endChain u c st 0
  else match w.chainFault u c.descs with
    | some (s, k, a) =>
      let w := (w.inc Reg.VIS_CP_CNT_REFUSED i).err u s k a
      w.endChain u c s k
    | none => w.setChain u (some c)

/-- The chain an engine takes next (R321). -/
def chainChoice (w : Work) (u : Nat) : Option Chain :=
  ((w.chainCands u).foldl (fun (b : Option ((Nat × Nat × Nat × Nat × Nat) × Chain)) x => match b with
    | none => some x
    | some y => if keyLt x.1 y.1 then some x else some y) none).map Prod.snd

/-- A free copy engine takes the next chain and checks it whole (R316, R321, R324). -/
def copyStart (w : Work) (u : Nat) : Work :=
  if w.on Reg.CP_BUSY (u - 0x76) || w.isRetired u || w.soundingOn u then w
  else match w.chainChoice u with
    | none => w
    | some c => w.copyTake u c

/-- What takes a descriptor's source bytes is stored poisoned (R322). -/
def poisonRuns (w : Work) (c : CpDesc) : Work :=
  c.runs.foldl (fun w g => if inHostWin g.1 1 then w
    else (List.range ((g.1 + g.2.length * c.e - 1) / 8 - g.1 / 8 + 1)).foldl (fun w k => w.setPoison (w.storage ((g.1 / 8 + k) * 8)) true) w) w

/-- Some descriptors of a chain run, in chain order: the engine's counters, and true where a poisoned word was met (R318, R322, R328). The source of one of
them may have come poisoned from the host (R367). -/
def runChain (w : Work) (u : Nat) (ds : List CpDesc) (hit : Option Nat := none) : Work × Bool :=
  let i := u - 0x76
  let w := w.reach ((w.eng u).since + (ds.map CpDesc.cycles).sum)
  let (w, bad) := ds.zipIdx.foldl (fun (acc : Work × Bool) d =>
    let (w, b) := acc.1.runDesc u d.1
    (if hit = some d.2 then w.poisonRuns d.1 else w, acc.2 || b || hit == some d.2)) (w, false)
  let size := fun (d : CpDesc) => d.e * d.ext.foldl (· * ·) 1
  let w := (w.add Reg.VIS_CP_CNT_DESCRIPTORS ds.length i).add Reg.VIS_CP_CNT_SLOW (ds.countP (fun d => !d.fast)) i
  let moves := ds.countP (fun d => !d.fill && d.linear && spansMeet (cpFoot d.e d.src d.ext d.ss) (cpFoot d.e d.dst d.ext d.ds))
  let w := (w.add Reg.VIS_CP_CNT_MOVES moves i).add Reg.VIS_CP_CNT_WRITE_BYTES (ds.map size).sum i
  (w.add Reg.VIS_CP_CNT_READ_BYTES ((ds.filter (fun d => !d.fill)).map size).sum i, bad)

/-- A COPY node's destinations are written up to a descriptor: a fill leaves them as they are (R73). -/
def copyWritten (w : Work) (c : Chain) (n : Nat) : Work :=
  if c.kind = 0 then w.modNode c.run c.node (fun x => { x with tile := n }) else w

/-- What a fill chain stores: of a cut or skipped COPY node, zeros over the destinations of the descriptors that have not run. What its requester may not
write is not performed (R21, R73). -/
def fillStores (w : Work) (u : Nat) (r : GRun) (n : Nat) : List (Nat × List Byte) :=
  let g := w.version r.seq
  let zero := fun (d : List Nat) => if cpFormatOk d && cpReservedOk d then
      (cpDesc d).runs.map (fun (x : Nat × List Nat) => (x.1, List.replicate (x.2.length * (cpDesc d).e) (0#8 : Byte))) else []
  let copies := if g.typ n = 0xB then ((copyNodeDescs (g.params n) r.slot).drop (nodeRun r n).tile).flatMap zero else []
  (w.fillWrites r n ++ copies).filter (fun x => (w.refusal? u x.1 x.2.length true).isNone)

/-- All writes of a chain are visible: the node signals, the job completes, or the fill is there (R318, R322). The source of one descriptor may have come
poisoned from the host. -/
def copyComplete (w : Work) (u : Nat) (hit : Option Nat := none) : Work :=
  let i := u - 0x76
  match w.chainOf u with
  | none => w
  | some c =>
    if c.kind = 2 then
      let ws : List (Nat × List Byte) := match w.grun? c.run with
        | some r => w.fillStores u r c.node
        | none => []
      let w := (ws.foldl (fun w x => (w.store x.1 x.2).countBytes u x.1 x.2.length true) w).countRmw (ws.map (fun x => (x.1, x.2.length)))
      let n := (ws.map (fun x => x.2.length)).sum
      let w := ((w.inc Reg.VIS_CP_CNT_CHAINS i).inc Reg.VIS_CP_CNT_FILLS i).add Reg.VIS_CP_CNT_WRITE_BYTES n i
      w.endChain u c stOk 0
    else
      let ds := c.descs.map cpDesc
      let (w, bad) := w.runChain u ds hit
      let w := ((w.inc Reg.VIS_CP_CNT_CHAINS i).wr Reg.CP_CUR_DESC (ds.length - 1) i).copyWritten c ds.length
      let st := if bad then stEccUncorrectable else if ds.any (fun d => !d.fast) then stMisalignedSlow else stOk
      w.endChain u c st 0

/-- A chain's first descriptor that reads host memory. -/
def hostSource (c : Chain) : Option (CpDesc × Nat) :=
  (c.descs.map cpDesc).zipIdx.find? (fun (x : CpDesc × Nat) => c.kind != 2 && !x.1.fill && inHostWin x.1.src 1)

/-- A host read of a chain comes back poisoned: the chain runs to its end, what takes the data of its first descriptor that reads host memory is stored
poisoned, and it reports ECC_UNCORRECTABLE (R322, R367). -/
def chainPoisoned (w : Work) (u : Nat) : Work :=
  match (w.chainOf u).bind hostSource with
  | none => w
  | some (_, k) => w.copyComplete u (some k)

/-- A host read of a chain gets no completion: the chain ends with COMPLETION_TIMEOUT at its first descriptor that reads host memory. The descriptors before
it have run, and it writes nothing (R318, R367). -/
def chainTimeout (w : Work) (u : Nat) : Work :=
  match w.chainOf u with
  | none => w
  | some c =>
    match hostSource c with
    | none => w
    | some (d, k) =>
      let w := ((w.runChain u ((c.descs.map cpDesc).take k)).1.copyWritten c k).wr Reg.CP_CUR_DESC k (u - 0x76)
      ((w.inc Reg.QE_CNT_CPL_TIMEOUT).err u stCompletionTimeout k d.src).endChain u c stCompletionTimeout k

/-- The fill of a skipped or cut node is visible, or it has none: the Keystone signals its output flags up to target (R73). -/
def fillDone (w : Work) (id n : Nat) : Work :=
  match w.grun? id with
  | none => w
  | some r =>
    let x := nodeRun r n
    if !x.fillOwed || !(x.filled || (w.fillWrites r n).isEmpty && (w.version r.seq).typ n != 0xB) || x.cores != 0 then w
    else (w.signalToTarget id n).modNode id n (fun x => { x with fillOwed := false })

/-- A COPY job starts: its chain waits for an engine (R355, R358). -/
def copyJob (w : Work) (j : JobRef) (ws : List Nat) : Work :=
  let c : Chain := ⟨1, some j, 0, 0, [], wd64 ws 6, bits (wd ws 4) 8 0, w.now⟩
  { w with d := { w.d with cpy := { w.d.cpy with waiting := w.d.cpy.waiting ++ [c] } } }

/-- Is a copy engine free for a job to start (R355)? -/
def copyFree (w : Work) : Bool := ([0x76, 0x77].any (fun u => !w.on Reg.CP_BUSY (u - 0x76) && !w.isRetired u)) && w.d.cpy.waiting.isEmpty

end Work

end Sys2Proof.Machine
end

