-- ==== Sys2Proof/Machine/Dravig.lean ====
section
/-! DEFINITION. Dravig (R386 to R402): ports and flits, routing, packets in PSEQ order, windows, DRAVIG_SEND, signals between
devices, time and sleep. -/

namespace Sys2Proof.Machine

open Config

/-! ### CRC-32C and flits (R387) -/

/-- One bit of the reflected CRC-32C. -/
def crcBit (c : Nat) : Nat := if c % 2 = 1 then bxor (c / 2) 0x82F63B78 else c / 2

/-- One byte of the CRC-32C. -/
def crcByte (c : Nat) (b : Byte) : Nat := crcBit (crcBit (crcBit (crcBit (crcBit (crcBit (crcBit (crcBit (bxor c b.toNat))))))))

/-- CRC-32C of bytes (PRESUMED, log entry 29). -/
def crc32c (bs : List Byte) : Nat := bxor (bs.foldl crcByte 0xFFFFFFFF) 0xFFFFFFFF

/-- Is a flit whole: 256 bytes whose last four are the CRC of the others (R387)? -/
def flitGood (bs : List Byte) : Bool := bs.length == 256 && crc32c (bs.take 252) == leNat (bs.drop 252)

/-- Word k of a flit. -/
def flitWord (bs : List Byte) (k : Nat) : Nat := leNat ((bs.drop (4 * k)).take 4)

/-- Is sequence number a at or behind b, modulo 2 ^ wid? -/
def seqLe (wid a b : Nat) : Bool := decide ((b + 2 ^ wid - a % 2 ^ wid) % 2 ^ wid < 2 ^ (wid - 1))

/-- The stream bytes of a packet (R389). -/
def pkSize (p : DrvPacket) : Nat :=
  16 + match p.body with
  | .write _ _ _ _ d => d.length
  | .readData _ d => d.length
  | .flagSignal _ _ _ _ => 4
  | .message d => d.length
  | _ => 0

/-- Is a packet one that takes the next PSEQ of its pair (R392)? -/
def pkOrdered (p : DrvPacket) : Bool :=
  match p.body with
  | .write _ _ _ _ _ => true
  | .read _ _ _ _ _ => true
  | .flagSignal _ _ _ _ => true
  | _ => false

/-- TAG of a packet that is answered. -/
def pkTag (p : DrvPacket) : Nat :=
  match p.body with
  | .write _ _ t _ _ => t
  | .read _ _ t _ _ => t
  | .flagSignal _ _ t _ => t
  | _ => 0

namespace Work

/-- Replace Dravig's state. -/
def setDrv (w : Work) (x : Dravig) : Work := { w with d := { w.d with drv := x } }

/-- A port's state beyond its registers. -/
def dport (w : Work) (p : Nat) : DPort := tget DPort.reset w.d.drv.ports p

/-- Replace a port's state. -/
def setDport (w : Work) (p : Nat) (x : DPort) : Work := w.setDrv { w.d.drv with ports := tset DPort.reset w.d.drv.ports p x }

/-- STATE codes of a port (R404). -/
abbrev dpDown : Nat := 0
abbrev dpTraining : Nat := 1
abbrev dpActive : Nat := 2
abbrev dpSleep : Nat := 3
abbrev dpOut : Nat := 4

/-- The port TB follows with ROLE 2: TB_PARENT, or ALT_PARENT while that is not ACTIVE (R400). -/
def tbParent (w : Work) : Option Nat :=
  let p := w.rd Reg.DRV_TB_PARENT
  let a := w.rd Reg.DRV_ALT_PARENT
  if w.rd Reg.DPORT_STATE p = dpActive then some p
  else if a < 4 ∧ w.rd Reg.DPORT_STATE a = dpActive then some a else none

/-- The flit times a port has lost for want of a credit are counted, and none is being lost any more (R386, R387): a flit takes 8.125 ns at 8
lanes, twice that at 4 and four times at 2. -/
def endStall (w : Work) (p : Nat) : Work :=
  let x := w.dport p
  if x.stall = 0 then w
  else
    let lost := (w.now + 1 - x.stall) * 1000 / (8125 * 2 ^ w.rd Reg.DPORT_WIDTH p)
    (w.setDport p { x with stall := 0 }).add Reg.DRV_CNT_CREDIT_STALL lost p

/-- Give a port a state; where TB has no parent left, LOCKED reads 0 (R400). -/
def setPortState (w : Work) (p st : Nat) : Work :=
  let w := (w.endStall p).wr Reg.DPORT_STATE st p
  if w.rd Reg.QE_TB_ROLE = 2 ∧ w.tbParent = none then w.wr Reg.DRV_LOCKED 0 else w

/-! ### Sending flits (R387, R388) -/

/-- Send one flit of the first waiting packet whose virtual channel has a credit, while the replay buffer has room. It returns the credits the
port owes, but none while the reorder store is full (R392). -/
def sendFlit (w : Work) (p : Nat) : Option Work :=
  let x := w.dport p
  if w.rd Reg.DPORT_STATE p ≠ dpActive ∨ 256 ≤ x.replay.length then none
  else match x.queue.findIdx? (fun q => decide (0 < x.credits.getD q.vc 0)) with
    | none => none
    | some k =>
      match x.queue[k]? with
      | none => none
      | some q =>
        let queue := if q.left ≤ 1 then x.queue.eraseIdx k else x.queue.set k { q with left := q.left - 1 }
        let w := w.endStall p
        some ((w.setDport p { x with
          queue := queue, credits := x.credits.set q.vc (x.credits.getD q.vc 0 - 1), stall := 0
          owed := if 256 ≤ w.d.drv.held.length then x.owed else [0, 0]
          txSeq := (x.txSeq + 1) % 4096, replay := x.replay ++ [⟨x.txSeq, q.vc, q.pk, w.now⟩] }).inc Reg.DRV_CNT_FLITS_TX p)

/-- From now on flit times are lost where packets wait, the replay buffer has room and no credit is there (R387). -/
def noteStall (w : Work) (p : Nat) : Work :=
  let x := w.dport p
  if w.rd Reg.DPORT_STATE p = dpActive ∧ !x.queue.isEmpty ∧ x.replay.length < 256 ∧ x.stall = 0 then w.setDport p { x with stall := w.now + 1 }
  else w

/-- Send flits while one can go; fuel bounds their number. -/
def pumpPort : Nat → Work → Nat → Work
  | 0, w, _ => w
  | n + 1, w, p =>
    match w.sendFlit p with
    | none => w.noteStall p
    | some w => pumpPort n w p

/-- Put a packet into a port's queue, and send what can go. -/
def queuePacket (w : Work) (p vc : Nat) (pk : DrvPacket) : Work :=
  let x := w.dport p
  pumpPort 512 (w.setDport p { x with queue := x.queue ++ [⟨vc, pk, ceilDiv (pkSize pk) 244⟩] }) p

/-! ### Routing (R391, R392) -/

/-- Can a port take traffic: ACTIVE, or SLEEP, where it is held (R401, R429)? -/
def portUsable (w : Work) (p : Nat) : Bool := w.rd Reg.DPORT_STATE p == dpActive || w.rd Reg.DPORT_STATE p == dpSleep

/-- The virtual channel of a link out of coordinate here, towards higher coordinates or lower ones, for a packet that began the dimension at from_:
VC1 once the wrap link is crossed (R392). -/
def linkVc (up : Bool) (here from_ size : Nat) : Nat :=
  if up then b2n (decide (here < from_) || decide (here = size - 1)) else b2n (decide (from_ < here) || decide (here = 0))

/-- The virtual channel a packet came in on by a port: that of the neighbour's link towards this device. -/
def arrivalVc (w : Work) (p : Nat) (pk : DrvPacket) : Nat :=
  let xs := w.rd Reg.DRV_X_SIZE
  let ys := w.rd Reg.DRV_Y_SIZE
  let mx := w.rd Reg.DRV_MY_X
  let my := w.rd Reg.DRV_MY_Y
  match p with
  | 0 => linkVc true ((my + ys - 1) % ys) (pk.head.src / xs) ys
  | 1 => linkVc false ((mx + 1) % xs) (pk.head.src % xs) xs
  | 2 => linkVc false ((my + 1) % ys) (pk.head.src / xs) ys
  | _ => linkVc true ((mx + xs - 1) % xs) (pk.head.src % xs) xs

/-- The port and virtual channel of a packet's next link: x first, then y, the shorter way round, E and S when equal, the other way where the
port is out of service; VC1 once the wrap link of the dimension is crossed. none where no way is left. -/
def route (w : Work) (pk : DrvPacket) : Option (Nat × Nat) :=
  let xs := w.rd Reg.DRV_X_SIZE
  let ys := w.rd Reg.DRV_Y_SIZE
  let mx := w.rd Reg.DRV_MY_X
  let my := w.rd Reg.DRV_MY_Y
  if xs * ys ≤ pk.head.dest ∨ xs = 0 then none
  else
    let tx := pk.head.dest % xs
    let ty := pk.head.dest / xs
    let pick := fun (here there from_ size up down : Nat) =>
      let dist := (there + size - here) % size
      let want := decide (2 * dist ≤ size)
      let isUp := if w.portUsable (if want then up else down) then want else !want
      let port := if isUp then up else down
      if w.portUsable port then some (port, linkVc isUp here from_ size) else none
    if tx ≠ mx then pick mx tx (pk.head.src % xs) xs 1 3
    else if ty ≠ my then pick my ty (pk.head.src / xs) ys 2 0
    else none

/-- Send a packet on; false where no route is left. -/
def forward (w : Work) (pk : DrvPacket) : Work × Bool :=
  match w.route pk with
  | none => (w, false)
  | some (p, vc) => (w.queuePacket p vc pk, true)

/-- The port on the route to a device; port 0 where none is left. -/
def portTo (w : Work) (dest : Nat) : Nat :=
  match w.route ⟨⟨dest, w.rd Reg.DRV_DEVICE_ID, 0⟩, .timeSync⟩ with
  | some (p, _) => p
  | none => 0

/-- Answer a packet for the device it was sent to (R389, R392). -/
def answerPacket (w : Work) (pk : DrvPacket) (status : Nat) : Work :=
  (w.forward ⟨⟨pk.head.src, pk.head.dest, pk.head.pseq⟩, .answer (pkTag pk) status false⟩).1

/-- A packet that has come in and is for another device goes on, or is answered DEVICE_UNREACHABLE where no way is left (R392). -/
def passOn (w : Work) (pk : DrvPacket) : Work :=
  match w.forward pk with
  | (w, true) => w
  | (w, false) => if pkOrdered pk then w.answerPacket pk stDeviceUnreachable else w

/-- A GEN_NOTICE to every device in DRV_SUBSCRIBERS (R396, R399). -/
def notify (w : Work) (b : DrvBody) : Work :=
  w.upTo 8 (fun w k =>
    let d := bits (w.rd Reg.DRV_SUBSCRIBERS) (8 * k + 7) (8 * k)
    if d = 0xFF then w else (w.forward ⟨⟨d, w.rd Reg.DRV_DEVICE_ID, 0⟩, b⟩).1)

/-- At an instantiation every REMOTE_VISIBLE flag's new generation is sent (R399). -/
def notifyFlags (w : Work) (id : Nat) : Work :=
  match w.grun? id with
  | none => w
  | some r =>
    let g := w.version r.seq
    w.upTo g.flagCount (fun w i =>
      if g.remoteVisible i then w.notify (.flagNotice (w.flagOf r i) (w.rd Reg.FLAG_GENERATION (w.flagOf r i))) else w)

/-! ### Ports: training, loss and degradation (R386, R402, R429) -/

/-- Start training from step 1 at full width. -/
def trainPort (w : Work) (p : Nat) : Work :=
  ((w.setDport p { w.dport p with step := 1, fails := 0, cap := 0, hello := false, replays := [], off := false }).wr Reg.DPORT_WIDTH 0 p).setPortState p dpTraining

/-- A port goes to OUT. -/
def portOut (w : Work) (p : Nat) : Work :=
  (w.setDport p { w.dport p with step := 0, hello := false }).setPortState p dpOut

/-- A port's registers take their reset values; ENABLE stands (R423, R429). -/
def clearPortRegs (w : Work) (p : Nat) : Work :=
  let w := w.endStall p
  let at_ := 8 * (0xA02000 + 0x100 * p)
  let en := w.rd Reg.DPORT_ENABLE p
  { w with d := { w.d with regs := w.d.regs.filter (fun e => decide (e.1 < at_ ∨ at_ + 0x800 ≤ e.1)) } }.wr Reg.DPORT_ENABLE en p

/-- A port goes to DOWN. -/
def portDown (w : Work) (p : Nat) : Work :=
  (w.setDport p { w.dport p with step := 0, hello := false, off := true }).setPortState p dpDown

/-- A Dravig link reset (R423, R429): the port's registers are cleared, and it trains from step 1 where it is enabled. -/
def linkReset (w : Work) (p : Nat) : Work :=
  let w := (w.clearPortRegs p).portDown p
  if w.on Reg.DPORT_ENABLE p then w.trainPort p else w

/-- ENABLE is written (R404, R429): 0 takes the port to DOWN, 0 to 1 starts training, and 1 after a written 0 is a link reset. -/
def drvPortEnable (w : Work) (p : Nat) (v : Bool) : Work :=
  let was := w.on Reg.DPORT_ENABLE p
  let w := w.wr Reg.DPORT_ENABLE (b2n v) p
  if !v then w.portDown p
  else if was then w
  else if (w.dport p).off then w.linkReset p
  else w.trainPort p

/-- The neighbour drops the link, which resets it (R429). -/
def linkDrop (w : Work) (p : Nat) : Work :=
  let st := w.rd Reg.DPORT_STATE p
  if st = dpDown ∨ st = dpOut then w else w.linkReset p

/-- A port takes half its lanes and retrains, or goes to OUT from two (R402). -/
def degradePort (w : Work) (p : Nat) : Work :=
  let wid := w.rd Reg.DPORT_WIDTH p
  let w := (w.err (uDravig p) stLinkDegraded).inc Reg.DRV_CNT_DEGRADES p
  if 2 ≤ wid then w.portOut p
  else
    ((w.setDport p { w.dport p with step := 1, fails := 0, cap := wid + 1, hello := false, replays := [] }).wr Reg.DPORT_WIDTH (wid + 1) p).setPortState p dpTraining

/-- A port enters ACTIVE: what its replay buffer holds is resent in order, and waiting packets follow (R402, R429). -/
def portActive (w : Work) (p : Nat) : Work :=
  let x := w.dport p
  let t := w.now
  pumpPort 4096 ((w.setDport p { x with step := 0, replay := x.replay.map (fun f => { f with tb := t }) }).setPortState p dpActive) p

/-- A training step fails: the port returns to step 1, or goes to OUT after three failures (R386). -/
def trainFail (w : Work) (p : Nat) : Work :=
  let x := w.dport p
  if 3 ≤ x.fails + 1 then (w.setDport p { x with fails := 3 }).portOut p
  else w.setDport p { x with step := 1, fails := x.fails + 1, hello := false }

/-- The present training step of a port ends (R386): it passes with the number of lanes that hold, or fails. Step 1 sets the width the
lanes allow, step 3 needs the HELLO of the neighbour, and step 4 is ACTIVE. -/
def trainStep (w : Work) (p lanes : Nat) (pass : Bool) : Work :=
  let x := w.dport p
  if w.rd Reg.DPORT_STATE p ≠ dpTraining then w
  else if !pass then w.trainFail p
  else match x.step with
    | 1 =>
      if lanes < 2 then w.trainFail p
      else
        let wid := max x.cap (if 8 ≤ lanes then 0 else if 4 ≤ lanes then 1 else 2)
        (w.setDport p { x with step := 2 }).wr Reg.DPORT_WIDTH wid p
    | 2 => w.setDport p { x with step := 3 }
    | _ => if x.hello && w.on Reg.DRV_ID_VALID then w.portActive p else w.trainFail p

/-- Where the neighbour beyond a port stands in the torus, as its device ID (R386, R391). -/
def beyond (w : Work) (p : Nat) : Nat :=
  let xs := w.rd Reg.DRV_X_SIZE
  let ys := w.rd Reg.DRV_Y_SIZE
  let mx := w.rd Reg.DRV_MY_X
  let my := w.rd Reg.DRV_MY_Y
  match p with
  | 0 => (my + ys - 1) % ys * xs + mx
  | 1 => my * xs + (mx + 1) % xs
  | 2 => (my + 1) % ys * xs + mx
  | _ => my * xs + (mx + xs - 1) % xs

/-- The neighbour's HELLO at step 3 (R386): it must have the same torus, a valid ID, the place beyond the port and the opposite port; else
the port goes to OUT with an error record. Until ID_VALID reads 1 no HELLO passes (R391). -/
def hello (w : Work) (p id x y port : Nat) (idValid : Bool) : Work :=
  if w.rd Reg.DPORT_STATE p ≠ dpTraining ∨ (w.dport p).step ≠ 3 ∨ !w.on Reg.DRV_ID_VALID then w
  else
    let w := w.wr Reg.DPORT_NEIGHBOUR_ID id p
    if x = w.rd Reg.DRV_X_SIZE ∧ y = w.rd Reg.DRV_Y_SIZE ∧ idValid ∧ id = w.beyond p ∧ port = (p + 2) % 4 then
      w.setDport p { w.dport p with hello := true }
    else (w.err (uDravig p) stLinkDegraded id).portOut p

/-! ### Receiving flits (R387, R388) -/

/-- Resend everything from the oldest unacknowledged flit, and degrade a port whose replays are too many (R388, R402). -/
def replayFlits (w : Work) (p : Nat) : Work :=
  let x := w.dport p
  if x.replay.isEmpty then w
  else
    let t := w.now
    let win := w.rd Reg.DPORT_ERR_WINDOW_US p * 1000
    let reps := t :: x.replays.filter (fun r => decide (t < r + win))
    let w := (w.setDport p { x with replay := x.replay.map (fun f => { f with tb := t }), replays := reps }).inc Reg.DRV_CNT_REPLAYS p
    if w.rd Reg.DPORT_ERR_LIMIT p < reps.length then w.degradePort p else w

/-- Acknowledge every flit up to ACK_SEQ; an acknowledgement in the V-cycle of the replay timer is a near miss (R74, R388). -/
def ackFlits (w : Work) (p ack : Nat) : Work :=
  let x := w.dport p
  match x.replay.head? with
  | none => w
  | some f =>
    let gone := x.replay.takeWhile (fun f => seqLe 12 f.seq ack)
    if gone.isEmpty then w
    else
      let w := w.collide (uDravig p) (f.tb + w.rd Reg.DPORT_REPLAY_TIMEOUT_NS p)
      let w := if w.atDue (f.tb + w.rd Reg.DPORT_REPLAY_TIMEOUT_NS p) then (w.inc Reg.DRV_CNT_NEAR_MISS).wr Reg.DRV_NEAR_MISS_TB w.now else w
      w.setDport p { x with replay := x.replay.drop gone.length }

/-- A flit comes in (R388): one that fails its CRC or is out of sequence is discarded and answered with NACK; one in order returns credits
and acknowledges, or asks for a replay. The packets its stream completes come as commands of their own. -/
def flitReceive (w : Work) (p : Nat) (bs : List Byte) : Work :=
  if w.rd Reg.DPORT_STATE p ≠ dpActive then w
  else
    let w := w.inc Reg.DRV_CNT_FLITS_RX p
    let x := w.dport p
    if !flitGood bs then (w.inc Reg.DRV_CNT_CRC_ERR p).setDport p { x with nack := true }
    else
      let h := flitWord bs 0
      let c := flitWord bs 1
      if bits h 11 0 ≠ x.rxSeq then w.setDport p { x with nack := true }
      else
        let w := w.setDport p { x with
          rxSeq := (x.rxSeq + 1) % 4096, ackValid := true, nack := false
          credits := [min 32 (x.credits.getD 0 0 + bits c 7 0), min 32 (x.credits.getD 1 0 + bits c 15 8)] }
        let w := if bitAt h 24 then w.ackFlits p (bits h 23 12) else w
        let w := if bitAt h 25 then w.replayFlits p else w
        pumpPort 512 w p

/-- The oldest unacknowledged flit has waited REPLAY_TIMEOUT_NS (R388). -/
def replayTimeout (w : Work) (p : Nat) : Work :=
  match (w.dport p).replay.head? with
  | none => w
  | some f =>
    if w.rd Reg.DPORT_STATE p ≠ dpActive then w
    else (w.advance (f.tb + w.rd Reg.DPORT_REPLAY_TIMEOUT_NS p)).replayFlits p

/-! ### Windows (R394 to R396) -/

/-- Open a window (R394). -/
def windowOpen (w : Work) (req win : Nat) : Work :=
  if w.on Reg.WIN_OPEN win then w
  else
    let base := w.rd Reg.WIN_BASE win
    let size := w.rd Reg.WIN_SIZE win
    if base % 4096 ≠ 0 ∨ size % 4096 ≠ 0 ∨ size < 4096 ∨ 0x4000000 < size ∨ !(w.inDram base size || w.inRole 2 base size) then w.log req
    else (w.wr Reg.WIN_OPEN 1 win).notify (.windowNotice win (w.rd Reg.WIN_GEN win) true)

/-- Close a window (R394, R395): GEN rises, and DRAINED reads 0 until the packets that passed their check are visible. -/
def windowClose (w : Work) (win : Nat) : Work :=
  if !w.on Reg.WIN_OPEN win then w
  else
    let w := ((w.wr Reg.WIN_OPEN 0 win).wr Reg.WIN_GEN ((w.rd Reg.WIN_GEN win + 1) % 65536) win).wr Reg.WIN_DRAINED 0 win
    w.notify (.windowNotice win (w.rd Reg.WIN_GEN win) false)

/-- Every packet that passed its check before the close is visible (R395). -/
def windowDrained (w : Work) (win : Nat) : Work := if w.on Reg.WIN_OPEN win then w else w.wr Reg.WIN_DRAINED 1 win

/-- The check of a window packet (R395): the status it fails with, or none. -/
def windowCheck (w : Work) (win gen off len : Nat) : Option Nat :=
  if !w.on Reg.WIN_OPEN win ∨ gen ≠ w.rd Reg.WIN_GEN win then some stWindowClosed
  else if w.rd Reg.WIN_SIZE win < off + len then some stBoundFault
  else none

/-! ### Applying packets in order (R392, R393, R395) -/

/-- The graph version a flag belongs to, and its flag index (R59). -/
def flagOwner (w : Work) (f : Nat) : Option (GVer × Nat) :=
  (w.d.ldr.graphs.find? (fun g => decide (g.base ≤ f ∧ f < g.base + g.flagCount * g.maxRuns))).map (fun g => (g, (f - g.base) % g.flagCount))

/-- A packet has been applied: a cumulative answer will cover it (R393). -/
def cover (w : Work) (pk : DrvPacket) : Work :=
  w.setDrv { w.d.drv with covered := tset (0, 0) w.d.drv.covered pk.head.src ((tget (0, 0) w.d.drv.covered pk.head.src).1 + 1, pk.head.pseq) }

/-- A window packet fails its check: it is dropped whole and answered at once (R395). -/
def dropPacket (w : Work) (pk : DrvPacket) (win st : Nat) : Work := (w.inc Reg.DRV_WIN_CNT_DROPS win).answerPacket pk st

/-- A window packet passed its check: the window's counter and the port it names in a denied claim (R394, R395). -/
def packetApplied (w : Work) (p : Nat) (pk : DrvPacket) (win : Nat) : Work :=
  let w := (w.inc Reg.DRV_WIN_CNT_APPLIED win).cover pk
  w.setDrv { w.d.drv with lastPort := tset 0 w.d.drv.lastPort win (p + 1) }

/-- A FLAG_SIGNAL acts on its flag (R60, R64, R399): refused where the flag is not remote-visible or the generation is stale. -/
def remoteSignal (w : Work) (pk : DrvPacket) (f gen inc : Nat) : Work :=
  let visible := match w.flagOwner f with
    | some (g, i) => g.remoteVisible i
    | none => false
  if !visible then (w.inc Reg.KS_CNT_REMOTE_REFUSED).answerPacket pk stRemoteRefused
  else
    let others := w.d.ks.signals
    let stale := decide (w.rd Reg.FLAG_GENERATION f ≠ gen)
    let w := (w.setKs { w.d.ks with signals := [⟨f, low 24 inc, gen, true⟩] }).flagApply f 1
    let w := w.setKs { w.d.ks with signals := others ++ w.d.ks.signals }
    if stale then w.answerPacket pk stRemoteRefused else w.cover pk

/-- A packet that is next in PSEQ order acts (R392, R395). -/
def applyPacket (w : Work) (p : Nat) (pk : DrvPacket) : Work :=
  match pk.body with
  | .write win gen _ off d =>
    (match w.windowCheck win gen off d.length with
    | some st => w.dropPacket pk win st
    | none =>
      match w.writeAt (uDravig p) (w.rd Reg.WIN_BASE win + off) d with
      | (w, st) => if st = stOk then w.packetApplied p pk win else w.dropPacket pk win st)
  | .read win gen tag off len =>
    (match w.windowCheck win gen off len with
    | some st => w.dropPacket pk win st
    | none =>
      match w.readAt (uDravig p) (w.rd Reg.WIN_BASE win + off) len with
      | (w, st, d) =>
        if st = stOk then ((w.packetApplied p pk win).forward ⟨⟨pk.head.src, pk.head.dest, pk.head.pseq⟩, .readData tag d⟩).1
        else w.dropPacket pk win st)
  | .flagSignal f gen _ inc => w.remoteSignal pk f gen inc
  | _ => w

/-- The PSEQ a source's next packet is to carry. -/
def expected (w : Work) (src : Nat) : Nat := tget 0 w.d.drv.expect src

/-- Act on held packets of a source while the next one is there. -/
def applyHeld : Nat → Work → Nat → Work
  | 0, w, _ => w
  | n + 1, w, src =>
    match w.d.drv.held.find? (fun h => h.2.head.src == src && h.2.head.pseq == w.expected src) with
    | none => w
    | some h =>
      let w := w.setDrv { w.d.drv with held := w.d.drv.held.filter (fun x => decide (x ≠ h)), expect := tset 0 w.d.drv.expect src ((w.expected src + 1) % 65536) }
      applyHeld n (w.applyPacket h.1 h.2) src

/-- An ordered packet arrives (R392): the next one acts, with the held ones behind it; one ahead of a gap is held; one that has acted before is
dropped. While the reorder store is full it stays at its port. -/
def orderPacket (w : Work) (p : Nat) (pk : DrvPacket) : Work :=
  let e := w.expected pk.head.src
  if pk.head.pseq = e then
    let w := w.setDrv { w.d.drv with expect := tset 0 w.d.drv.expect pk.head.src ((e + 1) % 65536) }
    applyHeld 257 (w.applyPacket p pk) pk.head.src
  else if seqLe 16 pk.head.pseq e then w
  else if 256 ≤ w.d.drv.held.length then w.setDrv { w.d.drv with kept := w.d.drv.kept ++ [(p, pk)] }
  else (w.inc Reg.DRV_CNT_REORDER_HELD).setDrv { w.d.drv with held := w.d.drv.held ++ [(p, pk)] }

/-- Take packets that ports kept back, while the reorder store has room. -/
def takeKept : Nat → Work → Work
  | 0, w => w
  | n + 1, w =>
    match w.d.drv.kept with
    | [] => w
    | (p, pk) :: r =>
      if 256 ≤ w.d.drv.held.length ∧ pk.head.pseq ≠ w.expected pk.head.src then w
      else takeKept n ((w.setDrv { w.d.drv with kept := r }).orderPacket p pk)

/-! ### DRAVIG_SEND (R397 to R399) -/

/-- The parameter words of a DRAVIG_SEND node as items of eight words. -/
def sendItems (p : List Nat) : List (List Nat) := (List.range (bits (wd p 0) 4 0)).map (fun i => (p.drop (6 + 8 * i)).take 8)

/-- The device, window and offset of a Dravig address (R394). -/
def dravigPlace (a : Nat) : Nat × Nat × Nat :=
  ((a - 0xC000000000) / 0x100000000, a % 0x100000000 / 0x4000000, a % 0x4000000)

/-- Write the answer record once every packet has been issued and answered, and signal output port 0 (R398). -/
def finishSend (w : Work) (id : Nat) : Work :=
  match w.d.drv.sends.find? (fun s => s.id == id) with
  | none => w
  | some s =>
    if s.item < s.items.length ∨ w.d.drv.unans.any (fun u => u.send == id) then w
    else
      let ws := [1, s.first.getD 0 0, s.packets, s.refused, pack [(s.first.getD 1 0, 0, 8), (s.first.getD 2 0, 8, 8)], s.first.getD 3 0]
      let w := w.setDrv { w.d.drv with sends := w.d.drv.sends.filter (fun x => x.id != id) }
      let (w, _) := w.writeAt uKeystone s.record (wordsBytes (ws ++ List.replicate 10 0))
      w.signalPort s.run s.node 0 1

/-- Change a DRAVIG_SEND instance (R398). -/
def modSend (w : Work) (id : Nat) (f : SendOp → SendOp) : Work :=
  w.setDrv { w.d.drv with sends := w.d.drv.sends.map (fun s => if s.id = id then f s else s) }

/-- A packet of a DRAVIG_SEND has failed with a status: the answer record's counts and first failure (R398). -/
def failPacket (w : Work) (u : Unans) (st : Nat) : Work :=
  w.modSend u.send (fun s => { s with
    refused := s.refused + 1, first := if s.first.isEmpty then [st, u.item, u.window, u.offset] else s.first })

/-- A packet is refused by its peer, or finds no route or no answer (R390, R393, R398): the error record that names the port, the peer and the
window, the counters, and the answer record. A packet that fails with DEVICE_UNREACHABLE counts as refused (DESIGN CHOICE, log entry 87). -/
def refusePacket (w : Work) (p : Nat) (u : Unans) (st : Nat) : Work :=
  let w := (w.err (uDravig p) st u.dest 0 u.window).inc Reg.DRV_CNT_TX_REFUSED
  (if st = stDeviceUnreachable then w.inc Reg.DRV_CNT_UNREACHABLE else w).failPacket u st

/-- The next packet of an instance, as its body without TAG, destination, remote window and offset, local address and length. -/
structure NextPk where
  dest : Nat
  window : Nat
  offset : Nat
  addr : Nat
  len : Nat
  kind : Nat
  deriving DecidableEq, Repr

/-- What an instance sends next (R398): WRITE and READ items split at 256-byte boundaries of REMOTE. -/
def nextPacket (w : Work) (s : SendOp) : Option NextPk :=
  match s.items[s.item]? with
  | none => none
  | some i =>
    let kind := bits (wd i 0) 1 0
    if kind = 2 then
      let t := bits (wd i 4) 7 0
      some ⟨w.rd Reg.TGT_DEVICE t, 0, w.rd Reg.TGT_FLAG t, 0, bits (wd i 1) 23 0, 2⟩
    else
      let remote := wd64 i 4 + s.stride + s.done
      let (d, win, off) := dravigPlace remote
      some ⟨d, win, off, wd64 i 2 + s.stride + s.done, min (wd i 1 - s.done) (256 - remote % 256), kind⟩

/-- Send the packet of an instance; a packet that finds no route fails at once (R390, R398). -/
def sendNext (w : Work) (s : SendOp) (n : NextPk) : Work :=
  let me := w.rd Reg.DRV_DEVICE_ID
  let pseq := tget 0 w.d.drv.nextSeq n.dest
  let tag := w.d.drv.tag
  let (w, st, data) := if n.kind = 0 then w.readAt (uDravig (w.portTo n.dest)) n.addr n.len else (w, stOk, [])
  let gen := w.rd Reg.PEER_GEN (64 * n.dest + n.window)
  let body := match n.kind with
    | 0 => DrvBody.write n.window gen tag n.offset data
    | 1 => DrvBody.read n.window gen tag n.offset n.len
    | _ => DrvBody.flagSignal n.offset (s.gens.getD s.item 0) tag n.len
  let u : Unans := ⟨n.dest, pseq, tag, s.id, s.item, n.window, n.offset, n.kind == 1, n.addr, n.len, w.now⟩
  let ends := decide (n.kind = 2) || decide (wd (s.items.getD s.item []) 1 ≤ s.done + n.len)
  let w := w.modSend s.id (fun s => { s with
    packets := s.packets + 1, item := if ends then s.item + 1 else s.item, done := if ends then 0 else s.done + n.len })
  if st ≠ stOk then w.failPacket u st
  else match w.forward ⟨⟨n.dest, me, pseq⟩, body⟩ with
    | (w, false) => w.refusePacket 0 u stDeviceUnreachable
    | (w, true) => w.setDrv { w.d.drv with
        unans := w.d.drv.unans ++ [u], nextSeq := tset 0 w.d.drv.nextSeq n.dest ((pseq + 1) % 65536), tag := (tag + 1) % 65536 }

/-- Issue packets of an instance while its destination has fewer than 2,048 unanswered ones (R393); the node finishes when all are
issued. -/
def pumpSend : Nat → Work → Nat → Work
  | 0, w, _ => w
  | k + 1, w, id =>
    match w.d.drv.sends.find? (fun s => s.id == id) with
    | none => w
    | some s =>
      match w.nextPacket s with
      | none => (w.finishNode s.run s.node).finishSend id
      | some n =>
        if 2048 ≤ (w.d.drv.unans.filter (fun u => u.dest == n.dest)).length then w
        else pumpSend k (w.sendNext s n) id

/-- Packets of at most 16 items of 64 MiB, and the one step more that ends an instance. -/
def sendFuel : Nat := 16 * 262145 + 2

/-- Let every instance issue what it can. -/
def pumpSends (w : Work) : Work := (w.d.drv.sends.map SendOp.id).foldl (fun w id => pumpSend sendFuel w id) w

/-- The flag targets that a node's SIGNAL items name. -/
def sendTargets (p : List Nat) : List Nat := ((sendItems p).filter (fun i => bits (wd i 0) 1 0 == 2)).map (fun i => bits (wd i 4) 7 0)

/-- A DRAVIG_SEND is ready only when every target it names is ARMED (R399). -/
def sendReady (w : Work) (p : List Nat) : Bool := (sendTargets p).all (fun t => w.on Reg.TGT_ARMED t)

/-- The port a DRAVIG_SEND is taken by: that on the route to its first item's peer (R55, R398). -/
def sendPort (w : Work) (p : List Nat) (slot : Nat) : Nat :=
  match (sendItems p).head? with
  | none => 0
  | some i =>
    let d := if bits (wd i 0) 1 0 = 2 then w.rd Reg.TGT_DEVICE (bits (wd i 4) 7 0) else (dravigPlace (wd64 i 4 + slot * wd p 2)).1
    w.portTo d

/-- A dispatched DRAVIG_SEND captures the generations of its targets, clears ARMED, and issues its items in order (R398, R399). -/
def sendStart (w : Work) (id n : Nat) : Work :=
  match w.grun? id with
  | none => w
  | some r =>
    let p := (w.version r.seq).params n
    let off := r.slot * wd p 2
    let items := sendItems p
    let gens := items.map (fun i => if bits (wd i 0) 1 0 = 2 then w.rd Reg.TGT_GEN (bits (wd i 4) 7 0) else 0)
    let w := (sendTargets p).foldl (fun w t => w.wr Reg.TGT_ARMED 0 t) w
    let k := w.d.drv.nextSend
    let s : SendOp := ⟨k, id, n, items, off, wd64 p 4 + off, 0, 0, gens, 0, 0, []⟩
    pumpSend sendFuel (w.setDrv { w.d.drv with sends := w.d.drv.sends ++ [s], nextSend := k + 1 }) k

/-! ### Answers (R393, R398) -/

/-- An unanswered packet is retired with a status: a near miss where the answer met the timeout (R74), and a refusal's record. -/
def retire (w : Work) (p : Nat) (u : Unans) (st : Nat) : Work :=
  let w := w.collide (uDravig p) (u.tb + w.rd Reg.DRV_ANSWER_TIMEOUT_NS)
  let w := if w.atDue (u.tb + w.rd Reg.DRV_ANSWER_TIMEOUT_NS) then (w.inc Reg.DRV_CNT_NEAR_MISS).wr Reg.DRV_NEAR_MISS_TB w.now else w
  let w := w.setDrv { w.d.drv with unans := w.d.drv.unans.filter (fun x => decide (x ≠ u)) }
  let w := if st = stOk then w else w.refusePacket p u st
  w.finishSend u.send

/-- An answer (R389, R393): its own packet, or with CUMULATIVE every packet up to it whose data is not still to come. -/
def drvAnswer (w : Work) (p src pseq status : Nat) (cumulative : Bool) : Work :=
  let hit := if cumulative then w.d.drv.unans.filter (fun u => u.dest == src && !u.isRead && seqLe 16 u.pseq pseq)
    else w.d.drv.unans.filter (fun u => u.dest == src && u.pseq == pseq)
  (hit.foldl (fun w u => w.retire p u status) w).pumpSends

/-- Read data comes back and is written to LOCAL (R398). -/
def readData (w : Work) (p src tag : Nat) (d : List Byte) : Work :=
  match w.d.drv.unans.find? (fun u => u.dest == src && u.isRead && u.tag == tag) with
  | none => w
  | some u =>
    let (w, st) := w.writeAt (uDravig p) u.addr (d.take u.len)
    (w.retire p u st).pumpSends

/-- The oldest unanswered packet of a destination has waited ANSWER_TIMEOUT_NS: every packet due then fails with
DEVICE_UNREACHABLE, and RESYNC carries the lowest PSEQ still held (R393). -/
def answerTimeout (w : Work) (dest : Nat) : Work :=
  match w.d.drv.unans.find? (fun u => u.dest == dest) with
  | none => w
  | some u =>
    let lim := w.rd Reg.DRV_ANSWER_TIMEOUT_NS
    let w := w.advance (u.tb + lim)
    let t := w.now
    let due := w.d.drv.unans.filter (fun u => u.dest == dest && decide (u.tb + lim ≤ t))
    let w := w.setDrv { w.d.drv with unans := w.d.drv.unans.filter (fun u => !(u.dest == dest && decide (u.tb + lim ≤ t))) }
    let w := due.foldl (fun w u => w.refusePacket (w.portTo dest) u stDeviceUnreachable) w
    let lowest := match w.d.drv.unans.find? (fun u => u.dest == dest) with
      | some u => u.pseq
      | none => tget 0 w.d.drv.nextSeq dest
    let w := (w.forward ⟨⟨dest, w.rd Reg.DRV_DEVICE_ID, 0⟩, .resync lowest⟩).1
    ((due.map Unans.send).eraseDups.foldl (fun w s => w.finishSend s) w).pumpSends

/-- A cumulative OK answer to a source whose packets have been applied (R393). -/
def cumulativeAnswer (w : Work) (src : Nat) : Work :=
  let c := tget (0, 0) w.d.drv.covered src
  if c.1 = 0 then w
  else
    let w := w.setDrv { w.d.drv with covered := tdel w.d.drv.covered src }
    (w.forward ⟨⟨src, w.rd Reg.DRV_DEVICE_ID, c.2⟩, .answer 0 stOk true⟩).1

/-- RESYNC of a source: its expected PSEQ, from where held packets act (R393). -/
def resync (w : Work) (src lowest : Nat) : Work :=
  let w := w.setDrv { w.d.drv with expect := tset 0 w.d.drv.expect src (low 16 lowest) }
  takeKept 1024 (applyHeld 257 w src)

/-! ### Notices, time and sleep (R396, R399, R400, R401) -/

/-- A GEN_NOTICE of a window: the peer table and a Mason event (R396). -/
def windowNotice (w : Work) (p src win gen : Nat) (isOpen : Bool) : Work :=
  let i := 64 * src + win
  let w := w.inc Reg.DRV_CNT_NOTICES
  let w := if src < 192 then (w.wr Reg.PEER_GEN gen i).wr Reg.PEER_VALID (b2n isOpen) i else w
  w.offer (uDravig p) 2 (w.rd Reg.DRV_NOTICE_CHANNEL) 1

/-- A GEN_NOTICE of a flag: every target that matches is armed (R399). -/
def flagNotice (w : Work) (src f gen : Nat) : Work :=
  (w.inc Reg.DRV_CNT_NOTICES).upTo 256 (fun w t =>
    if w.rd Reg.TGT_DEVICE t = src ∧ w.rd Reg.TGT_FLAG t = f then (w.wr Reg.TGT_GEN gen t).wr Reg.TGT_ARMED 1 t else w)

/-- TIME_SYNC goes to the parent every SYNC_PERIOD_US (R400). -/
def timeSyncSend (w : Work) : Work :=
  if w.rd Reg.QE_TB_ROLE ≠ 2 ∨ w.on Reg.DRV_TB_MASTER then w
  else match w.tbParent with
    | none => w
    | some p =>
      let w := w.advance w.d.drv.syncNext
      let w := w.setDrv { w.d.drv with syncOut := true, syncNext := w.now + 1000 * w.rd Reg.DRV_SYNC_PERIOD_US }
      w.queuePacket p 0 ⟨⟨w.rd Reg.DPORT_NEIGHBOUR_ID p, w.rd Reg.DRV_DEVICE_ID, 0⟩, .timeSync⟩

/-- A TIME_SYNC exchange completes with its four stamps: sent and received back by this device, received and sent by the parent. The offset
at its midpoint corrects TB by the rules of R368 (R400). -/
def timeSync (w : Work) (p sent taken back got : Nat) : Work :=
  if w.rd Reg.QE_TB_ROLE ≠ 2 ∨ w.on Reg.DRV_TB_MASTER ∨ w.tbParent ≠ some p ∨ !w.d.drv.syncOut then w
  else
    let off : Int := (((sent : Int) - taken) + ((got : Int) - back)) / 2
    let w := w.wr Reg.DRV_TB_LAST_OFFSET (wrapInt 32 off)
    let good := if off < 50 ∧ -50 < off then w.d.drv.syncGood + 1 else 0
    let w := w.wr Reg.DRV_LOCKED (b2n (decide (8 ≤ good)))
    let step := !w.d.drv.syncDone && w.on Reg.QE_TB_STEP_EN && !w.on Reg.KS_DISPATCH_EN
    let w := w.setDrv { w.d.drv with syncOut := false, syncGood := good, syncDone := true }
    let w := w.setHif { w.d.hif with slew := if step then 0 else -(11 * off) }
    if step then
      let w := { w with d := { w.d with clk := { w.d.clk with tb11 := 11 * ((w.now : Int) - off).toNat } } }
      w.err uPcie stOk 0 0 (wrapInt 32 (-off))
    else w

/-- The neighbour puts its lanes in electrical idle (R401). -/
def neighbourSleep (w : Work) (p : Nat) : Work := if w.rd Reg.DPORT_STATE p = dpActive then w.setPortState p dpSleep else w

/-- The port of a sleeping device, or of a sleeping neighbour, retrains from step 3 (R401). -/
def retrainFromHello (w : Work) (p : Nat) : Work :=
  if w.rd Reg.DPORT_STATE p ≠ dpSleep then w
  else (w.setDport p { w.dport p with step := 3, fails := 0, hello := false }).setPortState p dpTraining

/-! ### Arrival of a packet (R389, R392) -/

/-- Is a packet discarded as bad: a TYPE that is reserved, a reserved field that is not 0, or a DEST of 192 or higher (R389)? The four header
words are given. -/
def badHeader (h : List Nat) : Bool :=
  let t := bits (wd h 0) 7 4
  t == 0 || decide (8 ≤ t) || decide (192 ≤ bits (wd h 0) 19 8) || bitAt (wd h 1) 31 || (t == 4 && decide (2 ^ 14 ≤ wd h 3))

/-- A bad packet is discarded and counted (R389). -/
def badPacket (w : Work) (p : Nat) (h : List Nat) : Work :=
  if w.rd Reg.DPORT_STATE p = dpActive && badHeader h then w.inc Reg.DRV_CNT_BAD_PACKET else w

/-- The port owes its neighbour the flits of a packet that has left its receive buffer, on the channel it came in on (R387). -/
def oweCredits (w : Work) (p : Nat) (pk : DrvPacket) : Work :=
  let x := w.dport p
  let v := w.arrivalVc p pk
  w.setDport p { x with owed := x.owed.set v (x.owed.getD v 0 + ceilDiv (pkSize pk) 244) }

/-- A packet comes in on a port that is ACTIVE: for another device it goes on; for this one it acts. -/
def arrive (w : Work) (p : Nat) (pk : DrvPacket) (f : Work → Work) : Work :=
  if w.rd Reg.DPORT_STATE p ≠ dpActive then w
  else
    let w := w.oweCredits p pk
    if 192 ≤ pk.head.dest then w.inc Reg.DRV_CNT_BAD_PACKET
    else if pk.head.dest ≠ w.rd Reg.DRV_DEVICE_ID then w.passOn pk
    else takeKept 1024 (f w)

end Work

end Sys2Proof.Machine
end

