-- ==== Sys2Proof/Machine/Dispatching.lean ====
section
/-! DEFINITION. Dispatch: the choice of the next node for a unit, what each unit does when it takes one, the launch of gated tiles, and
wait timeouts (R55, R68 to R75, R95, R96, R253, R478, R479). -/

namespace Sys2Proof.Machine

open Config

/-- The units of the kind that runs a node type, lowest first; a seam stage is its plumb unit + 0x100. -/
def kindUnits (typ : Nat) : List Nat :=
  match typ with
  | 2 => [0x60, 0x61, 0x62, 0x63]
  | 3 => [0x50, 0x51, 0x52, 0x53]
  | 4 => [0x54, 0x55, 0x56, 0x57]
  | 5 => [0x58, 0x59]
  | 6 => [0x5A, 0x5B]
  | 7 => [0x5C, 0x5D]
  | 9 => [0x74, 0x75]
  | 0xA => [0x174, 0x175]
  | 0xB => [0x76, 0x77]
  | _ => []

/-- The node type a unit runs. -/
def unitKind (u : Nat) : Nat :=
  ([2, 3, 4, 5, 6, 7, 9, 0xA, 0xB].find? (fun t => (kindUnits t).contains u)).getD 0

/-- The unit ID behind a seam stage. -/
def physUnit (u : Nat) : Nat := if 0x174 ≤ u then u - 0x100 else u

namespace Work

/-- Is a unit in service? -/
def inService (w : Work) (u : Nat) : Bool := !w.isRetired (physUnit u)

/-- The partner of a retired engine (R479): the other unit of its kind, or for pyramid and warp the unit ID XOR 1 where in service, else the lowest in
service; none where the kind has none left. -/
def partner (w : Work) (u : Nat) : Option Nat :=
  let ks := kindUnits (unitKind u)
  let x := bxor u 1
  if ks.contains x && w.inService x then some x else ks.find? (fun k => w.inService k)

/-- The engine a node's UNIT stands for: a retired one's partner. -/
def namedEngine (w : Work) (typ u : Nat) : Option Nat :=
  let v := if typ = 0xA then u + 0x100 else u
  if w.inService v then some v else w.partner v

/-- Does a unit hold no node and no sounding, and is it in service? -/
def unitFree (w : Work) (u : Nat) : Bool := w.inService u && (w.eng u).run == 0 && !w.soundingOn (physUnit u)

/-! ### The choice (R69) -/

/-- The order of R69: PRIORITY, deadline, origin, anchor context, node. -/
def pickKey (w : Work) (r : GRun) (n : Nat) : List Nat :=
  let g := w.version r.seq
  let d := g.node n 1
  [63 - g.prio n, if d = 0 then 2 ^ 64 - 1 else r.origin + d, r.origin, r.actx, n]

/-- The first of some candidates by the order of R69. -/
def pickFirst (w : Work) (cs : List (GRun × Nat)) : Option (GRun × Nat) :=
  cs.foldl (fun (b : Option (GRun × Nat)) c =>
    match b with
    | none => some c
    | some x => if decide (w.pickKey c.1 c.2 < w.pickKey x.1 x.2) then some c else some x) none

/-- Every ready node instance of some types. -/
def readyNodes (w : Work) (types : List Nat) : List (GRun × Nat) :=
  w.d.ks.runs.flatMap (fun r =>
    let g := w.version r.seq
    ((List.range g.nodeCount).filter (fun n => types.contains (g.typ n) && w.nodeReady r n)).map (fun n => (r, n)))

/-- The ready node instances an engine may take: those that name it, or stand for it, and with UNIT 0xFF those of its kind while it is
the lowest free engine (R55). -/
def engineCands (w : Work) (u : Nat) : List (GRun × Nat) :=
  let typ := unitKind u
  let lowest := (kindUnits typ).find? (fun k => w.unitFree k)
  (w.readyNodes [typ]).filter (fun c =>
    let g := w.version c.1.seq
    if g.unit c.2 = 0xFF then lowest == some u else w.namedEngine typ (g.unit c.2) == some u)

/-! ### What a unit does with a node -/

/-- Put an engine at the start of its work. -/
def engineAt (w : Work) (u phase level pass : Nat) (data : List Nat) : Work :=
  w.setEng u { w.eng u with phase := phase, level := level, pass := pass, data := data }

/-- A gated node without selected tiles completes at dispatch (R95). -/
def emptyGated (w : Work) (r : GRun) (n : Nat) : Bool :=
  let g := w.version r.seq
  g.gated n && w.listCount (w.inputList r n (listPort g n)) == 0

/-- A stereo engine starts: the check pass first where LR_CHECK is set, from the coarsest level; a gated one runs listed tiles (R153, R169). -/
def startStereo (w : Work) (u : Nat) (r : GRun) (n : Nat) : Work :=
  let c := w.stCtx r n u
  let i := u - 0x58
  let gated := (w.version r.seq).gated n
  let ph := if gated then 3 else if c.lr then 1 else 0
  let lv := if gated then c.fine else c.coarse
  (((w.engineAt u ph lv 0 []).wr Reg.ST_PASS ph i).wr Reg.ST_LEVEL lv i).wr Reg.ST_CUR_LINE 0 i

/-- A flow engine starts (R174, R175, R186): without usable history a TEMPORAL instance writes no flow, marked by pass 1. -/
def startFlow (w : Work) (u : Nat) (r : GRun) (n : Nat) : Work :=
  let c := w.flCtx r n u
  let i := u - 0x5A
  let ph := if c.gated then 3 else if c.fb then 1 else 0
  let lv := if c.gated then c.last else c.coarse
  let bare := c.temporal && !w.flHistory c
  let w := if bare then w.inc Reg.VIS_FL_CNT_NO_HISTORY i else w
  (((w.engineAt u ph lv (b2n bare) []).wr Reg.FL_PASS ph i).wr Reg.FL_LEVEL lv i).wr Reg.FL_CUR_LINE 0 i

/-- A feature engine starts: tracking first where T is set; NEXT_ID goes on from usable history, else from 1 (R192, R200). -/
def startFeature (w : Work) (u : Nat) (r : GRun) (n : Nat) : Work :=
  let c := w.ftCtx r n
  let i := u - 0x5C
  let keeps := bitAt (wd c.p 0) 7
  let use_ := w.ftUsable c
  let w := if keeps && !use_ then w.inc Reg.VIS_FT_CNT_NO_HISTORY i else w
  let ph := if c.op 3 then 0 else 1
  let k : FtCarry := ⟨w.d.clk.vcycle, 0, 0, 0, 0, if use_ then w.mem (ftHist c (r.afc + 1) + 24) 4 else 1, 0, []⟩
  (w.engineAt u ph 0 0 k.nums).wr Reg.FT_PHASE ph i

/-- An engine takes a node and starts on it. -/
def startEngine (w : Work) (u : Nat) (r : GRun) (n : Nat) : Work :=
  let w := w.takeNode u r.id n
  if w.emptyGated r n then (w.signalAll r.id n).endNode u r.id n
  else match unitKind u with
    | 3 => ((w.wr Reg.PY_LEVEL 0 (u - 0x50)).wr Reg.PY_CUR_LINE 0 (u - 0x50)).pyramidTake u
    | 4 => (w.wr Reg.WP_MODE (bits (wd ((w.version r.seq).params n) 0) 2 0) (u - 0x54)).wr Reg.WP_CUR_TILE_ROW 0 (u - 0x54)
    | 5 => w.startStereo u r n
    | 6 => w.startFlow u r n
    | 7 => w.startFeature u r n
    | _ => w

/-- A node runs from now on without an engine of its own, on a unit that is only named; its touch-table entries are the units it uses. -/
def holdNode (w : Work) (id n u traced : Nat) (touched : List Nat) : Work :=
  match w.grun? id with
  | none => w
  | some r =>
    let t := w.now
    let w := w.modNode id n (fun x => { x with st := .running, unit := u, waitFrom := t })
    let w := (touched.foldl (fun w k => w.touch k id) w).inc Reg.KS_CNT_DISPATCHED
    if w.on Reg.KS_TRACE_EN then w.trace uKeystone 2 (runTag r) (pack [(n, 0, 16), (traced, 16, 8)]) 0 else w

/-- A NEURAL node is dispatched (R95, R253): one task on every member, launching 48 V-cycles later, or the tiles of its list one by one. -/
def startNeural (w : Work) (r : GRun) (n : Nat) : Work :=
  let g := w.version r.seq
  let ms := setBits 64 (g.coreSet n)
  let ps := ms.map (fun c => w.d.cores.getD c 0xFF)
  let w := w.holdNode r.id n 0xFF (ps.headD 0xFF) ps
  if g.gated n then
    if w.emptyGated r n then (w.signalAll r.id n).finishNode r.id n else w
  else
    let p := g.params n
    let w := w.modNode r.id n (fun x => { x with cores := g.coreSet n })
    (ms.zipIdx).foldl (fun w (c, rank) =>
      w.giveTask c r.id n rank ms [wd p 22, wd p 23, wd p 24, wd p 25, r.slot, ms.length, r.afc, rank] false 0) w

/-- The Keystone's own nodes, and those of ingress (R55): a SOURCE waits for its frame, a HOST_EMIT for its post, a BARRIER signals and is
done. -/
def startOwn (w : Work) (r : GRun) (n : Nat) : Work :=
  let g := w.version r.seq
  let w := w.holdNode r.id n uKeystone uKeystone []
  if g.typ n = 0xE then ((w.signalToTarget r.id n).finishNode r.id n).completeNode r.id n else w

/-! ### NODE_DISPATCH -/

/-- The NEURAL instance a core's turn dispatches: the first of those that need the core, unless a ready one that comes before it needs one of its
cores too. -/
def neuralPick (w : Work) (c : Nat) : Option (GRun × Nat) :=
  let all := w.readyNodes [8]
  let set := fun (x : GRun × Nat) => (w.version x.1.seq).coreSet x.2
  match w.pickFirst (all.filter (fun x => bitAt (set x) c)) with
  | none => none
  | some x =>
    if all.any (fun y => decide (w.pickKey y.1 y.2 < w.pickKey x.1 x.2) && Nat.land (set y) (set x) != 0) then none else some x

/-- A core's turn: an instance with a core that has no physical core left is skipped (R478); one with a core under sounding waits (R473). -/
def dispatchCore (w : Work) (c : Nat) : Work :=
  match w.neuralPick c with
  | none => w
  | some (r, n) =>
    let ms := setBits 64 ((w.version r.seq).coreSet n)
    let phys := fun (c : Nat) => w.d.cores.getD c 0xFF
    if ms.any (fun c => decide (67 < phys c)) then w.cutNode r.id n stEngineRetired
    else if ms.any (fun c => w.soundingOn (phys c)) then w
    else w.startNeural r n

/-- The pipelines' turn: ready ISP_OUT instances pass to the deadline scheduler (R69, R147). One whose context's state has no room is never started
and counts once (R148); with no pipeline left it is skipped (R479). -/
def dispatchIsp (w : Work) : Work :=
  match w.pickFirst ((w.readyNodes [2]).filter (fun c => (nodeRun c.1 c.2).tile == 0)) with
  | none => w
  | some (r, n) =>
    let c := ispContext (w.version r.seq) n
    if (kindUnits 2).all (fun u => !w.inService u) then w.cutNode r.id n stEngineRetired
    else if w.ispShort r c then (w.inc Reg.ISP_CTX_CNT_STATE_SHORT c).modNode r.id n (fun x => { x with tile := 1 })
    else w.holdNode r.id n 0xFF 0x60 []

/-- A Dravig port's turn (R397 to R399): a node whose SIGNAL targets are ARMED, and whose first packet leaves by that port. -/
def dispatchDravig (w : Work) (u : Nat) : Work :=
  match w.pickFirst ((w.readyNodes [0xD]).filter (fun c =>
      let p := (w.version c.1.seq).params c.2
      w.sendReady p && uDravig (w.sendPort p c.1.slot) == u)) with
  | none => w
  | some (r, n) => (w.holdNode r.id n u u []).sendStart r.id n

/-- The Keystone picks the next instance for a unit and dispatches it (R69, R70). -/
def nodeDispatch (w : Work) (u : Nat) : Work :=
  if u < 64 then w.dispatchCore u
  else if 0x60 ≤ u ∧ u ≤ 0x63 then w.dispatchIsp
  else if u = 0x76 ∨ u = 0x77 then w.copyStart u
  else if u = uKeystone then
    match w.pickFirst (w.readyNodes [1, 0xC, 0xE]) with
    | none => w
    | some (r, n) => w.startOwn r n
  else if 0x81 ≤ u ∧ u ≤ 0x84 then w.dispatchDravig u
  else if unitKind u = 0 then w
  else if w.inService u then
    if !w.unitFree u then w
    else match w.pickFirst (w.engineCands u) with
      | none => w
      | some (r, n) => w.startEngine u r n
  else if (w.partner u).isSome then w
  else match w.pickFirst (w.readyNodes [unitKind u]) with
    | none => w
    | some (r, n) => w.cutNode r.id n stEngineRetired

/-- The units a node may be dispatched on. -/
def nodeUnits (w : Work) (g : GVer) (n : Nat) : List Nat :=
  match g.typ n with
  | 1 => [uKeystone]
  | 0xC => [uKeystone]
  | 0xE => [uKeystone]
  | 8 => (setBits 64 (g.coreSet n)).take 1
  | 0xD => [0x81, 0x82, 0x83, 0x84]
  | 2 => [0x60]
  | t => if g.unit n = 0xFF then kindUnits t else (w.namedEngine t (g.unit n)).toList

/-- Every node of a run waits on the flags of its input edges (R61). -/
def waitAll (w : Work) (id : Nat) (g : GVer) : Work :=
  (List.range g.edgeCount).foldl (fun w e => w.waitEdge id (g.eTo e) e) w

/-- Instantiation ends (R65): it takes its V-cycles, the nodes are created and wait on their inputs, the lines that waited go in, the generations of REMOTE_VISIBLE
flags are sent out (R399), and the nodes without inputs are dispatched where their units are free. -/
def instantiationDone (w : Work) : Work :=
  match w.d.ks.runs.find? (fun r => decide (r.phase = .creating)) with
  | none => w
  | some r =>
    let g := w.version r.seq
    let w := (w.reach (w.d.ks.instV + instantiateCycles g)).modRun r.id (fun r => { r with phase := .running })
    let w := w.setKs { w.d.ks with instV := w.d.clk.vcycle + 1 }
    let w := (((w.waitAll r.id g).flushRun r.id)).notifyFlags r.id
    (List.range g.nodeCount).foldl (fun w n =>
      if (g.inEdges n).isEmpty then (w.nodeUnits g n).foldl (fun w u =>
        match w.grun? r.id with
        | some q => if (nodeRun q n).st = .waiting then w.nodeDispatch u else w
        | none => w) w
      else w) w

/-! ### Gated tiles (R94 to R96) -/

/-- The task of the next listed tile goes to a core, with its window as arguments (R95). -/
def gatedTask (w : Work) (id n : Nat) (r : GRun) (g : GVer) (x : NodeRun) (lst c : Nat) : Work :=
  let (size, wid, hei) := w.listGrid r n (listPort g n)
  let (tx, ty) := w.listTile lst x.tile
  let (x0, y0, ww, wh) := window size wid hei (halo g n) tx ty
  let args := [x0, y0, ww, wh, tx * size - x0, ty * size - y0, x.tile, r.slot]
  let w := w.reach (w.core c).freeAt
  let w := w.giveTask c id n 0 [c] args true x.tile
  let w := w.setCore c { w.core c with since := 0 }
  let w := w.modNode id n (fun x => { x with tile := x.tile + 1, cores := x.cores + 2 ^ c })
  (w.touch (w.d.cores.getD c 0xFF) id).taskLaunch c

/-- The Keystone launches the next listed tile of a gated NEURAL node on the lowest free core of its set, 48 V-cycles after that core's
previous task ended. -/
def gatedLaunch (w : Work) (id n : Nat) : Work :=
  match w.grun? id with
  | none => w
  | some r =>
    let g := w.version r.seq
    let x := nodeRun r n
    let lst := w.inputList r n (listPort g n)
    let free := (setBits 64 (g.coreSet n)).find? (fun c =>
      !w.coreBusy c && decide (w.d.cores.getD c 0xFF ≤ 67) && !w.soundingOn (w.d.cores.getD c 0xFF))
    match free with
    | none => w
    | some c =>
      if g.typ n ≠ 8 || !g.gated n || decide (x.st ≠ .running) || decide (w.listCount lst ≤ x.tile) || x.finished then w
      else
        w.gatedTask id n r g x lst c

/-- Tiles of its list that a running gated node has launched: an engine has launched the one it works on too. -/
def launchedTiles (g : GVer) (n : Nat) (x : NodeRun) : Nat := if g.typ n = 8 then x.tile else x.tile + 1

/-- A wait timeout fires: a gated node that runs with tiles still to launch is cut at origin + WAIT_TIMEOUT, an engine at the end of the tile it works on (R72,
R96); others follow the Keystone's general rule. -/
def nodeTimeout (w : Work) (id n : Nat) : Work :=
  match w.grun? id with
  | none => w
  | some r =>
    let g := w.version r.seq
    let x := nodeRun r n
    if g.gated n ∧ x.st = .running then
      if g.node n 2 = 0 || x.finished || x.cutAsked || decide (w.listCount (w.inputList r n (listPort g n)) ≤ launchedTiles g n x) then w
      else
        let w := w.advance (r.origin + g.node n 2)
        if g.typ n = 8 then w.cutNode id n stFlagTimeout else w.askCut id n stFlagTimeout
    else if g.typ n = 0xD ∧ x.st = .waiting ∧ g.node n 2 ≠ 0 ∧ r.phase = .running ∧ w.nodeReady r n ∧ !w.sendReady (g.params n) then
      (w.advance (r.origin + g.node n 2)).cutNode id n stFlagTimeout
    else w.waitTimeout id n

end Work

end Sys2Proof.Machine
end

