-- ==== Sys2Proof/Machine/Crypto.lean ====
section
/-! DEFINITION. Digests and the cornerstone OTP as the security core reads it: CRC-16 of R433, SHA-256, key slots, anti-rollback counter,
option-byte copies, locks and change records (R432 to R434, R444, R446, R452, R460). SHA-256 is that of FIPS 180-4 and the CRC runs from the
highest bit (PRESUMED, log entry 32). -/

namespace Sys2Proof.Machine

open Config

/-! ### Digests -/

/-- One bit of the CRC-16. -/
def crc16Bit (c : Nat) : Nat := if 0x8000 ≤ c then bxor (low 16 (2 * c)) 0x1021 else 2 * c

/-- One byte of the CRC-16. -/
def crc16Byte (c : Nat) (b : Byte) : Nat := (List.range 8).foldl (fun c _ => crc16Bit c) (bxor c (b.toNat * 256))

/-- The CRC-16 of R433. -/
def crc16 (bs : List Byte) : Nat := bs.foldl crc16Byte 0xFFFF

/-- Rotate a 32-bit word right. -/
def rotr (v n : Nat) : Nat := v / 2 ^ n + v % 2 ^ n * 2 ^ (32 - n)

/-- The round constants of SHA-256, eight to a number, the first of them highest. -/
def shaRows : List Nat :=
  [0x428a2f9871374491b5c0fbcfe9b5dba53956c25b59f111f1923f82a4ab1c5ed5,
    0xd807aa9812835b01243185be550c7dc372be5d7480deb1fe9bdc06a7c19bf174,
    0xe49b69c1efbe47860fc19dc6240ca1cc2de92c6f4a7484aa5cb0a9dc76f988da,
    0x983e5152a831c66db00327c8bf597fc7c6e00bf3d5a7914706ca635114292967,
    0x27b70a852e1b21384d2c6dfc53380d13650a7354766a0abb81c2c92e92722c85,
    0xa2bfe8a1a81a664bc24b8b70c76c51a3d192e819d6990624f40e3585106aa070,
    0x19a4c1161e376c082748774c34b0bcb5391c0cb34ed8aa4a5b9cca4f682e6ff3,
    0x748f82ee78a5636f84c878148cc7020890befffaa4506cebbef9a3f7c67178f2]

/-- Round constant t. -/
def shaK (t : Nat) : Nat := low 32 (wd shaRows (t / 8) / 2 ^ (32 * (7 - t % 8)))

/-- The eight working words of SHA-256, as one 256-bit number with the first word highest. -/
def shaStart : Nat := 0x6a09e667bb67ae853c6ef372a54ff53a510e527f9b05688c1f83d9ab5be0cd19

/-- Word i of a 256-bit state. -/
def shaWord (h i : Nat) : Nat := low 32 (h / 2 ^ (32 * (7 - i)))

/-- The number that bytes spell, highest first. -/
def beNat (bs : List Byte) : Nat := bs.foldl (fun a b => 256 * a + b.toNat) 0

/-- The n bytes of v, highest first. -/
def beBytes (n v : Nat) : List Byte := (leBytes n v).reverse

/-- The next word of the message schedule from the last sixteen, which stand in a 512-bit number with the oldest highest. -/
def shaNext (m : Nat) : Nat :=
  let at_ := fun (i : Nat) => low 32 (m / 2 ^ (32 * (15 - i)))
  let a := at_ 1
  let b := at_ 14
  low 32 (at_ 0 + bxor (bxor (rotr a 7) (rotr a 18)) (a / 2 ^ 3) + at_ 9 + bxor (bxor (rotr b 17) (rotr b 19)) (b / 2 ^ 10))

/-- One round on the working words with a constant and a schedule word. -/
def shaRound (s k m : Nat) : Nat :=
  let a := shaWord s 0
  let b := shaWord s 1
  let c := shaWord s 2
  let e := shaWord s 4
  let big1 := bxor (bxor (rotr e 6) (rotr e 11)) (rotr e 25)
  let pick := bxor (shaWord s 6) (Nat.land e (bxor (shaWord s 5) (shaWord s 6)))
  let t := shaWord s 7 + big1 + pick + k + m
  let big0 := bxor (bxor (rotr a 2) (rotr a 13)) (rotr a 22)
  let most := Nat.lor (Nat.land a b) (Nat.land c (Nat.lor a b))
  -- the words move down one place; the first and the fifth are new
  low 32 (t + big0 + most) * 2 ^ 224 + s / 2 ^ 160 * 2 ^ 128 % 2 ^ 224 + low 32 (shaWord s 3 + t) * 2 ^ 96 + s / 2 ^ 32 % 2 ^ 96

/-- Rounds from t on, with the last sixteen schedule words. -/
def shaRounds : Nat → Nat → Nat → Nat → Nat
  | 0, _, s, _ => s
  | n + 1, t, s, m => shaRounds n (t + 1) (shaRound s (shaK t) (m / 2 ^ 480)) (m % 2 ^ 480 * 2 ^ 32 + shaNext m)

/-- One 64-byte block into a state: the words of the state and of the rounds' result add up, each mod 2^32. -/
def shaBlock (h m : Nat) : Nat :=
  let r := shaRounds 64 0 h m
  ((List.range 8).map (fun i => low 32 (shaWord h i + shaWord r i) * 2 ^ (32 * (7 - i)))).sum

/-- Blocks of SHA-256; fuel is their number. -/
def shaBlocks : Nat → Nat → List Byte → Nat
  | 0, h, _ => h
  | n + 1, h, bs => shaBlocks n (shaBlock h (beNat (bs.take 64))) (bs.drop 64)

/-- The padded message of SHA-256. -/
def shaPad (bs : List Byte) : List Byte :=
  bs ++ 0x80#8 :: List.replicate ((119 - bs.length % 64) % 64) 0#8 ++ beBytes 8 (8 * bs.length)

/-- SHA-256 of a message as a number, its first byte highest. -/
def shaNat (bs : List Byte) : Nat :=
  let m := shaPad bs
  shaBlocks (m.length / 64) shaStart m

/-- SHA-256 of a message, as the 32-byte string of R4. -/
def sha256 (bs : List Byte) : List Byte := beBytes 32 (shaNat bs)

/-! ### Rows of the OTP (R446) -/

/-- Row i of the modulus of owner slot k (1 to 4). -/
def slotModRow (k i : Nat) : Nat := 40 + 13 * (k - 1) + i

/-- The state row of owner slot k: bit 0 enrolled, bit 1 revoked. -/
def slotStateRow (k : Nat) : Nat := 40 + 13 * (k - 1) + 12

/-- The anti-rollback row. -/
def rollbackRow : Nat := 92

/-- Row j of option-byte copy n. -/
def obRow (n j : Nat) : Nat := 93 + 2 * n + j

/-- The debug lock's row, and the safety profile lock's. -/
def debugLockRow : Nat := 109
def profileLockRow : Nat := 110

/-- The row of change record n. -/
def recordRow (n : Nat) : Nat := 111 + n

namespace Work

/-- The bytes of a row. -/
def rowBytes (w : Work) (row : Nat) : List Byte := leBytes 32 (w.otpRow row)

/-- Is a change record row valid: its CRC holds and its GEN is 1 (R452)? -/
def recordValid (w : Work) (n : Nat) : Bool :=
  w.otpRow (recordRow n) != 0 &&
    (let bs := w.rowBytes (recordRow n)
     leNat ((bs.drop 28).take 2) == crc16 (bs.take 28 ++ bs.drop 30) && bits (leNat (bs.drop 28)) 19 16 == 1)

/-- Has a change of an OP, with an ARG, been made: does a valid record say so (R451)? -/
def changed (w : Work) (op arg : Nat) : Bool :=
  (List.range 160).any (fun n => bits (w.otpRow (recordRow n)) 15 8 == op && bits (w.otpRow (recordRow n)) 31 24 == arg && w.recordValid n)

/-- A slot's state (R444, R464): 0 EMPTY, 1 ACTIVE, 2 REVOKED, 3 DAMAGED. A change counts once its record reads back valid; an enrolment without
one has left the slot DAMAGED (R451). -/
def slotState (w : Work) (k : Nat) : Nat :=
  if w.changed 2 k then 2 else if w.changed 1 k then 1
  else if (List.range 13).any (fun i => w.otpRow (slotModRow k i) != 0) then 3 else 0

/-- Is an owner present (R449)? -/
def ownerPresent (w : Work) : Bool := [1, 2, 3, 4].any (fun k => w.slotState k == 1)

/-- May a key slot verify: the vendor key, or an ACTIVE owner slot (R444)? -/
def keyActive (w : Work) (k : Nat) : Bool := k == 0 || (decide (k ≤ 4) && w.slotState k == 1)

/-- The anti-rollback counter: the number of bits burned (R446). -/
def rollbackCounter (w : Work) : Nat := popCount 128 (w.otpRow rollbackRow)

/-- NEXT_SEQ: the record rows that read back valid (R451). -/
def nextSeq (w : Work) : Nat := (List.range 160).countP (fun n => w.recordValid n)

/-- The 64 bytes of an option-byte copy. -/
def obCopy (w : Work) (n : Nat) : List Byte := w.rowBytes (obRow n 0) ++ w.rowBytes (obRow n 1)

/-- Is an option-byte copy used at all? -/
def obUsed (w : Work) (n : Nat) : Bool := w.otpRow (obRow n 0) != 0 || w.otpRow (obRow n 1) != 0

/-- OB_COPIES_USED. -/
def obCopies (w : Work) : Nat := (List.range 8).countP (fun n => w.obUsed n)

/-- Bits of each option byte that the layout names (R433). -/
def obMask : List Nat :=
  [0x0F, 0x03, 0x73, 0x0F, 0xFF, 0xFF, 0xFF, 0xFF, 0xFF, 0xFF, 0xF3, 0x03, 0x1F, 0, 0xFF, 0xFF, 0xFF, 0xFF] ++ List.replicate 44 0 ++ [0xFF, 0xFF]

/-- May an option-byte block be taken: OB_GEN 1, its CRC, reserved bits zero (R432)? -/
def obValid (bs : List Byte) : Bool :=
  bits (leNat (bs.take 1)) 3 0 == 1 && leNat (bs.drop 62) == crc16 (bs.take 62) &&
    (List.zipWith (fun (b : Byte) (m : Nat) => Nat.land b.toNat m == b.toNat) bs obMask).all id

/-- The defaults (R432): BOOT_SOURCE host, ×8 at 32 GT/s, BAR2 of 16 GiB. -/
def obDefaults : List Byte := [0#8, 1#8, 0x50#8, 4#8] ++ List.replicate 60 0#8

/-- The option bytes in force and their copy, none for the defaults. -/
def obInForce (w : Work) : List Byte × Option Nat :=
  match ((List.range 8).reverse).find? (fun n => obValid (w.obCopy n)) with
  | some n => (w.obCopy n, some n)
  | none => (obDefaults, none)

/-- An option byte of those mirrored at the last reset (R432). -/
def ob (w : Work) (i : Nat) : Nat := bits (w.rd Reg.PWR_OB (i / 4)) (8 * (i % 4) + 7) (8 * (i % 4))

/-- The debug lock. -/
def debugLock (w : Work) : Bool := w.otpRow debugLockRow != 0 && (List.range 160).any (fun n => bits (w.otpRow (recordRow n)) 15 8 == 5 && w.recordValid n)

/-- The safety profile lock (R51). -/
def profileLock (w : Work) : Bool := w.otpRow profileLockRow != 0 && (List.range 160).any (fun n => bits (w.otpRow (recordRow n)) 15 8 == 6 && w.recordValid n)

/-- The effective debug policy (R460). -/
def debugPolicy (w : Work) : Nat :=
  if w.debugLock then 2 else
    let p := bits (w.ob 11) 1 0
    if p = 0 && w.ownerPresent then 1 else p

/-- A signature has been checked (R464). -/
def countVerify (w : Work) (ok : Bool) : Work :=
  let w := w.inc Reg.SEC_CNT_VERIFY
  if ok then w else w.inc Reg.SEC_CNT_VERIFY_FAIL

end Work

end Sys2Proof.Machine
end

