-- ==== Sys2Proof/Machine/Cipher.lean ====
section
/-! DEFINITION. The crypto engines of the security core: RSASSA-PSS verification and RSAES-OAEP decryption with RSA-3072 and SHA-256, and AES-256-GCM
decryption (R35, R442, R449, R453). RSA is that of PKCS #1 v2.2, the cipher that of FIPS 197 and its mode that of SP 800-38D (PRESUMED, log entry 32). -/

namespace Sys2Proof.Machine

open Config

/-! ### RSA (R35, R444, R449) -/

/-- b ^ e mod n, over the low bits of e. -/
def powMod (n : Nat) : Nat → Nat → Nat → Nat
  | 0, _, _ => 1 % n
  | bits + 1, b, e =>
    let r := powMod n bits (b * b % n) (e / 2)
    if e % 2 = 1 then b * r % n else r

/-- The mask generation function over SHA-256: n bytes from a seed, as a number with the first byte highest. -/
def maskGen (seed : List Byte) (n : Nat) : Nat :=
  let blocks := ceilDiv n 32
  (((List.range blocks).map (fun k => shaNat (seed ++ beBytes 4 k) * 2 ^ (256 * (blocks - 1 - k)))).sum) / 2 ^ (8 * (32 * blocks - n))

/-- Does an encoded message, a number of bits bits, carry a message under a 32-byte salt (EMSA-PSS)? From the top: the masked block of zeros, a 1 and the salt, the
hash of the message's hash with the salt, and the byte 0xBC. -/
def pssCarries (bits em : Nat) (msg : List Byte) : Bool :=
  let hash := em / 2 ^ 8 % 2 ^ 256
  let masked := em / 2 ^ 264
  let block := bxor masked (maskGen (beBytes 32 hash) (ceilDiv bits 8 - 33)) % 2 ^ (bits - 264)
  decide (528 ≤ bits) && em % 256 == 0xBC && decide (masked < 2 ^ (bits - 264)) && block / 2 ^ 256 == 1 &&
    hash == shaNat (List.replicate 8 0#8 ++ sha256 msg ++ beBytes 32 (block % 2 ^ 256))

/-- RSASSA-PSS verification under a modulus, with exponent 65,537 (R444). -/
def pssVerify (n : Nat) (msg sig : List Byte) : Bool :=
  let s := beNat sig
  decide (s < n) && pssCarries (Nat.log2 n) (powMod n 17 s 65537) msg

/-- The 32-byte key that a 384-byte RSAES-OAEP ciphertext holds under a private key (modulus, exponent), none where it does not decrypt to one (R449). -/
def oaepKey (key : Nat × Nat) (cipher : List Byte) : Option (List Byte) :=
  let c := beNat cipher
  let em := powMod key.1 3072 c key.2
  let masked := em % 2 ^ 2808
  let seed := bxor (em / 2 ^ 2808) (maskGen (beBytes 351 masked) 32)
  let block := bxor masked (maskGen (beBytes 32 seed) 351)
  if c < key.1 ∧ em < 2 ^ 3064 ∧ block / 2 ^ 2552 = shaNat [] ∧ block % 2 ^ 2552 / 2 ^ 256 = 1 then some (beBytes 32 (block % 2 ^ 256)) else none

/-! ### AES-256 (R453) -/

/-- The substitution table, 32 bytes to a number, the first of them highest. -/
def aesRows : List Nat :=
  [0x637c777bf26b6fc53001672bfed7ab76ca82c97dfa5947f0add4a2af9ca472c0,
    0xb7fd9326363ff7cc34a5e5f171d8311504c723c31896059a071280e2eb27b275,
    0x09832c1a1b6e5aa0523bd6b329e32f8453d100ed20fcb15b6acbbe394a4c58cf,
    0xd0efaafb434d338545f9027f503c9fa851a3408f929d38f5bcb6da2110fff3d2,
    0xcd0c13ec5f974417c4a77e3d645d197360814fdc222a908846eeb814de5e0bdb,
    0xe0323a0a4906245cc2d3ac629195e479e7c8376d8dd54ea96c56f4ea657aae08,
    0xba78252e1ca6b4c6e8dd741f4bbd8b8a703eb5664803f60e613557b986c11d9e,
    0xe1f8981169d98e949b1e87e9ce5528df8ca1890dbfe6426841992d0fb054bb16]

/-- The substitution of a byte, and of the four bytes of a word. -/
def aesSub (b : Nat) : Nat := wd aesRows (b / 32) / 2 ^ (8 * (31 - b % 32)) % 256
def aesSubWord (v : Nat) : Nat := ((List.range 4).map (fun i => aesSub (v / 2 ^ (8 * i) % 256) * 2 ^ (8 * i))).sum

/-- Twice a byte in the field of AES. -/
def aesTwice (b : Nat) : Nat := if 128 ≤ b then bxor (2 * b - 256) 0x1B else 2 * b

/-- The expanded key: words from i on, by the last eight words and the round constant. -/
def aesExpand : Nat → Nat → Nat → List Nat → List Nat
  | 0, _, _, _ => []
  | n + 1, i, rc, last =>
    let prev := wd last 7
    let t := if i % 8 = 0 then bxor (aesSubWord (low 32 (prev * 2 ^ 8) + prev / 2 ^ 24)) (rc * 2 ^ 24) else if i % 8 = 4 then aesSubWord prev else prev
    let v := bxor (wd last 0) t
    v :: aesExpand n (i + 1) (if i % 8 = 0 then aesTwice rc else rc) (last.drop 1 ++ [v])

/-- The 60 words of the expanded key of a 32-byte key. -/
def aesKey (key : List Byte) : List Nat :=
  let ws := (List.range 8).map (fun k => beNat ((key.drop (4 * k)).take 4))
  ws ++ aesExpand 52 8 1 ws

/-- The key of a round, as 16 bytes. -/
def aesRoundKey (ks : List Nat) (r : Nat) : List Nat := (List.range 16).map (fun i => wd ks (4 * r + i / 4) / 2 ^ (8 * (3 - i % 4)) % 256)

/-- One round past the first key: substitution, the shift of the rows, the mixing of the columns but for the last round, and the round's key. -/
def aesRound (ks : List Nat) (s : List Nat) (r : Nat) : List Nat :=
  let t := (List.range 16).map (fun i => aesSub (wd s (4 * ((i / 4 + i % 4) % 4) + i % 4)))
  let mix := (List.range 16).map (fun i =>
    let at_ := fun (k : Nat) => wd t (4 * (i / 4) + (i + k) % 4)
    bxor (bxor (aesTwice (at_ 0)) (bxor (aesTwice (at_ 1)) (at_ 1))) (bxor (at_ 2) (at_ 3)))
  List.zipWith bxor (if r = 14 then t else mix) (aesRoundKey ks r)

/-- The cipher on a 128-bit block. -/
def aesBlock (ks : List Nat) (v : Nat) : Nat :=
  let s := List.zipWith bxor ((List.range 16).map (fun i => v / 2 ^ (8 * (15 - i)) % 256)) (aesRoundKey ks 0)
  (((List.range 14).map (fun r => r + 1)).foldl (aesRound ks) s).foldl (fun a b => 256 * a + b) 0

/-! ### GCM (R453) -/

/-- The product in the field of GCM, over the bits of x from the highest down. -/
def gcmTimes (x : Nat) : Nat → Nat → Nat
  | 0, _ => 0
  | n + 1, y =>
    let rest := gcmTimes x n (if y % 2 = 1 then bxor (y / 2) (0xE1 * 2 ^ 120) else y / 2)
    if bitAt x n then bxor y rest else rest

/-- The 128-bit blocks of some bytes, the last one padded with zeros. -/
def gcmBlocks (bs : List Byte) : List Nat :=
  (List.range (ceilDiv bs.length 16)).map (fun k =>
    let b := (bs.drop (16 * k)).take 16
    beNat b * 2 ^ (8 * (16 - b.length)))

/-- AES-256-GCM decryption: the plaintext of a ciphertext under a key, a 96-bit nonce and additional data, none where the tag fails. -/
def gcmOpen (key iv extra cipher tag : List Byte) : Option (List Byte) :=
  let ks := aesKey key
  let h := aesBlock ks 0
  let j := beNat iv * 2 ^ 32 + 1
  let lens := 8 * extra.length * 2 ^ 64 + 8 * cipher.length
  let mac := (gcmBlocks extra ++ gcmBlocks cipher ++ [lens]).foldl (fun y b => gcmTimes (bxor y b) 128 h) 0
  if bxor mac (aesBlock ks j) = beNat tag then
    some (((gcmBlocks cipher).zipIdx.flatMap (fun (b, k) => beBytes 16 (bxor b (aesBlock ks (j / 2 ^ 32 * 2 ^ 32 + low 32 (j + 1 + k)))))).take cipher.length)
  else none

/-! ### What the security core verifies -/

namespace Work

/-- The modulus a KEY_SLOT names: the vendor's, or that of an owner slot as the OTP holds it (R444, R446). -/
def keyModulus (w : Work) (slot : Nat) : Nat :=
  if slot = 0 then vendorModulus else beNat ((List.range 12).flatMap (fun i => w.rowBytes (slotModRow slot i)))

/-- Is the signature in the trailer of a signed item good under a key slot (R35)? It covers everything before the trailer. -/
def signed (w : Work) (slot : Nat) (item : List Byte) : Bool :=
  let n := item.length
  pssVerify (w.keyModulus slot) (item.take (n - 512)) (item.drop (n - 384))

end Work

end Sys2Proof.Machine
end

