-- ==== Sys2Proof/Machine/LoadFields.lean ====
section
/-! DEFINITION. The bitstream container as it is read: header, region walk and reserved fields, steps 1 and 6 to 8 of R48 with the offsets of
R49 (R33 to R38, R40 to R46, R524). -/

namespace Sys2Proof.Machine

open Config

/-- A refusal of a container: status, FAIL_REGION, FAIL_OFFSET, and the unit a CLAIM_DENIED names, 0xFF for none. -/
structure LoadFail where
  status : Nat
  region : Nat
  offset : Nat
  holder : Nat
  deriving DecidableEq, Repr

/-- The offset of the first of some checks that does not hold. -/
def firstBad (l : List (Nat × Bool)) : Option Nat := (l.find? (fun c => !c.2)).map (fun c => c.1)

/-- A mask with every bit set. -/
abbrev mAll : Nat := 0xFFFFFFFF

/-! ### The header and the walk (R33 to R36) -/

/-- TOTAL_LENGTH, REGION_COUNT and PARTIAL. -/
def ctTotal (c : List Nat) : Nat := wd c 2
def ctCount (c : List Nat) : Nat := bits (wd c 3) 15 0
def ctPartial (c : List Nat) : Bool := bitAt (wd c 1) 16

/-- Step 1: the fields' encodings; given is the LENGTH the job named. -/
def stepFormat (c : List Nat) (given : Nat) : Option Nat :=
  firstBad [(0, wd c 0 == 0x42485359), (4, bits (wd c 1) 3 0 == 1), (5, bits (wd c 1) 15 8 == 1),
    (8, decide (wd c 2 ≤ 0x4000000) && wd c 2 % 8 == 0 && decide (768 ≤ wd c 2) && wd c 2 == given),
    (ctTotal c - 512, bits (wd c (ctTotal c / 4 - 128)) 15 0 == 1), (12, decide (1 ≤ ctCount c ∧ ctCount c ≤ 4096)),
    (20, decide (bits (wd c 5) 7 0 ≤ 4)), (21, decide (bits (wd c 5) 15 8 ≤ 127)), (24, wd64 c 6 != 0), (32, ctPartial c || wd64 c 8 == 0)]

/-- Step 6: reserved fields of the header and of words 1 to 31 of the trailer; SIG_ALG's upper half is one too. -/
def stepReserved (c : List Nat) : Option Nat :=
  match maskBad 0 c ([mAll, 0x1FF0F, mAll, 0xFFFF, 0xFFFFF, 0xFFFF, mAll, mAll, mAll, mAll] ++ List.replicate 54 0) with
  | some o => some o
  | none => maskBad (ctTotal c - 512) (c.drop (ctTotal c / 4 - 128)) (0xFFFF :: List.replicate 31 0)

/-- Is a TYPE defined, and is it a singleton's (R34)? -/
def typeKnown (t : Nat) : Bool := decide (1 ≤ t ∧ t ≤ 10)
def typeSingle (t : Nat) : Bool := decide (2 ≤ t ∧ t ≤ 7)

/-- Walk n region records from a position to the trailer; the failure is (FAIL_REGION, FAIL_OFFSET). A record whose LENGTH is no multiple of 8 is the
misaligned one, not the record that would follow it unaligned (DESIGN CHOICE, log entry 40). -/
def walkRecords (c : List Nat) (stop : Nat) : Nat → Nat → Nat → List Region × Option (Nat × Nat)
  | 0, k, pos => ([], if pos = stop then none else some (k, pos))
  | n + 1, k, pos =>
    if pos = stop then ([], some (k, stop))
    else
      let h := (c.drop (pos / 4)).take 4
      let len := wd h 1
      if stop < pos + 16 ∨ len % 8 ≠ 0 ∨ stop < pos + 16 + len then ([], some (k, pos + 4))
      else
        let r : Region := ⟨bits (wd h 0) 15 0, bits (wd h 2) 15 0, wd h 3, pos, len, (c.drop (pos / 4 + 4)).take (len / 4)⟩
        let (rs, f) := walkRecords c stop n (k + 1) (pos + 16 + len)
        (r :: rs, f)

/-- Two records for one region. -/
def sameRegion (a b : Region) : Bool := a.typ == b.typ && a.idx == b.idx

/-- Does a GRAPH or FLAG_PLAN record stand with its partner (R36)? In a partial container both are present or both are deletions. -/
def paired (part : Bool) (rs : List Region) (r : Region) : Bool :=
  if r.typ = 1 ∨ r.typ = 10 then rs.any (fun q => q.typ == 11 - r.typ && q.idx == r.idx && (!part || (q.len == 0) == (r.len == 0))) else true

/-- Does a record stand a second time: the same TYPE and INSTANCE, or in a full container the same singleton TYPE (R36)? -/
def repeated (part : Bool) (a b : Region) : Bool := sameRegion a b || (!part && typeSingle a.typ && a.typ == b.typ)

/-- Step 7: the walk's own failure, then the records one by one, then missing singletons. -/
def stepWalk (c : List Nat) (rs : List Region) (f : Option (Nat × Nat)) : Option (Nat × Nat) :=
  match f with
  | some x => some x
  | none =>
    match rs.zipIdx.findSome? (fun (r, k) =>
      if !typeKnown r.typ || (rs.take k).any (repeated (ctPartial c) r) || !paired (ctPartial c) rs r then some (k, r.off) else none) with
    | some x => some x
    | none =>
      if !ctPartial c && [2, 3, 4, 5, 6, 7].any (fun t => !rs.any (fun r => r.typ == t)) then some (ctCount c, ctTotal c - 512) else none

/-! ### Reserved fields (step 8) -/

/-- A graph version made of a GRAPH payload and a FLAG_PLAN payload. -/
def gver (r : Region) (plan : List Nat) : GVer := ⟨r.idx, r.ver, 0, r.words, plan, 0, true⟩

/-- Allowed bits of the words of a node's own parameter block, by NODE_TYPE; p is the block. -/
def nodeMasks (t : Nat) (gated : Bool) (p : List Nat) : List Nat :=
  let f := mAll
  match t with
  | 1 => [f, 0, 0x01FFFFFF, 0xFFFF]
  | 3 => [0xF1F, 0xF, f, if bits (wd p 0) 1 0 = 2 then f else 0, f, f, if bitAt (wd p 0) 4 then 0 else f, f, f, f, f, 0]
  | 4 =>
    let m := bits (wd p 0) 2 0
    let mesh := if m = 0 then f else 0
    let disp := if m = 1 then f else 0
    [0xFFFF1E7F + (if m = 0 then 0x180 else 0) + (if m = 1 then 0xE000 else 0), if m = 1 then 0x7FF else 0xF, f, f, f, f,
      if bitAt (wd p 0) 10 then 0 else f, f, f, f, f, f, f, mesh, mesh, mesh, disp, disp, disp, disp] ++
      List.replicate 9 (if m = 2 ∨ m = 3 then f else 0) ++ List.replicate 13 (if m = 3 then f else 0) ++ [0, 0]
  | 5 => [0x3FFFFFFF, 0x1F, f, 0x0FFF01FF, 0x00FFFFFF, f, 0x00FFFFFF, 0x1FF, f, f, f, f, f, 0] ++ List.replicate 9 f ++
      [if gated then f else 0, f, f, f, f, 0x01FFFFFF, 0xFF, 0, 0]
  | 6 =>
    let tmp := bitAt (wd p 0) 3
    [0x1FFFFF7F, 0xFFF, f, f, f, 0x1FF, f, f, if tmp then 0 else f, if tmp then 0 else f, f, 0] ++ List.replicate 9 f ++
      [if gated then f else 0, if tmp then f else 0, if tmp then f else 0, f, 0, 0, 0]
  | 7 => [0x3FFFFFFF, 0x3F, f, 0xFFFFF, f, f, 0xFFFF01FF, f, f, 0x00FF0FFF] ++ List.replicate 13 f ++ [0, 0, 0, 0, 0]
  | 8 => [0x1F, f, f, if bitAt (wd p 0) 4 then f else 0, f, f, f, 0x7FFFF, 0xFFFFF, 0] ++ List.replicate 16 f
  | 9 => [0xFFFF, f, 0xFFFF, f, f, f, f, f, f, f] ++ (List.replicate 4 [0xFFFFFF0F, 0x00FFFFFF]).flatten ++ [0, 0]
  | 10 => [0xFFF7] ++ List.replicate 10 f ++ [0]
  | 12 => [0x1FFFF, 0x1FFFF, f, f]
  | _ => []

/-- The first reserved word set in a node's parameter block, as a byte offset in it (R93, R140, R141, R316, R324, R397). -/
def paramReserved (g : GVer) (n : Nat) : Option Nat :=
  let full := g.params n
  let skip := if g.gated n then 8 else 0
  match (if g.gated n then maskBad 0 full [0xFF3F, 0] else none) with
  | some o => some o
  | none =>
    let p := Work.own g n
    match g.typ n with
    | 2 =>
      match maskBad skip p [0x07FF00F1, 0xF] with
      | some o => some o
      | none => (List.range 4).findSome? (fun k =>
          maskBad (skip + 8 + 64 * k) (ispDesc p k) (if bitAt (wd p 0) (4 + k) then 0xFFFF :: List.replicate 15 mAll else List.replicate 16 0))
    | 11 =>
      match maskBad skip p [0x1FF, 0xF, mAll, mAll] with
      | some o => some o
      | none => (List.range (bits (wd p 0) 8 0)).findSome? (fun k =>
          if cpReservedOk ((p.drop (4 + 32 * k)).take 32) then none else some (skip + 16 + 128 * k))
    | 13 =>
      match maskBad skip p [0x1F, 0xF, mAll, 0, mAll, mAll] with
      | some o => some o
      | none => (List.range (bits (wd p 0) 4 0)).findSome? (fun k =>
          let it := (p.drop (6 + 8 * k)).take 8
          maskBad (skip + 24 + 32 * k) it (if bits (wd it 0) 1 0 = 2 then [3, 0xFFFFFF, 0, 0, 0xFF, 0, 0, 0] else [3, mAll, mAll, mAll, mAll, mAll, 0, 0]))
    | t => maskBad skip p (nodeMasks t (g.gated n) p)

/-- Reserved fields of a GRAPH payload, as a byte offset in it (R37). -/
def graphReserved (g : GVer) : Option Nat :=
  match maskBad 0 g.graph [mAll, 0xFFFF, mAll, 0, 0, 0, 0, 0] with
  | some o => some o
  | none =>
    match (List.range g.nodeCount).findSome? (fun n =>
      let t := g.typ n
      maskBad (32 + 32 * n) ((List.range 8).map (g.node n))
        [0xFFFF, mAll, mAll, if t = 8 ∨ t = 12 ∨ t = 13 ∨ t = 14 then 0xFFFF0000 else 0xFFFF00FF, if t = 8 then mAll else 0, if t = 8 then mAll else 0, mAll, 0x3FF]) with
    | some o => some o
    | none =>
      match (List.range g.edgeCount).findSome? (fun e =>
        maskBad (32 + 32 * g.nodeCount + 16 * e) ((List.range 4).map (g.edge e)) [mAll, 0x00FFFF03, if g.eKind e = 1 then mAll else 0xFFFF, 0]) with
      | some o => some o
      | none => (List.range g.nodeCount).findSome? (fun n =>
          (paramReserved g n).map (fun o => 32 + 32 * g.nodeCount + 16 * g.edgeCount + g.node n 6 + o))

/-- A reserved unit ID (R18). -/
def unitKnown (u : Nat) : Bool :=
  decide (u ≤ 0x43 ∨ (0x50 ≤ u ∧ u ≤ 0x5D) ∨ (0x60 ≤ u ∧ u ≤ 0x7D) ∨ (0x80 ≤ u ∧ u ≤ 0x84) ∨ (0x88 ≤ u ∧ u ≤ 0xA7) ∨ u = uSecurity ∨ u = uSafety ∨ u = uHost)

/-- Reserved fields of a payload, as a byte offset in it. Those of an ISP_CALIB count here as R48 has it, and its values at step 10 (R138; DEDUCED, log
entry 40). -/
def payloadReserved (r : Region) : Option Nat :=
  let n := r.words.length
  match r.typ with
  | 1 => graphReserved (gver r [])
  | 2 => maskBad 0 r.words (List.replicate (n / 2) [0xFFFF, 0]).flatten
  | 3 => maskBad 0 r.words (List.replicate (n / 4) [0x3F1F0F03, 0xFFFF00FF, mAll, mAll]).flatten
  | 4 => r.words.zipIdx.findSome? (fun (v, k) =>
      let fn := bits v 15 8
      if bits v 31 24 ≠ 0 then some (4 * k + 3)
      else if (fn ≤ 2 ∧ bits v 23 16 ≠ 0) ∨ (fn = 5 ∧ bits v 23 17 ≠ 0) then some (4 * k + 2) else none)
  | 5 =>
    match maskBad 0 r.words (List.replicate (n / 2) [0xFFFF00FF, 0xFFFF00FF]).flatten with
    | some o => some o
    | none => (List.range (n / 2)).findSome? (fun k => if unitKnown (bits (wd r.words (2 * k + 1)) 7 0) then none else some (8 * k + 4))
  | 6 => maskBad 0 r.words [0x001FFFFF, 0xFFFF, 0, 0, 0, 0, 0, 0]
  | 7 => maskBad 0 r.words [0xFF01FF07, mAll, mAll, mAll, 0, 0, 0, 0]
  | 8 => calibReserved (n + 1) 0 r.words
  | 9 => maskBad 0 r.words ([mAll, mAll, mAll, 0x1FFFF] ++ List.replicate 8 mAll ++ [0, 0, 0, 0])
  | 10 => maskBad 0 r.words ([0xFFFF, 0] ++ (List.replicate (n / 2 - 1) [0xFFFFFF, 1]).flatten)
  | _ => none

/-- Step 8 for one record: its header, INSTANCE of a singleton, and its payload, as an offset in the container. -/
def recordReserved (c : List Nat) (r : Region) : Option Nat :=
  match maskBad r.off ((c.drop (r.off / 4)).take 4) [0x000FFFFF, mAll, if typeSingle r.typ then 0 else 0xFFFF, mAll] with
  | some o => some o
  | none => (payloadReserved r).map (fun o => r.off + 16 + o)

end Sys2Proof.Machine
end

