-- ==== Sys2Proof/Machine/LoadChecks.lean ====
section
/-! DEFINITION. Step 10 of R48: value ranges, reserved encodings and references of the merged configuration (R37 to R46, R56, R58, R84 to R98,
R106, R130, R138 to R145, R150, R156, R167 to R172, R184 to R194, R202, R207 to R213, R221 to R224, R252, R324, R362, R397, R472, R485, R524). -/

namespace Sys2Proof.Machine

open Config

/-- One check of a region of the merged configuration: its byte offset from the record header, its status, and whether it holds. -/
structure LCheck where
  off : Nat
  status : Nat
  ok : Bool

/-- A check that ends in DESC_FORMAT. -/
def lc (off : Nat) (ok : Bool) : LCheck := ⟨off, stDescFormat, ok⟩

/-! ### The merged configuration -/

/-- A region's payload words. -/
def rgWords (rs : List Region) (typ idx : Nat) : List Nat := ((rs.find? (fun r => r.typ == typ && r.idx == idx)).map Region.words).getD []

/-- Is a region in a configuration? -/
def rgHas (rs : List Region) (typ idx : Nat) : Bool := rs.any (fun r => r.typ == typ && r.idx == idx)

/-- Region order: TYPE, then INSTANCE. Step 10's checks run in it (DESIGN CHOICE, log entry 40). -/
def rgLess (a b : Region) : Bool := decide (a.typ < b.typ ∨ (a.typ = b.typ ∧ a.idx < b.idx))

/-- The active configuration with a container's records replaced, added or deleted (R48); in a partial container LENGTH 0 deletes (R34), and deleting a region that
the configuration does not hold changes nothing (DESIGN CHOICE, log entry 40). -/
def mergeRegions (part : Bool) (old new : List Region) : List Region :=
  sortBy rgLess (old.filter (fun r => !new.any (sameRegion r)) ++ new.filter (fun r => r.len != 0 || !part))

/-- The role a CARVE gives a slab, and the whole entry (R40). -/
def carveEntry (rs : List Region) (slab : Nat) : Nat :=
  let ws := rgWords rs 2 0
  (((List.range (ws.length / 2)).map (fun k => wd ws (2 * k))).find? (fun v => bits v 7 0 == slab)).getD 0
def carveRole (rs : List Region) (slab : Nat) : Nat := bits (carveEntry rs slab) 11 8

/-- The slabs a range of the Quarry touches. -/
def slabsOf (a n : Nat) : List Nat :=
  if n = 0 ∨ a + n ≤ 0x4000000000 ∨ 0x4024000000 ≤ a then []
  else
    let lo := slabOfQ a
    let hi := min 35 ((a + n - 1 - 0x4000000000) / 0x1000000)
    (List.range (hi - lo + 1)).map (fun k => lo + k)
where slabOfQ (a : Nat) : Nat := if a < 0x4000000000 then 0 else (a - 0x4000000000) / 0x1000000

/-- Does an area lie wholly in LPDDR5X, or wholly in slabs of some roles? -/
def placed (w : Work) (rs : List Region) (roles : List Nat) (a n : Nat) : Bool :=
  w.inDram a n || (Work.inQuarry a n && (slabsOf a n).all (fun s => roles.contains (carveRole rs s)))

/-- The CONTEXT_MAP words of a context in a configuration. -/
def rgCtx (rs : List Region) (c : Nat) : List Nat := ((rgWords rs 3 0).drop (4 * c)).take 4

/-- The version of a graph a configuration holds. -/
def rgGraph (rs : List Region) (gid : Nat) : GVer :=
  ⟨gid, 0, 0, rgWords rs 1 gid, rgWords rs 10 gid, 0, true⟩

/-- The mosaic pattern of a context's calibration. -/
def rgPattern (rs : List Region) (c : Nat) : Nat :=
  (((Work.subBlocks 64 (rgWords rs 8 (bits (wd (rgCtx rs c) 1) 7 0))).find? (fun b => b.1 == 5)).map (fun b => bits (wd b.2 2) 3 0)).getD 0

/-! ### What a node's output holds -/

/-- The image an output port writes: base and stride, bytes between lines (0 = tiled), bytes per pixel (0 = no plain image), size, levels,
and whether its levels are Laplacian (R141, R205, R212, R220, R221). -/
structure OutImg where
  base : Nat
  stride : Nat
  pitch : Nat
  e : Nat
  w : Nat
  h : Nat
  levels : Nat
  laplace : Bool

/-- The image on an output port of a node, for the producers that write images. -/
def outImg (g : GVer) (n port : Nat) : Option OutImg :=
  let p := Work.own g n
  match g.typ n with
  | 2 =>
    let d := ispDesc p port
    let f := bits (wd d 0) 7 4
    some ⟨wd64 d 4, wd d 6, if bitAt (wd d 0) 8 then 0 else wd d 7, if f = 0 ∨ f = 7 then 1 else if f = 1 ∨ f = 8 then 2 else 0,
      bits (wd d 3) 15 0, bits (wd d 3) 31 16, 1, false⟩
  | 3 =>
    let m := bits (wd p 0) 1 0
    some ⟨wd64 p 8, wd p 10, 0, 1 + bits (wd p 0) 3 3, if m = 2 then bits (wd p 3) 15 0 else bits (wd p 2) 15 0,
      if m = 2 then bits (wd p 3) 31 16 else bits (wd p 2) 31 16, if m = 2 then 1 else bits (wd p 0) 11 8, m == 1⟩
  | 4 => some ⟨wd64 p 10, wd p 12, 0, 1 + bits (wd p 0) 9 9, bits (wd p 3) 15 0, bits (wd p 3) 31 16, 1, false⟩
  | _ => none

/-- Bytes of a PYRAMID buffer, its sideband arrays with it (R205). -/
def pyrBytes (p : List Nat) : Nat :=
  let e := 1 + bits (wd p 0) 3 3
  let m := bits (wd p 0) 1 0
  let wid := if m = 2 then bits (wd p 3) 15 0 else bits (wd p 2) 15 0
  let hei := if m = 2 then bits (wd p 3) 31 16 else bits (wd p 2) 31 16
  let n := if m = 2 then 1 else bits (wd p 0) 11 8
  let planes := if m = 1 then pyrOff wid hei 2 (n - 1) + lvTw wid (n - 1) * lvTh hei (n - 1) * e else pyrOff wid hei e n
  pyrSb planes hei n

/-- Bytes of a WARP output buffer (R220). -/
def warpBytes (p : List Nat) : Nat :=
  let e := 1 + bits (wd p 0) 9 9
  let tw := roundUp (bits (wd p 3) 15 0) 64
  let th := roundUp (bits (wd p 3) 31 16) 16
  let sb := roundUp (bits (wd p 0) 12 11 * wd p 9 + tw * th * e) 64 + 4 * th
  if bits (wd p 0) 6 5 = 2 then roundUp sb 64 + tw / 8 * th else sb

/-- Rows of pixel words with their sideband array. -/
def wordBytes (pitch h : Nat) : Nat := roundUp (pitch * h) 64 + 4 * h

/-- The scratch need of one engine for a STEREO node (R171). -/
def stereoScratch (p : List Nat) : Nat :=
  let wid := bits (wd p 2) 15 0
  let hei := bits (wd p 2) 31 16
  let coarse := bits (wd p 0) 11 8
  let fine := bits (wd p 0) 15 12
  let pl := fun l => if coarse < l then 0 else roundUp (lvTw wid l * lvTh hei l * 2) 64
  let slots := fun l => if l = coarse then bits (wd p 3) 8 0 else roundUp (2 * bits (wd p 0) 21 16 + 1) 8
  let paths := ((List.range (coarse + 1 - fine)).map (fun k => lvTw wid (fine + k) * 16 * slots (fine + k) * 2)).foldl max 0
  pl (fine + 1) + pl (fine + 2) + (if bitAt (wd p 0) 3 then pl fine else 0) + (if bitAt (wd p 0) 2 then roundUp paths 64 else 0)

/-- The scratch need of one engine for a FLOW node, and its history need (R189). -/
def flowScratch (p : List Nat) : Nat × Nat :=
  let wid := bits (wd p 2) 15 0
  let hei := bits (wd p 2) 31 16
  let e := 1 + bits (wd p 1) 4 4
  let coarse := bits (wd p 0) 11 8
  let last := Work.flowLast p
  let pl := fun l => if coarse < l then 0 else roundUp (lvTw wid l * lvTh hei l * 8) 64
  let blocks := lvTw wid coarse / 8 * (lvTh hei coarse / 8)
  (pl (last + 1) + pl (last + 2) + roundUp (8 * blocks) 64 + (if bitAt (wd p 0) 2 then pl last else 0),
    64 + ((List.range (coarse + 1 - last)).map (fun k => roundUp (lvTw wid (last + k) * lvTh hei (last + k) * e) 64)).sum)

/-- The cells of a FEATURE node, and its history need (R194, R199, R200). -/
def featureNeed (p : List Nat) : Nat × Nat :=
  let wid := bits (wd p 2) 15 0
  let hei := bits (wd p 2) 31 16
  let e := 1 + bits (wd p 1) 4 4
  let cells := ceilDiv wid (max 1 (bits (wd p 3) 9 0)) * ceilDiv hei (max 1 (bits (wd p 3) 19 10))
  let cap := bits (wd p 4) 15 0
  let dsize := if bitAt (wd p 0) 6 then 64 else 32
  let a := 64 + ((List.range (if bitAt (wd p 0) 3 then bits (wd p 9) 11 8 else 0)).map (fun k => roundUp (lvTw wid k * lvTh hei k * e) 64)).sum
  (cells, roundUp (roundUp (a + 32 * cap) 64 + dsize * cap) 64 + 4 * cells)

/-- Tiles of a PLUMB node and its output bytes (R86). -/
def plumbNeed (p : List Nat) : Nat × Nat :=
  let s := 16 * 2 ^ bits (wd p 0) 1 0
  let tx := ceilDiv (bits (wd p 1) 15 0) s
  let ty := ceilDiv (bits (wd p 1) 31 16) s
  let list := roundUp (64 + 8 * tx * ty) 64
  (tx * ty, roundUp (list + roundUp tx 64 / 8 * ty) 64 + 64 * tx * ty)

/-- Bytes of a SEAM output buffer (R97). -/
def seamNeed (p : List Nat) : Nat :=
  let s := 16 * 2 ^ bits (wd p 0) 1 0
  let e := if bitAt (wd p 0) 2 then 8 else 4
  let wid := bits (wd p 9) 15 0
  let hei := bits (wd p 9) 31 16
  roundUp (wid * hei * e) 64 + 64 + ceilDiv (ceilDiv wid s * ceilDiv hei s) 2

/-- Bytes of an ISP output's buffer (R145). -/
def ispBytes (d : List Nat) (pattern : Nat) : Nat :=
  ispSb d (sourceChans pattern (bits (wd d 0) 3 0)) + 4 * bits (wd d 3) 31 16

/-- The areas a node works in for an instance slot, as (word of its own block, first byte, bytes, kind): kind 0 must lie in FRAME slabs or
LPDDR5X, kind 1 may lie in MODEL slabs too, kind 2 has no rule at the load. -/
def nodeAreas (rs : List Region) (g : GVer) (n s : Nat) : List (Nat × Nat × Nat × Nat) :=
  let p := Work.own g n
  let lo := fun (v : Nat) => bits v 15 0
  let hi := fun (v : Nat) => bits v 31 16
  match g.typ n with
  | 2 => ((List.range 4).filter (fun k => bitAt (wd p 0) (4 + k))).map (fun k =>
      let d := (p.drop (2 + 16 * k)).take 16
      (2 + 16 * k + 4, wd64 d 4 + s * wd d 6, ispBytes d (rgPattern rs (inputCtx g n)), 0))
  | 3 =>
    let e := 1 + bits (wd p 0) 3 3
    let inB := if bitAt (wd p 0) 4 then roundUp (lo (wd p 2)) 64 * roundUp (hi (wd p 2)) 16 * e else wd p 6 * hi (wd p 2)
    [(4, wd64 p 4 + s * wd p 7, inB, 0), (8, wd64 p 8 + s * wd p 10, pyrBytes p, 0)]
  | 4 =>
    let e := 1 + bits (wd p 0) 9 9
    let plane := if bitAt (wd p 0) 10 then roundUp (lo (wd p 2)) 64 * roundUp (hi (wd p 2)) 16 * e else wd p 6 * hi (wd p 2)
    let m := bits (wd p 0) 2 0
    let step := 8 * 2 ^ bits (wd p 0) 8 7
    [(4, wd64 p 4 + s * wd p 8, bits (wd p 0) 12 11 * wd p 7 + plane, 0), (10, wd64 p 10 + s * wd p 12, warpBytes p, 0)] ++
      (if m = 0 then [(14, wd64 p 14, wd p 13 * (ceilDiv (hi (wd p 3)) step - 1) + 8 * ceilDiv (lo (wd p 3)) step, 1)] else []) ++
      (if m = 1 then [(16, wd64 p 16 + s * wd p 19, wd p 18 * ceilDiv (hi (wd p 3)) (2 ^ bits (wd p 0) 15 14), 0)] else [])
  | 5 =>
    let wid := lo (wd p 2)
    let hei := hi (wd p 2)
    let e := 1 + bits (wd p 1) 4 4
    let coarse := bits (wd p 0) 11 8
    let fine := bits (wd p 0) 15 12
    let out := wordBytes (wd p 16) (lvDim hei fine)
    let engines := if g.unit n = 0xFF then [0, 1] else [g.unit n - 0x58]
    [(8, wd64 p 8 + s * wd p 12, pyrOff wid hei e (coarse + 1), 0), (10, wd64 p 10 + s * wd p 12, pyrOff wid hei e (coarse + 1), 0)] ++
      (if g.gated n then [(18, wd64 p 18 + s * wd p 17, refineBytes g n, 0)]
        else (14, wd64 p 14 + s * wd p 17, out, 0) :: (if bitAt (wd p 0) 7 then [(18, wd64 p 18 + s * wd p 17, out, 0)] else [])) ++
      engines.map (fun k => (20, wd64 p 20 + k * wd p 22, wd p 22, 0)) ++
      (if bits (wd p 0) 5 4 = 0 then [] else
        [(24, wd64 p 24, (bits (wd p 28) 20 12 - 1) * wd p 27 + wd p 26 * lvDim hei (bits (wd p 28) 24 21), 0)])
  | 6 =>
    let wid := lo (wd p 2)
    let hei := hi (wd p 2)
    let e := 1 + bits (wd p 1) 4 4
    let coarse := bits (wd p 0) 11 8
    let tmp := bitAt (wd p 0) 3
    let out := wordBytes (wd p 14) (lvDim hei (Work.flowLast p))
    let engines := if g.unit n = 0xFF then [0, 1] else [g.unit n - 0x5A]
    [(6, wd64 p 6 + s * wd p 10, pyrOff wid hei e (coarse + 1), 0)] ++
      (if tmp then [(22, wd64 p 22, 2 * wd p 24, 0)] else [(8, wd64 p 8 + s * wd p 10, pyrOff wid hei e (coarse + 1), 0)]) ++
      (if g.gated n then [(16, wd64 p 16 + s * wd p 15, refineBytes g n, 0)]
        else (12, wd64 p 12 + s * wd p 15, out, 0) :: (if bitAt (wd p 0) 5 then [(16, wd64 p 16 + s * wd p 15, out, 0)] else [])) ++
      engines.map (fun k => (18, wd64 p 18 + k * wd p 20, wd p 20, 0))
  | 7 =>
    let e := 1 + bits (wd p 1) 4 4
    let cap := bits (wd p 4) 15 0
    [(11, wd64 p 11 + s * wd p 13, pyrOff (lo (wd p 2)) (hi (wd p 2)) e (bits (wd p 0) 11 8), 0),
      (14, wd64 p 14 + s * wd p 16, roundUp (64 + 32 * cap) 64 + 4 * (featureNeed p).1, 0)] ++
      (if bitAt (wd p 0) 1 then [(18, wd64 p 18 + s * wd p 17, cap * (if bitAt (wd p 0) 6 then 64 else 32), 0)] else []) ++
      (if bitAt (wd p 0) 7 then [(20, wd64 p 20, 2 * wd p 22, 0)] else [])
  | 8 => [(10, wd64 p 10, wd64 p 12, 2), (14, wd64 p 14, wd64 p 16, 2)]
  | 9 => [(5, wd64 p 5, (plumbNeed p).1, 2), (8, wd64 p 8 + s * wd p 7, (plumbNeed p).2, 2)]
  | 10 => [(4, wd64 p 4 + s * wd p 10, wd p 3, 2), (6, wd64 p 6 + s * wd p 8, seamNeed p, 2)]
  | 11 => (copyNodeDescs p s).zipIdx.flatMap (fun (ws, i) =>
      let c := cpDesc ws
      let fs := cpFoot c.e c.src c.ext c.ss
      let fd := cpFoot c.e c.dst c.ext c.ds
      (4 + 32 * i + 4, fd.1.toNat, (fd.2 - fd.1 + 1).toNat, 2) :: (if c.fill then [] else [(4 + 32 * i + 2, fs.1.toNat, (fs.2 - fs.1 + 1).toNat, 2)]))
  | 13 => (4, wd64 p 4 + s * wd p 2, 64, 0) :: (List.range (bits (wd p 0) 4 0)).flatMap (fun k =>
      let it := (p.drop (6 + 8 * k)).take 8
      if bits (wd it 0) 1 0 = 2 then [] else [(6 + 8 * k + 2, wd64 it 2 + s * wd p 2, wd it 1, 0)])
  | _ => []
where
  /-- The context of the SOURCE that feeds input port 0. -/
  inputCtx (g : GVer) (n : Nat) : Nat := ((Work.inEdge g n 0).map (fun e => g.unit (g.eFrom e))).getD 0
  /-- Bytes of the refine area a gated engine node writes: TILE_PITCH for each tile its PLUMB may select. -/
  refineBytes (g : GVer) (n : Nat) : Nat :=
    let p := Work.own g n
    match (Work.inEdge g n (bits (wd (g.params n) 0) 15 8)).map g.eFrom with
    | none => 0
    | some m =>
      let q := g.params m
      (if bits (wd q 2) 15 0 = 0 then (plumbNeed q).1 else bits (wd q 2) 15 0) * wd p (if g.typ n = 5 then 23 else 21)

/-! ### Nodes -/

/-- Does a resampling keep its ratio of 1/16 to 2, from b pixels to a (R143, R208)? -/
def ratioOk (a b : Nat) : Bool := decide (1 ≤ a ∧ 1 ≤ b ∧ b ≤ 16 * a ∧ a ≤ 2 * b)

/-- Does v lie in [lo, hi]? -/
def within (lo hi v : Nat) : Bool := decide (lo ≤ v ∧ v ≤ hi)

/-- The UNIT a node type may name (R18, R37). -/
def unitOk (t u : Nat) : Bool :=
  match t with
  | 1 => decide (u ≤ 63)
  | 2 => within 0x60 0x63 u || u == 0xFF
  | 3 => within 0x50 0x53 u || u == 0xFF
  | 4 => within 0x54 0x57 u || u == 0xFF
  | 5 => within 0x58 0x59 u || u == 0xFF
  | 6 => within 0x5A 0x5B u || u == 0xFF
  | 7 => within 0x5C 0x5D u || u == 0xFF
  | 9 | 10 => within 0x74 0x75 u || u == 0xFF
  | 11 => within 0x76 0x77 u || u == 0xFF
  | _ => true

/-- PARAM_LEN of a node type, none where it has no fixed one (R86, R97, R140, R170, R188, R202, R212, R221, R224, R252, R324, R362, R397). -/
def paramLen (t : Nat) (gated : Bool) (p : List Nat) : Option Nat :=
  let k := b2n gated
  match t with
  | 1 => some 2
  | 2 => some 33
  | 3 => some 6
  | 4 => some 22
  | 5 => some (16 + k)
  | 6 => some (14 + k)
  | 7 => some 14
  | 8 => some (13 + k)
  | 9 => some 10
  | 10 => some 6
  | 11 => some (2 + 16 * bits (wd p 0) 8 0)
  | 12 => some 2
  | 13 => some (3 + 4 * bits (wd p 0) 4 0)
  | _ => none

/-- An ISP_OUT node's checks (R130, R140 to R145); the last component of each is a word of its own block. -/
def ispChecks (w : Work) (rs : List Region) (g : GVer) (n : Nat) : List (Nat × Bool) :=
  let p := Work.own g n
  let src := (Work.inEdge g n 0).filter (fun e => g.eKind e == 0 && g.typ (g.eFrom e) == 1)
  let c := (src.map (fun e => g.unit (g.eFrom e))).getD 0
  let dt := bits (wd (rgCtx rs c) 0) 29 24
  let pat := rgPattern rs c
  let yuv := dt == 0x1E
  [(0, src.isSome && dt != 0x12), (0, bits (wd p 0) 7 4 != 0),
    (2, bitAt (wd p 0) 0 || (within 64 1024 (bits (wd p 0) 26 16) && bits (wd p 0) 26 16 % 16 == 0)), (4, bits (wd p 1) 3 0 == 1)] ++
  ((List.range 4).filter (fun k => bitAt (wd p 0) (4 + k))).flatMap (fun k =>
    let o := ispOut ((p.drop (2 + 16 * k)).take 16) 0
    let at_ := 8 + 64 * k
    let pw := if halfRes o.source then ceilDiv (w.rd Reg.CTX_WIDTH c) 2 else w.rd Reg.CTX_WIDTH c
    let ph := if halfRes o.source then ceilDiv (w.rd Reg.CTX_HEIGHT c) 2 else w.rd Reg.CTX_HEIGHT c
    let pair := if o.fmt = 9 then true else if o.source = 0 then decide (o.fmt ≤ 8)
      else if o.source = 2 then o.fmt == 7 || o.fmt == 8 else decide (o.fmt ≤ 1)
    [(at_, decide (o.source ≤ 4) && decide (o.fmt ≤ 9) && pair && (!o.tiled || decide (o.fmt ≤ 1)) &&
        (!yuv || (o.source == 0 && [0, 1, 4, 5].contains o.fmt)) && o.elem != 3),
      (at_ + 1, o.fmt != 9 || (within 1 4 o.chans && decide (o.chans ≤ sourceChans pat o.source))),
      (at_ + 4, decide (o.cx + o.cw ≤ pw ∧ o.cy + o.ch ≤ ph)),
      (at_ + 12, ratioOk o.ow o.cw && ratioOk o.oh o.ch && (!(o.fmt == 4 || o.fmt == 6) || (o.ow % 2 == 0 && o.oh % 2 == 0)) &&
        (!(o.fmt == 9 && o.elem == 2 && !o.c64) || o.ow % 32 == 0)),
      (at_ + 24, wd o.d 6 % 64 == 0 && decide (ispBytes o.d pat ≤ wd o.d 6)), (at_ + 28, o.pitch % 64 == 0)])

/-- A PYRAMID node's checks (R208, R210, R212, R213). -/
def pyramidChecks (g : GVer) (n : Nat) : List (Nat × Bool) :=
  let p := Work.own g n
  let m := bits (wd p 0) 1 0
  let lv := bits (wd p 0) 11 8
  let wid := bits (wd p 2) 15 0
  let hei := bits (wd p 2) 31 16
  let tiled := bitAt (wd p 0) 4
  let e := Work.inEdge g n 0
  let prod := e.bind (fun e => outImg g (g.eFrom e) (g.eFromPort e))
  let kindOk := match e with
    | none => false
    | some e =>
      let t := g.typ (g.eFrom e)
      (g.eKind e == 2 || (g.eKind e == 1 && g.eStripe e % 16 == 0)) &&
        (t == 4 || (t == 2 && bits (wd ((Work.own g (g.eFrom e)).drop (2 + 16 * g.eFromPort e)) 0) 7 4 ≤ 1) ||
          (t == 3 && bits (wd (Work.own g (g.eFrom e)) 0) 1 0 == 2))
  let eq := fun (f : OutImg → Bool) => (prod.map f).getD false
  [(0, decide (m ≤ 2)), (0, eq (fun o => o.e == 1 + bits (wd p 0) 3 3 && (o.pitch == 0) == tiled) && kindOk),
    (1, if m = 2 then lv == 1 else if m = 1 then within 2 10 lv else within 1 10 lv), (4, bits (wd p 1) 3 0 == 1),
    (8, within 16 16384 wid && within 16 16384 hei && eq (fun o => o.w == wid && o.h == hei)),
    (12, m != 2 || (ratioOk (bits (wd p 3) 15 0) wid && ratioOk (bits (wd p 3) 31 16) hei)),
    (16, eq (fun o => o.base == wd64 p 4)), (24, eq (fun o => o.pitch == wd p 6) && wd p 6 % 64 == 0), (28, eq (fun o => o.stride == wd p 7)),
    (40, wd p 10 % 64 == 0 && decide (pyrBytes p ≤ wd p 10))] ++
  (g.outEdges n).map (fun e => (0, g.eKind e == 2))

/-- A WARP node's checks (R213, R220 to R222). -/
def warpChecks (g : GVer) (n : Nat) : List (Nat × Bool) :=
  let p := Work.own g n
  let m := bits (wd p 0) 2 0
  let e0 := Work.inEdge g n 0
  let prod := e0.bind (fun e => outImg g (g.eFrom e) (g.eFromPort e))
  let eq := fun (f : OutImg → Bool) => (prod.map f).getD true
  let dens := bits (wd p 0) 15 14
  let e1 := Work.inEdge g n 1
  let ow := bits (wd p 3) 15 0
  let oh := bits (wd p 3) 31 16
  let disp := match e1 with
    | none => m != 1
    | some e =>
      m == 1 && (g.eKind e == 1 || g.eKind e == 2) && (g.typ (g.eFrom e) == 8 || (g.typ (g.eFrom e) == 6 &&
        (let q := Work.own g (g.eFrom e)
         bits (wd q 0) 1 0 == dens && lvDim (bits (wd q 2) 15 0) (Work.flowLast q) == ceilDiv ow (2 ^ dens) &&
           lvDim (bits (wd q 2) 31 16) (Work.flowLast q) == ceilDiv oh (2 ^ dens))))
  [(0, decide (m ≤ 3) && bits (wd p 0) 4 3 != 3 && bits (wd p 0) 6 5 != 3 && bits (wd p 0) 8 7 != 3 && dens != 3),
    (0, e0.isSome && disp && eq (fun o => o.e == 1 + bits (wd p 0) 9 9 && (o.pitch == 0) == bitAt (wd p 0) 10)), (4, bits (wd p 1) 3 0 == 1),
    (8, within 16 16384 (bits (wd p 2) 15 0) && within 16 16384 (bits (wd p 2) 31 16) &&
      eq (fun o => o.w == bits (wd p 2) 15 0 && o.h == bits (wd p 2) 31 16)),
    (12, within 16 16384 ow && within 16 16384 oh), (16, eq (fun o => o.base == wd64 p 4)), (24, wd p 6 % 64 == 0 && eq (fun o => o.pitch == wd p 6)),
    (28, wd p 7 % 64 == 0), (32, eq (fun o => o.stride == wd p 8)), (36, wd p 9 % 64 == 0), (48, wd p 12 % 64 == 0), (52, wd p 13 % 64 == 0),
    (72, wd p 18 % 64 == 0)] ++
  (g.outEdges n).map (fun e => (0, g.eKind e == 2 || (g.eKind e == 1 && g.eStripe e % 16 == 0)))

/-- The node of the SEAM that a gated node's output feeds, on the SEAM's port 2. -/
def seamOf (g : GVer) (n : Nat) : Option Nat :=
  ((g.outEdges n).find? (fun e => g.typ (g.eTo e) == 10 && g.eToPort e == 2)).map g.eTo

/-- The node whose first course a gated node refines, on its input port 3. -/
def courseOf (g : GVer) (n : Nat) : Option Nat := (Work.inEdge g n 3).map g.eFrom

/-- Output edges of a STEREO or FLOW node keep R167 and R184, and port 1 has a consumer only when it is written (R172, R190). -/
def courseEdges (g : GVer) (n : Nat) (port1 : Bool) : List (Nat × Bool) :=
  (g.outEdges n).map (fun e => (0, (g.eKind e != 1 || g.eStripe e % 16 == 0) && (g.eFromPort e != 1 || port1)))

/-- A STEREO node's checks (R154, R167, R169, R170, R172). -/
def stereoChecks (g : GVer) (n : Nat) : List (Nat × Bool) :=
  let p := Work.own g n
  let m := bits (wd p 0) 1 0
  let coarse := bits (wd p 0) 11 8
  let fine := bits (wd p 0) 15 12
  let wid := bits (wd p 2) 15 0
  let hei := bits (wd p 2) 31 16
  let nc := bits (wd p 3) 8 0
  let cost := bits (wd p 0) 5 4
  let img := fun (port : Nat) => match Work.inEdge g n port with
    | none => false
    | some e => match outImg g (g.eFrom e) (g.eFromPort e) with
      | none => false
      | some o => (g.typ (g.eFrom e) == 3 || (m == 1 && g.typ (g.eFrom e) == 4)) && o.w == wid && o.h == hei && o.e == 1 + bits (wd p 1) 4 4 &&
          !o.laplace && decide (coarse < o.levels)
  let seam := (seamOf g n).map (Work.own g)
  [(0, decide (m ≤ 1) && cost != 3 && bits (wd p 0) 29 28 != 3), (1, decide (fine ≤ coarse ∧ coarse ≤ 9) && (m != 1 || coarse == fine) &&
      decide (16 ≤ lvDim wid coarse ∧ 16 ≤ lvDim hei coarse)),
    (2, within 4 32 (bits (wd p 0) 21 16) && within 4 32 (bits (wd p 0) 27 22)), (4, bits (wd p 1) 3 0 == 1),
    (8, within 64 16384 wid && within 16 16384 hei && img 0 && img 1 && (g.inEdges n).all (fun e => g.eKind e == 2)),
    (12, within 8 256 nc && nc % 8 == 0 && decide ((nc + bits (wd p 3) 27 16) * 2 ^ (coarse - fine) ≤ 4096)),
    (20, decide (bits (wd p 5) 7 0 ≤ 16) && decide (bits (wd p 5) 15 8 ≤ 16) && within 16 64 (bits (wd p 5) 31 24)),
    (28, bits (wd p 7) 8 7 == 0), (48, wd p 12 % 64 == 0),
    (64, wd p 16 % 64 == 0 && decide (4 * lvDim wid fine ≤ wd p 16)), (88, wd p 22 % 64 == 0 && decide (stereoScratch p ≤ wd p 22)),
    (104, wd p 26 % 64 == 0), (108, wd p 27 % 64 == 0),
    (112, cost == 0 || (within 1 256 (bits (wd p 28) 20 12) && within fine coarse (bits (wd p 28) 24 21)))] ++
  (if g.gated n then
    [(0, m == 1 && !bitAt (wd p 0) 7 && ((courseOf g n).map (fun c => bits (wd (Work.own g c) 0) 15 12 == fine)).getD false),
      (72, (seam.map (fun q => wd64 q 4 == wd64 p 18 && wd q 10 == wd p 17 && wd q 3 == wd p 23)).getD false)]
   else []) ++ courseEdges g n (bitAt (wd p 0) 7 || g.gated n)

/-- COST 0: words 24 to 29 and input port 2 are unused (R156). -/
def stereoCost (g : GVer) (n : Nat) : Option Nat :=
  let p := Work.own g n
  if bits (wd p 0) 5 4 ≠ 0 then none
  else if (Work.inEdge g n 2).isSome then some 0
  else (([24, 25, 26, 27, 28, 29] : List Nat).find? (fun k => wd p k != 0)).map (fun k => 4 * k)

/-- The history areas of the non-gated TEMPORAL FLOW nodes of a configuration: graph, node, first byte, bytes (R190). -/
def flowHistories (rs : List Region) : List (Nat × Nat × Nat × Nat) :=
  (rs.filter (fun r => r.typ == 1)).flatMap (fun r =>
    let g := rgGraph rs r.idx
    ((List.range g.nodeCount).filter (fun m => g.typ m == 6 && !g.gated m && bitAt (wd (Work.own g m) 0) 3)).map (fun m =>
      let q := Work.own g m
      (g.gid, m, wd64 q 22, 2 * wd q 24)))

/-- A FLOW node's checks (R175, R184, R186, R188, R190). -/
def flowChecks (rs : List Region) (g : GVer) (n : Nat) : List (Nat × Bool) :=
  let p := Work.own g n
  let coarse := bits (wd p 0) 11 8
  let last := Work.flowLast p
  let wid := bits (wd p 2) 15 0
  let hei := bits (wd p 2) 31 16
  let tmp := bitAt (wd p 0) 3
  let img := fun (port : Nat) => match Work.inEdge g n port with
    | none => false
    | some e => match outImg g (g.eFrom e) (g.eFromPort e) with
      | none => false
      | some o => g.typ (g.eFrom e) == 3 && g.eKind e == 2 && o.w == wid && o.h == hei && o.e == 1 + bits (wd p 1) 4 4 && !o.laplace && decide (coarse < o.levels)
  let seam := (seamOf g n).map (Work.own g)
  let meets := (flowHistories rs).any (fun h =>
    (h.1 != g.gid || h.2.1 != n) && decide (h.2.2.1 < wd64 p 22 + 2 * wd p 24 ∧ wd64 p 22 < h.2.2.1 + h.2.2.2))
  [(0, bits (wd p 0) 1 0 != 3), (1, decide (coarse ≤ 9) && decide (bits (wd p 0) 15 12 ≤ 9) && decide (last ≤ coarse) &&
      decide (16 ≤ lvDim wid coarse ∧ 16 ≤ lvDim hei coarse)),
    (2, within 4 64 (bits (wd p 0) 22 16) && within 1 7 (bits (wd p 0) 25 23) && within 1 7 (bits (wd p 0) 28 26)),
    (4, bits (wd p 1) 3 0 == 1 && within 4 64 (bits (wd p 1) 11 5)),
    (8, within 64 16384 wid && within 16 16384 hei && img 0 && (if tmp then (Work.inEdge g n 1).isNone else img 1)),
    (12, within 16 64 (bits (wd p 3) 7 0)), (20, bits (wd p 5) 8 7 == 0), (40, wd p 10 % 64 == 0), (56, wd p 14 % 64 == 0 && decide (8 * lvDim wid last ≤ wd p 14)),
    (80, wd p 20 % 64 == 0 && decide ((flowScratch p).1 ≤ wd p 20)), (88, !tmp || g.gated n || !meets),
    (96, wd p 24 % 64 == 0 && (!tmp || decide ((flowScratch p).2 ≤ wd p 24)))] ++
  (if g.gated n then
    [(0, tmp && !bitAt (wd p 0) 5 && ((courseOf g n).map (fun c =>
        let q := Work.own g c
        wd64 q 22 == wd64 p 22 && bits (wd q 0) 15 8 == bits (wd p 0) 15 8 && bits (wd q 0) 1 0 == bits (wd p 0) 1 0)).getD false),
      (64, (seam.map (fun q => wd64 q 4 == wd64 p 16 && wd q 10 == wd p 15 && wd q 3 == wd p 21)).getD false)]
   else []) ++ courseEdges g n (bitAt (wd p 0) 5 || g.gated n)

/-- A FEATURE node's checks (R192, R194, R202). -/
def featureChecks (g : GVer) (n : Nat) : List (Nat × Bool) :=
  let p := Work.own g n
  let ops := bits (wd p 0) 3 0
  let tmp := bitAt (wd p 0) 7
  let lv := bits (wd p 0) 11 8
  let wid := bits (wd p 2) 15 0
  let hei := bits (wd p 2) 31 16
  let cells := (featureNeed p).1
  let cap := bits (wd p 4) 15 0
  let pyr := match Work.inEdge g n 0 with
    | none => false
    | some e => match outImg g (g.eFrom e) (g.eFromPort e) with
      | none => false
      | some o => g.typ (g.eFrom e) == 3 && g.eKind e == 2 && o.w == wid && o.h == hei && o.e == 1 + bits (wd p 1) 4 4 && !o.laplace && decide (lv ≤ o.levels)
  let ref := match Work.inEdge g n 1 with
    | none => !(bitAt ops 2 && !tmp)
    | some e =>
      let q := Work.own g (g.eFrom e)
      bitAt ops 2 && !tmp && g.typ (g.eFrom e) == 7 && g.eFromPort e == 0 && !bitAt (wd q 0) 3 && !bitAt (wd q 0) 6
  [(0, [1, 3, 7, 8, 9, 11].contains ops && (!bitAt ops 3 || tmp) && (!bitAt ops 2 || !bitAt (wd p 0) 6) && bits (wd p 0) 5 4 != 3 && ref && pyr),
    (1, within 1 10 lv && decide (bits (wd p 0) 13 12 ≤ 1)), (2, within 9 12 (bits (wd p 0) 23 20)), (3, within 1 7 (bits (wd p 0) 28 26)),
    (4, bits (wd p 1) 3 0 == 1), (8, within 64 16384 wid && within 16 16384 hei),
    (12, within 16 1023 (bits (wd p 3) 9 0) && within 16 1023 (bits (wd p 3) 19 10) && decide (cells ≤ 4096) &&
      decide (cells * (bits (wd p 0) 19 14 + 1) ≤ 32768)),
    (16, within 1 32768 (bits (wd p 4) 15 0)), (24, decide (bits (wd p 6) 8 0 ≤ 256) && within 1 16 (bits (wd p 6) 23 16)),
    (28, decide (bits (wd p 7) 15 0 ≤ 1023) && decide (bits (wd p 7) 31 16 ≤ 1023)), (36, within 1 lv (bits (wd p 9) 11 8)),
    (64, wd p 16 % 64 == 0 && decide (roundUp (64 + 32 * cap) 64 + 4 * cells ≤ wd p 16)),
    (68, wd p 17 % 64 == 0 && (!bitAt ops 1 || decide (cap * (if bitAt (wd p 0) 6 then 64 else 32) ≤ wd p 17))), (88, !tmp || decide ((featureNeed p).2 ≤ wd p 22))] ++
  (g.outEdges n).map (fun e => (0, g.eKind e == 2))

/-- A NEURAL node's checks (R46, R252). -/
def neuralChecks (w : Work) (rs : List Region) (g : GVer) (n : Nat) : List (Nat × Bool) :=
  let p := Work.own g n
  let odt := bits (wd p 1) 15 0
  let ops := bits (wd p 1) 31 16
  let qsize := wd64 p 12
  let tsize := bits (wd p 8) 19 0
  let m := rgWords rs 9 (g.model n)
  let q0 := wd64 p 10
  let range := fun (lo hi a k : Nat) => k == 0 || decide (lo ≤ a ∧ a + k ≤ hi)
  let al := fun (k : Nat) => wd64 p k % 64 == 0
  [(0, bits (wd p 0) 3 0 == 1), (4, within 1 1023 odt && decide (1 ≤ ops)), (8, wd p 2 % 64 == 0 && decide (wd p 2 + 16 * ops ≤ qsize)),
    (12, !bitAt (wd p 0) 4 || (wd p 3 % 64 == 0 && decide (wd p 3 + 16 * ops ≤ tsize))), (16, wd p 4 % 64 == 0 && decide (wd p 4 + 64 * odt ≤ qsize)),
    (20, wd p 5 % 64 == 0 && decide (wd p 5 + 64 * odt ≤ tsize)), (28, wd p 7 % 64 == 0),
    (32, tsize % 64 == 0 && decide (bits (wd p 7) 18 0 + tsize ≤ 524288)),
    (40, al 10 && range 0x4000000000 0x4024000000 q0 qsize && decide (q0 ≤ 0x4000000000 + bits (wd m 3) 7 0 * 0x1000000)),
    (48, al 12 && qsize != 0 && decide (0x4000000000 + (bits (wd m 3) 7 0 + bits (wd m 3) 15 8) * 0x1000000 ≤ q0 + qsize)),
    (56, al 14 && range 0 w.ddrTop (wd64 p 14) (wd64 p 16)), (64, al 16), (72, al 18 && range 0x8000000000 0xC000000000 (wd64 p 18) (wd64 p 20)), (80, al 20)]

/-- A PLUMB node's checks (R85, R86, R88, R93, R187). -/
def plumbChecks (g : GVer) (n : Nat) : List (Nat × Bool) :=
  let p := Work.own g n
  let size := 16 * 2 ^ bits (wd p 0) 1 0
  let e := Work.inEdge g n 0
  let field := match e with
    | none => false
    | some e =>
      (g.eKind e == 2 || (g.eKind e == 1 && g.eStripe e % size == 0)) && (match (if g.typ (g.eFrom e) = 6 then Work.wordBuf g (g.eFrom e) (g.eFromPort e) 0 else none) with
        | some b => b.w == bits (wd p 1) 15 0 && b.h == bits (wd p 1) 31 16
        | none => true)
  [(0, bits (wd p 0) 1 0 != 3 && bits (wd p 0) 3 2 != 3 && field && (g.outEdges n).countP (fun e => g.eFromPort e == 0 && g.gated (g.eTo e)) == 1),
    (4, within 16 16384 (bits (wd p 1) 15 0) && within 16 16384 (bits (wd p 1) 31 16) && decide ((plumbNeed p).1 ≤ 65535)),
    (20, wd64 p 5 % 64 == 0), (28, wd p 7 % 64 == 0)] ++
  (List.range 4).map (fun k => (44 + 8 * k, bits (wd p (11 + 2 * k)) 15 9 == 0))

/-- A SEAM node's checks (R97, R98, R187). -/
def seamChecks (g : GVer) (n : Nat) : List (Nat × Bool) :=
  let p := Work.own g n
  let size := 16 * 2 ^ bits (wd p 0) 1 0
  let e := if bitAt (wd p 0) 2 then 8 else 4
  let plumb := (((Work.inEdge g n 1).filter (fun e => g.eFromPort e == 0)).map g.eFrom).filter (fun m => g.typ m == 9)
  let listed := match Work.inEdge g n 2 with
    | none => false
    | some e => g.gated (g.eFrom e) && (Work.inEdge g (g.eFrom e) (bits (wd (g.params (g.eFrom e)) 0) 15 8)).map g.eFrom == plumb
  let q := (plumb.map (Work.own g)).getD []
  let most := if bits (wd q 2) 15 0 = 0 then (plumbNeed q).1 else bits (wd q 2) 15 0
  let wid := bits (wd p 9) 15 0
  let hei := bits (wd p 9) 31 16
  let dims := fun (port : Nat) => match Work.inEdge g n port with
    | none => true
    | some e => match (if g.typ (g.eFrom e) = 5 then none else (Work.wordBuf g (g.eFrom e) (g.eFromPort e) 0).filter (fun b => b.e == 8)) with
      | none => true
      | some b =>
        let d := if port = 0 then 0 else Work.fieldDensity g 64 (g.eFrom e)
        b.w == ceilDiv wid (2 ^ d) && b.h == ceilDiv hei (2 ^ d)
  [(0, plumb.isSome && listed && bits (wd p 0) 1 0 == bits (wd q 0) 1 0 && bits (wd p 0) 5 4 != 3 && dims 0 && dims 3),
    (0, bits (wd p 0) 7 6 == 0 || bits (wd p 0) 7 6 == 2), (1, decide (bits (wd p 0) 11 8 ≤ 8) && within 1 14 (bits (wd p 0) 15 12)),
    (12, decide (size * size * e ≤ wd p 3)), (32, wd p 8 % 64 == 0 && decide (seamNeed p ≤ wd p 8)), (36, wd p 9 == wd q 1),
    (40, (wd p 10 == 0 && g.maxRuns == 1) || (wd p 10 % 64 == 0 && decide (wd p 3 * most ≤ wd p 10)))]

/-- A SOURCE node's checks (R150, R224). -/
def sourceChecks (w : Work) (rs : List Region) (g : GVer) (n : Nat) : List (Nat × Bool) :=
  let p := Work.own g n
  let c := g.unit n
  let segs := bits (wd p 2) 24 16
  let depth := bits (wd p 3) 15 0
  let pitch := linePitch (w.rd Reg.CTX_WIDTH c) (pixelBytes (bits (wd (rgCtx rs c) 0) 29 24) (w.rd Reg.CTX_DPCM c))
  let stripes := ((g.outEdges n).filter (fun e => g.typ (g.eTo e) == 2)).map (fun e =>
    let q := Work.own g (g.eTo e)
    if bitAt (wd q 0) 0 then 0 else bits (wd q 0) 26 16)
  [(8, decide (bits (wd p 2) 15 0 + segs ≤ 384)), (10, within 1 384 segs),
    (12, decide (1 ≤ depth) && decide (depth * pitch ≤ segs * 0x40000) && stripes.all (fun s => decide (2 * s ≤ depth)))]

/-- Reach of a copy footprint under the merged carving, for the engine's rights (R289, R314, R316, R350). -/
def copyReach (w : Work) (rs : List Region) (f : Int × Int) (write : Bool) : Bool :=
  if f.1 < 0 then false
  else
    let a := f.1.toNat
    let n := (f.2 - f.1 + 1).toNat
    w.inDram a n || (Work.inQuarry a n && (slabsOf a n).all (fun s => Work.roleAllows 0x76 (carveRole rs s) write && (tget 0 w.d.ldr.sealed s == 0))) ||
      Work.inTiles a n || (Work.inHostWin a n && (w.busAddr? a).isSome)

/-- A COPY node's checks: its wiring and targets, then checks 1 and 3 to 6 of R316 for every slot (R324). -/
def copyChecks (w : Work) (rs : List Region) (g : GVer) (n : Nat) : List (Nat × Bool) :=
  let p := Work.own g n
  [(0, within 1 256 (bits (wd p 0) 8 0)), (4, bits (wd p 1) 3 0 == 1), (8, wd p 2 % 64 == 0), (12, wd p 3 % 64 == 0)] ++
  (g.inEdges n).map (fun e => (0, g.eKind e == 2)) ++
  (List.range g.maxRuns).flatMap (fun s => (copyNodeDescs p s).zipIdx.flatMap (fun (ws, i) =>
    let c := cpDesc ws
    let at_ := 16 + 128 * i
    let fs := cpFoot c.e c.src c.ext c.ss
    let fd := cpFoot c.e c.dst c.ext c.ds
    let zero := c.ext.findIdx? (fun x => x == 0)
    [(at_, cpFormatOk ws), (at_ + 24 + 4 * zero.getD 0, zero.isNone), (at_ + 8, c.fill || copyReach w rs fs false), (at_ + 16, copyReach w rs fd true),
      (at_ + 64 + 4 * (innerDim c.ext c.ds).getD 0, aliasFree c.e (List.zip c.ext c.ds)), (at_ + 16, c.fill || c.linear || !spansMeet fs fd)]))

/-- A HOST_EMIT node's checks (R82, R362). -/
def emitChecks (w : Work) (target1 : Bool) (g : GVer) (n : Nat) : List (Nat × Nat × Bool) :=
  let p := Work.own g n
  let en := bitAt (wd p 1) 16
  let bytes := 64 * 64 * 2 ^ bits (wd p 1) 15 12
  let q := bits (wd p 0) 15 0
  [(0, stQueueLimit, decide (q < 8192) || q == 0xFFFF), (6, stDescFormat, en || !target1),
    (8, stDescFormat, !en || (wd64 p 2 % 64 == 0 && (w.inDram (wd64 p 2) bytes || Work.inHostWin (wd64 p 2) bytes)))]

/-- A DRAVIG_SEND node's checks (R390, R397). -/
def sendChecks (w : Work) (g : GVer) (n : Nat) : List (Nat × Bool) :=
  let p := Work.own g n
  [(0, within 1 16 (bits (wd p 0) 4 0)), (4, bits (wd p 1) 3 0 == 1), (8, wd p 2 % 64 == 0), (16, wd64 p 4 % 64 == 0)] ++
  (List.range (bits (wd p 0) 4 0)).flatMap (fun k =>
    let it := (p.drop (6 + 8 * k)).take 8
    let sig := bits (wd it 0) 1 0 == 2
    let at_ := 24 + 32 * k
    let remote := fun (s : Nat) =>
      let a := wd64 it 4 + s * wd p 2
      let d := (a - 0xC000000000) / 0x100000000
      decide (0xC000000000 ≤ a ∧ d ≤ 191 ∧ d ≠ w.rd Reg.DRV_DEVICE_ID) && a / 0x4000000 == (a + wd it 1 - 1) / 0x4000000
    [(at_, bits (wd it 0) 1 0 != 3), (at_ + 4, sig || within 1 0x4000000 (wd it 1)), (at_ + 16, sig || (List.range g.maxRuns).all remote)])

/-- A node's own checks, with offsets in its own block. -/
def nodeOwn (w : Work) (rs : List Region) (target1 : Bool) (g : GVer) (n : Nat) : List (Nat × Nat × Bool) :=
  let f := fun (l : List (Nat × Bool)) => l.map (fun (x : Nat × Bool) => (x.1, stDescFormat, x.2))
  match g.typ n with
  | 1 => f (sourceChecks w rs g n)
  | 2 => f (ispChecks w rs g n)
  | 3 => f (pyramidChecks g n)
  | 4 => f (warpChecks g n)
  | 5 => (match stereoCost g n with | some o => [(o, stDescReserved, false)] | none => []) ++ f (stereoChecks g n)
  | 6 => f (flowChecks rs g n)
  | 7 => f (featureChecks g n)
  | 8 => f (neuralChecks w rs g n)
  | 9 => f (plumbChecks g n)
  | 10 => f (seamChecks g n)
  | 11 => f (copyChecks w rs g n)
  | 12 => emitChecks w target1 g n
  | 13 => f (sendChecks w g n)
  | _ => []

/-- Every check of a GRAPH region: its header, its nodes in order, then its edges, then parameter blocks node by node. -/
def graphChecks (w : Work) (rs : List Region) (target1 : Bool) (r : Region) : List LCheck :=
  let g := rgGraph rs r.idx
  let params := wd g.graph 2
  let parts := 48 + 32 * g.nodeCount + 16 * g.edgeCount
  lc 4 (r.len == 32 + 32 * g.nodeCount + 16 * g.edgeCount + params) :: lc 16 (decide (1 ≤ g.nodeCount)) :: lc 18 (decide (g.edgeCount ≤ 4096)) ::
  lc 20 (within 1 64 g.maxRuns) :: lc 24 (params % 8 == 0) ::
  (List.range g.nodeCount).flatMap (fun n =>
    let at_ := 48 + 32 * n
    let t := g.typ n
    let len := bits (g.node n 3) 31 16
    [lc at_ (within 1 14 t), lc (at_ + 1) (!g.gated n || t == 8 || t == 5 || t == 6), lc (at_ + 12) (unitOk t (g.unit n)),
      lc (at_ + 14) ((paramLen t (g.gated n) (Work.own g n)).all (fun k => k == len)), lc (at_ + 16) (t != 8 || g.coreSet n != 0),
      lc (at_ + 24) (g.node n 6 % 8 == 0 && decide (g.node n 6 + 8 * len ≤ params)), lc (at_ + 28) (t != 8 || rgHas rs 9 (g.model n))]) ++
  (List.range g.edgeCount).flatMap (fun e =>
    let at_ := 48 + 32 * g.nodeCount + 16 * e
    let a := g.typ (g.eFrom e)
    let b := g.typ (g.eTo e)
    let k := g.eKind e
    let course2 := bitAt (g.node (g.eTo e) 0) 15
    let bound := if b = 10 ∧ (g.eToPort e = 1 ∨ g.eToPort e = 2) then true
      else if a = 5 ∨ a = 6 then decide (g.eFromPort e = b2n course2) else a != 10 || (course2 && g.eFromPort e == 0)
    [lc at_ (decide (g.eFrom e < g.nodeCount)), lc (at_ + 2) (decide (g.eTo e < g.nodeCount)), lc (at_ + 4) (k != 3 && (k != 0 || (a == 1 && b == 2))),
      lc (at_ + 5) bound, lc (at_ + 8) (decide (g.eFlag e < g.flagCount) && (List.range e).all (fun d =>
        g.eFlag d != g.eFlag e || (g.eFrom d == g.eFrom e && g.eFromPort d == g.eFromPort e && g.eKind d == k))),
      lc (at_ + 10) (k != 1 || within 64 1024 (g.eStripe e))]) ++
  (List.range g.nodeCount).flatMap (fun n =>
    let skip := if g.gated n then 8 else 0
    let at_ := parts + g.node n 6
    (if g.gated n then
      [lc at_ (decide (bits (wd (g.params n) 0) 5 0 ≤ 32)), lc (at_ + 1) (((Work.inEdge g n (bits (wd (g.params n) 0) 15 8)).map (fun e =>
        g.typ (g.eFrom e) == 9 && g.eFromPort e == 0)).getD false)] else []) ++
    (nodeOwn w rs target1 g n).map (fun x => ⟨at_ + skip + x.1, x.2.1, x.2.2⟩) ++
    (List.range g.maxRuns).flatMap (fun s => (nodeAreas rs g n s).map (fun a =>
      lc (at_ + skip + 4 * a.1) (a.2.2.2 == 2 || placed w rs (if a.2.2.2 = 1 then [1, 2] else [2]) a.2.1 a.2.2.1))))

/-- A FLAG_PLAN's checks: its length, its count, and the targets R95, R324 and R397 fix at 1. A FLAGS_PER_INSTANCE above the 16,384 of R38 is a value
range of this step, and is not left to the sums of step 11 (DESIGN CHOICE, log entry 40). -/
def planChecks (rs : List Region) (r : Region) : List LCheck :=
  let g := rgGraph rs r.idx
  lc 4 (r.len == 8 + 8 * g.flagCount) :: lc 16 (within 1 16384 g.flagCount) ::
  (List.range g.edgeCount).map (fun e =>
    let n := g.eFrom e
    let one := g.gated n || g.typ n == 11 || (g.typ n == 13 && g.eFromPort e == 0)
    lc (24 + 8 * g.eFlag e) (!one || g.target (g.eFlag e) == 1))

/-- The CARVE's checks (R40, R41). -/
def carveChecks (r : Region) : List LCheck :=
  let es := (List.range (r.words.length / 2)).map (fun k => wd r.words (2 * k))
  let role := fun (v : Nat) => bits v 11 8
  let exts := es.filter (fun v => role v == 3)
  let quartet := fun (v : Nat) => (bits v 7 0 / 8, bits v 15 12)
  lc 4 (r.len == 288) ::
  es.zipIdx.flatMap (fun (v, k) =>
    [lc (16 + 8 * k) (decide (bits v 7 0 ≤ 35) && !(es.take k).any (fun u => bits u 7 0 == bits v 7 0)),
      lc (17 + 8 * k) (decide (role v ≤ 5) && (role v != 3 || (decide (bits v 7 0 ≤ 31) && decide (bits v 15 12 ≤ 3))) && (role v != 4 || decide (32 ≤ bits v 7 0)) &&
        (role v != 5 || !(es.take k).any (fun u => role u == 5)) &&
        (role v != 3 || (exts.filter (fun u => quartet u == quartet v)).length ≤ 2))]) ++
  [lc 16 (es.any (fun v => role v == 5)), lc 16 (es.any (fun v => role v == 4 && decide (32 ≤ bits v 7 0)))]

/-- The data types a context takes (R106). -/
def dataTypeOk (t : Nat) : Bool := t == 0x12 || t == 0x1E || within 0x2A 0x2F t || within 0x30 0x37 t

/-- The CONTEXT_MAP's checks (R42, R58, R106). The ranges of VC and DATA_TYPE hold for every entry, enabled or not, as
R106 words them; a REPLAY entry has no port, so its VC has no range and its PORT, VC and DATA_TYPE repeat no other's (DESIGN CHOICE, log entry 40). -/
def mapChecks (w : Work) (rs : List Region) (r : Region) : List LCheck :=
  let entry := fun (c : Nat) => (r.words.drop (4 * c)).take 4
  lc 4 (r.len == 1024) ::
  (List.range 64).flatMap (fun c =>
    let m := entry c
    let at_ := 16 + 16 * c
    let gid := bits (wd m 1) 31 16
    let key := fun (v : Nat) => (bits v 11 8, bits v 20 16, bits v 29 24)
    let on := bitAt (wd m 0) 0
    [lc at_ (!on || bitAt (wd m 0) 1 ||
        !(List.range c).any (fun d => bitAt (wd (entry d) 0) 0 && !bitAt (wd (entry d) 0) 1 && key (wd (entry d) 0) == key (wd m 0))),
      lc (at_ + 2) (bitAt (wd m 0) 1 || decide (bits (wd m 0) 20 16 ≤ (if w.rd Reg.PORT_PHY (bits (wd m 0) 11 8) = 0 then 15 else 31))),
      lc (at_ + 3) (dataTypeOk (bits (wd m 0) 29 24)), lc (at_ + 4) (!on || rgHas rs 8 (bits (wd m 1) 7 0)),
      lc (at_ + 6) (!on || gid == 0xFFFF || (rgHas rs 1 gid && (rgGraph rs gid).anchor == some c))])

/-- PINMUX (R43). -/
def pinChecks (r : Region) : List LCheck :=
  lc 4 (r.len % 8 == 0 && decide (r.len ≤ 128)) :: r.words.zipIdx.flatMap (fun (v, k) =>
    [lc (16 + 4 * k) (decide (bits v 7 0 ≤ 31)), lc (17 + 4 * k) (decide (bits v 15 8 ≤ 5)),
      lc (18 + 4 * k) (!(bits v 15 8 == 3 || bits v 15 8 == 4) || decide (bits v 23 16 < 16))])

/-- CLAIMS (R44): the resources of each class (R120, R223, R502). -/
def claimCount (cls : Nat) : Nat := match cls with
  | 1 => 32
  | 2 => 16
  | 3 => 16
  | 4 => 384
  | _ => 0
def claimChecks (rs : List Region) (r : Region) : List LCheck :=
  lc 4 (r.len % 8 == 0) :: (List.range (r.words.length / 2)).flatMap (fun k =>
    let a := wd r.words (2 * k)
    let b := wd r.words (2 * k + 1)
    let at_ := 16 + 8 * k
    [lc at_ (within 1 4 (bits a 7 0)), lc (at_ + 2) (decide (bits a 31 16 < claimCount (bits a 7 0)) || (bits a 7 0 == 1 && within 32 33 (bits a 31 16)) ||
        (bits a 7 0 == 2 && bits a 31 16 == 16)),
      lc (at_ + 6) (bits b 31 16 == 0xFFFF || rgHas rs 1 (bits b 31 16))])

/-- The longest stripe of every ISP_OUT in a configuration, in ns (R470). -/
def longestStripe (w : Work) (rs : List Region) : Nat :=
  let one := fun (r : Region) =>
    let g := rgGraph rs r.idx
    ((List.range g.nodeCount).map (fun n =>
      if g.typ n ≠ 2 then 0
      else
        let c := nodeAreas.inputCtx g n
        let lines := if bitAt (wd (Work.own g n) 0) 0 then w.rd Reg.CTX_HEIGHT c else bits (wd (Work.own g n) 0) 26 16
        ceilDiv (10 * (ceilDiv (lines * w.rd Reg.CTX_WIDTH c) 4 + 2112)) 11)).foldl max 0
  ((rs.filter (fun r => r.typ == 1)).map one).foldl max 0

/-- SAFETY_PROFILE (R45, R433, R472). -/
def safetyChecks (w : Work) (rs : List Region) (r : Region) : List LCheck :=
  let v := wd r.words 0
  let ftti := bits v 15 0
  let bound := fun (s : Nat) => if 82 ≤ s ∧ s ≤ 85 then longestStripe w rs else slotBound s
  [lc 4 (r.len == 32), lc 16 (within 10 1000 ftti), lc 18 (decide (bits v 19 16 ≤ 2) && (!bitAt (w.ob 12) 1 || bits (w.ob 12) 3 2 == bits v 19 16)),
    lc 20 (within 100 10000 (bits (wd r.words 1) 15 0)),
    lc 16 ((List.range 90).all (fun s => decide (slotLength s + bound s + 1000000 ≤ ftti * 500000)))]

/-- POWER_POLICY (R45). -/
def powerChecks (r : Region) : List LCheck :=
  let v := wd r.words 0
  [lc 4 (r.len == 32), lc 17 (within 100 300 (bits v 16 8)), lc 19 (bits v 31 24 == 0 || within 85 110 (bits v 31 24))]

/-- Does a range touch an assigned part of the device map that is neither LPDDR5X nor the host window (R20)? -/
def mapsElsewhere (a n : Nat) : Bool :=
  [(0x4000000000, 0x4024000000), (0x4100000000, 0x4102000000), (0x4200000000, 0x4202200000), (0x5000000000, 0x5001000000),
    (0xC000000000, 0x18000000000)].any (fun (r : Nat × Nat) => decide (a < r.2 ∧ r.1 < a + n))

/-- MODEL_REF (R46). A SOURCE in another part of the device map breaks its range; one in a disabled segment, at an unassigned address or in unbacked LPDDR5X is
step 13's. Two models whose slabs overlap are refused (DESIGN CHOICE, log entry 40). -/
def modelChecks (rs : List Region) (r : Region) : List LCheck :=
  let a := wd64 r.words 0
  let n := wd r.words 2
  let first := bits (wd r.words 3) 7 0
  let k := bits (wd r.words 3) 15 8
  let enc := bitAt (wd r.words 3) 16
  [lc 4 (r.len == 64), lc 8 (decide (r.idx ≤ 1023)), lc 16 (a % 64 == 0 && !mapsElsewhere a n),
    lc 24 (decide (1 ≤ n) && (if enc then decide (144 ≤ n ∧ n ≤ k * 0x1000000 + 80) else decide (n ≤ k * 0x1000000))),
    lc 28 (decide (first + k ≤ 36) && (List.range k).all (fun j => carveRole rs (first + j) == 1) &&
      rs.all (fun q => q.typ != 9 || q.idx == r.idx || (let f := bits (wd q.words 3) 7 0; decide (f + bits (wd q.words 3) 15 8 ≤ first ∨ first + k ≤ f))))]

/-- ISP_CALIB (R138). -/
def calibChecks (r : Region) : List LCheck :=
  [lc 8 (decide (r.idx ≤ 255))] ++ (match calibFault false 0 r.words with
    | some (st, o) => [⟨16 + o, st, false⟩]
    | none => [])

/-- Every check of step 10 for one region of the merged configuration. -/
def regionChecks (w : Work) (rs : List Region) (target1 : Bool) (r : Region) : List LCheck :=
  lc 12 (decide (1 ≤ r.ver)) :: (match r.typ with
    | 1 => graphChecks w rs target1 r
    | 2 => carveChecks r
    | 3 => mapChecks w rs r
    | 4 => pinChecks r
    | 5 => claimChecks rs r
    | 6 => safetyChecks w rs r
    | 7 => powerChecks r
    | 8 => calibChecks r
    | 9 => modelChecks rs r
    | _ => planChecks rs r)

/-- Does TARGET 1 govern a load (R485)? -/
def targetOne (w : Work) (rs : List Region) : Bool := w.rd Reg.SAF_TARGET == 1 || bits (wd (rgWords rs 6 0) 0) 19 16 == 1

/-- Does a check of step 10, told by region, offset and status, fail in a configuration? -/
def step10Fails (w : Work) (rs : List Region) (x : Nat × Nat × Nat × Nat) : Bool :=
  (rs.filter (fun r => r.typ == x.1 && r.idx == x.2.1)).any (fun r =>
    (regionChecks w rs (targetOne w rs) r).any (fun c => c.off == x.2.2.1 && c.status == x.2.2.2 && !c.ok))

/-- The first check of step 10 that fails: TYPE, INSTANCE, offset from the record header, status. -/
def step10 (w : Work) (rs : List Region) : Option (Nat × Nat × Nat × Nat) :=
  rs.findSome? (fun r => ((regionChecks w rs (targetOne w rs) r).find? (fun c => !c.ok)).map (fun c => (r.typ, r.idx, c.off, c.status)))

end Sys2Proof.Machine
end

