-- ==== Sys2Proof/Machine/Power.lean ====
section
/-! DEFINITION. Clock levels and their transitions, AVSBus, the power cap, thermal control, power domains, S3 and wake sources (R405 to
R420). -/

namespace Sys2Proof.Machine

open Config

namespace Work

/-- Replace power control's state. -/
def setPwr (w : Work) (x : Power) : Work := { w with d := { w.d with pwr := x } }

/-! ### POWER_POLICY (R45) -/

/-- A word of the POWER_POLICY in force; 0 before one is committed. -/
def policy (w : Work) (k : Nat) : Nat := wd (w.region 7 0) k

/-- POWER_CAP_W in mW; none before a policy is committed. -/
def powerCap (w : Work) : Option Nat := if (w.region 7 0).isEmpty then none else some (1000 * bits (w.policy 0) 16 8)

/-- THROTTLE_C in 0.25 °C; 0 stands for 100 °C. -/
def throttleAt (w : Work) : Int := 4 * (if bits (w.policy 0) 31 24 = 0 then 100 else (bits (w.policy 0) 31 24 : Nat))

/-! ### Levels (R407, R408) -/

/-- Target level of domain A (0) or V (1), with the cause that names it (R407). V counts 0 for P0 and 1 for P2. -/
def levelTarget (w : Work) (dom : Nat) : Nat × Nat :=
  let p := w.d.pwr
  let terms := if dom = 0 then [w.rd Reg.PWR_LEVEL_REQ_A, bits (w.policy 0) 1 0, p.thermalA, min p.capLevel 3]
    else [w.rd Reg.PWR_LEVEL_REQ_V, bits (w.policy 0) 2 2, p.thermalV, if p.capLevel = 4 then 1 else 0]
  let t := terms.foldl max 0
  (t, (terms.findIdx? (fun x => x == t)).getD 0)

/-- The level in force of a domain. -/
def levelNow (w : Work) (dom : Nat) : Nat := if dom = 0 then w.rd Reg.PWR_LEVEL_A else w.rd Reg.PWR_LEVEL_V

/-- The voltage of a level, in mV (R405). -/
def levelMv (dom lv : Nat) : Nat := if dom = 0 then [850, 750, 650, 550].getD lv 850 else [850, 650].getD lv 850

/-- A domain's transition. -/
def shiftOf (w : Work) (dom : Nat) : Option Shift := w.d.pwr.shifts.getD dom none

/-- Replace a domain's transition; IN_TRANSITION follows. -/
def setShift (w : Work) (dom : Nat) (x : Option Shift) : Work :=
  let w := w.setPwr { w.d.pwr with shifts := w.d.pwr.shifts.set dom x }
  w.wr Reg.PWR_IN_TRANSITION (b2n (w.d.pwr.shifts.any Option.isSome))

/-- A divider change puts a level in force. -/
def setLevel (w : Work) (dom lv : Nat) : Work :=
  let w := if dom = 0 then w.wr Reg.PWR_LEVEL_A lv else w.wr Reg.PWR_LEVEL_V lv
  (w.wr Reg.PWR_LAST_CHANGE_TB w.now).inc Reg.PWR_CNT_LEVEL_CHANGES

/-- Show the cause of a domain's level: 4 while AVSBus holds it (R409). -/
def showCause (w : Work) (dom : Nat) : Work :=
  let c := if w.d.pwr.retry.getD dom 0 ≠ 0 then 4 else (w.levelTarget dom).2
  if dom = 0 then w.wr Reg.PWR_CAUSE_A c else w.wr Reg.PWR_CAUSE_V c

/-- Move a domain towards its target where it stands still and AVSBus does not hold it; a change to a slower level takes its divider
change at once (R408). -/
def startShift (w : Work) (dom : Nat) : Work :=
  let t := (w.levelTarget dom).1
  let now := w.levelNow dom
  if t = now ∨ (w.shiftOf dom).isSome ∨ w.d.pwr.retry.getD dom 0 ≠ 0 then w
  else
    let w := if now < t then w.setLevel dom t else w
    w.setShift dom (some ⟨t, decide (t < now), false, .write⟩)

/-- The targets may have changed: a transition to a faster level is cancelled before its divider change where the new target is not
faster than the present level; then domains move, a slowing one first (R408). -/
def retarget (w : Work) : Work :=
  let cancel := fun (w : Work) (dom : Nat) =>
    match w.shiftOf dom with
    | some s => if s.faster && !s.back && decide (w.levelNow dom ≤ (w.levelTarget dom).1) then w.setShift dom (some { s with back := true, step := .write }) else w
    | none => w
  let w := cancel (cancel w 0) 1
  let slows := fun (w : Work) (dom : Nat) => decide (w.levelNow dom < (w.levelTarget dom).1) || (match w.shiftOf dom with | some s => !s.faster | none => false)
  let gains := fun (w : Work) (dom : Nat) => decide ((w.levelTarget dom).1 < w.levelNow dom)
  let w1 := if gains w 0 && slows w 1 then w else w.startShift 0
  let w2 := if gains w 1 && slows w 0 then w1 else w1.startShift 1
  (w2.showCause 0).showCause 1

/-- A PWR_LEVEL_REQ write (R407, R421): the host and the control pairs may write it. -/
def levelRequest (w : Work) (req : Nat) (own : Bool) (v : Nat) : Work :=
  if !own then w.log req else ((w.wr Reg.PWR_LEVEL_REQ_A (bits v 1 0)).wr Reg.PWR_LEVEL_REQ_V (bits v 2 2)).retarget

/-! ### AVSBus (R409) -/

/-- A rail's frames have failed three times, or its status reports a fault: the level stays and the transition is retried every 10 ms. A
rail fault also enters SAFE_DEGRADED (R481). -/
def avsHold (w : Work) (rail : Nat) (fault : Bool) : Work :=
  let w := w.err uSafety stOk rail
  let w := if rail < 2 then
      let w := (w.setShift rail none).setPwr { w.d.pwr with shifts := w.d.pwr.shifts.set rail none, retry := w.d.pwr.retry.set rail (w.now + 10000000) }
      w.showCause rail
    else w
  if fault then w.degrade uSafety stSafeDegraded rail else w

/-- The confirming read of a transition: within 10 mV it ends, with the divider change of a faster level (R408); otherwise the voltage is read
again. -/
def confirmShift (w : Work) (dom mv : Nat) (s : Shift) : Work :=
  let want := levelMv dom (if s.back then w.levelNow dom else s.target)
  if want + 10 < mv ∨ mv + 10 < want then w
  else
    let w := if s.faster && !s.back then w.setLevel dom s.target else w
    (w.setShift dom none).retarget

/-- An AVSBus frame completes (R408, R409): it advances a transition, refreshes telemetry, or is retried. -/
def avsFrame (w : Work) (rail : Nat) (r : AvsReply) : Work :=
  let s := if rail < 2 then w.shiftOf rail else none
  let good := fun (w : Work) => w.setPwr { w.d.pwr with fails := w.d.pwr.fails.set rail 0 }
  match r with
  | .failed =>
    let n := w.d.pwr.fails.getD rail 0 + 1
    let w := (w.inc Reg.PWR_CNT_AVS_ERR).setPwr { w.d.pwr with fails := w.d.pwr.fails.set rail (if 3 ≤ n then 0 else n) }
    if 3 ≤ n then w.avsHold rail false else w
  | .written =>
    match s with
    | some x => if x.step = .write then (good w).setShift rail (some { x with step := .slew }) else good w
    | none => good w
  | .voltage mv =>
    let w := (good w).wr Reg.RAIL_VOLTAGE_MV mv rail
    match s with
    | some x => if x.step = .confirm then w.confirmShift rail mv x else w
    | none => w
  | .current da => (good w).wr Reg.RAIL_CURRENT_DA da rail
  | .temperature => good w
  | .status word fault =>
    let w := (good w).wr Reg.RAIL_AVS_STATUS word rail
    if fault then w.avsHold rail true else w

/-- A regulator's slew ends, and the confirming read is sent (R408). -/
def slewDone (w : Work) (dom : Nat) : Work :=
  match w.shiftOf dom with
  | some s => if s.step = .slew then w.setShift dom (some { s with step := .confirm }) else w
  | none => w

/-- 10 ms after an AVSBus hold the transition is tried again (R409). -/
def avsRetry (w : Work) (dom : Nat) : Work :=
  let t := w.d.pwr.retry.getD dom 0
  if t = 0 then w
  else
    let w := w.advance t
    (w.setPwr { w.d.pwr with retry := w.d.pwr.retry.set dom 0 }).retarget

/-! ### The power cap (R410) -/

/-- The cap controller's part of a power sample. -/
def capStep (w : Work) (power : Nat) : Work :=
  match w.powerCap with
  | none => w
  | some cap =>
    let p := w.d.pwr
    let t := w.now
    let p := { p with hold := if p.lastDown = 0 ∨ 1000000000 ≤ t + 1 - p.lastDown then w.rd Reg.PWR_UP_HOLD_MS else p.hold }
    let above := if cap < power then p.overCap + 1 else 0
    let isLow := decide (power + 1000 * w.rd Reg.PWR_UP_HYST_W ≤ cap)
    let since := if isLow then (if p.lowSince = 0 then t + 1 else p.lowSince) else 0
    let p := { p with overCap := above, lowSince := since }
    if 2 ≤ above ∧ p.capLevel < 4 then
      let soon := p.lastStep.2 && decide (p.lastStep.1 ≠ 0 ∧ t + 1 - p.lastStep.1 < 2 * p.hold * 1000000)
      (w.inc Reg.PWR_CNT_CAP_STEPS).setPwr { p with
        capLevel := p.capLevel + 1, hold := if soon then min 1024 (2 * p.hold) else p.hold, lastStep := (t + 1, false), lastDown := t + 1 }
    else if since ≠ 0 ∧ p.hold * 1000000 ≤ t + 1 - since ∧ 0 < p.capLevel then
      (w.inc Reg.PWR_CNT_CAP_STEPS).setPwr { p with capLevel := p.capLevel - 1, lastStep := (t + 1, true), lowSince := 0 }
    else w.setPwr p

/-- A cap that cannot be held (R410): CAP_UNHELD from the second sample above the cap with A at P3 and V at P2. -/
def capUnheld (w : Work) (power : Nat) : Work :=
  match w.powerCap with
  | none => w
  | some cap =>
    if power ≤ cap then (w.setPwr { w.d.pwr with unheld := 0 }).wr Reg.PWR_CAP_UNHELD 0
    else if w.d.pwr.capLevel ≠ 4 ∨ w.rd Reg.PWR_LEVEL_A ≠ 3 ∨ w.rd Reg.PWR_LEVEL_V ≠ 1 then w
    else
      let n := w.d.pwr.unheld + 1
      let w := w.setPwr { w.d.pwr with unheld := n }
      if n ≠ 2 then w else ((w.wr Reg.PWR_CAP_UNHELD 1).inc Reg.PWR_CNT_CAP_UNHELD).err uSafety stOk 0 0 power

/-- Package power is updated (R410): the telemetry of the three rails and the on-die estimates, in mW; then the cap controller acts. -/
def powerSample (w : Work) (estimate : Nat) : Work :=
  let rails := ((List.range 3).map (fun r => w.rd Reg.RAIL_VOLTAGE_MV r * w.rd Reg.RAIL_CURRENT_DA r / 10)).sum
  let p := low 32 (rails + estimate)
  (((w.wr Reg.PWR_PACKAGE_POWER p).raise Reg.PWR_PEAK_POWER p).capUnheld p).capStep p |>.retarget

/-! ### Temperature (R419, R420) -/

/-- Readings that throttling sees: of each sensor, THROTTLE_C for a faulted one, and THROTTLE_C for each hot channel. -/
def thermalReadings (w : Work) : List Int :=
  (List.range 48).map (fun s => if w.on Reg.SENS_FAULT s then w.throttleAt else sext 12 (w.rd Reg.SENS_TEMP s)) ++
    w.d.pwr.mr4Hot.map (fun _ => w.throttleAt)

/-- The dies' sensors (R419): the quoins', then the keystone's. -/
def dieSensors (k : Nat) : List Nat := if k < 4 then (List.range 8).map (fun i => 8 * k + i) else (List.range 16).map (fun i => 32 + i)

/-- The device trips (R420): clocks stop, SAFE_FAULT_N goes low, and the contents of every domain but 0 and 12 are lost. -/
def thermalTrip (w : Work) : Work :=
  let w := w.setSaf { w.d.saf with pin0 := false, pin1 := false, hbNext := 0 }
  let w := w.wr Reg.PWR_TRIPPED 1
  let w := if w.levelNow 1 = 1 then w else w.setLevel 1 1
  { w with mops := [.clear .dev 0 0x10000000000, .clear .course 0 0x10000000, .clear .ctl 0 0x10000000] ++ w.mops }

/-- The sensors are sampled (R419), each as its reading in 0.25 °C and whether its self-check failed; two samples at 115 °C trip the device. -/
def thermalSample (w : Work) (s : List (Int × Bool)) : Work :=
  let w := w.upTo 48 (fun w i =>
    let x := s.getD i (0, false)
    let was := w.on Reg.SENS_FAULT i
    let w := (w.wr Reg.SENS_TEMP (wrapInt 12 x.1) i).wr Reg.SENS_FAULT (b2n x.2) i
    if x.2 && !was then w.err uSafety stOk i else w)
  let t := fun (i : Nat) => (s.getD i (0, false)).1
  let top := (List.range 48).foldl (fun m i => if t m < t i then i else m) 0
  let w := (w.wr Reg.PWR_TEMP_MAX (wrapInt 12 (t top))).wr Reg.PWR_HOTTEST_SENSOR top
  let w := (List.range 5).foldl (fun w k =>
    if (dieSensors k).all (fun i => w.on Reg.SENS_FAULT i) then w.degrade uSafety stSafeDegraded ((dieSensors k).headD 0) else w) w
  let hot := (List.range 48).filter (fun i => decide (460 ≤ t i) && !(s.getD i (0, false)).2)
  let trip := hot.any (fun i => w.d.pwr.hot.contains i) && !w.on Reg.PWR_TRIPPED
  let w := w.setPwr { w.d.pwr with hot := hot }
  if trip then w.thermalTrip else w

/-- The 1 ms throttling step while hot (R419). -/
def throttleTick (w : Work) : Work :=
  let c := w.throttleAt
  if !w.thermalReadings.any (fun x => decide (c ≤ x)) then w
  else
    let a := min 3 (w.d.pwr.thermalA + 1)
    let v := if a = 3 ∧ w.thermalReadings.any (fun x => decide (c + 20 ≤ x)) then 1 else w.d.pwr.thermalV
    if a = w.d.pwr.thermalA ∧ v = w.d.pwr.thermalV then w
    else ((w.inc Reg.PWR_CNT_THROTTLE_STEPS).setPwr { w.d.pwr with thermalA := a, thermalV := v }).retarget

/-- The 100 ms relaxing step while cool (R419). -/
def throttleRelax (w : Work) : Work :=
  let c := w.throttleAt
  let p := w.d.pwr
  if !w.thermalReadings.all (fun x => decide (x < c - 20)) ∨ (p.thermalV = 0 ∧ p.thermalA = 0) then w
  else
    let p := if 0 < p.thermalV then { p with thermalV := 0 } else { p with thermalA := p.thermalA - 1 }
    ((w.inc Reg.PWR_CNT_THROTTLE_STEPS).setPwr p).retarget

/-! ### Domains (R411 to R414) -/

/-- A domain's state beyond its registers. -/
def dom (w : Work) (d : Nat) : DomSt := tget DomSt.reset w.d.pwr.doms d

/-- Replace a domain's state. -/
def setDom (w : Work) (d : Nat) (x : DomSt) : Work := w.setPwr { w.d.pwr with doms := tset DomSt.reset w.d.pwr.doms d x }

/-- May a domain go to S1, or to S2, on its own (R411)? -/
def domainMay (w : Work) (d : Nat) (deep : Bool) : Bool :=
  if deep then (1 ≤ d && d ≤ 4) || d == 9 || d == 11 || d == 13
  else (1 ≤ d && d ≤ 4) || (9 ≤ d && d ≤ 11) || d == 13 || (d == 12 && w.d.hif.linkL1)

/-- The domain of a sounded unit. -/
def unitDomain (u : Nat) : Nat := if u ≤ 0x43 then 1 + u / 17 else 9

/-- Is a domain without work (R412): no node or task on its units, nothing in flight, HOLD 0? -/
def domainIdle (w : Work) (d : Nat) : Bool :=
  !w.on Reg.DOM_HOLD d &&
    (if 1 ≤ d ∧ d ≤ 4 then
      (List.range 64).all (fun c => !w.coreBusy c || decide (w.d.cores.getD c 0xFF / 17 ≠ d - 1))
    else if d = 9 then w.d.eng.isEmpty && w.d.cpy.running.isEmpty && (List.range 4).all (fun p => !w.on Reg.PIPE_BUSY p)
    else if d = 10 then w.d.ks.runs.isEmpty && w.d.msn.evq.isEmpty && w.d.msn.ready.isEmpty && w.d.ks.signals.isEmpty &&
      w.d.hif.queues.all (fun q => q.2.buf.isEmpty)
    else if d = 13 then w.d.ing.ctxs.all (fun c => c.2.frame.isNone && c.2.replay.isNone)
    else if d = 14 then w.d.drv.ports.all (fun p => p.2.queue.isEmpty && p.2.replay.isEmpty)
    else true)

/-- The unit of a domain that must keep running, if there is one (R412). -/
def refuser (w : Work) (d : Nat) : Option Nat :=
  if d = 13 then
    (w.d.ing.ctxs.find? (fun c => c.2.frame.isSome)).map (fun c => 0x64 + bits (wd (w.ctxMap c.1) 0) 11 8)
  else if d = 10 then (w.d.hif.queues.find? (fun q => q.2.buf.any (fun e => decide (e.st = .ready)))).map (fun _ => uPcie)
  else none

/-- Idle timers restart while their domains are not idle (R412). -/
def idleTimers (w : Work) : Work :=
  ((List.range 15).drop 1).foldl (fun w d => if w.domainIdle d || (w.dom d).idleFrom == w.now then w else w.setDom d { w.dom d with idleFrom := w.now }) w

/-- A domain's idle timer reaches its S1 or S2 time (R412): every unit stops taking new work, or one that must keep running refuses. -/
def domainExpiry (w : Work) (d : Nat) (deep : Bool) : Work :=
  let idle := if deep then 1000 * w.policy 2 else w.policy 1
  let st := w.rd Reg.DOM_STATE d
  if idle = 0 || !w.domainMay d deep || !(st == 0 || (deep && st == 1)) || w.on Reg.DOM_HOLD d || (!w.domainIdle d && (w.refuser d).isNone) then w
  else
    let x := w.dom d
    let w := w.advance (x.idleFrom + idle)
    match w.refuser d with
    | some u => (((w.inc Reg.PWR_DOM_CNT_REFUSED d).wr Reg.DOM_LAST_REFUSER u d).wr Reg.DOM_LAST_REFUSE_TB w.now d).setDom d { x with idleFrom := w.now }
    | none => (w.wr Reg.DOM_STATE 3 d).setDom d { x with goal := if deep then 2 else 1, start := w.now, wake := false }

/-- A domain that is asleep or entering starts to leave (R413, R414). -/
def domainExit (w : Work) (d : Nat) : Work := (w.wr Reg.DOM_STATE 4 d).setDom d { w.dom d with goal := 0, wake := false }

/-- Slots of a domain that goes to sleep pause (R475). -/
def soundingsPause (w : Work) (d : Nat) : Work :=
  w.upTo 90 (fun w s =>
    if unitDomain (slotUnit s) = d ∧ (w.rd Reg.SLOT_SSTATE s = 2 ∨ w.rd Reg.SLOT_SSTATE s = 3) then w.wr Reg.SLOT_SSTATE 5 s else w)

/-- In-flight transfers have drained and the domain enters S1 (R412). A wake that came in during the entry starts the exit at once. -/
def domainDrained (w : Work) (d : Nat) : Work :=
  let x := w.dom d
  if w.rd Reg.DOM_STATE d ≠ 3 ∨ x.goal = 0 then w
  else
    let w := w.cycles 20
    let w := ((w.wr Reg.DOM_STATE 1 d).inc Reg.PWR_DOM_CNT_S1 d).soundingsPause d
    if x.goal = 1 ∧ x.wake then w.domainExit d else w

/-- A drain has not finished at 10 µs (R412). -/
def drainTimeout (w : Work) (d u : Nat) : Work :=
  let x := w.dom d
  if w.rd Reg.DOM_STATE d ≠ 3 then w
  else
    let w := w.advance (x.start + 10000)
    let w := ((w.inc Reg.PWR_DOM_CNT_ABORTED d).wr Reg.DOM_LAST_REFUSER u d).wr Reg.DOM_LAST_REFUSE_TB w.now d
    (w.wr Reg.DOM_STATE 0 d).setDom d { x with goal := 0, wake := false, idleFrom := w.now }

/-- Retention is saved and the domain enters S2 (R412). -/
def domainDeep (w : Work) (d : Nat) : Work :=
  let x := w.dom d
  if w.rd Reg.DOM_STATE d ≠ 1 ∨ x.goal ≠ 2 then w
  else
    let w := (w.wr Reg.DOM_STATE 2 d).inc Reg.PWR_DOM_CNT_S2 d
    if x.wake then w.domainExit d else w.setDom d { x with goal := 0 }

/-- An access reaches a domain (R413, R414). Where it is ON its idle timer restarts, with a near miss where the access met the expiry; asleep it
starts to wake; during an entry the entry completes first. An access to the PCIe domain takes its link out of L1. -/
def domainWake (w : Work) (d : Nat) : Work :=
  let w := if d = 12 then w.setHif { w.d.hif with linkL1 := false } else w
  let x := w.dom d
  let st := w.rd Reg.DOM_STATE d
  let stalled := if x.stall = 0 then w.now + 1 else x.stall
  if st = 0 then
    let met := fun (n : Nat) => decide (n ≠ 0) && w.atDue (x.idleFrom + n)
    let w := if met (w.policy 1) || met (1000 * w.policy 2) then (w.inc Reg.PWR_CNT_NEAR_MISS).wr Reg.PWR_NEAR_MISS_TB w.now else w
    w.setDom d { x with idleFrom := w.now }
  else if st = 4 then w.setDom d { x with stall := stalled }
  else
    let w := w.inc Reg.PWR_DOM_CNT_WAKES d
    if st = 3 ∨ x.goal ≠ 0 then
      let w := if x.wake then w else w.inc Reg.PWR_CNT_WAKE_DURING_ENTRY
      w.setDom d { x with wake := true, stall := stalled }
    else (w.setDom d { x with stall := stalled }).domainExit d

/-- Soundings of a domain's units start to count again at its exit (R475). -/
def soundingsResume (w : Work) (d : Nat) : Work :=
  w.upTo 90 (fun w s =>
    if unitDomain (slotUnit s) ≠ d ∨ w.rd Reg.SLOT_SSTATE s ≠ 5 then w
    else
      let i := w.rd Reg.SAF_FTTI_MS * 500000 - slotLength s - w.rd Reg.SLOT_BOUND_NS s
      let w := w.wr Reg.SLOT_SSTATE (if w.rd Reg.SLOT_WATCH_LEFT s = 0 then 2 else 3) s
      (w.wr Reg.SLOT_LAST_START_TB (w.now - i / 2) s).wr Reg.SLOT_NEXT_LS_TB (w.now - i / 2 + i) s)

/-- The domain is ON and the stalled access proceeds (R414). -/
def domainOn (w : Work) (d : Nat) : Work :=
  let x := w.dom d
  if w.rd Reg.DOM_STATE d ≠ 4 then w
  else
    let w := if x.stall = 0 then w else w.raise Reg.PWR_DOM_WAKE_STALL_MAX (w.now + 1 - x.stall) d
    ((w.wr Reg.DOM_STATE 0 d).setDom d { DomSt.reset with idleFrom := w.now }).soundingsResume d

/-! ### S3 (R415 to R417) -/

/-- When every domain but domain 0 has been idle for S3_IDLE_MS (R415). -/
def s3Due (w : Work) : Nat := ((List.range 15).drop 1).foldl (fun t d => max t (w.dom d).idleFrom) 0 + 1000000 * w.policy 3

/-- Do the conditions for S3 hold (R415)? -/
def s3Ready (w : Work) : Bool :=
  decide (w.policy 3 ≠ 0) && ((List.range 15).drop 1).all (fun d => w.domainIdle d) && (w.d.hif.linkL1 || w.d.hif.d3hot) &&
    w.d.drv.ports.all (fun p => p.2.queue.isEmpty && p.2.replay.isEmpty) && w.d.ing.ctxs.all (fun c => c.2.frame.isNone)

/-- The device starts to enter S3, with the alarm at the earlier of PWR_TB_ALARM and the head of Mason's delay list less 2 ms. -/
def s3Entry (w : Work) : Work :=
  if w.rd Reg.PWR_DEVICE_STATE ≠ 0 || !w.s3Ready then w
  else
    let w := w.advance w.s3Due
    let a := w.rd Reg.PWR_TB_ALARM
    let alarm := match w.d.msn.delays.head? with
      | none => a
      | some e => if a = 0 then e.1 - 2000000 else min a (e.1 - 2000000)
    (w.wr Reg.PWR_DEVICE_STATE 1).setPwr { w.d.pwr with alarm := alarm, s3Wake := none }

/-- The S3 exit starts from a source (R416, R417); the PCIe link leaves L1.2. -/
def s3Exit (w : Work) (src : Nat) : Work :=
  let w := w.setHif { w.d.hif with linkL1 := false }
  (((w.wr Reg.PWR_DEVICE_STATE 3).wr Reg.PWR_LAST_WAKE_SRC src).wr Reg.PWR_LAST_WAKE_TB w.now).setPwr { w.d.pwr with s3Wake := none, alarm := 0 }

/-- Is a pin a wake pin whose ball is at its WAKE_LEVEL (R43, R417)? -/
def wakePin (w : Work) (p : Nat) : Bool :=
  (w.region 4 0).any (fun e => bits e 7 0 == p && bits e 15 8 == 5 && bitAt e 16 == bitAt w.d.balls.gpio p)

/-- May a wake source be seen (R417)? A start of transmission counts on a port that an enabled context maps, a wake pin at its level, WAKE ordered sets on a
port in SLEEP, the alarm where one is set. -/
def wakeSeen (w : Work) (src : Nat) : Bool :=
  match src with
  | 0 => true
  | 1 => (List.range 64).any (fun c => w.ctxEnabled c && !bitAt (wd (w.ctxMap c) 0) 1)
  | 2 => (List.range 4).any (fun p => w.rd Reg.DPORT_STATE p == dpSleep)
  | 3 => (List.range 32).any w.wakePin
  | 4 => w.d.pwr.alarm != 0
  | _ => false

/-- Every domain, channel and link has reached its S3 state (R415). A wake that came in meanwhile starts the exit at once, and so does a wake pin that stands at
its level (R417). -/
def s3Entered (w : Work) : Work :=
  if w.rd Reg.PWR_DEVICE_STATE ≠ 1 then w
  else
    let w := ((w.wr Reg.PWR_DEVICE_STATE 2).inc Reg.PWR_CNT_S3_ENTRIES).selfRefreshEnter
    let w := w.upTo 14 (fun w d => ((w.wr Reg.DOM_STATE 2 (d + 1)).soundingsPause (d + 1)).setDom (d + 1) { w.dom (d + 1) with goal := 0 })
    let w := w.upTo 4 (fun w p => if w.rd Reg.DPORT_STATE p = dpActive then w.setPortState p dpSleep else w)
    match w.d.pwr.s3Wake with
    | some s => w.s3Exit s
    | none => if bitAt (w.rd Reg.PWR_WAKE_EN) 3 && w.wakeSeen 3 then w.s3Exit 3 else w

/-- A wake source is seen (R417): one that is enabled takes the device out of S3; during the entry it waits for the entry's end. -/
def wakeSource (w : Work) (src : Nat) : Work :=
  if !bitAt (w.rd Reg.PWR_WAKE_EN) src || !w.wakeSeen src then w
  else if w.rd Reg.PWR_DEVICE_STATE = 2 then w.s3Exit src
  else if w.rd Reg.PWR_DEVICE_STATE = 1 ∧ w.d.pwr.s3Wake = none then
    (w.inc Reg.PWR_CNT_WAKE_DURING_ENTRY).setPwr { w.d.pwr with s3Wake := some src }
  else w

/-- The TB alarm fires (R415, R417): in S3 the one set at entry, else PWR_TB_ALARM, which wakes nothing. -/
def tbAlarm (w : Work) : Work :=
  let a := if w.rd Reg.PWR_DEVICE_STATE = 0 then w.rd Reg.PWR_TB_ALARM else w.d.pwr.alarm
  if a = 0 then w else (w.advance a).wakeSource 4

/-- The first useful cycle after S3 (R416): domains are ON, channels run at 6,400 MT/s and sleeping Dravig ports retrain. -/
def s3Left (w : Work) : Work :=
  if w.rd Reg.PWR_DEVICE_STATE ≠ 3 then w
  else
    let w := (w.wr Reg.PWR_DEVICE_STATE 0).selfRefreshExit
    let w := w.upTo 14 (fun w d => ((w.wr Reg.DOM_STATE 0 (d + 1)).setDom (d + 1) { DomSt.reset with idleFrom := w.now }).soundingsResume (d + 1))
    w.upTo 4 (fun w p => w.retrainFromHello p)

/-- Sixteen WAKE ordered sets on a port (R401): they wake the device, or the port retrains where only it sleeps. -/
def wakeSets (w : Work) (p : Nat) : Work :=
  if w.rd Reg.DPORT_STATE p ≠ dpSleep then w
  else if w.rd Reg.PWR_DEVICE_STATE = 0 then w.retrainFromHello p
  else w.wakeSource 2

/-- The latency tolerance the device reports, in µs (R418): LTR_ACTIVE_US while a queue has unfetched entries, a write to the host is held or a frame is open,
else LTR_IDLE_US; no requirement in S3 and D3hot. -/
def ltrUs (w : Work) : Option Nat :=
  if w.d.hif.d3hot || w.rd Reg.PWR_DEVICE_STATE == 2 then none
  else if w.queueIds.any (fun q => decide (0 < w.sqReady q)) || !w.d.hif.heldWrites.isEmpty || w.d.ing.ctxs.any (fun c => c.2.frame.isSome) then
    some (w.rd Reg.PWR_LTR_ACTIVE_US)
  else some (w.rd Reg.PWR_LTR_IDLE_US)

/-- Does the device drive CLKREQ_N low (R418)? It releases it only in S3 or D3hot, without traffic for the host. -/
def clkreqLow (w : Work) : Bool := !(w.d.hif.d3hot || w.rd Reg.PWR_DEVICE_STATE == 2) || !w.d.hif.heldWrites.isEmpty

/-- The PCIe link enters L1 (R411, R415). -/
def linkL1 (w : Work) : Work := if w.d.hif.linkUp then w.setHif { w.d.hif with linkL1 := true } else w

end Work

end Sys2Proof.Machine
end

