-- ==== Sys2Proof/Machine/Loader.lean ====
section
/-! DEFINITION. The bitstream loader: steps 9, 11, 12 and 13 of R48, refusal, commit, model reloads and the boot bitstream (R39, R43, R44,
R46 to R54, R59, R224, R435, R453, R455, R500). -/

namespace Sys2Proof.Machine

open Config

/-! ### Naming what failed (R49) -/

/-- A container: its words, its records in order, and whether it is partial. -/
structure Container where
  words : List Nat
  recs : List Region
  part : Bool

/-- Read a container's words. -/
def Container.ofWords (c : List Nat) : Container :=
  ⟨c, (walkRecords c (ctTotal c - 512) (ctCount c) 0 256).1, ctPartial c⟩

/-- Does a failing check involve a record: does the record decide, beside some of the others, whether it fails? The others are taken as none of them, all of
them, those before it, and those after it (DEDUCED, log entry 40). -/
def involves (ct : Container) (fails : List Region → Bool) (k : Nat) : Bool :=
  match ct.recs[k]? with
  | none => false
  | some r =>
    let before := ct.recs.take k
    let after := ct.recs.drop (k + 1)
    [([], []), (before, after), (before, []), ([], after)].any (fun (s : List Region × List Region) =>
      fails (s.1 ++ r :: s.2) != fails (s.1 ++ s.2))

/-- FAIL_REGION and FAIL_OFFSET of a check of the merged configuration that failed in a region at an offset from its record header; fails says whether the same
check fails for some of the records. A region not in the container, or a failure that a deletion brings about, names the lowest record that the check
involves, at its header (R49). -/
def nameFailure (ct : Container) (fails : List Region → Bool) (typ idx off : Nat) : Nat × Nat :=
  let at_ := fun (k : Nat) => ((ct.recs[k]?).map Region.off).getD 0
  let lowest := ((List.range ct.recs.length).find? (involves ct fails)).getD 0
  let deleted := ct.part && (List.range ct.recs.length).any (fun k => ((ct.recs[k]?).map (fun r => r.len == 0)).getD false && involves ct fails k)
  match ct.recs.findIdx? (fun r => r.typ == typ && r.idx == idx && (r.len != 0 || !ct.part)) with
  | some k => if deleted then (lowest, at_ lowest) else (k, at_ k + off)
  | none => (lowest, at_ lowest)

/-! ### Limits and pools (R39, R52, R59) -/

/-- The graph versions a container brings, in container order of one of their records (TYPE 1 or 10). -/
def newGraphs (ct : Container) (typ : Nat) : List (Region × GVer) :=
  (ct.recs.filter (fun r => r.typ == typ && r.len != 0)).map (fun r => (r, rgGraph ct.recs r.idx))

/-- A pool's size. -/
def poolSize (g : GVer) : Nat := g.flagCount * g.maxRuns

/-- The lowest run of free flags of a length among used runs, as (first, end) (R59). -/
def firstFit (used : List (Nat × Nat)) (size : Nat) : Option Nat :=
  let ends := 0 :: used.map (fun u => u.2)
  let ok := fun (p : Nat) => decide (p + size ≤ 16384) && used.all (fun u => decide (p + size ≤ u.1 ∨ u.2 ≤ p))
  ((ends.filter ok).foldl (fun (b : Option Nat) p => match b with | none => some p | some q => some (min p q)) none)

namespace Work

/-- The graph versions resident when a container is checked, in ascending graph ID, superseded before active (R39): those it replaces or deletes count until the
commit releases them (R52). -/
def residents (w : Work) : List GVer :=
  sortBy (fun (a b : GVer) => decide (a.gid < b.gid ∨ (a.gid = b.gid ∧ b.active ∧ !a.active))) w.d.ldr.graphs

/-- Places for the pools of a container's graphs: (graph, first flag), or the graph that finds none (R59). At a full load the pools lie back to
back from flag 0. -/
def placePools (w : Work) (ct : Container) : List (Nat × Nat) × Option Nat :=
  let gs := sortBy (fun (a b : GVer) => decide (a.gid < b.gid)) ((newGraphs ct 10).map (fun x => x.2))
  let used := w.residents.map (fun g => (g.base, g.base + poolSize g))
  let r := gs.foldl (fun (acc : List (Nat × Nat) × List (Nat × Nat) × Option Nat) g =>
    match acc.2.2 with
    | some _ => acc
    | none => match firstFit acc.2.1 (poolSize g) with
      | none => (acc.1, acc.2.1, some g.gid)
      | some p => (acc.1 ++ [(g.gid, p)], acc.2.1 ++ [(p, p + poolSize g)], none)) ([], used, none)
  (r.1, r.2.2)

/-- Step 11 (R39): the record and offset of the first limit that fails, with its status. -/
def step11 (w : Work) (ct : Container) : Option LoadFail :=
  let at_ := fun (r : Region) (o : Nat) (st : Nat) => (⟨st, (ct.recs.findIdx? (sameRegion r)).getD 0, r.off + o, 0xFF⟩ : LoadFail)
  let one := (newGraphs ct 1).findSome? (fun (r, g) =>
    if 256 ≤ r.idx then some (at_ r 8 stGraphLimit) else if 512 < g.nodeCount then some (at_ r 16 stGraphLimit) else none)
  let sums := fun (typ : Nat) (size : GVer → Nat) (cap st : Nat) =>
    let mine := newGraphs ct typ
    let total := (mine.map (fun (x : Region × GVer) => size x.2 * x.2.maxRuns)).sum
    let clash := (List.range mine.length).findSome? (fun k =>
      if cap < ((mine.take (k + 1)).map (fun (x : Region × GVer) => size x.2 * x.2.maxRuns)).sum then (mine[k]?).map (fun (x : Region × GVer) => at_ x.1 16 st) else none)
    match clash with
    | some f => some f
    | none =>
      if cap < total + (w.residents.map (fun g => size g * g.maxRuns)).sum then (mine.getLast?).map (fun (x : Region × GVer) => at_ x.1 16 st) else none
  match one with
  | some f => some f
  | none => match sums 1 GVer.nodeCount 4096 stGraphLimit with
    | some f => some f
    | none => match sums 10 GVer.flagCount 16384 stFlagLimit with
      | some f => some f
      | none => ((w.placePools ct).2).bind (fun gid => (ct.recs.find? (fun (r : Region) => r.typ == 10 && r.idx == gid)).map (fun r => at_ r 16 stFlagLimit))

/-! ### Claims and resources in use (R43, R44, R51, R224, R499) -/

/-- A merged region and offset that a claim check names, with the holder. -/
abbrev ClaimFail := Nat × Nat × Nat × Nat

/-- The entries of the CLAIMS region: (CLASS, INDEX, HOLDER, GRAPH_ID). -/
def claimsOf (rs : List Region) : List (Nat × Nat × Nat × Nat) :=
  let ws := rgWords rs 5 0
  (List.range (ws.length / 2)).map (fun k =>
    (bits (wd ws (2 * k)) 7 0, bits (wd ws (2 * k)) 31 16, bits (wd ws (2 * k + 1)) 7 0, bits (wd ws (2 * k + 1)) 31 16))

/-- The claims of a configuration that conflict (R43, R44). -/
def claimFaults (rs : List Region) : List ClaimFail :=
  let cs := claimsOf rs
  let never := fun (cls i : Nat) => (cls == 1 && (i == 32 || i == 33)) || (cls == 2 && i == 16)
  let ps := rgWords rs 4 0
  cs.zipIdx.filterMap (fun ((cls, i, _, _), k) =>
    if never cls i then some (5, 0, 16 + 8 * k + 2, uSafety)
    else ((cs.take k).find? (fun d => d.1 == cls && d.2.1 == i)).map (fun d => (5, 0, 16 + 8 * k + 2, d.2.2.1))) ++
  ps.zipIdx.filterMap (fun (v, k) =>
    let fn := bits v 15 8
    let gpio := bits v 7 0
    let owner := (cs.find? (fun d => d.1 == 1 && d.2.1 == gpio)).map (fun d => d.2.2.1)
    let timer := (cs.find? (fun d => d.1 == 2 && d.2.1 == bits v 23 16)).map (fun d => d.2.2.1)
    if fn = 0 then none
    else if (ps.take k).any (fun u => bits u 15 8 != 0 && bits u 7 0 == gpio) then some (4, 0, 16 + 4 * k, owner.getD 0xFF)
    else if owner.isNone ∨ ((fn = 3 ∨ fn = 4) ∧ timer ≠ owner) then some (4, 0, 16 + 4 * k, if owner.isNone then 0xFF else timer.getD 0xFF)
    else none)

/-- The ring of a SOURCE node: context, FIRST_SEG, SEGMENTS, DEPTH (R224). -/
def ringOf (g : GVer) (n : Nat) : Nat × Nat × Nat × Nat :=
  let p := g.params n
  (g.unit n, bits (wd p 2) 15 0, bits (wd p 2) 24 16, bits (wd p 3) 15 0)

/-- Do two rings share a segment? -/
def ringsMeet (a b : Nat × Nat × Nat × Nat) : Bool := decide (a.2.1 < b.2.1 + b.2.2.1 ∧ b.2.1 < a.2.1 + a.2.2.1)

/-- The graphs of a configuration. -/
def graphsOf (rs : List Region) : List GVer := (rs.filter (fun r => r.typ == 1)).map (fun r => rgGraph rs r.idx)

/-- Segments of SOURCE nodes without a claim for the graph by the Keystone, or shared (R224). old are the superseded versions that stay. -/
def segmentFaults (rs : List Region) (old : List GVer) : List ClaimFail :=
  let cs := claimsOf rs
  let gs := graphsOf rs
  gs.flatMap (fun g => g.sources.filterMap (fun n =>
    let r := ringOf g n
    let field := 48 + 32 * g.nodeCount + 16 * g.edgeCount + g.node n 6 + 8
    let claimed := (List.range r.2.2.1).find? (fun k => !cs.any (fun d => d.1 == 4 && d.2.1 == r.2.1 + k && d.2.2.1 == uKeystone && d.2.2.2 == g.gid))
    let sharedNow := gs.any (fun h => h.sources.any (fun m => (h.gid != g.gid || m != n) && ringsMeet r (ringOf h m)))
    let sharedOld := old.any (fun h => h.sources.any (fun m => ringsMeet r (ringOf h m) && !(h.gid == g.gid && ringOf h m == r)))
    match claimed with
    | some k => some (1, g.gid, field, ((cs.find? (fun d => d.1 == 4 && d.2.1 == r.2.1 + k)).map (fun d => d.2.2.1)).getD 0xFF)
    | none => if sharedNow || sharedOld then some (1, g.gid, field, uKeystone) else none))

/-- The graph a context instantiates at its next start-of-frame, once some records commit: a CONTEXT_MAP record names it, else the GRAPH_RUN binding made last,
else the configuration's entry (R359). rs is the configuration they leave. -/
def nextGraph (w : Work) (recs rs : List Region) (c : Nat) : Nat :=
  let b := if recs.any (fun r => r.typ == 3) then 0
    else match tget 0 w.d.ldr.nextBindings c with
      | 0 => tget 0 w.d.ldr.bindings c
      | b => b
  if b = 0 then bits (wd (rgCtx rs c) 1) 31 16 else if b = 0x10000 then 0xFFFF else b - 1

/-- The graph versions in use under a merged configuration (R51): those with an instance in flight, and those an enabled context instantiates next. -/
def usedVersions (w : Work) (recs rs : List Region) : List GVer :=
  let names := ((List.range 64).filter (fun c => bitAt (wd (rgCtx rs c) 0) 0)).map (w.nextGraph recs rs)
  w.d.ldr.graphs.filter (fun g => w.liveRuns.any (fun r => r.seq == g.seq)) ++ (graphsOf rs).filter (fun g => names.contains g.gid)

/-- The slabs a graph version's nodes work in. -/
def slabsUsed (rs : List Region) (g : GVer) : List Nat :=
  ((List.range g.nodeCount).flatMap (fun n => (List.range g.maxRuns).flatMap (fun s => (nodeAreas rs g n s).flatMap (fun a => slabsOf a.2.1 a.2.2.1)))).eraseDups

/-- Why a slab's role may not change: the holder (R51). An open window to which no port has applied a packet yet names 0xFF (DESIGN CHOICE, log entry 40). -/
def slabHolder (w : Work) (rs : List Region) (used : List Nat) (slab : Nat) : Option Nat :=
  let enabled := (List.range 64).filter (fun c => bitAt (wd (rgCtx rs c) 0) 0)
  let area := fun (base size : Nat) => base != 0 && (slabsOf base size).contains slab
  let ctxArea := enabled.any (fun c => area (if w.rd Reg.KS_LEDGER_BASE = 0 then 0 else w.rd Reg.KS_LEDGER_BASE + c * 0x4000) 0x4000 ||
    area (if w.rd Reg.ING_PARAM_BASE = 0 then 0 else w.paramArea c) 0x20000 ||
    area (if w.rd Reg.ISP_STATE_BASE = 0 then 0 else w.rd Reg.ISP_STATE_BASE + c * w.rd Reg.ISP_STATE_STRIDE) (w.rd Reg.ISP_STATE_STRIDE))
  let quartet := 16 * (slab / 8) + 4 * w.rd Reg.SLAB_QUARTET slab
  if used.contains slab || w.d.ldr.models.any (fun m => (modelSlabs m).contains slab) || ctxArea then some uKeystone
  else match (if w.role slab = 3 then (List.range 4).find? (fun k => w.coreBusy (quartet + k)) else none) with
    | some k => some (w.d.cores.getD (quartet + k) 0)
    | none =>
      if w.role slab = 5 then some uSafety
      else match (List.range 64).find? (fun k => w.on Reg.WIN_OPEN k && (slabsOf (w.rd Reg.WIN_BASE k) (w.rd Reg.WIN_SIZE k)).contains slab) with
        | some k => some (match tget 0 w.d.drv.lastPort k with | 0 => 0xFF | p => uDravig (p - 1))
        | none => none

/-- HOLDER and STATIC fields of a class. -/
def holdFields (cls : Nat) : Fld × Fld × Fld :=
  match cls with
  | 1 => (Reg.HOLDG_HOLDER, Reg.HOLDG_STATIC, Reg.HOLDG_GRAPH_ID)
  | 2 => (Reg.HOLDT_HOLDER, Reg.HOLDT_STATIC, Reg.HOLDT_GRAPH_ID)
  | 3 => (Reg.HOLDF_HOLDER, Reg.HOLDF_STATIC, Reg.HOLDF_GRAPH_ID)
  | _ => (Reg.HOLDS_HOLDER, Reg.HOLDS_STATIC, Reg.HOLDS_GRAPH_ID)

/-- The in-use rules of R51 that some records break; rs is the configuration they leave. -/
def inUseFaults (w : Work) (recs rs : List Region) : List ClaimFail :=
  let used := ((w.usedVersions recs rs).flatMap (slabsUsed rs)).eraseDups
  let carve := rgWords rs 2 0
  let p := rgWords rs 6 0
  let low := bits (wd p 0) 19 16 < w.rd Reg.SAF_TARGET || w.rd Reg.SAF_FTTI_MS < bits (wd p 0) 15 0
  (if w.d.ldr.buildId = 0 then [] else (List.range (carve.length / 2)).filterMap (fun k =>
    let v := wd carve (2 * k)
    let s := bits v 7 0
    let moved := bits v 11 8 != w.role s || (bits v 11 8 == 3 && bits v 15 12 != w.rd Reg.SLAB_QUARTET s)
    if moved then (w.slabHolder rs used s).map (fun h => (2, 0, 16 + 8 * k, h)) else none)) ++
  (claimsOf rs).zipIdx.filterMap (fun ((cls, i, u, _), k) =>
    let f := holdFields cls
    let h := w.rd f.1 i
    if h ≠ 0xFF ∧ !w.on f.2.1 i ∧ h ≠ u then some (5, 0, 16 + 8 * k + 2, h) else none) ++
  (if w.d.ldr.buildId ≠ 0 ∧ w.profileLock ∧ low then [(6, 0, 16, uSafety)] else [])

/-- The superseded versions that stay resident once some records commit: those with an instance in flight (R52, R224). -/
def stayingOld (w : Work) (recs : List Region) : List GVer :=
  w.residents.filter (fun g => w.liveRuns.any (fun r => r.seq == g.seq) &&
    (!g.active || recs.any (fun r => (r.typ == 1 || r.typ == 10) && r.idx == g.gid)))

/-- Step 12: every claim rule that some records break; rs is the configuration they leave. -/
def step12 (w : Work) (recs rs : List Region) : List ClaimFail :=
  claimFaults rs ++ segmentFaults rs (w.stayingOld recs) ++ w.inUseFaults recs rs

/-! ### The checks in order (R48) -/

/-- The configuration a container leads to. -/
def merged (w : Work) (ct : Container) : List Region := mergeRegions ct.part w.d.ldr.regions ct.recs

/-- Steps 1 to 3 on a staged container; given is the job's LENGTH. -/
def earlySteps (w : Work) (c : List Nat) (given : Nat) : Option LoadFail :=
  match stepFormat c given with
  | some o => some ⟨stDescFormat, 0xFFFF, o, 0xFF⟩
  | none =>
    let part := bits (wd c 4) 15 0
    if part ≠ 0xFFFF ∧ part ≠ w.s0.otp.partNumber then some ⟨stVersionMismatch, 0xFFFF, 16, 0xFF⟩
    else if w.s0.otp.stepping < bits (wd c 4) 19 16 then some ⟨stVersionMismatch, 0xFFFF, 18, 0xFF⟩
    else if !w.keyActive (bits (wd c 5) 7 0) then some ⟨stKeyRevoked, 0xFFFF, 20, 0xFF⟩
    else none

/-- Step 9: BASE_BUILD_ID and the versions. -/
def step9 (w : Work) (ct : Container) : Option LoadFail :=
  if !ct.part then (if w.d.ldr.buildId = 0 then none else some ⟨stVersionMismatch, 0xFFFF, 6, 0xFF⟩)
  else if w.d.ldr.buildId = 0 ∨ wd64 ct.words 8 ≠ w.d.ldr.buildId then some ⟨stVersionMismatch, 0xFFFF, 32, 0xFF⟩
  else ct.recs.zipIdx.findSome? (fun (r, k) =>
    match w.d.ldr.regions.find? (sameRegion r) with
    | some a => if r.ver ≤ a.ver then some ⟨stVersionMismatch, k, r.off + 12, 0xFF⟩ else none
    | none => none)

/-- Step 10, with what only a container can break: record GEN, a deleted singleton, and a MODEL_REF from the NOR (R10, R36, R435). -/
def step10All (w : Work) (ct : Container) (boot : Bool) : Option LoadFail :=
  let first := ct.recs.zipIdx.findSome? (fun (r, k) =>
    if bits (wd ct.words (r.off / 4)) 19 16 ≠ 1 then some (⟨stDescFormat, k, r.off + 2, 0xFF⟩ : LoadFail)
    else if ct.part ∧ r.len = 0 ∧ typeSingle r.typ then some ⟨stDescFormat, k, r.off, 0xFF⟩
    else if boot ∧ r.typ = 9 then some ⟨stDescFormat, k, r.off, 0xFF⟩
    else none)
  match first with
  | some f => some f
  | none =>
    match Sys2Proof.Machine.step10 w (w.merged ct) with
    | none => none
    | some (t, i, o, st) =>
      let fails := fun (rs : List Region) => step10Fails w (mergeRegions ct.part w.d.ldr.regions rs) (t, i, o, st)
      let (k, off) := nameFailure ct fails t i o
      some ⟨st, k, off, 0xFF⟩

/-- Step 12, named. -/
def step12All (w : Work) (ct : Container) : Option LoadFail :=
  match w.step12 ct.recs (w.merged ct) with
  | [] => none
  | (t, i, o, h) :: _ =>
    let fails := fun (rs : List Region) => (w.step12 rs (mergeRegions ct.part w.d.ldr.regions rs)).any (fun f => f.1 == t && f.2.1 == i && f.2.2.1 == o)
    let (k, off) := nameFailure ct fails t i o
    some ⟨stClaimDenied, k, off, h⟩

/-- Steps 5 to 12, after the signature has been found good. -/
def lateSteps (w : Work) (c : List Nat) (boot : Bool) : Option LoadFail :=
  let (rs, f) := walkRecords c (ctTotal c - 512) (ctCount c) 0 256
  let ct : Container := ⟨c, rs, ctPartial c⟩
  if bits (wd c 5) 15 8 < w.rollbackCounter then some ⟨stRollback, 0xFFFF, 21, 0xFF⟩
  else match stepReserved c with
    | some o => some ⟨stDescReserved, 0xFFFF, o, 0xFF⟩
    | none => match stepWalk c rs f with
      | some (k, o) => some ⟨stDescFormat, k, o, 0xFF⟩
      | none => match rs.zipIdx.findSome? (fun (r, k) => (recordReserved c r).map (fun o => (⟨stDescReserved, k, o, 0xFF⟩ : LoadFail))) with
        | some f => some f
        | none => match w.step9 ct with
          | some f => some f
          | none => match w.step10All ct boot with
            | some f => some f
            | none => match w.step11 ct with
              | some f => some f
              | none => w.step12All ct

/-! ### The queue of the loader (R53) -/

/-- Is a model in use: a graph version in use references it (R51)? -/
def modelInUse (w : Work) (mid : Nat) : Bool :=
  (w.usedVersions [] w.d.ldr.regions).any (fun g => (List.range g.nodeCount).any (fun n => g.typ n == 8 && g.model n == mid))

/-- The active MODEL_REF of a model. -/
def modelRef (w : Work) (mid : Nat) : Option Region := w.d.ldr.regions.find? (fun r => r.typ == 9 && r.idx == mid)

/-- A load ends: LAST_STATUS takes its status (R54), and its job, if it has one, completes. -/
def loadDone (w : Work) (j : LoadJob) (status info : Nat) : Work :=
  let w := w.wr Reg.KS_BS_LAST_STATUS status
  match j.job with
  | some q => w.complete q status info
  | none => w

/-- Take the next job of the loader while it is free. A model reload is refused while the model is in use, or where no MODEL_REF names it. -/
def loadNext : Nat → Work → Work
  | 0, w => w
  | fuel + 1, w =>
    match w.d.ldr.run, w.d.ldr.queue with
    | none, j :: rest =>
      let w := w.setLdr { w.d.ldr with queue := rest }
      match j.model with
      | none => w.setLdr { w.d.ldr with run := some ⟨j, .staging, [], [], []⟩ }
      | some m =>
        match w.modelRef m with
        | none => loadNext fuel (w.loadDone j stDescFormat 0)
        | some r =>
          if w.modelInUse m then loadNext fuel ((w.err uKeystone stClaimDenied uKeystone).loadDone j stClaimDenied 0)
          else w.setLdr { w.d.ldr with run := some ⟨j, .models, [], [r], []⟩ }
    | _, _ => w

/-- A load joins the loader's queue. -/
def loadStart (w : Work) (j : LoadJob) : Work :=
  let w := w.setLdr { w.d.ldr with queue := w.d.ldr.queue ++ [j] }
  loadNext w.d.ldr.queue.length w

/-- The loader is free again. -/
def loadEnd (w : Work) : Work :=
  let w := w.setLdr { w.d.ldr with run := none }
  loadNext w.d.ldr.queue.length w

/-- A container is refused (R48, R49): nothing changes but the loader's registers, the record and the job. A boot-time refusal leaves the device
in RECOVERY (R435, R436). -/
def refuseLoad (w : Work) (j : LoadJob) (f : LoadFail) : Work :=
  let w := (w.wr Reg.KS_BS_FAIL_REGION f.region).wr Reg.KS_BS_FAIL_OFFSET f.offset
  let w := (w.inc Reg.KS_BS_REFUSALS).err uKeystone f.status (f.region + (if f.holder = 0xFF then 0 else f.holder * 65536)) 0 f.offset
  let w := if j.boot then (w.wr Reg.RST_BOOT_STATE 5).wr Reg.RST_RECOVERY_REASON 3 else w
  (w.loadDone j f.status f.region).loadEnd

/-- A job ends with a status and no refusal of a container. -/
def failLoad (w : Work) (j : LoadJob) (status : Nat) : Work := (w.loadDone j status 0).loadEnd

/-! ### Commit (R50, R52, R59, R455, R500) -/

/-- Does a commit count a context among those that must switch (R54)? Every enabled context counts at the first commit too, which replaces nothing (DESIGN
CHOICE, log entry 40). -/
def mustSwitch (w : Work) (ct : Container) (rs : List Region) (c : Nat) : Bool :=
  let m := rgCtx rs c
  let has := fun (t i : Nat) => ct.recs.any (fun r => r.typ == t && r.idx == i)
  let gid := w.nextGraph ct.recs rs c
  let g := rgGraph rs gid
  bitAt (wd m 0) 0 && (has 3 0 || has 8 (bits (wd m 1) 7 0) || has 1 gid || has 10 gid ||
    (List.range g.nodeCount).any (fun n => g.typ n == 8 && has 9 (g.model n)))

/-- The new versions of graphs and models, superseded ones kept until they are released. -/
def commitVersions (w : Work) (ct : Container) : Work :=
  let pools := (w.placePools ct).1
  let touched := fun (t gid : Nat) => ct.recs.any (fun r => r.typ == t && r.idx == gid)
  let olds := w.d.ldr.graphs.map (fun g => if touched 1 g.gid then { g with active := false } else g)
  let seq := w.d.ldr.nextSeq
  let news := (newGraphs ct 1).zipIdx.map (fun (x, k) =>
    { x.2 with ver := x.1.ver, seq := seq + k, base := ((pools.find? (fun p => p.1 == x.1.idx)).map (fun p => p.2)).getD 0 })
  let mods := (ct.recs.filter (fun r => r.typ == 9 && r.len != 0)).zipIdx.map (fun (r, k) => (⟨r.idx, r.ver, seq + news.length + k, r.words, true⟩ : MVer))
  let oldMods := w.d.ldr.models.map (fun m => if touched 9 m.mid then { m with active := false } else m)
  w.setLdr { w.d.ldr with graphs := olds ++ news, models := oldMods ++ mods, nextSeq := seq + news.length + mods.length }

/-- Write a checked image to its slabs and seal them where it was encrypted (R46, R455). -/
def placeImage (w : Work) (r : Region) (img : List Byte) : Work :=
  let first := bits (wd r.words 3) 7 0
  let w := w.store (0x4000000000 + first * 0x1000000) img
  let mark := if bitAt (wd r.words 3) 16 then r.idx + 1 else 0
  (List.range (bits (wd r.words 3) 15 8)).foldl (fun w k =>
    w.setLdr { w.d.ldr with sealed := tset 0 w.d.ldr.sealed (first + k) mark, zeroing := w.d.ldr.zeroing.filter (fun s => s != first + k) }) w

/-- Install the CARVE's roles and the CLAIMS' holders. -/
def commitTables (w : Work) (ct : Container) (rs : List Region) : Work :=
  let has := fun (t : Nat) => ct.recs.any (fun r => r.typ == t)
  let w := if has 2 then w.upTo 36 (fun w s => (w.wr Reg.SLAB_ROLE (carveRole rs s) s).wr Reg.SLAB_QUARTET
      (if carveRole rs s = 3 then bits (carveEntry rs s) 15 12 else 0) s) else w
  if !has 5 then w
  else
    let w := [(1, 32), (2, 16), (3, 16), (4, 384)].foldl (fun w (cls, n) =>
      let f := holdFields cls
      w.upTo n (fun w i => if w.on f.2.1 i then ((w.wr f.1 0xFF i).wr f.2.1 0 i).wr f.2.2 0xFFFF i else w)) w
    (claimsOf rs).foldl (fun w (cls, i, u, gid) =>
      let f := holdFields cls
      ((w.wr f.1 u i).wr f.2.1 1 i).wr f.2.2 gid i) w

/-- Contexts that a commit disables lose their overrides and their place in the ring (R139, R225). -/
def commitContexts (w : Work) (rs : List Region) : Work :=
  w.upTo 64 (fun w c =>
    if bitAt (wd (rgCtx rs c) 0) 0 || !w.ctxEnabled c then w
    else (w.wr Reg.CTX_LAST_PARAM_SET 0xFFFF c).setCtxIn c { w.ctxIn c with ever := false, overrides := [], written := 0, consumed := 0, lastSet := 0xFFFF })

/-- The age maps of the PLUMB nodes that a container brings start at 0, but for a map that another resident version's PLUMB node keeps (R89; DESIGN CHOICE, log
entry 40). -/
def commitAges (w : Work) (ct : Container) : Work :=
  let maps := fun (g : GVer) => ((List.range g.nodeCount).filter (fun n => g.typ n == 9)).map (fun n => (wd64 (g.params n) 5, (plumbNeed (g.params n)).1))
  let kept := w.d.ldr.graphs.flatMap (fun g => (maps g).map (fun m => m.1))
  ((newGraphs ct 1).flatMap (fun x => maps x.2)).foldl (fun w m =>
    if kept.contains m.1 then w else w.store m.1 (List.replicate m.2 0#8)) w

/-- Commit a container (R50): the merged configuration is active from now on. The commit fills its V-cycle, so that every later start-of-frame is later than it, and
one before it in that V-cycle took the old regions (DESIGN CHOICE, log entry 40). -/
def commitLoad (w : Work) (run : LoadRun) (c : List Nat) : Work :=
  let ct := Container.ofWords c
  let rs := w.merged ct
  let has := fun (t : Nat) => ct.recs.any (fun r => r.typ == t)
  let pend := (List.range 64).filter (fun k => (w.mustSwitch ct rs k) || (w.d.ldr.pendingCtx.contains k && bitAt (wd (rgCtx rs k) 0) 0))
  let oldMap := w.region 3 0
  let open_ := (List.range 64).filterMap (fun k =>
    if (w.ctxIn k).frame.isSome ∧ !bitAt (wd (w.ctxMap k) 0) 1 then some (bits (wd (w.ctxMap k) 0) 11 8 * 32 + bits (wd (w.ctxMap k) 0) 20 16) else none)
  let w := (w.commitContexts rs).commitAges ct
  let w := w.commitVersions ct
  let w := w.commitTables ct rs
  let w := run.checked.foldl (fun w x => w.placeImage x.1 x.2) w
  let w := w.setLdr { w.d.ldr with
    buildId := wd64 c 6, regions := rs, pendingCtx := pend,
    mapOld := if has 3 then open_.foldl (fun t k => if (tget [] t k).isEmpty then tset [] t k oldMap else t) w.d.ldr.mapOld else w.d.ldr.mapOld,
    bindings := if has 3 then [] else w.d.ldr.bindings, nextBindings := if has 3 then [] else w.d.ldr.nextBindings }
  let w := if has 6 then w.setSaf { w.d.saf with nextProfile := some (rgWords rs 6 0) } else w
  let w := w.upTo 4 (fun w k => w.wr Reg.SLOT_BOUND_NS (longestStripe w rs) (82 + k))
  let w := if has 7 then w.retarget else w
  let w := (w.inc Reg.KS_BS_COMMITS).wr Reg.KS_BS_COMMIT_TB w.now
  let w := if [2, 3, 5].contains (w.rd Reg.RST_BOOT_STATE) then (w.wr Reg.RST_BOOT_STATE 4).wr Reg.RST_RECOVERY_REASON 0 else w
  (w.loadDone run.job stOk 0).releaseOld.loadEnd.cycles 1

/-! ### The commands -/

/-- The status of a read the loader made, with the host's failure to answer. -/
def loadRead (w : Work) (unit a n : Nat) (fail : FetchFail) : Work × Nat × List Byte :=
  match fail with
  | .timeout => if inHostWin a 1 then ((w.inc Reg.QE_CNT_CPL_TIMEOUT).err unit stCompletionTimeout 0 a, stCompletionTimeout, []) else w.readAt unit a n
  | .poisoned => if inHostWin a 1 then ((w.inc Reg.QE_CNT_POISON_IN).err unit stEccUncorrectable 0 a, stEccUncorrectable, []) else w.readAt unit a n
  | .none => w.readAt unit a n

/-- The staged container passes on to its early checks. -/
def stagedChecks (w : Work) (run : LoadRun) (bs : List Byte) : Work :=
  let c := bytesWords bs
  match w.earlySteps c (if run.job.boot then wd c 2 else run.job.len) with
  | some f => w.refuseLoad run.job f
  | none => w.setLdr { w.d.ldr with run := some { run with phase := .verifying, staged := bs } }

/-- Staging ends (R47): every byte is read once, and steps 1 to 3 run. -/
def bitstreamStaged (w : Work) (fail : FetchFail) : Work :=
  match w.d.ldr.run with
  | some run =>
    if run.phase ≠ .staging ∨ run.job.boot then w
    else
      let (w, st, bs) := w.loadRead uKeystone run.job.addr run.job.len fail
      if st ≠ stOk then w.failLoad run.job st else w.stagedChecks run bs
  | none => w

/-- The security core has checked the signature under the key that KEY_SLOT names (R35); steps 5 to 12 follow, then model images or the commit (R48). -/
def signatureVerified (w : Work) : Work :=
  match w.d.ldr.run with
  | some run =>
    if run.phase ≠ .verifying then w
    else
      let c := bytesWords run.staged
      let good := w.signed (bits (wd c 5) 7 0) (run.staged.take (ctTotal c))
      let w := w.countVerify good
      if !good then w.refuseLoad run.job ⟨stSigInvalid, 0xFFFF, ctTotal c - 384, 0xFF⟩
      else match w.lateSteps c run.job.boot with
        | some f => w.refuseLoad run.job f
        | none =>
          let imgs := (Container.ofWords c).recs.filter (fun r => r.typ == 9 && r.len != 0)
          if imgs.isEmpty then w.commitLoad run c
          else w.setLdr { w.d.ldr with run := some { run with phase := .models, images := imgs } }
  | none => w

/-- Refuse the load at a model image: a container by its record and field (R49), a reload by its status. -/
def refuseImage (w : Work) (run : LoadRun) (r : Region) (status field : Nat) : Work :=
  if run.job.model.isSome then w.failLoad run.job status
  else
    let ct := Container.ofWords (bytesWords run.staged)
    w.refuseLoad run.job ⟨status, (ct.recs.findIdx? (sameRegion r)).getD 0, r.off + 16 + field, 0xFF⟩

/-- What an image that passed its digest puts into its slabs, or the status that refuses it (R46, R453): its bytes, or the plaintext that AES-256-GCM gives under
the key its header names, with the whole header as additional data. -/
def imagePlain (w : Work) (r : Region) (bs : List Byte) : Nat ⊕ List Byte :=
  let h := bytesWords (bs.take 64)
  let n := wd h 2
  let key := bits (wd h 1) 7 4
  if !bitAt (wd r.words 3) 16 then .inr bs
  else if !(wd h 0 == 0x4D485359 && bits (wd h 1) 3 0 == 1 && bits (wd h 1) 31 8 == 0 && n % 64 == 0 && n + 80 == wd r.words 2 &&
      (List.range 10).all (fun k => wd h (6 + k) == 0)) then .inl stSigInvalid
  else if !bitAt (w.rd Reg.SEC_MKEY_VALID) key then .inl stKeyMissing
  else match gcmOpen (tget [] w.d.sec.mkeys key) ((bs.drop 12).take 12) (bs.take 64) ((bs.drop 64).take n) ((bs.drop (64 + n)).take 16) with
    | some plain => .inr plain
    | none => .inl stSigInvalid

/-- One model image is read, digested and decrypted (step 13, R46, R453); after the last, the container commits, or the reload's image is written
again. -/
def modelImageChecked (w : Work) (fail : FetchFail) : Work :=
  match w.d.ldr.run with
  | some run =>
    match run.images with
    | [] => w
    | r :: rest =>
      if run.phase ≠ .models then w
      else
        let (w, st, bs) := w.loadRead uSecurity (wd64 r.words 0) (wd r.words 2) fail
        if st ≠ stOk then w.refuseImage run r st 0
        else if sha256 bs ≠ wordsBytes ((r.words.drop 4).take 8) then w.refuseImage run r stSigInvalid 16
        else match w.imagePlain r bs with
          | .inl st => w.refuseImage run r st 16
          | .inr img =>
            let run := { run with images := rest, checked := run.checked ++ [(r, img)] }
            if !rest.isEmpty then w.setLdr { w.d.ldr with run := some run }
            else if run.job.model.isSome then
              ((run.checked.foldl (fun w x => w.placeImage x.1 x.2) w).loadDone run.job stOk 0).loadEnd
            else w.commitLoad run (bytesWords run.staged)
  | none => w

/-- A host read of the loader gets no completion, or a poisoned one (R46, R47, R367). -/
def loaderFails (w : Work) (fail : FetchFail) : Work :=
  match w.d.ldr.run with
  | some run =>
    let src := if run.phase = .models then (run.images.head?.map (fun r => wd64 r.words 0)).getD 0 else run.job.addr
    if !inHostWin src 1 ∨ run.job.boot ∧ run.phase ≠ .models then w
    else match run.phase with
      | .staging => w.bitstreamStaged fail
      | .models => w.modelImageChecked fail
      | .verifying => w
  | none => w

/-- A host read of the loader gets no completion (R367). -/
def loaderTimeout (w : Work) : Work := w.loaderFails .timeout

/-- Firmware has fetched the boot bitstream from the NOR at BS_OFFSET (R435): without an answer, or a container there, the device is in RECOVERY. -/
def bootFetched (w : Work) (answered : Bool) : Work :=
  if w.rd Reg.RST_BOOT_STATE ≠ 3 ∨ w.d.ldr.run.isSome then w
  else
    let a := 0x10000 * (w.ob 16 + 256 * w.ob 17)
    if !answered ∨ w.num .nor a 4 ≠ 0x42485359 then (w.wr Reg.RST_BOOT_STATE 5).wr Reg.RST_RECOVERY_REASON 4
    else
      let n := min 0x4000000 (w.num .nor (a + 8) 4)
      let job : LoadJob := ⟨none, true, none, a, n⟩
      w.stagedChecks ⟨job, .staging, [], [], []⟩ (w.bytes .nor a (max n 768))

end Work

end Sys2Proof.Machine
end

