-- ==== Sys2Proof/Machine/Mason.lean ====
section
/-! DEFINITION. Mason, the hardware thread scheduler, and the control pairs it serves (R329 to R344). -/

namespace Sys2Proof.Machine

open Config

namespace Work

/-! ### Threads -/

/-- The code of a thread state (R332). -/
def threadCode : ThreadSt → Nat
  | .free => 0
  | .suspended => 1
  | .ready => 2
  | .running => 3
  | .waiting => 4
  | .sleeping => 5
  | .faulted => 6

/-- A thread control block. -/
def thread (w : Work) (t : Nat) : Thread := tget Thread.none w.d.msn.threads t

/-- Replace a thread control block. -/
def setThread (w : Work) (t : Nat) (x : Thread) : Work :=
  w.setMsn { w.d.msn with threads := tset Thread.none w.d.msn.threads t x }

/-- A pair's own state. -/
def pair (w : Work) (p : Nat) : Pair := w.d.msn.pairs.getD p Pair.reset

/-- Replace a pair's own state. -/
def setPair (w : Work) (p : Nat) (x : Pair) : Work := w.setMsn { w.d.msn with pairs := w.d.msn.pairs.set p x }

/-- The thread a pair runs, if any. -/
def curTid (w : Work) (p : Nat) : Option Nat :=
  let t := w.rd Reg.PAIR_CUR_TID p
  if t = 0xFFFF then none else some t

/-- The control SRAM address of a thread's context frame (R329). -/
def frameAddr (t : Nat) : Nat := 0x400000 + t * 0x400

/-- The lowest FREE thread ID (R333). -/
def freeTid (w : Work) : Option Nat := (List.range 4096).find? (fun t => decide ((w.thread t).st = .free))

/-- Threads that belong to owners (R334). -/
def ownerThreads (w : Work) : Nat := (w.d.msn.threads.filter (fun e => e.2.owner && decide (e.2.st ≠ .free))).length

/-- Is a pair available for placement (R337, R341)? -/
def pairUp (w : Work) (p : Nat) : Bool := w.on Reg.PAIR_IN_SERVICE p && !w.on Reg.PAIR_DRAIN p

/-- A channel's PENDING count and bound thread (R335). -/
def chan (w : Work) (c : Nat) : Nat × Nat := tget (0, 0xFFFF) w.d.msn.channels c

/-- Replace a channel. -/
def setChan (w : Work) (c : Nat) (x : Nat × Nat) : Work :=
  w.setMsn { w.d.msn with channels := tset (0, 0xFFFF) w.d.msn.channels c x }

/-- Remove a thread from the delay list (R333). -/
def undelay (w : Work) (t : Nat) : Work :=
  w.setMsn { w.d.msn with delays := w.d.msn.delays.filter (fun e => e.2 != t), expired := w.d.msn.expired.filter (fun e => e != t) }

/-- Put a thread into the delay list after every entry with no later deadline (R339). -/
def delayInsert (w : Work) (dl t : Nat) : Work :=
  let before := w.d.msn.delays.filter (fun e => decide (e.1 ≤ dl))
  let after := w.d.msn.delays.filter (fun e => !decide (e.1 ≤ dl))
  w.setMsn { w.d.msn with delays := before ++ [(dl, t)] ++ after }

/-! ### Candidates -/

/-- Ready threads in rank order: highest priority, then earliest entry to its level's queue (R337). -/
def ranked (w : Work) : List Nat :=
  ((List.range 64).reverse).flatMap (fun pr => w.d.msn.ready.filter (fun t => (w.thread t).prio == pr))

/-- Threads whose context is being written to its frame, which no slot may take (R338). -/
def savingTids (w : Work) : List Nat := w.d.msn.pairs.filterMap (fun p => p.saving.map Prod.fst)

/-- The priority of the thread a pair runs. -/
def runPrio (w : Work) (p : Nat) : Nat := match w.curTid p with | some t => (w.thread t).prio | none => 0

/-- Prefer the thread's last pair, else the lowest-numbered pair. -/
def preferLast (last : Nat) (ps : List Nat) : Option Nat := if ps.contains last then some last else ps.head?

/-- One ready thread's turn of the candidate pass of R337. -/
def candStep (w : Work) (acc : List (Option Nat)) (t : Nat) : List (Option Nat) :=
  let th := w.thread t
  let elig := (List.range 4).filter (fun p => w.pairUp p && bitAt th.affinity p && (acc.getD p none).isNone)
  let idle := elig.filter (fun p => (w.curTid p).isNone)
  match preferLast th.lastPair idle with
  | some p => acc.set p (some t)
  | none =>
    let lower := elig.filter (fun p => decide (w.runPrio p < th.prio))
    let m := lower.foldl (fun m p => min m (w.runPrio p)) 64
    match preferLast th.lastPair (lower.filter (fun p => w.runPrio p == m)) with
    | some p => acc.set p (some t)
    | none => acc

/-- Each pair's candidate (R337): the ranked pass, then for a pair without one the best eligible thread not taken. While
ENABLE is 0 no thread is placed (R343). -/
def candidates (w : Work) : List (Option Nat) :=
  if !w.on Reg.MSN_ENABLE then [none, none, none, none]
  else
    let ts := w.ranked.filter (fun t => !w.savingTids.contains t)
    let first := ts.foldl w.candStep [none, none, none, none]
    (List.range 4).foldl (fun acc p =>
      if (acc.getD p none).isSome || !w.pairUp p then acc
      else acc.set p (ts.find? (fun t => bitAt (w.thread t).affinity p && !acc.contains (some t)))) first

/-- Recompute the candidates: where a pair's candidate changes, its slot starts to load the new one and a partial load is
abandoned (R338). Threads that no pair may run are counted once and reported (R341). -/
def reschedule (w : Work) : Work :=
  let cs := w.candidates
  let w := (List.range 4).foldl (fun w p =>
    let c := (cs.getD p none).getD 0xFFFF
    if w.rd Reg.PAIR_SLOT_TID p = c then w
    else (w.wr Reg.PAIR_SLOT_TID c p).wr Reg.PAIR_SLOT_LOADED 0 p) w
  let inService := (List.range 4).filter (fun p => w.pairUp p)
  w.d.msn.ready.foldl (fun w t =>
    let th := w.thread t
    if inService.any (fun p => bitAt th.affinity p) then
      if th.stranded then w.setThread t { th with stranded := false } else w
    else if th.stranded then w
    else ((w.setThread t { th with stranded := true }).inc Reg.KS_MSN_CNT_STRANDED).offer uMason 5 (w.rd Reg.MSN_FAULT_CHANNEL) t) w

/-- A thread enters READY at the tail of its level. -/
def enterReady (w : Work) (t : Nat) : Work :=
  let w := w.setThread t { w.thread t with st := .ready, waitCh := 0, deadline := 0 }
  (w.setMsn { w.d.msn with ready := w.d.msn.ready ++ [t], waking := w.d.msn.waking.filter (fun x => x != t) }).reschedule

/-- A preempted thread re-enters READY at the head of its level (R337). -/
def enterReadyHead (w : Work) (t : Nat) : Work :=
  let w := w.setThread t { w.thread t with st := .ready }
  (w.setMsn { w.d.msn with ready := t :: w.d.msn.ready }).reschedule

/-- Account the V-cycles a pair has run or idled since its last switch (R344). -/
def pairTime (w : Work) (p : Nat) : Work :=
  let dt := w.d.clk.vcycle - (w.pair p).runSince
  let w := if (w.curTid p).isSome then w.add Reg.KS_MSN_CNT_BUSY_CYCLES dt p else w.add Reg.KS_MSN_CNT_IDLE_CYCLES dt p
  w.setPair p { w.pair p with runSince := w.d.clk.vcycle }

/-- A pair takes the thread in its slot, or idles (R338). hit tells whether the slot was found loaded. -/
def takeSlot (w : Work) (p : Nat) : Work :=
  let w := w.pairTime p
  let t := w.rd Reg.PAIR_SLOT_TID p
  if t = 0xFFFF ∨ !w.pairUp p then (w.wr Reg.PAIR_CUR_TID 0xFFFF p).wr Reg.PAIR_IDLE (b2n (w.pair p).saving.isNone) p
  else
    let loaded := w.on Reg.PAIR_SLOT_LOADED p
    let w := if loaded then w.inc Reg.KS_MSN_CNT_PREFETCH_HIT else w.inc Reg.KS_MSN_CNT_PREFETCH_MISS
    let w := (w.inc Reg.KS_MSN_CNT_SWITCHES).inc Reg.KS_MSN_CNT_PAIR_SWITCHES p
    let frame := if loaded then (w.pair p).slotCtx else w.bytes .ctl (frameAddr t) 1024
    let th := w.thread t
    let w := w.setThread t { th with st := .running, lastPair := p, ended := .open }
    let w := w.setMsn { w.d.msn with ready := w.d.msn.ready.filter (fun x => x != t) }
    let w := w.setPair p { w.pair p with ctx := frame, slotCtx := [], runTb := w.now }
    let w := ((w.wr Reg.PAIR_CUR_TID t p).wr Reg.PAIR_IDLE 0 p).wr Reg.KS_MSN_RESULT th.result p
    (((w.wr Reg.PAIR_SLOT_TID 0xFFFF p).wr Reg.PAIR_SLOT_LOADED 0 p)).reschedule

/-- The thread whose context a pair has been writing to its frame takes its next state (R338): a preempted thread, marked running here, stands at the head of its
level. -/
def finishSave (w : Work) (p : Nat) : Work :=
  match (w.pair p).saving with
  | none => w
  | some (t, after) =>
    let w := w.setPair p { w.pair p with saving := none }
    match after with
    | .free => (w.setThread t Thread.none).reschedule
    | .ready => w.enterReady t
    | .running => w.enterReadyHead t
    | _ => w.reschedule

/-- A pair with no thread takes the one in its slot once it is loaded, and is idle without. -/
def fillPair (w : Work) (p : Nat) : Work :=
  if (w.curTid p).isSome then w
  else if w.on Reg.PAIR_SLOT_LOADED p && w.pairUp p then w.takeSlot p else w.wr Reg.PAIR_IDLE 1 p

/-- A pair leaves a thread for the one in its slot: the outgoing context goes to its frame, and the thread takes a state once that write has ended (R338). A write
that is still under way for an earlier thread ends first. -/
def leaveThread (w : Work) (p t : Nat) (after : ThreadSt) : Work :=
  let w := w.finishSave p
  let w := w.put .ctl (frameAddr t) (w.pair p).ctx
  (w.setPair p { w.pair p with saving := some (t, after) }).takeSlot p

/-- Switch a pair's thread out (R338). -/
def switchOut (w : Work) (p : Nat) (after : ThreadSt) : Work :=
  match w.curTid p with
  | none => w
  | some t => w.leaveThread p t after

/-! ### Commands -/

/-- RESULT of a command (R333). -/
def result (status wake tid value : Nat) : Nat := pack [(status, 0, 8), (wake, 8, 2), (tid, 16, 16), (value, 32, 32)]

/-- Give a pair a command's result. -/
def answer (w : Work) (p : Nat) (status : Nat) (wake : Nat := 0) (tid : Nat := 0) (value : Nat := 0) : Work :=
  w.wr Reg.KS_MSN_RESULT (result status wake tid value) p

/-- Checks shared by commands that name a thread (R333, R334). -/
def nameCheck (w : Work) (a : MsnCmd) (t : Nat) : Nat :=
  if 4095 < t ∨ (w.thread t).st = .free then stDescFormat
  else if a.owner && !(w.thread t).owner then stDescFormat else stOk

/-- A FAULTED thread takes only KILL (R332). -/
def liveCheck (w : Work) (a : MsnCmd) (t : Nat) : Nat :=
  let st := w.nameCheck a t
  if st ≠ stOk then st else if (w.thread t).st = .faulted then stDescFormat else stOk

/-- Run a command's effect when its checks give OK; otherwise only the status is returned (R333). -/
def checked (w : Work) (p : Nat) (a : MsnCmd) (st : Nat) (f : Work → Work) : Work :=
  if a.rsv ≠ 0 then w.answer p stDescReserved
  else if st ≠ stOk then w.answer p st
  else f w

/-- TARGET and ARG of a command that takes none must be zero (R10, R333). -/
def noneOf (target arg : Nat) : Nat := if target ≠ 0 ∨ arg ≠ 0 then stDescReserved else stOk

/-- CREATE (R333, R334). -/
def msnCreate (w : Work) (p : Nat) (a : MsnCmd) : Work :=
  let st := if a.target ≠ 0 then stDescReserved
    else if a.affinity = 0 ∨ (a.owner ∧ w.rd Reg.MSN_OWNER_MAX_PRIO < a.prio) then stDescFormat else stOk
  w.checked p a st fun w =>
    match w.freeTid with
    | none => (w.inc Reg.KS_MSN_CNT_THREAD_LIMIT).answer p stThreadLimit
    | some t =>
      if a.owner && decide (w.rd Reg.MSN_OWNER_QUOTA ≤ w.ownerThreads) then
        (w.inc Reg.KS_MSN_CNT_THREAD_LIMIT).answer p stThreadLimit
      else
        let w := w.setThread t { Thread.none with st := .suspended, owner := a.owner, prio := low 6 a.prio, affinity := low 4 a.affinity }
        let w := w.put .ctl (frameAddr t) (leBytes 8 a.arg ++ List.replicate 1016 0#8)
        w.answer p stOk 0 t

/-- The caller of a command that acts on its own thread. -/
def caller (w : Work) (p : Nat) (a : MsnCmd) (st : Nat) (f : Nat → Work → Work) : Work :=
  match w.curTid p with
  | none => w.checked p a stDescFormat id
  | some t => w.checked p a st (f t)

/-- EXIT (R333): the caller becomes FREE once its context is saved. -/
def msnExit (w : Work) (p : Nat) (a : MsnCmd) : Work :=
  w.caller p a (noneOf a.target a.arg) fun _ w => (w.answer p stOk).switchOut p .free

/-- YIELD (R333): the caller re-enters READY at the tail of its level once its context is saved. -/
def msnYield (w : Work) (p : Nat) (a : MsnCmd) : Work :=
  w.caller p a (noneOf a.target a.arg) fun t w =>
    ((w.setThread t { w.thread t with result := result stOk 0 0 0 }).answer p stOk).switchOut p .ready

/-- WAIT (R335): PENDING is taken at once, or the caller blocks, with an optional timeout. -/
def msnWait (w : Work) (p : Nat) (a : MsnCmd) : Work :=
  w.caller p a (if 4095 < a.target then stDescFormat else stOk) fun t w =>
    let c := w.chan a.target
    if c.2 ≠ 0xFFFF ∧ c.2 ≠ t then w.answer p stDescFormat
    else if 0 < c.1 then (w.setChan a.target (0, c.2)).answer p stOk 0 0 c.1
    else
      let w := w.setThread t { w.thread t with waitCh := a.target, deadline := a.arg, ended := .open, st := .waiting }
      let w := if a.arg = 0 then w else w.delayInsert a.arg t
      w.switchOut p .waiting

/-- SLEEP_UNTIL (R333, R339). -/
def msnSleep (w : Work) (p : Nat) (a : MsnCmd) : Work :=
  w.caller p a (if a.target ≠ 0 then stDescReserved else stOk) fun t w =>
    let w := w.setThread t { w.thread t with deadline := a.arg, ended := .open, st := .sleeping }
    (w.delayInsert a.arg t).switchOut p .sleeping

/-- SIGNAL (R333): posts an event with source 0x79 and KIND 4. -/
def msnSignal (w : Work) (p : Nat) (a : MsnCmd) : Work :=
  let st := if 4095 < a.target ∨ low 16 a.arg = 0 then stDescFormat else if 0xFFFF < a.arg then stDescReserved else stOk
  w.checked p a st fun w => (w.offer uMason 4 a.target a.arg).answer p stOk

/-- SET_PRIO (R333, R334). -/
def msnSetPrio (w : Work) (p : Nat) (a : MsnCmd) : Work :=
  let st := if a.arg ≠ 0 then stDescReserved
    else if a.owner ∧ w.rd Reg.MSN_OWNER_MAX_PRIO < a.prio then stDescFormat else w.liveCheck a a.target
  w.checked p a st fun w =>
    ((w.setThread a.target { w.thread a.target with prio := low 6 a.prio }).reschedule).answer p stOk

/-- SET_AFFINITY (R333). -/
def msnSetAffinity (w : Work) (p : Nat) (a : MsnCmd) : Work :=
  let st := if a.arg ≠ 0 then stDescReserved else if a.affinity = 0 then stDescFormat else w.liveCheck a a.target
  w.checked p a st fun w =>
    ((w.setThread a.target { w.thread a.target with affinity := low 4 a.affinity }).reschedule).answer p stOk

/-- SUSPEND (R333): READY, WAITING or SLEEPING becomes SUSPENDED. -/
def msnSuspend (w : Work) (p : Nat) (a : MsnCmd) : Work :=
  let st := if a.arg ≠ 0 then stDescReserved
    else if w.curTid p = some a.target then stDescFormat else w.liveCheck a a.target
  w.checked p a st fun w =>
    let th := w.thread a.target
    if th.st = .ready ∨ th.st = .waiting ∨ th.st = .sleeping then
      let w := (w.undelay a.target).setThread a.target { th with st := .suspended, deadline := 0, waitCh := 0 }
      let w := w.setMsn { w.d.msn with ready := w.d.msn.ready.filter (fun x => x != a.target), waking := w.d.msn.waking.filter (fun x => x != a.target) }
      w.reschedule.answer p stOk
    else w.answer p stOk

/-- RESUME (R333): SUSPENDED becomes READY, 4 V-cycles later (R337), with WAKE 2. -/
def msnResume (w : Work) (p : Nat) (a : MsnCmd) : Work :=
  let st := if a.arg ≠ 0 then stDescReserved else w.liveCheck a a.target
  w.checked p a st fun w =>
    let th := w.thread a.target
    if th.st = .suspended ∧ !w.d.msn.waking.contains a.target then
      let w := w.setThread a.target { th with result := result stOk 2 0 0 }
      (w.setMsn { w.d.msn with waking := w.d.msn.waking ++ [a.target] }).answer p stOk
    else w.answer p stOk

/-- BIND (R333): binds or unbinds a channel's waiter. -/
def msnBind (w : Work) (p : Nat) (a : MsnCmd) : Work :=
  let tid := low 16 a.arg
  let st := if 4095 < a.target then stDescFormat else if 0xFFFF < a.arg then stDescReserved
    else if tid = 0xFFFF then stOk else w.liveCheck a tid
  w.checked p a st fun w => (w.setChan a.target ((w.chan a.target).1, tid)).answer p stOk

/-- WAIT_FLAG (R333): registers the channel as a waiter of a joint flag for an expected generation (R61). -/
def msnWaitFlag (w : Work) (p : Nat) (a : MsnCmd) : Work :=
  let st := if 4095 < a.target then stDescFormat
    else if bits a.arg 31 14 ≠ 0 ∨ bits a.arg 63 48 ≠ 0 then stDescReserved else stOk
  w.checked p a st fun w => (w.channelWait (bits a.arg 13 0) (bits a.arg 47 32) a.target).answer p stOk

/-- A pair is rid of a thread that has been killed: it stops writing its context, or takes another in its place. -/
def dropThread (w : Work) (t p : Nat) : Work :=
  let w := if (w.pair p).saving.any (fun s => s.1 == t) then (w.setPair p { w.pair p with saving := none }).fillPair p else w
  if w.curTid p = some t then (w.wr Reg.PAIR_CUR_TID 0xFFFF p).takeSlot p else w

/-- KILL (R333): any state other than FREE becomes FREE. -/
def msnKill (w : Work) (p : Nat) (a : MsnCmd) : Work :=
  let st := if a.arg ≠ 0 then stDescReserved
    else if w.curTid p = some a.target then stDescFormat else w.nameCheck a a.target
  w.checked p a st fun w =>
    let t := a.target
    let w := (w.undelay t).setThread t Thread.none
    let w := w.setMsn { w.d.msn with
      ready := w.d.msn.ready.filter (fun x => x != t), waking := w.d.msn.waking.filter (fun x => x != t) }
    ((List.range 4).foldl (dropThread · t ·) w).reschedule.answer p stOk

/-! ### Events -/

/-- Events that may be accepted this V-cycle: up to four, in ascending SOURCE order (R336). -/
def insertSrc (e : MEvent) : List MEvent → List MEvent
  | [] => [e]
  | x :: r => if e.source < x.source then e :: x :: r else x :: insertSrc e r

/-- Events in ascending SOURCE order, offers of one source in their order. -/
def bySource (l : List MEvent) : List MEvent := l.foldl (fun acc e => insertSrc e acc) []

/-- Acceptance of one event of a batch is the comparator point of R340: a channel event ends its bound thread's wait unless the expiry was
accepted in an earlier V-cycle; an expiry ends the wait it belongs to, and one accepted with a channel event in the same
V-cycle is discarded and counted as a near miss. w0 is the state before the batch, whose channel events come first. -/
def acceptOne (w0 : Work) (batch : List MEvent) (w : Work) (e : MEvent) : Work :=
  let queueIt (w : Work) : Work := w.setMsn { w.d.msn with evq := w.d.msn.evq ++ [{ e with tb := w.now }] }
  if e.kind = 3 then
    let th := w.thread e.tid
    let beaten := batch.any (fun b => b.kind != 3 && b.channel == th.waitCh && (w.chan b.channel).2 == e.tid)
    if th.st = .waiting ∧ (w0.thread e.tid).ended = .open ∧ beaten then
      (w.inc Reg.KS_MSN_CNT_NEAR_MISS).wr Reg.KS_MSN_NEAR_MISS_TB w.now
    else if th.ended = .open ∧ (th.st = .waiting ∨ th.st = .sleeping) then queueIt (w.setThread e.tid { th with ended := .timeout })
    else w
  else
    let b := (w.chan e.channel).2
    let th := w.thread b
    let meets := decide (b ≠ 0xFFFF ∧ th.st = .waiting ∧ th.waitCh = e.channel ∧ th.ended = .open)
    let left := w.rd Reg.TST_COLLIDE_LEFT
    let w := if meets && th.deadline != 0 then w.collide uMason th.deadline else w
    let w := if w.rd Reg.TST_COLLIDE_LEFT < left then (w.inc Reg.KS_MSN_CNT_NEAR_MISS).wr Reg.KS_MSN_NEAR_MISS_TB w.now else w
    let w := if meets then (w.undelay b).setThread b { th with ended := .event } else w
    queueIt w

/-- Mason's queue accepts up to four producer entries (R336); the rest stall and are offered again. -/
def eventAccept (w : Work) : Work :=
  let sorted := bySource w.d.msn.offers
  let n := min 4 (1024 - w.d.msn.evq.length)
  let take := sorted.take n
  let rest := sorted.drop n
  let chanFirst := take.filter (fun e => e.kind != 3) ++ take.filter (fun e => e.kind == 3)
  let w := w.setMsn { w.d.msn with offers := rest }
  let w := chanFirst.foldl (acceptOne w take) w
  let w := w.add Reg.KS_MSN_CNT_EVQ_STALL (rest.filter (fun e => e.kind != 3)).length
  let w := w.add Reg.KS_MSN_CNT_EXPIRY_STALL (rest.filter (fun e => e.kind == 3)).length
  w.raise Reg.MSN_EVQ_PEAK w.d.msn.evq.length

/-- Wake a thread with a result; it enters READY 4 V-cycles later (R337). -/
def wakeThread (w : Work) (t wake value : Nat) : Work :=
  let w := w.setThread t { w.thread t with result := result stOk wake 0 value }
  w.setMsn { w.d.msn with waking := w.d.msn.waking ++ [t] }

/-- Mason removes one event: it wakes the bound waiter or adds to PENDING (R335, R336). -/
def eventRemove (w : Work) : Work :=
  match w.d.msn.evq with
  | [] => w
  | e :: r =>
    let w := (w.setMsn { w.d.msn with evq := r }).inc Reg.KS_MSN_CNT_EVENTS
    if e.kind = 3 then
      let th := w.thread e.tid
      if (th.st = .waiting ∨ th.st = .sleeping) ∧ th.ended = .timeout then w.wakeThread e.tid 1 0 else w
    else
      let c := w.chan e.channel
      let th := w.thread c.2
      if c.2 ≠ 0xFFFF ∧ th.st = .waiting ∧ th.waitCh = e.channel ∧ th.ended = .event ∧ !w.d.msn.waking.contains c.2 then w.wakeThread c.2 0 e.count
      else
        let sum := c.1 + e.count
        let w := w.setChan e.channel (min 0xFFFF sum, c.2)
        if 0xFFFF < sum then w.inc Reg.KS_MSN_CNT_PENDING_SAT else w

/-- A woken thread enters READY (R337). -/
def threadReady (w : Work) (t : Nat) : Work := if w.d.msn.waking.contains t then w.enterReady t else w

/-! ### Slots and switches -/

/-- A context-frame double-bit error: the thread is FAULTED and reported, and the pair takes its next candidate (R342). -/
def frameFault (w : Work) (t : Nat) : Work :=
  let w := w.setThread t { w.thread t with st := .faulted }
  let w := w.setMsn { w.d.msn with ready := w.d.msn.ready.filter (fun x => x != t) }
  let w := (w.err uMason stEccUncorrectable t (frameAddr t)).offer uMason 5 (w.rd Reg.MSN_FAULT_CHANNEL) t
  w.reschedule

/-- A candidate's frame has been loaded (R338): an idle pair runs it, and one that outranks the running thread preempts it. -/
def prefetchDone (w : Work) (p : Nat) (eccBad : Bool) : Work :=
  let t := w.rd Reg.PAIR_SLOT_TID p
  if t = 0xFFFF ∨ w.on Reg.PAIR_SLOT_LOADED p then w
  else if eccBad then w.frameFault t
  else
    let w := (w.wr Reg.PAIR_SLOT_LOADED 1 p).setPair p { w.pair p with slotCtx := w.bytes .ctl (frameAddr t) 1024 }
    match w.curTid p with
    | none => if (w.pair p).saving.isNone then w.takeSlot p else w
    | some c =>
      if (w.thread c).prio < (w.thread t).prio then (w.inc Reg.KS_MSN_CNT_PREEMPT).leaveThread p c .running else w

/-- The outgoing context has been written to its frame (R338). -/
def saveDone (w : Work) (p : Nat) : Work := if (w.pair p).saving.isNone then w else (w.finishSave p).fillPair p

/-! ### Time -/

/-- A microsecond tick: every delay entry whose deadline the tick has reached is marked expired (R339). -/
def msnTick (w : Work) : Work :=
  let next := (w.d.msn.lastTick / 1000 + 1) * 1000
  let w := w.advance next
  let tb := w.now
  let due := w.d.msn.delays.filter (fun e => decide (e.1 ≤ tb))
  w.setMsn { w.d.msn with
    lastTick := tb, delays := w.d.msn.delays.filter (fun e => !decide (e.1 ≤ tb)), expired := w.d.msn.expired ++ due.map Prod.snd }

/-- The expired entry at the head of the list is offered to the event queue as KIND 3 (R339). -/
def delayExpiry (w : Work) : Work :=
  match w.d.msn.expired with
  | [] => w
  | t :: r => w.setMsn { w.d.msn with expired := r, offers := w.d.msn.offers ++ [⟨0, uMason, 3, 1, 0, t⟩] }

/-- The first tick at which a pair's thread has run a quantum (R338). -/
def quantumEnd (w : Work) (p q : Nat) : Nat := roundUp ((w.pair p).runTb + 1000 * q) 1000

/-- A thread that has run its QUANTUM_US is switched out for a candidate of equal priority (R338). -/
def quantumExpiry (w : Work) (p : Nat) : Work :=
  match w.curTid p with
  | none => w
  | some t =>
    let q := w.rd Reg.THR_QUANTUM_US t
    let c := w.rd Reg.PAIR_SLOT_TID p
    if q ≠ 0 ∧ c ≠ 0xFFFF ∧ (w.thread c).prio = (w.thread t).prio then (w.advance (w.quantumEnd p q)).switchOut p .ready else w

/-! ### Pairs -/

/-- Writing DRAIN = 1 removes a pair from placement and switches its thread out as if preempted (R341). -/
def pairDrain (w : Work) (p : Nat) : Work :=
  if w.on Reg.PAIR_DRAIN p then w
  else
    let w := w.wr Reg.PAIR_DRAIN 1 p
    match w.curTid p with
    | none => w.reschedule
    | some t => (w.leaveThread p t .running).reschedule

/-- Writing DRAIN = 0 returns a pair to placement (R341). -/
def pairReturn (w : Work) (p : Nat) : Work := (w.wr Reg.PAIR_DRAIN 0 p).reschedule

/-- A pair is retired (R480): RETIRED reads 1; with no pair left in service the cause is the last one's retirement (R330, R481). -/
def retirePair (w : Work) (p : Nat) : Work :=
  let w := (w.wr Reg.PAIR_RETIRED 1 p).wr Reg.PAIR_IN_SERVICE 0 p
  let w := w.setPair p { w.pair p with retesting := false }
  let w := { w with d := { w.d with retired := uPair p :: w.d.retired } }
  (w.inc Reg.SAF_CNT_RETIRED).err (uPair p) stEngineRetired (3 * 2 ^ 24)

/-- The re-test of a stopped pair ends (R480): a pass returns it to service with a TRANSIENT record, a failure retires it. -/
def pairRetest (w : Work) (p : Nat) (pass : Bool) : Work :=
  if !(w.pair p).retesting then w
  else if pass then
    let w := (w.wr Reg.PAIR_IN_SERVICE 1 p).setPair p { w.pair p with retesting := false, returnTb := w.now }
    ((w.inc Reg.SAF_CNT_TRANSIENT).err (uPair p) stOk (2 * 2 ^ 24)).reschedule
  else w.retirePair p

/-- A lockstep mismatch: the pair stops, its thread is FAULTED and reported; with no pair left the safety manager enters
SAFE_DEGRADED (R330). A second one within 10 × FTTI/2 of the pair's return retires it (R480). -/
def lockstepMismatch (w : Work) (p : Nat) : Work :=
  if !w.on Reg.PAIR_IN_SERVICE p then w
  else
    let back := (w.pair p).returnTb
    let w := (w.inc Reg.KS_MSN_CNT_LOCKSTEP_MISMATCH p).err (uPair p) stOk
    let w := (w.pairTime p).wr Reg.PAIR_IN_SERVICE 0 p
    let w := match w.curTid p with
      | none => w
      | some t => (w.setThread t { w.thread t with st := .faulted }).offer uMason 5 (w.rd Reg.MSN_FAULT_CHANNEL) t
    let w := ((w.wr Reg.PAIR_CUR_TID 0xFFFF p).wr Reg.PAIR_SLOT_TID 0xFFFF p).wr Reg.PAIR_SLOT_LOADED 0 p
    let w := w.finishSave p
    let w := w.setPair p { w.pair p with slotCtx := [], retesting := true }
    let w := if back ≠ 0 ∧ w.now ≤ back + 5000000 * w.rd Reg.SAF_FTTI_MS then w.retirePair p else w
    let w := w.reschedule
    if (List.range 4).all (fun q => !w.on Reg.PAIR_IN_SERVICE q) then w.degrade (uPair p) stEngineRetired 0 else w

/-- A host write of KS_MSN_HOST_SIGNAL (R336, R343): an event of KIND 4 with SOURCE 0xC0; a count of 0 is ignored and
logged, as is a channel above 4,095. -/
def hostSignal (w : Work) (req channel count : Nat) : Work :=
  if low 16 count = 0 ∨ 4095 < channel then w.log req else w.offer uHost 4 channel count

end Work

end Sys2Proof.Machine
end

