-- ==== Sys2Proof/Machine/Soundings.lean ====
section
/-! DEFINITION. The safety manager: soundings and their schedule, disagreement and suspects, retirement and recovery, SAFE_RUN and its heartbeat,
and the start-time injection (R467 to R487). -/

namespace Sys2Proof.Machine

open Config

/-- The slot that sounds a unit. -/
def slotOfUnit (u : Nat) : Option Nat := (List.range 90).find? (fun s => slotUnit s == u)

/-- RETIRED of an engine or pipeline, with its index. -/
def retiredField (u : Nat) : Option (Fld × Nat) :=
  if 0x50 ≤ u ∧ u ≤ 0x53 then some (Reg.PY_RETIRED, u - 0x50)
  else if 0x54 ≤ u ∧ u ≤ 0x57 then some (Reg.WP_RETIRED, u - 0x54)
  else if 0x58 ≤ u ∧ u ≤ 0x59 then some (Reg.ST_RETIRED, u - 0x58)
  else if 0x5A ≤ u ∧ u ≤ 0x5B then some (Reg.FL_RETIRED, u - 0x5A)
  else if 0x5C ≤ u ∧ u ≤ 0x5D then some (Reg.FT_RETIRED, u - 0x5C)
  else if 0x60 ≤ u ∧ u ≤ 0x63 then some (Reg.PIPE_RETIRED, u - 0x60)
  else if 0x76 ≤ u ∧ u ≤ 0x77 then some (Reg.CP_RETIRED, u - 0x76)
  else none

namespace Work

/-- A slot's own state. -/
def snd (w : Work) (s : Nat) : Sounding := tget Sounding.none w.d.saf.slots s

/-- Replace a slot's own state. -/
def setSnd (w : Work) (s : Nat) (x : Sounding) : Work := w.setSaf { w.d.saf with slots := tset Sounding.none w.d.saf.slots s x }

/-- Is a slot sounded at all: its first sounding pending, good, or in watch (R487)? -/
def slotLive (w : Work) (s : Nat) : Bool := decide (s < 90) && (let t := w.rd Reg.SLOT_SSTATE s; t == 1 || t == 2 || t == 3)

/-! ### The schedule (R472) -/

/-- FTTI_MS that governs a slot (R485). -/
def slotFtti (w : Work) (s : Nat) : Nat :=
  match w.d.saf.nextProfile with
  | some p => if (w.snd s).underNew then bits (wd p 0) 15 0 else w.rd Reg.SAF_FTTI_MS
  | none => w.rd Reg.SAF_FTTI_MS

/-- i_u of a slot, in ns. -/
def slotInterval (w : Work) (s : Nat) : Nat := w.slotFtti s * 500000 - slotLength s - w.rd Reg.SLOT_BOUND_NS s

/-- Does a unit hold no work? -/
def unitEmpty (w : Work) (u : Nat) : Bool :=
  if u ≤ 0x43 then (match w.logicalOf u with | some c => !w.coreBusy c | none => true)
  else if 0x60 ≤ u ∧ u ≤ 0x63 then !w.on Reg.PIPE_BUSY (u - 0x60)
  else if u = 0x74 ∨ u = 0x75 then (w.eng u).run == 0 && (w.eng (u + 0x100)).run == 0
  else if u = 0x76 ∨ u = 0x77 then !w.on Reg.CP_BUSY (u - 0x76)
  else (w.eng u).run == 0

/-- The ready node instances that wait for a unit: those that name it, and with UNIT 0xFF those of its kind while no other unit of the kind is free. -/
def readyFor (w : Work) (u : Nat) : List (Nat × Nat) :=
  let ids := fun (l : List (GRun × Nat)) => l.map (fun x => (x.1.id, x.2))
  if u ≤ 0x43 then
    match w.logicalOf u with
    | some c => ids ((w.readyNodes [8]).filter (fun x => bitAt ((w.version x.1.seq).coreSet x.2) c))
    | none => []
  else if 0x60 ≤ u ∧ u ≤ 0x63 then (List.range 64).filterMap (fun c => (w.ispReady c).map (fun q => (q.1.id, q.2.1)))
  else if u = 0x76 ∨ u = 0x77 then
    ids ((w.readyNodes [0xB]).filter (fun x => let n := (w.version x.1.seq).unit x.2; n == 0xFF || w.copyUnit n == u))
  else
    let of := fun (k : Nat) =>
      let typ := unitKind k
      (w.readyNodes [typ]).filter (fun x =>
        let g := w.version x.1.seq
        if g.unit x.2 = 0xFF then (kindUnits typ).all (fun j => j == k || !w.unitFree j) else w.namedEngine typ (g.unit x.2) == some k)
    ids (of u ++ (if u = 0x74 ∨ u = 0x75 then of (u + 0x100) else []))

/-- Is the present V-cycle a gap of the unit (R472)? -/
def inGap (w : Work) (u : Nat) : Bool := w.unitEmpty u && (w.readyFor u).isEmpty

/-- Is the unit at a boundary (R470)? A tile row of every engine but a warp engine, and a copy chain's descriptors, end within one command, so only cores,
whose operations must be complete, pipelines in a stripe, and warp engines within a tile row can be between boundaries. -/
def atBoundary (w : Work) (u : Nat) : Bool :=
  if u ≤ 0x43 then (match w.logicalOf u with | some c => (w.core c).queue.isEmpty | none => true)
  else if 0x60 ≤ u ∧ u ≤ 0x63 then !w.on Reg.PIPE_BUSY (u - 0x60)
  else if 0x54 ≤ u ∧ u ≤ 0x57 then
    match w.grun? (w.eng u).run with
    | some r => (warpOrigin (w.warpCtx r (w.eng u).node) (w.eng u)).1 == 0 && (w.eng u).pass == 0
    | none => true
  else true

/-- The V-cycles an engine was held for pass: none of them counts as time on its node (R173, R191, R203, R226, R227, R328). What it keeps of when its present
stage, tile row or reduction began moves on with them. -/
def heldOver (w : Work) (u n : Nat) : Work :=
  let one := fun (w : Work) (k : Nat) =>
    let x := w.eng k
    if x.run = 0 then w
    else w.setEng k { x with
      since := x.since + n
      row := if 0x50 ≤ u ∧ u ≤ 0x53 ∧ x.row ≠ 0 then x.row + n else x.row
      pass := if (u = 0x74 ∨ u = 0x75) ∧ x.pass ≠ 0 then x.pass + n else x.pass
      data := if 0x58 ≤ u ∧ u ≤ 0x5D ∧ x.data ≠ [] then x.data.set 0 (wd x.data 0 + n) else x.data }
  one (one w u) (u + 0x100)

/-- A slot reaches LS without a gap: its unit's next boundary is to be taken (R472). -/
def soundingDue (w : Work) (s : Nat) : Work :=
  if !w.slotLive s || w.rd Reg.SLOT_SSTATE s == 1 || (w.snd s).running then w
  else (w.advance (w.rd Reg.SLOT_NEXT_LS_TB s)).setSnd s { w.snd s with forced := true }

/-- The whole profile is in force (R485). With TARGET 1, KS_LEDGER_COPY reads 1 from then on. -/
def profileInForce (w : Work) (p : List Nat) : Work :=
  let t := bits (wd p 0) 19 16
  let w := ((w.wr Reg.SAF_FTTI_MS (bits (wd p 0) 15 0)).wr Reg.SAF_HEARTBEAT_US (bits (wd p 1) 15 0)).wr Reg.SAF_TARGET t
  let w := w.setSaf { w.d.saf with
    escalate := bitAt (wd p 0) 20, nextProfile := none, slots := w.d.saf.slots.map (fun e => (e.1, { e.2 with underNew := false })) }
  let w := w.setSaf { w.d.saf with slots := w.d.saf.slots.filter (fun e => decide (e.2 ≠ Sounding.none)) }
  if t = 1 then w.wr Reg.KS_LEDGER_COPY 1 else w

/-- A committed profile governs a slot from this start on, and is in force once every slot in service has started under it (R485). -/
def profileStart (w : Work) (s : Nat) : Work :=
  match w.d.saf.nextProfile with
  | none => w
  | some p =>
    let w := w.setSnd s { w.snd s with underNew := true }
    if (List.range 90).all (fun k => !w.slotLive k || (w.snd k).underNew) then w.profileInForce p else w

/-- A first sounding takes its turn in slot order, eight at a time (R471). -/
def firstTurn (w : Work) (s : Nat) : Bool :=
  w.d.saf.setReady && (List.range s).all (fun k => w.rd Reg.SLOT_SSTATE k != 1 || (w.snd k).running) &&
    decide (((List.range 90).filter (fun k => w.rd Reg.SLOT_SSTATE k == 1 && (w.snd k).running)).length < 8)

/-- A sounding starts in a gap or at a boundary (R470 to R473, R485), late where it comes after LS + B_u. -/
def soundingStart (w : Work) (s : Nat) : Work :=
  let u := slotUnit s
  let x := w.snd s
  let first := w.rd Reg.SLOT_SSTATE s == 1
  let prev := w.rd Reg.SLOT_LAST_START_TB s
  let i := w.slotInterval s
  let open_ := if first then w.firstTurn s
    else x.forced || decide (prev + i ≤ w.now) || (decide (prev + i / 2 ≤ w.now) && w.inGap u)
  if !w.slotLive s || x.running || !w.atBoundary u || !open_ then w
  else
    let t := w.now
    let late := !first && decide (prev + i + w.rd Reg.SLOT_BOUND_NS s < t)
    let beyond := !first && decide (prev + w.slotFtti s * 1000000 - slotLength s < t)
    let w := if late then (w.inc Reg.SAF_CNT_LATE).err u stSoundingLate (s + 4 * 2 ^ 24) 0 (w.rd Reg.SLOT_LAST_SIGNATURE s) else w
    let w := if beyond then w.degrade u stSoundingLate s else w
    let w := match w.d.saf.newExpected.find? (fun e => e.1 == s) with
      | some e => (w.wr Reg.SLOT_EXPECTED e.2 s).setSaf { w.d.saf with newExpected := w.d.saf.newExpected.filter (fun e => e.1 != s) }
      | none => w
    let w := w.setSnd s { x with running := true, forced := false, startTb := t, waiting := w.readyFor u, prev := prev, startV := w.d.clk.vcycle }
    let w := w.profileStart s
    let w := (w.wr Reg.SLOT_LAST_START_TB t s).wr Reg.SLOT_NEXT_LS_TB (t + w.slotInterval s) s
    (w.inc Reg.SAF_CNT_SOUNDINGS).inc Reg.SAF_SLOT_CNT_SOUNDINGS s

/-- SAF_FORCE_SOUND (R486). -/
def forceSound (w : Work) (req s : Nat) : Work :=
  if 90 ≤ s then w.log req else if !w.slotLive s then w else w.setSnd s { w.snd s with forced := true }

/-! ### Waits on a sounding (R473) -/

/-- The node instance a unit holds, if it holds one. -/
def heldBy (w : Work) (u : Nat) : List (Nat × Nat) :=
  if u ≤ 0x43 then
    match w.logicalOf u with
    | some c => if w.coreBusy c then [((w.core c).run, (w.core c).node)] else []
    | none => []
  else
    let of := fun (k : Nat) => if (w.eng k).run = 0 then [] else [((w.eng k).run, (w.eng k).node)]
    of u ++ of (u + 0x100)

/-- A wait of one instance on a sounding joins its ledger entry and the counter. -/
def soundWait (w : Work) (id us : Nat) : Work :=
  (w.modRun id (fun r => { r with soundUs := r.soundUs + us })).add Reg.SAF_CNT_DELAY_US us

/-- Every instance held at the boundary, or ready at the start, has waited since the start; one that became ready later has waited a part of
it, which the model leaves free (DESIGN CHOICE, log entry 30). -/
def soundWaits (w : Work) (s : Nat) : Work :=
  let u := slotUnit s
  let x := w.snd s
  let us := (w.now - x.startTb) / 1000
  let early := (w.heldBy u ++ x.waiting).eraseDups
  let late := (w.readyFor u).filter (fun e => !early.contains e)
  let w := early.foldl (fun w e => w.soundWait e.1 us) w
  late.foldl (fun w e => let (w, v) := w.free 32; w.soundWait e.1 (v % (us + 1))) w

/-! ### Suspects (R477) -/

/-- The instances a unit's touch table names become suspect: those in flight are marked, and those whose ledger entries are written get one
notice a context, and one for the completed triggers. -/
def markSuspects (w : Work) (u : Nat) : Work :=
  let ts := w.d.saf.touches.filter (fun e => e.unit == u)
  let ctxs := (ts.map Touch.ctx).eraseDups
  ctxs.foldl (fun w c =>
    let mine := ts.filter (fun e => e.ctx == c)
    let first := (mine.head?.map Touch.fc).getD 0
    let last := (mine.getLast?.map Touch.fc).getD 0
    let live := w.d.ks.runs.filter (fun r => !r.ledgered && r.actx == c && (if c = 0xFF then mine.any (fun e => e.run == r.id) else decide (first ≤ r.afc ∧ r.afc ≤ last)))
    let w := live.foldl (fun w r => w.modRun r.id (fun r => { r with suspect := true })) w
    let gone := (mine.filter (fun e => !live.any (fun r => r.id == e.run))).length
    if gone = 0 then w
    else (w.inc Reg.SAF_CNT_NOTICES).err u stResultSuspect (c + gone % 65536 * 65536) 0 (if c = 0xFF then gone else first)) w

/-! ### Retirement (R478, R479, R483) -/

/-- A unit leaves service for good: its presence, slot, counter and record (R31, R476, R487). -/
def retireUnit (w : Work) (u : Nat) : Work :=
  let w := { w with d := { w.d with retired := if w.d.retired.contains u then w.d.retired else u :: w.d.retired } }
  let w := match retiredField u with
    | some (f, i) => w.wr f 1 i
    | none => w
  let s := (slotOfUnit u).getD 0
  let sig := w.rd Reg.SLOT_LAST_SIGNATURE s
  let w := ((w.wr Reg.SLOT_SSTATE 4 s).wr Reg.SLOT_WATCH_LEFT 0 s).setSnd s Sounding.none
  (w.inc Reg.SAF_CNT_RETIRED).err u stEngineRetired (s + 3 * 2 ^ 24) 0 sig

/-- A run is dropped (R483): what has not ended is cut, and its entries say so. -/
def dropRun (w : Work) (id : Nat) : Work :=
  match w.grun? id with
  | none => w
  | some r =>
    let w := (List.range r.nodes.length).foldl (fun w n => w.cutNode id n stFrameDropped) w
    (w.modRun id (fun r => { r with dropped := true, heldUntil := 0, nodes := r.nodes.map (fun x => { x with again := false }) })).inc Reg.SAF_CNT_DROPPED

/-- A node is to run again after a retirement (R483): it holds its run until the RECOVERY_BOUND of the anchor context; a second retirement keeps
the first bound; a bound of 0 drops the run at once. -/
def recover (w : Work) (id n : Nat) : Work :=
  match w.grun? id with
  | none => w
  | some r =>
    let bound := wd (w.ctxMap r.actx) 3
    let w := w.modNode id n (fun x => { x with again := true })
    let w := w.modRun id (fun r => { r with recovered := true })
    if r.actx = 0xFF then w
    else if bound = 0 then w.dropRun id
    else w.modRun id (fun r => { r with heldUntil := if r.heldUntil = 0 then w.now + bound else r.heldUntil })

/-- The registers that describe a physical core (R258). -/
def coreFields : List Fld := (Reg.blockAsh0 ++ Reg.blockAsh1 ++ Reg.blockAsh2).filter (fun f =>
  decide (f ≠ Reg.ASH_CAP) && decide (f ≠ Reg.ASH_PHYS_ID) && (decide (f.acc = .ro) || decide (f.acc = .rc)))

/-- The spare rows left in each bank of a physical tile store (R300). -/
def spareNibbles (w : Work) (p : Nat) : Nat :=
  pack ((List.range 16).map (fun b => (4 - w.d.ecc.spared.countP (fun k => k / 65536 == p && k % 65536 / 256 == b), 4 * b, 4)))

/-- A physical core takes a logical number: counters and status start from 0, and the retired core's last counters are kept (R258). -/
def resetCoreRegs (w : Work) (c p : Nat) : Work :=
  let old := w.d.cores.getD c 0xFF
  let last := (coreFields.filter (fun f => decide (f.acc = .rc))).map (fun f => w.rd f c)
  let w := w.setSaf { w.d.saf with lostCounters := tset [] w.d.saf.lostCounters old last }
  let w := coreFields.foldl (fun w f => (List.range (max 1 f.n2)).foldl (fun w j => w.wr f (f.resetAt c j) c j) w) w
  (({ w with d := { w.d with cores := w.d.cores.set c p } }).wr Reg.ASH_PHYS_ID p c).wr Reg.TS_SPARES_LEFT (w.spareNibbles p) c

/-- A task moves to the core's new physical core and runs again from launch (R257). -/
def relaunch (w : Work) (c : Nat) (k : CoreSt) (old : Nat) : Work :=
  let w := (w.dropWaits c).setCore c { CoreSt.idle with
    phase := .launching, run := k.run, node := k.node, members := k.members, rank := k.rank, args := k.args, gated := k.gated, tile := k.tile
    since := w.d.clk.vcycle, suppress := max k.signals k.suppress, bnext := k.bnext, reexec := true }
  let w := w.inc Reg.ASH_CNT_REEXEC c
  let w := w.setSaf { w.d.saf with touches := w.d.saf.touches.filter (fun e => !(e.unit == old && e.run == k.run)) }
  w.recover k.run k.node

/-- A task whose core is gone ends: what it had queued is discarded (R257, R479). -/
def loseTask (w : Work) (c : Nat) : Work :=
  let w := w.abortTask c stEngineRetired 0 0
  (w.setCore c { w.core c with queue := [] }).settleTask c

/-- An ashlar core is retired: the quoin's spare takes its number and its task, or it has no replacement (R14, R478). -/
def retireCore (w : Work) (p : Nat) : Work :=
  let q := p / 17
  let sp := 17 * q + 16
  let w := w.retireUnit p
  let usable := decide (p ≠ sp) && !w.isRetired sp && (w.logicalOf sp).isNone && w.rd Reg.SLOT_WATCH_LEFT sp == 0
  let taken := fun (w : Work) => w.wr Reg.ID_SPARE_FREE (w.rd Reg.ID_SPARE_FREE - (if bitAt (w.rd Reg.ID_SPARE_FREE) (4 * q) then 2 ^ (4 * q) else 0))
  let w := if p = sp then taken w else w
  match w.logicalOf p with
  | none => w
  | some c =>
    let k := w.core c
    if usable then
      let w := if k.phase ≠ .idle && k.ended then (w.setCore c { k with queue := [] }).settleTask c else w
      let w := (taken w).resetCoreRegs c sp
      if k.phase = .idle || k.ended then w else w.relaunch c k p
    else
      let w := if k.phase = .idle then w else w.loseTask c
      let w := w.resetCoreRegs c 0xFF
      w.degrade p stEngineRetired c

/-- A node held on a retired engine goes back to wait for the partner, with what it had signalled to be suppressed (R479). -/
def rerunNode (w : Work) (u : Nat) : Work :=
  let x := w.eng u
  if x.run = 0 then w
  else
    let w := w.freeUnit u
    match w.grun? x.run with
    | none => w
    | some r =>
      if (nodeRun r x.node).st ≠ .running then w
      else
        let w := w.modNode x.run x.node (fun y => { y with st := .waiting, unit := 0xFF, reads := [], skip := y.counts, finished := false, tile := 0 })
        w.recover x.run x.node

/-- A retired copy engine's chain goes back to wait: a job's to the started jobs, a fill's to be owed. -/
def rerunChain (w : Work) (u : Nat) : Work :=
  match w.chainOf u with
  | none => w
  | some c =>
    let w := w.setChain u none
    if c.kind = 0 then w.rerunNode u
    else
      let w := w.freeUnit u
      if c.kind = 1 then { w with d := { w.d with cpy := { w.d.cpy with waiting := c :: w.d.cpy.waiting } } } else w

/-- A fixed-function engine is retired and its work moves to its partner; the last of a kind leads to SAFE_DEGRADED (R479). -/
def retireEngine (w : Work) (u s : Nat) : Work :=
  let w := w.retireUnit u
  let w := if u = 0x76 ∨ u = 0x77 then w.rerunChain u
    else if 0x60 ≤ u ∧ u ≤ 0x63 then { w with d := { w.d with isp := { w.d.isp with pipes := tset 0 w.d.isp.pipes (u - 0x60) 0 } } }
    else if u = 0x74 ∨ u = 0x75 then (w.rerunNode u).rerunNode (u + 0x100)
    else w.rerunNode u
  if (w.partner u).isSome then w else w.degrade u stEngineRetired s

/-- Retire the unit of a slot. -/
def retireSlot (w : Work) (s : Nat) : Work :=
  let u := slotUnit s
  if u ≤ 0x43 then w.retireCore u else w.retireEngine u s

/-- Cores the safety manager has been asked to retire leave service (R301, R478). -/
def retireAsked (w : Work) : Work :=
  match w.d.saf.retireAsk with
  | [] => w
  | l => (l.filter (fun p => decide (p < 68))).foldl (fun w p => if w.isRetired p then w else w.retireCore p) (w.setSaf { w.d.saf with retireAsk := [] })

/-- A held re-execution reaches its bound: the run is dropped (R483). -/
def recoveryExpiry (w : Work) (id : Nat) : Work :=
  match w.grun? id with
  | none => w
  | some r => if r.heldUntil = 0 then w else (w.advance r.heldUntil).dropRun id

/-! ### SAFE_RUN (R467, R469, R471, R484) -/

/-- INIT ends once the injection has passed and every slot in service has passed its first sounding: the heartbeat starts (DEDUCED, log entry 31). -/
def safeRun (w : Work) : Work :=
  let s := w.d.saf
  if w.rd Reg.SAF_STATE ≠ 0 || !s.injected || !s.setReady || (List.range 90).any (fun k => w.rd Reg.SLOT_SSTATE k == 1) then w
  else
    let hb := 1000 * w.rd Reg.SAF_HEARTBEAT_US
    (w.wr Reg.SAF_STATE 1).setSaf { s with pin0 := false, pin1 := true, hbNext := w.now + hb, hbRefresh := w.now }

/-! ### Results (R474, R476) -/

/-- A sounding fails: the first time the unit is re-sounded at once, in watch it is retired (R476). -/
def soundingFails (w : Work) (s sig : Nat) : Work :=
  let u := slotUnit s
  let watch := w.rd Reg.SLOT_WATCH_LEFT s
  let w := ((w.inc Reg.SAF_CNT_MISMATCH).inc Reg.SAF_SLOT_CNT_MISMATCH s).err u stSoundingMismatch (s + 2 ^ 24) 0 sig
  let w := w.markSuspects u
  if watch = 0 then
    let t := w.now
    let w := (w.wr Reg.SLOT_WATCH_LEFT 10 s).wr Reg.SLOT_SSTATE (if w.rd Reg.SLOT_SSTATE s = 1 then 1 else 3) s
    let w := w.setSnd s { w.snd s with running := true, again := true, startTb := t }
    let w := w.profileStart s
    let w := (w.wr Reg.SLOT_LAST_START_TB t s).wr Reg.SLOT_NEXT_LS_TB (t + w.slotInterval s) s
    (w.inc Reg.SAF_CNT_SOUNDINGS).inc Reg.SAF_SLOT_CNT_SOUNDINGS s
  else ((w.heldOver u (w.d.clk.vcycle - (w.snd s).startV)).retireSlot s).safeRun

/-- A sounding passes: the touch table clears, the unit resumes, and the pass of an immediate re-sounding leaves a TRANSIENT record (R476,
R477). -/
def soundingPasses (w : Work) (s sig : Nat) : Work :=
  let u := slotUnit s
  let x := w.snd s
  let watch := w.rd Reg.SLOT_WATCH_LEFT s
  let w := if x.again then (w.inc Reg.SAF_CNT_TRANSIENT).err u stOk (s + 2 * 2 ^ 24) 0 sig else w
  let w := w.heldOver u (w.d.clk.vcycle - x.startV)
  let w := w.wr Reg.SLOT_WATCH_LEFT (watch - 1) s
  let w := (w.wr Reg.SLOT_SSTATE (if watch ≤ 1 then 2 else 3) s).wr Reg.SLOT_LAST_PASS_TB w.now s
  let w := w.setSnd s { x with running := false, again := false, waiting := [] }
  (w.setSaf { w.d.saf with touches := w.d.saf.touches.filter (fun e => e.unit != u) }).safeRun

/-- The result area of a running sounding is reduced and compared (R474, R476). -/
def soundingResult (w : Work) (s : Nat) (area : List Byte) : Work :=
  let x := w.snd s
  if !x.running then w
  else
    let w := w.advance (x.startTb + slotLength s)
    let sig := crc32c area
    let w := (w.soundWaits s).wr Reg.SLOT_LAST_SIGNATURE sig s
    if sig = w.rd Reg.SLOT_EXPECTED s then w.soundingPasses s sig else w.soundingFails s sig

/-- A sounding still running at 2 × L_u is stopped and counts as a mismatch; no signature was computed (R474, DESIGN CHOICE, log entry 30). -/
def soundingOverrun (w : Work) (s : Nat) : Work :=
  let x := w.snd s
  if !x.running then w
  else
    let w := (w.advance (x.startTb + 2 * slotLength s)).soundWaits s
    let (w, sig) := w.free 32
    w.soundingFails s sig

/-- The sounding set is written and expanded (R471): the SOUNDING slab's first 6 MiB and each slot's EXPECTED, at the first CARVE commit; after a handover
each slot takes the new one's at its next sounding start. -/
def soundingSet (w : Work) (set : List Byte) (expected : List Nat) : Work :=
  match (List.range 36).find? (fun k => w.role k == 5) with
  | none => w
  | some k =>
    let put := w.store (0x4000000000 + k * 0x1000000) (set.take 0x600000)
    if !w.d.saf.setReady then
      let w := put.upTo 90 (fun w s => w.wr Reg.SLOT_EXPECTED (wd expected s) s)
      w.setSaf { w.d.saf with setReady := true }
    else if w.d.saf.newSet then
      put.setSaf { w.d.saf with newSet := false, newExpected := (List.range 90).map (fun s => (s, wd expected s)) }
    else w

/-- Start-time injection ends (R484): the injections flagged, and the checker that failed, by unit and row of R484, if one did. -/
def injectionDone (w : Work) (passed : Nat) (fail : Option (Nat × Nat)) : Work :=
  if w.rd Reg.SAF_STATE ≠ 0 ∨ w.on Reg.SAF_INJ_DONE then w
  else
    let w := (w.wr Reg.SAF_INJ_PASSED passed).wr Reg.SAF_INJ_DONE 1
    match fail with
    | none => (w.setSaf { w.d.saf with injected := true }).safeRun
    | some (u, row) => (w.wr Reg.SAF_INJ_FAIL_UNIT u).degrade u stSafeDegraded row

/-! ### The heartbeat (R469, R485) -/

/-- The TB the checker expires at: two periods after its last refresh. -/
def hbEnd (w : Work) : Nat := 2 * w.d.saf.hbNext - w.d.saf.hbRefresh

/-- SAFE_FAULT_N toggles and the checker is refreshed; a committed HEARTBEAT_US governs from here on. -/
def heartbeatToggle (w : Work) : Work :=
  if w.rd Reg.SAF_STATE ≠ 1 ∨ w.d.saf.hbNext = 0 then w
  else
    let end_ := w.hbEnd
    let w := w.advance w.d.saf.hbNext
    let w := if w.atDue end_ then (w.inc Reg.SAF_CNT_NEAR_MISS).wr Reg.SAF_NEAR_MISS_TB w.now else w
    let us := match w.d.saf.nextProfile with
      | some p => bits (wd p 1) 15 0
      | none => w.rd Reg.SAF_HEARTBEAT_US
    let s := w.d.saf
    w.setSaf { s with pin0 := !s.pin0, pin1 := s.pin0, hbNext := w.now + 1000 * us, hbRefresh := w.now }

/-- The heartbeat checker gets no refresh within 2 × HEARTBEAT_US. -/
def heartbeatExpiry (w : Work) : Work :=
  if w.rd Reg.SAF_STATE ≠ 1 then w
  else ((w.advance w.hbEnd).wr Reg.SAF_HB_EXPIRED 1).degrade uSafety stSafeDegraded 0

end Work

end Sys2Proof.Machine
end

