-- ==== Sys2Proof/Machine/Boot.lean ====
section
/-! DEFINITION. Resets and boot: chip, host and unit resets, the watchdog, option bytes, firmware images, the boot sequence and live update
(R423 to R441, R514, R515, R518). -/

namespace Sys2Proof.Machine

open Config

namespace Work

/-- Replace the security core's state. -/
def setSec (w : Work) (x : Sec) : Work := { w with d := { w.d with sec := x } }

/-! ### What a reset keeps (R423, R441) -/

/-- Register copies that a chip reset keeps: row spares, core assignments and retirements (R423, R482, R383). -/
def carried (w : Work) : List (Fld × Nat) :=
  (List.range 64).flatMap (fun c => [(Reg.TS_SPARES_LEFT, c), (Reg.ASH_PHYS_ID, c)]) ++ (List.range 36).map (fun s => (Reg.SLAB_SPARES_LEFT, s)) ++
    [(Reg.ID_SPARE_FREE, 0)] ++ w.d.retired.filterMap retiredField ++
    (w.d.retired.filterMap slotOfUnit).map (fun s => (Reg.SLOT_SSTATE, s)) ++
    ((List.range 4).filter (fun p => w.on Reg.PAIR_RETIRED p)).flatMap (fun p => [(Reg.PAIR_RETIRED, p), (Reg.PAIR_IN_SERVICE, p)]) ++
    ((List.range 32).filter (fun ch => w.on Reg.CH_RETIRED ch)).flatMap (fun ch => [(Reg.CH_RETIRED, ch), (Reg.CH_IN_SERVICE, ch), (Reg.CH_EVACUATED, ch)]) ++
    (if (List.range 32).any (fun ch => w.on Reg.CH_RETIRED ch) then [(Reg.DDR_EVAC_CH, 0), (Reg.DDR_EVAC_PERMANENT, 0), (Reg.DDR_RESERVE_FREE, 0)] else [])

/-- Keys of the reset registers of R441, and of the QE_ block. -/
def resetKey (k : Nat) : Bool := decide (0x104000 * 8 ≤ k ∧ k < 0x104080 * 8)
def qeKey (k : Nat) : Bool := decide (0x200000 * 8 ≤ k ∧ k < 0x300000 * 8)

/-- Chop the burn of an accepted change short (R451): some of its data rows have been burned and its record has not; of the rollback counter some of the
bits. -/
def interruptBurn (w : Work) : Work :=
  match w.d.sec.change with
  | none => w
  | some c =>
    let (w, n) := w.free 8
    if c.op = 3 then
      let old := w.rollbackCounter
      w.burn rollbackRow (2 ^ (old + n % (c.arg - old + 1)) - 1)
    else (c.rows.take (n % (c.rows.length + 1))).foldl (fun w r => w.burn r.1 r.2) w

/-- Every state of the device but its memories goes to its reset value; what every reset keeps is given (R423). -/
def resetDev (w : Work) (keep : Dev → Dev) : Work := { w with d := keep { Dev.reset with fresh := w.d.fresh, balls := { Dev.reset.balls with gpio := w.d.balls.gpio }, tap := w.d.tap } }

/-- Power-on reset (R423, R514): every content is lost and boot starts from its first step. -/
def powerOn (w : Work) : Work :=
  let w := w.interruptBurn.resetDev id
  { w with mops := [.clear .dev 0 0x10000000000, .clear .course 0 0x10000000, .clear .ctl 0 0x10000000] ++ w.mops }

/-- Has a reset at least as wide come in this V-cycle already (R424, R514)? -/
def justReset (w : Work) : Bool := decide (w.d.clk = ⟨0, 0⟩ ∧ w.d.sec.boot = .pll)

/-- A chip reset (R423, R425, R428): the cause bits are set, LPDDR5X goes to self-refresh and keeps its contents, the SRAMs are zeroed, and boot
starts again. perst is set for PERST_N, which alone leaves a thermal trip. -/
def chipReset (w : Work) (cause : Nat) (perst : Bool) : Work :=
  let mark := fun (w : Work) => w.wr Reg.PWR_RESET_CAUSE (Nat.lor (w.rd Reg.PWR_RESET_CAUSE) (2 ^ cause))
  let trip := w.on Reg.PWR_TRIPPED && !perst
  if w.justReset then (if perst then (mark w).wr Reg.PWR_TRIPPED 0 else mark w)
  else
    let w := w.interruptBurn
    let vals := w.carried.map (fun f => (f.1, f.2, w.rd f.1 f.2))
    let old := w.d
    let w := w.resetDev (fun d => { d with
      regs := old.regs.filter (fun e => resetKey e.1), locked1 := old.locked1.filter resetKey, cores := old.cores, retired := old.retired
      ecc := { d.ecc with spared := old.ecc.spared }, ddr := { d.ddr with selfRefresh := true }, pwr := { d.pwr with refStopped := old.pwr.refStopped }
      saf := { d.saf with stickyCause := old.saf.stickyCause } })
    let w := vals.foldl (fun w v => w.wr v.1 v.2.2 v.2.1) w
    let w := ((mark w).inc Reg.PWR_CNT_CHIP_RESETS).wr Reg.RST_BOOT_STATE 0
    let w := if trip then w.wr Reg.PWR_TRIPPED 1 else w
    { w with mops := [.clear .dev 0x4000000000 0x10000000000, .clear .course 0 0x10000000, .clear .ctl 0 0x10000000] ++ w.mops }

/-- PERST_N asserts (R423): a chip reset, or, in the V-cycle of power-on release, taken as that (R514). -/
def perstN (w : Work) : Work := w.chipReset 1 true

/-- A chip reset that has been asked for happens (R428, R468): 1 µs after the write that asked, or once SAFE_DEGRADED's record is visible; two that
fall together set both cause bits (R424). -/
def chipResetDue (w : Work) : Work :=
  match w.d.sec.resetAt, w.d.saf.resetAsk with
  | none, none => w
  | some t, none => (w.advance t).chipReset 6 false
  | none, some c => w.chipReset c false
  | some t, some c => if t ≤ w.now then (w.chipReset c false).chipReset 6 false else w.chipReset c false

/-- PWR_RESET_CTRL is written (R428): the host and the control pairs may ask for a chip reset. -/
def chipResetRequest (w : Work) (req : Nat) (own chip : Bool) (key : Nat) : Work :=
  if !own || key != 0xA5C3 then w.log req
  else if chip then w.setSec { w.d.sec with resetAt := some (w.now + 1000) } else w

/-- Device reads of host memory that are outstanding end with COMPLETION_TIMEOUT (R426). -/
def hostReadsEnd (w : Work) : Work :=
  let w := (w.loaderTimeout.chainTimeout 0x76).chainTimeout 0x77
  w.upTo 64 (fun w c => w.loadTimeout c)

/-- Hot reset and function-level reset (R423, R426): the host-facing state is cleared and everything behind it runs on; firmware hears of it on
FAULT_CHANNEL. Bits 2 and 3 of the cause are theirs. -/
def hostReset (w : Work) (cause : Nat) : Work :=
  let w := w.wr Reg.PWR_RESET_CAUSE (Nat.lor (w.rd Reg.PWR_RESET_CAUSE) (2 ^ cause))
  if w.justReset then w
  else
    let w := w.hostReadsEnd
    let h := w.d.hif
    let w := { w with d := { w.d with
      regs := w.d.regs.filter (fun e => !qeKey e.1), locked1 := w.d.locked1.filter (fun k => !qeKey k), errHeld := []
      hif := { HostIf.reset with linkUp := h.linkUp && cause != 2, bar2Log2 := h.bar2Log2, readData := h.readData } } }
    let w := w.setSec { w.d.sec with doe := .silent }
    w.offer uPcie 5 (w.rd Reg.MSN_FAULT_CHANNEL) cause

/-- A rail leaves its range while the device runs (R515): a power-on reset, a rail fault of AVSBus, or LPDDR5X words that can no longer be corrected. Of the PHY
rails the spec says no more. -/
def railFault (w : Work) (r : Rail) (bad : List Nat) : Work :=
  match r with
  | .vddAo | .vddio | .vdd1 => w.powerOn
  | .vddA => w.avsHold 0 true
  | .vddV => w.avsHold 1 true
  | .vddSram => w.avsHold 2 true
  | .vddqDdr | .vdd2h => (bad.filter (fun a => w.inDram a 8)).foldl (fun w a => (w.setPoison (a / 8 * 8) true).eccReport (a / 8 * 8)) w
  | .phyPcie | .phyDrv | .phyCsi | .phyDdr => w

/-- REFCLK25 stops (R518): every domain stops until power-on reset. -/
def refclkStop (w : Work) : Work := w.setPwr { w.d.pwr with refStopped := true }

/-! ### The watchdog (R427) -/

/-- The TB the watchdog expires at. -/
def wdtEnd (w : Work) : Nat := w.d.sec.kick + 1000000 * w.rd Reg.RST_WDT_TIMEOUT_MS

/-- The watchdog is armed: it counts from here. -/
def wdtArm (w : Work) : Work :=
  if w.on Reg.RST_WDT_EN then w else (w.wr Reg.RST_WDT_EN 1).setSec { w.d.sec with kick := w.now }

/-- A kick; one in the V-cycle of expiry wins (R74). -/
def wdtKick (w : Work) : Work :=
  let w := if w.on Reg.RST_WDT_EN then w.collide uSafety w.wdtEnd else w
  let w := if w.on Reg.RST_WDT_EN && w.atDue w.wdtEnd then (w.inc Reg.PWR_CNT_WDT_NEAR_MISS).wr Reg.PWR_WDT_NEAR_MISS_TB w.now else w
  w.setSec { w.d.sec with kick := w.now }

/-- The watchdog expires. -/
def wdtExpiry (w : Work) : Work := if w.on Reg.RST_WDT_EN then (w.advance w.wdtEnd).chipReset 4 false else w

/-! ### Boot (R432, R435) -/

/-- BOOT_SOURCE; 3 is reserved. -/
def bootSource (w : Work) : Nat := bits (w.ob 1) 1 0

/-- The device goes to RECOVERY, for a reason, once step 7 is reached (R437). -/
def awaitHost (w : Work) (reason : Nat) : Work := w.wr Reg.RST_RECOVERY_REASON reason

/-- Step 7 of R435: DRAM training has ended. An accepted image is running; with none to come from the NOR the device waits for the host in
RECOVERY. -/
def bootStep7 (w : Work) (fromNor : Bool) : Work :=
  if !w.d.sec.trained then w
  else match w.d.sec.boot with
    | .started =>
      let w := w.setSec { w.d.sec with boot := .ready }
      let fetch := w.bootSource == 0 || (w.bootSource == 2 && fromNor)
      w.wr Reg.RST_BOOT_STATE (if fetch then 3 else 2)
    | .rom => if w.rd Reg.RST_BOOT_STATE = 0 ∧ w.d.sec.image.isNone then w.wr Reg.RST_BOOT_STATE 5 else w
    | _ => w

/-- The root PLL locks (R435 steps 1 to 3): the option bytes are read and mirrored, BAR2 takes its size, and ROM runs; with an xSPI source it reads the
firmware. -/
def pllLock (w : Work) : Work :=
  if w.d.sec.boot ≠ .pll ∨ w.d.pwr.refStopped then w
  else
    let (ob, copy) := w.obInForce
    let w := w.upTo 16 (fun w k => w.wr Reg.PWR_OB (leNat ((ob.drop (4 * k)).take 4)) k)
    let w := (w.wr Reg.RST_OB_COPY_USED (copy.getD 0)).wr Reg.RST_OB_DEFAULTS (b2n copy.isNone)
    let w := w.setHif { w.d.hif with bar2Log2 := 30 + min 8 (bits (w.ob 3) 3 0) }
    let w := w.setSec { w.d.sec with boot := .rom }
    let nor := w.bootSource == 0 || w.bootSource == 2
    (w.wr Reg.RST_BOOT_STATE (b2n nor)).wr Reg.RST_RECOVERY_REASON 0

/-- PCIe link training completes (R435 step 4). -/
def pcieLinkUp (w : Work) : Work := if w.d.sec.boot = .pll then w else w.setHif { w.d.hif with linkUp := true }

/-- Boot training of the channels ends (R380): those that failed are retired; of several, only one fits the reserve and the others are reported (R383). -/
def trainingDone (w : Work) (failed : List Nat) : Work :=
  if w.d.sec.boot = .pll ∨ w.d.sec.trained then w
  else
    let w := w.setSec { w.d.sec with trained := true }
    let w := (w.setDdr { w.d.ddr with selfRefresh := false, settling := false }).upTo 32 (fun w ch => w.wr Reg.CH_LAST_TRAIN_TB w.now ch)
    let w := (failed.filter (fun ch => decide (ch < 32) && !w.on Reg.CH_RETIRED ch)).foldl (fun w ch =>
      if w.on Reg.DDR_RESERVE_FREE then w.channelRetired ch else w.degrade (uChannel ch) stEccUncorrectable 0) w
    w.bootStep7 true

/-! ### Firmware images (R434) -/

/-- Steps 1 to 3 of R48 on a firmware image held in n bytes. -/
def fwEarly (w : Work) (ws : List Nat) (n : Nat) : Option Nat :=
  let total := wd ws 2
  let alg := bits (wd ws (total / 4 - 128)) 15 0
  if wd ws 0 ≠ 0x46485359 ∨ bits (wd ws 1) 3 0 ≠ 1 ∨ bits (wd ws 1) 15 8 ≠ 1 ∨ total % 8 ≠ 0 ∨ 0x180000 < total ∨ total < 768 ∨ n < total ∨ alg ≠ 1 ∨
      4 < bits (wd ws 4) 7 0 ∨ 127 < bits (wd ws 4) 15 8 then some stDescFormat
  else if (bits (wd ws 7) 15 0 ≠ 0xFFFF ∧ bits (wd ws 7) 15 0 ≠ w.s0.otp.partNumber) ∨ w.s0.otp.stepping < bits (wd ws 7) 19 16 then some stVersionMismatch
  else if !w.keyActive (bits (wd ws 4) 7 0) then some stKeyRevoked
  else none

/-- Steps 5 and 6. -/
def fwLate (w : Work) (ws : List Nat) : Option Nat :=
  let masks := [mAll, 0xFF0F, mAll, mAll, 0xFFFF, mAll, mAll, 0xFFFFF] ++ List.replicate 56 0
  if bits (wd ws 4) 15 8 < w.rollbackCounter then some stRollback
  else if (maskBad 0 ws masks).isSome ∨ (maskBad 0 (ws.drop (wd ws 2 / 4 - 128)) (mAll :: List.replicate 31 0)).isSome then some stDescReserved
  else none

/-- What the device keeps of an accepted image. -/
def fwInfo (bs : List Byte) : FwInfo :=
  let ws := bytesWords (bs.take 256)
  ⟨wd ws 5, wd ws 6, bits (wd ws 4) 7 0, bits (wd ws 4) 15 8, sha256 (bs.take (wd ws 2 - 512))⟩

/-- The checks of R434 on an image: the status. -/
def fwCheck (w : Work) (bs : List Byte) : Work × Nat :=
  let ws := bytesWords bs
  match w.fwEarly ws bs.length with
  | some st => (w, st)
  | none =>
    let good := w.signed (bits (wd ws 4) 7 0) (bs.take (wd ws 2))
    let w := w.countVerify good
    if !good then (w, stSigInvalid) else (w, (w.fwLate ws).getD stOk)

/-- The ROM finishes reading the firmware from the NOR at FW_OFFSET (R435 step 5, R436). -/
def firmwareFetched (w : Work) (answered : Bool) : Work :=
  if w.d.sec.boot ≠ .rom ∨ w.rd Reg.RST_BOOT_STATE ≠ 1 ∨ w.d.sec.image.isSome then w
  else
    let a := 0x10000 * (w.ob 14 + 256 * w.ob 15)
    if !answered ∨ w.num .nor a 4 ≠ 0x46485359 then ((w.wr Reg.RST_BOOT_STATE 0).awaitHost 2).bootStep7 false
    else
      let n := min 0x180000 (max 768 (w.num .nor (a + 8) 4))
      w.setSec { w.d.sec with image := some ⟨.norBoot, w.bytes .nor a n, none⟩ }

/-- The control pairs start an accepted image (R435 step 6): it lies in bank A, and WDT_FORCE arms the watchdog at its first instruction. -/
def startImage (w : Work) (bs : List Byte) (fromNor : Bool) : Work :=
  let f := fwInfo bs
  let w := (w.put .ctl 0 (bs.take (wd (bytesWords (bs.take 12)) 2))).wr Reg.SEC_RUNNING_FW_VERSION f.version
  let w := w.setSec { w.d.sec with image := none, running := some f, bankB := false, boot := .started }
  let w := if bitAt (w.ob 12) 0 then w.wdtArm else w
  w.bootStep7 fromNor

/-- The image under check passes or fails (R434, R435 step 6, R437). -/
def firmwareVerified (w : Work) : Work :=
  match w.d.sec.image with
  | none => w
  | some im =>
    let (w, st) := match im.early with
      | some st => (w, st)
      | none => w.fwCheck im.bytes
    let w := w.wr Reg.RST_LAST_BOOT_STATUS st
    match im.use with
    | .norBoot =>
      if st = stOk then w.startImage im.bytes true
      else (((w.setSec { w.d.sec with image := none }).wr Reg.RST_BOOT_STATE 0).awaitHost 1).bootStep7 false
    | _ =>
      let w := (w.wr Reg.SEC_IMG_BUSY 0).wr Reg.SEC_IMG_STATUS st
      if st = stOk then w.startImage im.bytes false else w.setSec { w.d.sec with image := none }

/-! ### Image commands (R437 to R439) -/

/-- May a requester write an image command now (R438)? -/
def imgGate (w : Work) (own : Bool) : Bool := own && !w.on Reg.SEC_IMG_BUSY

/-- The image at SEC_IMG_ADDR, with the status of reading it: it must lie aligned in LPDDR5X or the Quarry. -/
def imgRead (w : Work) : Work × Nat × List Byte :=
  let a := w.rd Reg.SEC_IMG_ADDR
  let n := w.rd Reg.SEC_IMG_LEN
  if a % 64 ≠ 0 ∨ 0x4000000 < n then (w, stDescFormat, [])
  else if !(w.inDram a n || inQuarry a n) then (w.err uSecurity stBoundFault 0 a, stBoundFault, [])
  else w.readAt uSecurity a n

/-- SEC_IMG_CMD 1 in RECOVERY (R437): the ROM takes the image for its checks. -/
def imgBoot (w : Work) (req : Nat) (own : Bool) : Work :=
  if !w.imgGate own ∨ w.rd Reg.RST_BOOT_STATE ≠ 5 then w.log req
  else
    let (w, st, bs) := w.imgRead
    (w.wr Reg.SEC_IMG_BUSY 1).setSec { w.d.sec with image := some ⟨.hostBoot, bs, if st = stOk then none else some st⟩ }

/-- SEC_IMG_CMD 2 (R439 step 1): the image goes to bank B and is checked, at last against COMPAT_MIN. -/
def stageUpdate (w : Work) (req : Nat) (own : Bool) : Work :=
  if !w.imgGate own then w.log req
  else
    let (w, st, bs) := w.imgRead
    let (w, st) := if st = stOk then w.fwCheck bs else (w, st)
    let f := fwInfo bs
    let st := if st = stOk ∧ ((w.d.sec.running.map FwInfo.version).getD 0) < f.compat then stVersionMismatch else st
    let w := w.wr Reg.SEC_IMG_STATUS st
    if st ≠ stOk then w
    else
      let bank := if w.d.sec.bankB then 0 else 0x180000
      ((w.put .ctl bank (bs.take (wd (bytesWords (bs.take 12)) 2))).wr Reg.SEC_IMG_STAGED 1).setSec { w.d.sec with staged := some f }

/-- A pair in service from some number on. -/
def nextPair (w : Work) (from_ : Nat) : Option Nat := (List.range 4).find? (fun p => decide (from_ ≤ p) && w.on Reg.PAIR_IN_SERVICE p)

/-- A handover ends with a status (R439). -/
def handoverEnds (w : Work) (st : Nat) : Work :=
  ((w.setSec { w.d.sec with handover := none }).wr Reg.SEC_IMG_BUSY 0).wr Reg.SEC_IMG_STATUS st

/-- The staged image becomes the running one (R439 step 5); its sounding set follows (R471). -/
def handoverDone (w : Work) : Work :=
  match w.d.sec.staged with
  | none => w.handoverEnds stOk
  | some f =>
    let w := (w.wr Reg.SEC_RUNNING_FW_VERSION f.version).wr Reg.SEC_IMG_STAGED 0
    let w := if w.d.saf.setReady then w.setSaf { w.d.saf with newSet := true } else w
    (w.setSec { w.d.sec with running := some f, staged := none, bankB := !w.d.sec.bankB, moved := [] }).handoverEnds stOk

/-- The next pair drains, or the handover is done. -/
def handoverNext (w : Work) (from_ : Nat) : Work :=
  match w.nextPair from_ with
  | none => w.handoverDone
  | some p => (w.setSec { w.d.sec with handover := some ⟨p, w.now⟩ }).pairDrain p

/-- SEC_IMG_CMD 3 (R439 step 2). -/
def handOver (w : Work) (req : Nat) (own : Bool) : Work :=
  if !w.imgGate own ∨ w.d.sec.staged.isNone then w.log req
  else (w.wr Reg.SEC_IMG_BUSY 1).handoverNext 0

/-- The new kernel has started on the drained pair (R439 step 3), if the image's key is still good (R445); the next pair drains. -/
def pairHandover (w : Work) : Work :=
  match w.d.sec.handover, w.d.sec.staged with
  | some h, some f =>
    if (w.curTid h.pair).isSome ∨ (w.pair h.pair).saving.isSome then w
    else if !w.keyActive f.slot then (w.pairReturn h.pair).handoverEnds stKeyRevoked
    else
      let w := w.setSec { w.d.sec with moved := h.pair :: w.d.sec.moved }
      (w.pairReturn h.pair).handoverNext (h.pair + 1)
  | _, _ => w

/-- The new kernel has not started within 100 ms: the pair returns to the old bank, and the command ends with what the kernel reported, or FLAG_TIMEOUT
(R439). -/
def handoverTimeout (w : Work) (reported : Option Nat) : Work :=
  match w.d.sec.handover with
  | none => w
  | some h => ((w.advance (h.since + 100000000)).pairReturn h.pair).handoverEnds (reported.getD stFlagTimeout)

/-- SEC_IMG_CMD 4 (R438): a firmware image or container that passes its checks is written to the NOR and read back. -/
def programNor (w : Work) (req : Nat) (own : Bool) : Work :=
  if !w.imgGate own then w.log req
  else
    let (w, st, bs) := w.imgRead
    let ws := bytesWords bs
    let (w, st) :=
      if st ≠ stOk then (w, st)
      else if wd ws 0 = 0x46485359 then w.fwCheck bs
      else match w.earlySteps ws (if wd ws 2 ≤ bs.length then wd ws 2 else 0) with
        | some f => (w, f.status)
        | none =>
          let good := w.signed (bits (wd ws 5) 7 0) (bs.take (wd ws 2))
          let w := w.countVerify good
          if !good then (w, stSigInvalid)
          else if bits (wd ws 5) 15 8 < w.rollbackCounter then (w, stRollback)
          else (w, if (stepReserved ws).isSome then stDescReserved else stOk)
    let w := w.wr Reg.SEC_IMG_STATUS st
    if st ≠ stOk then w
    else
      let at_ := if wd ws 0 = 0x46485359 then w.ob 14 + 256 * w.ob 15 else w.ob 16 + 256 * w.ob 17
      w.put .nor (0x10000 * at_) (bs.take (wd ws 2))

end Work

end Sys2Proof.Machine
end

