-- ==== Sys2Proof/Machine/Security.lean ====
section
/-! DEFINITION. Cornerstone commands, their change records, model keys, and debug authorisation (R444 to R454, R460 to R464). -/

namespace Sys2Proof.Machine

open Config

namespace Work

/-! ### Cornerstone commands (R447 to R450) -/

/-- OP, KEY_SLOT and ARG of a command's header. -/
def ccOp (h : List Nat) : Nat := bits (wd h 1) 15 8
def ccSlot (h : List Nat) : Nat := bits (wd h 1) 23 16
def ccArg (h : List Nat) : Nat := bits (wd h 1) 31 24

/-- The operations of R449. -/
def ccOps : List Nat := [1, 2, 3, 4, 5, 6, 0x10, 0x11]

/-- The payload's bytes by OP. -/
def ccPayload (op : Nat) : Nat := if op = 1 then 384 else if op = 4 then 64 else if op = 0x10 then 388 else 0

/-- May a key slot authorise an OP (R449)? -/
def ccAuthorised (w : Work) (op slot : Nat) : Bool :=
  if slot = 0 then op == 3 || op == 0x10 || op == 0x11 || !w.ownerPresent else w.slotState slot == 1

/-- The debug state and locks that forbid a change (step 6). -/
def ccLocked (w : Work) (op : Nat) (payload : List Byte) : Bool :=
  let kept := fun (b : Nat) => (bits b 1 1, bits b 3 2, bits b 4 4)
  if op = 5 then w.debugLock else if op = 6 then w.profileLock
  else if op = 4 then w.profileLock && kept ((payload.getD 12 0#8).toNat) != kept ((w.obInForce.1.getD 12 0#8).toNat)
  else op == 0x10 && w.on Reg.SEC_DEBUG_UNLOCKED

/-- The lowest EMPTY owner slot. -/
def emptySlot (w : Work) : Option Nat := [1, 2, 3, 4].find? (fun k => w.slotState k == 0)

/-- The lowest option-byte copy that has not been used. -/
def nextCopy (w : Work) : Option Nat := (List.range 8).find? (fun n => !w.obUsed n && (List.range 8).all (fun m => decide (m ≤ n) || !w.obUsed m))

/-- SIG_ALG of a signed item's trailer (R35). -/
def sigAlg (item : List Byte) : Nat := leNat ((item.drop (item.length - 512)).take 2)

/-- Steps 1 to 3 of R450, with SIG_ALG among the encodings of step 1. -/
def ccEarly (w : Work) (h : List Nat) (len alg : Nat) : Option Nat :=
  let op := ccOp h
  if alg ≠ 1 ∨ wd h 0 ≠ 0x43485359 ∨ bits (wd h 1) 3 0 ≠ 1 ∨ !ccOps.contains op ∨ wd h 2 ≠ len ∨ len ≠ 576 + ccPayload op ∨ 4 < ccSlot h then some stDescFormat
  else if wd64 h 3 ≠ w.s0.otp.serial ∨ bits (wd h 5) 7 0 ≠ (if 0x10 ≤ op then 0 else w.nextSeq) then some stBindingMismatch
  else if !w.ccAuthorised op (ccSlot h) then some stKeyRevoked
  else none

/-- Step 5: reserved fields of the header, of a model key's word 0, and of the trailer. -/
def ccReserved (cmd : List Byte) : Bool :=
  let h := bytesWords (cmd.take 64)
  let t := bytesWords ((cmd.drop (cmd.length - 512)).take 128)
  let key := leNat ((cmd.drop 64).take 4)
  (maskBad 0 h ([mAll, 0xFFFFFF0F, mAll, mAll, mAll, 0xFF, 0x7F] ++ List.replicate 9 0)).isSome ||
    (maskBad 0 t (0xFFFF :: List.replicate 31 0)).isSome || (ccOp h == 0x10 && decide (16 ≤ key))

/-- Steps 6 to 8 of R450. -/
def ccLate (w : Work) (h : List Nat) (payload : List Byte) : Nat :=
  let op := ccOp h
  let arg := ccArg h
  let v := bits (wd h 6) 6 0
  if w.ccLocked op payload then stLocked
  else if op = 3 ∧ (v ≤ w.rollbackCounter ∨ (w.d.sec.running.map FwInfo.rollback).getD 0 < v) then stRollback
  else if op = 1 then (match w.emptySlot with | none => stOtpExhausted | some k => if k = arg then stOk else stDescFormat)
  else if op = 2 then (if 1 ≤ arg ∧ arg ≤ 4 ∧ w.slotState arg = 1 then stOk else stDescFormat)
  else if op = 4 then (if w.nextCopy.isSome then stOk else stOtpExhausted)
  else if op = 0x11 ∧ 15 < arg ∧ arg ≠ 0xFF then stDescFormat
  else stOk

/-- The rows a change burns before its record, and the record's ARG (R446, R449, R452). -/
def ccRows (w : Work) (h : List Nat) (payload : List Byte) : List (Nat × Nat) × Nat :=
  let arg := ccArg h
  match ccOp h with
  | 1 => ((List.range 12).map (fun i => (slotModRow arg i, leNat ((payload.drop (32 * i)).take 32))) ++ [(slotStateRow arg, 1)], arg)
  | 2 => ([(slotStateRow arg, 2)], arg)
  | 3 => ([(rollbackRow, 2 ^ bits (wd h 6) 6 0 - 1)], bits (wd h 6) 6 0)
  | 4 =>
    let n := (w.nextCopy).getD 0
    ([(obRow n 0, leNat (payload.take 32)), (obRow n 1, leNat (payload.drop 32))], n)
  | 5 => ([(debugLockRow, 1)], arg)
  | 6 => ([(profileLockRow, 1)], arg)
  | _ => ([], arg)

/-- The model keys are cleared, all of them or one (R449, R454). -/
def clearModelKeys (w : Work) (arg : Nat) : Work :=
  if arg = 0xFF then (w.setSec { w.d.sec with mkeys := [] }).wr Reg.SEC_MKEY_VALID 0
  else
    let v := w.rd Reg.SEC_MKEY_VALID
    (w.setSec { w.d.sec with mkeys := tdel w.d.sec.mkeys arg }).wr Reg.SEC_MKEY_VALID (if bitAt v arg then v - 2 ^ arg else v)

/-- A model key is loaded (R454). -/
def loadModelKey (w : Work) (id : Nat) (key : List Byte) : Work :=
  let v := w.rd Reg.SEC_MKEY_VALID
  (w.setSec { w.d.sec with mkeys := tset [] w.d.sec.mkeys id key }).wr Reg.SEC_MKEY_VALID (if bitAt v id then v else v + 2 ^ id)

/-- A status the spec leaves open, of those generation 1 may return from the security range: SIG_INVALID to BINDING_MISMATCH, or DESC_FORMAT (R12, R448). -/
def openStatus (w : Work) : Work × Nat :=
  let (w, v) := w.free 3
  (w, if v = 7 then stDescFormat else stSigInvalid + v)

/-- Step 9: the change starts to burn, or a model key operation takes effect at once. Where the ciphertext of a model key does not decrypt, no key is loaded
and the status is a value the spec leaves open (DESIGN CHOICE, log entry 11). -/
def ccAccept (w : Work) (cmd : List Byte) : Work :=
  let h := bytesWords (cmd.take 64)
  let payload := (cmd.drop 64).take (ccPayload (ccOp h))
  if ccOp h = 0x11 then (w.clearModelKeys (ccArg h)).wr Reg.SEC_CC_STATUS stOk
  else if ccOp h = 0x10 then
    match oaepKey (encryptionKey w.s0.otp.serial) (payload.drop 4) with
    | some k => (w.loadModelKey (leNat (payload.take 4)) k).wr Reg.SEC_CC_STATUS stOk
    | none => let (w, v) := w.openStatus; w.wr Reg.SEC_CC_STATUS v
  else
    let (rows, arg) := w.ccRows h payload
    (w.wr Reg.SEC_CC_BUSY 1).setSec { w.d.sec with change := some ⟨w.now, ccOp h, ccSlot h, arg, rows, (sha256 (cmd.take (cmd.length - 512))).take 12⟩ }

/-- SEC_CC_GO is written with the command for an OP at SEC_CC_ADDR (R447, R450). A command whose words name another OP of R449 is that other one. -/
def cornerstone (w : Work) (op req : Nat) (own : Bool) : Work :=
  if !own ∨ w.on Reg.SEC_CC_BUSY then w.log req
  else
    let a := w.rd Reg.SEC_CC_ADDR
    let n := w.rd Reg.SEC_CC_LEN
    let (w', st, cmd) :=
      if a % 64 ≠ 0 then (w, stDescFormat, [])
      else if !(w.inDram a n || inQuarry a n) then (w.err uSecurity stBoundFault 0 a, stBoundFault, [])
      else w.readAt uSecurity a n
    let h := bytesWords (cmd.take 64)
    if st ≠ stOk then w'.wr Reg.SEC_CC_STATUS st
    else if ccOp h ≠ op ∧ ccOps.contains (ccOp h) then w
    else
      let w := w'
      match w.ccEarly h n (sigAlg cmd) with
      | some st => w.wr Reg.SEC_CC_STATUS st
      | none =>
        let good := w.signed (ccSlot h) cmd
        let w := w.countVerify good
        let st := if !good then stSigInvalid else if ccReserved cmd then stDescReserved else w.ccLate h ((cmd.drop 64).take (ccPayload op))
        if st = stOk then w.ccAccept cmd else w.wr Reg.SEC_CC_STATUS st

/-- The words of a change record (R452). -/
def recordBytes (w : Work) (c : Change) : List Byte :=
  let body := wordsBytes [pack [(w.nextSeq, 0, 8), (c.op, 8, 8), (c.slot, 16, 8), (c.arg, 24, 8)], (w.d.sec.running.map FwInfo.version).getD 0,
    low 32 w.now, low 32 (w.now / 2 ^ 32)] ++ c.digest
  let gen := leBytes 2 1
  body ++ leBytes 2 (crc16 (body ++ gen)) ++ gen

/-- The record row of a change reads back valid, each row having taken 200 µs to burn: the change takes effect and SEC_CC_STATUS posts (R451). -/
def changeBurned (w : Work) : Work :=
  match w.d.sec.change with
  | none => w
  | some c =>
    let w := w.advance (c.since + 200000 * (c.rows.length + 1))
    let n := w.nextSeq
    let rec_ := w.recordBytes c
    let w := c.rows.foldl (fun w r => w.burn r.1 r.2) w
    let w := w.burn (recordRow n) (leNat rec_)
    ((w.setSec { w.d.sec with change := none }).wr Reg.SEC_CC_BUSY 0).wr Reg.SEC_CC_STATUS stOk

/-- OTP_RECORD_READ (R452): records FIRST to the last that fits, in order; the answer is (status, INFO). -/
def otpRecordRead (w : Work) (first buf size : Nat) : Work × Nat × Nat :=
  let n := min (w.nextSeq - first) (size / 32)
  if n = 0 then (w, stOk, 0)
  else
    let (w, st) := w.writeAt uSecurity buf ((List.range n).flatMap (fun k => w.rowBytes (recordRow (first + k))))
    (w, st, if st = stOk then n else 0)

/-! ### Debug (R460 to R463) -/

/-- May a requester use the debug registers now (R460, R464)? -/
def dbgGate (w : Work) (own : Bool) : Bool := own && !w.on Reg.SEC_CC_BUSY && w.debugPolicy != 2

/-- SEC_DBG_CMD 1 draws a challenge (R461). -/
def debugChallenge (w : Work) (req : Nat) (own : Bool) : Work :=
  if !w.dbgGate own then w.log req
  else
    let w := w.upTo 8 (fun w k => let (w, v) := w.free 32; w.wr Reg.SEC_DBG_CHALLENGE v k)
    w.setSec { w.d.sec with challenge := true }

/-- A successful unlock (R462, R467): model keys are cleared, and the safety manager goes to DEBUG. -/
def unlockDebug (w : Work) : Work :=
  let w := (w.clearModelKeys 0xFF).wr Reg.SEC_DEBUG_UNLOCKED 1
  (w.wr Reg.SAF_STATE 3).setSaf { w.d.saf with pin0 := false, pin1 := false, hbNext := 0 }

/-- The checks of a debug token (R461): its status. -/
def tokenCheck (w : Work) (bs : List Byte) : Work × Nat :=
  let h := bytesWords (bs.take 64)
  let slot := bits (wd h 1) 23 16
  let challenge := (List.range 8).map (fun k => w.rd Reg.SEC_DBG_CHALLENGE k)
  let masks := [mAll, 0xFF000F, mAll, mAll] ++ List.replicate 8 mAll ++ List.replicate 4 0
  if sigAlg bs ≠ 1 ∨ wd h 0 ≠ 0x44485359 ∨ bits (wd h 1) 3 0 ≠ 1 ∨ 4 < slot then (w, stDescFormat)
  else if wd64 h 2 ≠ w.s0.otp.serial ∨ !w.d.sec.challenge ∨ (h.drop 4).take 8 ≠ challenge then (w, stBindingMismatch)
  else if (if slot = 0 then w.ownerPresent else w.slotState slot != 1) then (w, stKeyRevoked)
  else
    let good := w.signed slot bs
    let w := w.countVerify good
    if !good then (w, stSigInvalid)
    else if (maskBad 0 h masks).isSome ∨ (maskBad 0 (bytesWords ((bs.drop 64).take 128)) (0xFFFF :: List.replicate 31 0)).isSome then (w, stDescReserved)
    else (w, stOk)

/-- SEC_DBG_CMD 2 (R460 to R462): an unlock, with a token unless the policy is open; every attempt discards the challenge. -/
def debugUnlock (w : Work) (req : Nat) (own : Bool) : Work :=
  if !w.dbgGate own then w.log req
  else
    let a := w.rd Reg.SEC_DBG_TOKEN_ADDR
    let (w, st) :=
      if w.debugPolicy = 0 then (w, stOk)
      else if a % 64 ≠ 0 then (w, stDescFormat)
      else
        let (w, st, bs) := w.readAt uSecurity a 576
        if st = stOk then w.tokenCheck bs else (w, st)
    let w := (w.upTo 8 (fun w k => w.wr Reg.SEC_DBG_CHALLENGE 0 k)).setSec { w.d.sec with challenge := false }
    let w := w.wr Reg.SEC_DBG_STATUS st
    if st = stOk then w.unlockDebug else w.inc Reg.SEC_CNT_DBG_FAIL

end Work

end Sys2Proof.Machine
end

