-- ==== Sys2Proof/Machine/Attest.lean ====
section
/-! DEFINITION. Attestation: measurements, the region and model logs, the SPDM responder and the ATTEST job (R456 to R459). -/

namespace Sys2Proof.Machine

open Config

namespace Work

/-- The region log (R459): an entry of 48 bytes per region of the active configuration. -/
def regionLog (w : Work) : List Byte :=
  let rs := sortBy (fun (a b : Region) => decide (a.typ < b.typ ∨ (a.typ = b.typ ∧ a.idx < b.idx))) w.d.ldr.regions
  rs.flatMap (fun r =>
    let rec_ := wordsBytes ([r.typ + 0x10000, r.len, r.idx, r.ver] ++ r.words)
    wordsBytes [r.typ + 0x10000 * r.idx, r.ver] ++ sha256 rec_ ++ wordsBytes [0, 0])

/-- The model log (R459): an entry of 40 bytes per loaded model. -/
def modelLog (w : Work) : List Byte :=
  let rs := sortBy (fun (a b : Region) => decide (a.idx < b.idx)) (w.d.ldr.regions.filter (fun r => r.typ == 9))
  rs.flatMap (fun r => wordsBytes ([r.idx + 0x10000 * bits (wd r.words 3) 16 16, 0] ++ (r.words.drop 4).take 8))

/-- The option-byte copy in force, or 64 zero bytes under defaults. -/
def obMeasured (w : Work) : List Byte :=
  if w.on Reg.RST_OB_DEFAULTS then List.replicate 64 0#8 else (List.range 64).map (fun k => BitVec.ofNat 8 (w.ob k))

/-- A measurement's value (R458). -/
def measurement (w : Work) (k : Nat) : List Byte :=
  match k with
  | 1 => sha256 bootRom
  | 2 => match w.d.sec.running with
    | some f => f.digest
    | none => sha256 []
  | 3 => sha256 w.obMeasured
  | 4 =>
    let active := [1, 2, 3, 4].filter (fun s => w.slotState s == 1)
    let moduli := active.flatMap (fun s => (List.range 12).flatMap (fun i => w.rowBytes (slotModRow s i)))
    ownerMeasure ([1, 2, 3, 4].map (fun s => w.slotState s)) moduli w.rollbackCounter w.debugLock w.profileLock
  | 5 => sha256 w.regionLog
  | 6 => sha256 w.modelLog
  | 7 => leBytes 1 (w.debugPolicy + 4 * w.rd Reg.SEC_DEBUG_UNLOCKED)
  | _ => sha256 w.d.sec.services.flatten

/-- A measurement's DMTF value type: 0 immutable ROM, 1 mutable firmware, 2 hardware configuration, 3 firmware configuration; bit 7 marks a value that is no
digest. -/
def measureType (k : Nat) : Nat := [0, 0, 1, 3, 3, 3, 1, 0x82, 1].getD k 1

/-- A measurement with its index and type. -/
def measureBlock (w : Work) (k : Nat) : Nat × Nat × List Byte := (k, measureType k, w.measurement k)

/-- A measurement block as SPDM 1.2 lays it out (PRESUMED, log entry 33). -/
def blockBytes (b : Nat × Nat × List Byte) : List Byte :=
  let n := b.2.2.length
  leBytes 1 b.1 ++ [1#8] ++ leBytes 2 (n + 3) ++ leBytes 1 b.2.1 ++ leBytes 2 n ++ b.2.2

/-! ### The SPDM responder (R456) -/

/-- Answer one request. -/
def spdm (w : Work) (f : Work → Work × SpdmAnswer) : Work :=
  let (w, a) := f (w.inc Reg.SEC_CNT_SPDM_REQ)
  w.setSec { w.d.sec with doe := a }

/-- n random bytes of the CTR_DRBG. -/
def randomBytes : Nat → Work → Work × List Byte
  | 0, w => (w, [])
  | n + 1, w =>
    let (w, v) := w.free 8
    let (w, bs) := randomBytes n w
    (w, BitVec.ofNat 8 v :: bs)

/-- GET_VERSION, GET_CAPABILITIES, NEGOTIATE_ALGORITHMS, GET_DIGESTS. -/
def getVersion (w : Work) : Work := w.spdm (fun w => (w, .version 1 2))
def getCapabilities (w : Work) : Work := w.spdm (fun w => (w, .capabilities true true true 4096))
def negotiateAlgorithms (w : Work) : Work := w.spdm (fun w => (w, .algorithms))
def getDigests (w : Work) : Work := w.spdm (fun w => (w, .digests (sha256 (certChain w.s0.otp.serial))))

/-- GET_CERTIFICATE of a slot (R457): a portion of the chain; slots other than 0 are not supported. -/
def getCertificate (w : Work) (slot offset len : Nat) : Work :=
  w.spdm (fun w =>
    let chain := certChain w.s0.otp.serial
    if slot ≠ 0 then (w, .unsupportedRequest)
    else if chain.length < offset then (w, .invalidRequest)
    else
      let portion := (chain.drop offset).take (min len 4096)
      (w, .certificate portion (chain.length - offset - portion.length)))

/-- A signature of the device identity key. -/
def sign (w : Work) (message : List Byte) : Work × List Byte :=
  ({ w with d := { w.d with fresh := w.d.fresh + 1 } }, rsaSign w.d.fresh message)

/-- CHALLENGE, answered with a signature over the requester's nonce. -/
def spdmChallenge (w : Work) (slot : Nat) (nonce : List Byte) : Work :=
  w.spdm (fun w =>
    if slot ≠ 0 then (w, .unsupportedRequest)
    else
      let (w, mine) := randomBytes 32 w
      let chain := sha256 (certChain w.s0.otp.serial)
      let (w, sig) := w.sign (nonce ++ chain ++ mine)
      (w, .challengeAuth chain mine sig))

/-- GET_MEASUREMENTS (R458): index 0 asks how many there are, 0xFF for all, and others for one; signed where asked. -/
def getMeasurements (w : Work) (slot index : Nat) (signed : Bool) (nonce : List Byte) : Work :=
  w.spdm (fun w =>
    if slot ≠ 0 then (w, .unsupportedRequest)
    else if 8 < index ∧ index ≠ 0xFF then (w, .invalidRequest)
    else
      let blocks := if index = 0 then [] else if index = 0xFF then (List.range 8).map (fun k => w.measureBlock (k + 1)) else [w.measureBlock index]
      if signed then
        let (w, mine) := randomBytes 32 w
        let (w, sig) := w.sign (nonce ++ blocks.flatMap blockBytes ++ mine)
        (w, .measurements 8 blocks mine sig)
      else (w, .measurements 8 blocks [] []))

/-- A request the responder does not support. -/
def unsupportedRequest (w : Work) : Work := w.spdm (fun w => (w, .unsupportedRequest))

/-- ATTEST (R459): the report is written to the buffer; the answer is (status, INFO). -/
def attest (w : Work) (report buf size : Nat) : Work × Nat × Nat :=
  let bs := match report with
    | 0 => certChain w.s0.otp.serial
    | 1 => (List.range 8).flatMap (fun k => blockBytes (w.measureBlock (k + 1)))
    | 2 => w.regionLog
    | 3 => w.modelLog
    | _ => encryptionCert w.s0.otp.serial
  if 4 < report then (w, stDescFormat, 0)
  else if size < bs.length then (w, stDescFormat, ceilDiv bs.length 64)
  else
    let (w, st) := w.writeAt uSecurity buf bs
    (w, st, if st = stOk then bs.length / 64 else 0)

end Work

end Sys2Proof.Machine
end

