-- ==== Sys2Proof/Machine/RegMap.lean ====
section
/-! DEFINITION. The register map: which field copies a register access covers, the values that fields show from state kept elsewhere, and
reads by offset (R6, R8, R24). -/

namespace Sys2Proof.Machine

open Config

/-- The fields of the 1 MiB block at an offset (R24). -/
def blockOf (off : Nat) : List Fld :=
  match off / 0x100000 with
  | 0 => Reg.blockId
  | 1 => Reg.blockPwr
  | 2 => Reg.blockQe
  | 3 => Reg.blockKs
  | 4 => Reg.blockIng
  | 5 => Reg.blockVis
  | 6 => Reg.blockAsh
  | 8 => Reg.blockQry
  | 9 => Reg.blockDdr
  | 10 => Reg.blockDrv
  | 11 => Reg.blockSaf
  | 12 => Reg.blockSec
  | 13 => Reg.blockCnt
  | 14 => Reg.blockTst
  | 15 => Reg.blockClm
  | _ => []

/-- A copy of a field. -/
structure FldAt where
  f : Fld
  i : Nat
  j : Nat
  deriving DecidableEq, Repr

/-- The key of a copy. -/
def FldAt.key (x : FldAt) : Nat := x.f.key x.i x.j

/-- The copies of a field that bits lo to hi - 1 of the register file meet, at a given second index. -/
def Fld.copiesAt (f : Fld) (lo hi j : Nat) : List FldAt :=
  let base := (f.off + f.s2 * j) * 8 + f.lo
  let top := if f.s1 = 0 then 0 else (hi - 1 - base) / (8 * f.s1)
  ([top - 1, top].eraseDups.map (fun i => (⟨f, i, j⟩ : FldAt))).filter (fun x => decide (x.i < max 1 f.n1 ∧ x.key < hi ∧ lo < x.key + f.wid))

/-- The copies of a field that bits lo to hi - 1 of the register file meet. -/
def Fld.copies (f : Fld) (lo hi : Nat) : List FldAt :=
  if f.n2 ≤ 1 then f.copiesAt lo hi 0 else (List.range f.n2).flatMap (fun j => f.copiesAt lo hi j)

/-- The field copies that n bytes at an offset cover. -/
def fieldsAt (off n : Nat) : List FldAt := (blockOf off).flatMap (fun f => f.copies (8 * off) (8 * (off + n)))

/-! ### The counter directory (R488) -/

/-- The fields that are counters: those that a read clears in the blocks whose tables mark their counters as captured. -/
def counterFields : List Fld :=
  (Reg.blockPwr ++ Reg.blockQe ++ Reg.blockKs ++ Reg.blockIng ++ Reg.blockVis ++ Reg.blockAsh ++ Reg.blockQry ++ Reg.blockDdr ++ Reg.blockDrv ++
    Reg.blockSaf ++ Reg.blockSec).filter (fun f => f.acc == .rc)

/-- A directory entry: a unit's ID in [7:0] and in [31:8] the offset of a counter's live register; 0 where the index is unused (R488). The spec does not list
the directory, and its 1,536 indices are fewer than the counters its tables mark: which counter an index names is free (DESIGN CHOICE, log entry 54). -/
def dirEntry (i : Nat) : Nat :=
  let (k, a, b, u) := counterPick i
  match counterFields[k]? with
  | none => 0
  | some f => low 8 u + 256 * (f.off + f.s1 * (a % max 1 f.n1) + f.s2 * (b % max 1 f.n2))

namespace Work

/-- What the registers of a graph show of its resident versions (R59, R82). -/
def graphField (w : Work) (f : Fld) (i : Nat) : Option Nat :=
  let act := w.activeGraph i
  let olds := w.d.ldr.graphs.filter (fun g => g.gid == i && !g.active)
  let last := olds.foldl (fun (b : Option GVer) g => match b with | none => some g | some x => if x.seq < g.seq then some g else b) none
  if f = Reg.KSG_FLAG_BASE then some ((act.map GVer.base).getD 0)
  else if f = Reg.KSG_ACTIVE_VERSION then some ((act.map GVer.ver).getD 0)
  else if f = Reg.KSG_ACTIVE_INSTANCES then some (w.liveRuns.countP (fun r => r.gid == i))
  else if f = Reg.KSG_OLD_FLAG_BASE then some ((last.map GVer.base).getD 0)
  else if f = Reg.KSG_OLD_VALID then some (b2n last.isSome)
  else if f = Reg.KSG_OLD_POOLS then some (min 255 olds.length)
  else none

/-- The level of a GPIO ball: what GPIO_OUT or a timer drives it to, else its level from outside (R43, R501). -/
def pinLevel (w : Work) (p : Nat) : Bool :=
  match (w.region 4 0).find? (fun e => bits e 7 0 == p && bits e 15 8 != 0) with
  | some e => if bits e 15 8 = 2 then bitAt (w.rd Reg.CLM_GPIO_OUT) p
    else if bits e 15 8 = 3 then bitAt w.d.balls.timers (bits e 23 16)
    else bitAt w.d.balls.gpio p
  | none => bitAt w.d.balls.gpio p

/-- Does a unit exist and serve (R30)? A spare core does once it is in use; a retired LPDDR5X channel no longer does (R31). -/
def present (w : Work) (u : Nat) : Bool :=
  unitKnown u && !w.isRetired u && (decide (0x43 < u) || (w.logicalOf u).isSome) &&
    !(decide (uChannel 0 ≤ u ∧ u < uChannel 32) && w.on Reg.CH_RETIRED (u - uChannel 0))

/-- Course-buffer segments held by enabled contexts (R228): those of the rings their SOURCE nodes name. -/
def segmentsHeld (w : Work) : Nat :=
  ((List.range 64).map (fun c => if w.ctxEnabled c then (match w.sourceOf c with
    | some (g, n) => bits (wd (g.params n) 2) 24 16
    | none => 0) else 0)).sum

/-- A field whose value is kept elsewhere in the state: the identity block, the OTP's mirror, counts of what is resident, ball levels (R30, R31, R373,
R464, R504). -/
def liveValue (w : Work) (x : FldAt) : Option Nat :=
  let o := w.s0.otp
  match x.f.off / 0x100000 with
  | 0 =>
    if x.f = Reg.ID_PART_NUMBER then some o.partNumber
    else if x.f = Reg.ID_STEPPING then some o.stepping
    else if x.f = Reg.ID_DRAM_GIB then some o.dramGib
    else if x.f = Reg.ID_SERIAL then some o.serial
    else if x.f = Reg.ID_CHANNELS_ACTIVE then some (32 - (List.range 32).countP (fun ch => w.on Reg.CH_RETIRED ch))
    else if x.f = Reg.ID_UNIT_PRESENT then some (pack ((List.range 32).map (fun k => (b2n (w.present (32 * x.i + k)), k, 1))))
    else none
  | 3 =>
    if x.f = Reg.KS_BS_ACTIVE_BUILD then some w.d.ldr.buildId
    else if x.f = Reg.KS_BS_PENDING_CONTEXTS then some w.d.ldr.pendingCtx.length
    else if x.f = Reg.KS_BS_OLD_REGIONS then some (2 * (w.d.ldr.graphs.filter (fun g => !g.active)).length + (w.d.ldr.models.filter (fun m => !m.active)).length)
    else if x.f = Reg.KS_NODE_INSTANCES then some ((w.liveRuns.map (fun r => r.nodes.length)).sum)
    else if x.f = Reg.KS_GRAPH_INSTANCES then some w.liveRuns.length
    else w.graphField x.f x.i
  | 5 => if x.f = Reg.CB_IN_USE then some w.segmentsHeld else none
  | 9 => if x.f = Reg.DDR_TOP then some w.ddrTop else none
  | 12 =>
    if x.f = Reg.SEC_NEXT_SEQ then some w.nextSeq
    else if x.f = Reg.SEC_ROLLBACK_COUNTER then some w.rollbackCounter
    else if x.f = Reg.SEC_SLOT_STATE then some (pack ([1, 2, 3, 4].map (fun k => (w.slotState k, 2 * (k - 1), 2))))
    else if x.f = Reg.SEC_OB_COPIES_USED then some w.obCopies
    else if x.f = Reg.SEC_DEBUG_LOCK then some (b2n w.debugLock)
    else if x.f = Reg.SEC_PROFILE_LOCK then some (b2n w.profileLock)
    else if x.f = Reg.SEC_EFFECTIVE_POLICY then some w.debugPolicy
    else none
  | 13 => if x.f = Reg.CNT_DIR then some (dirEntry x.i) else none
  | 15 =>
    if x.f = Reg.CLM_GPIO_IN then some (pack ((List.range 32).map (fun p => (b2n (w.pinLevel p), p, 1))))
    else none
  | _ => none

/-- The value a field copy holds now. -/
def valueOf (w : Work) (x : FldAt) : Nat := (w.liveValue x).getD (w.rd x.f x.i x.j)

/-- The n bytes of registers at an offset as they stand, write-only fields reading as zero (R8). -/
def regBits (w : Work) (off n : Nat) : Nat :=
  let k0 := 8 * off
  low (8 * n) ((fieldsAt off n).foldl (fun acc x =>
    let v := if x.f.acc = .wo then 0 else low x.f.wid (w.valueOf x)
    acc + (if k0 ≤ x.key then v * 2 ^ (x.key - k0) else v / 2 ^ (k0 - x.key))) 0)

end Work

end Sys2Proof.Machine
end

