-- ==== Sys2Proof/Machine/Wrapper.lean ====
section
/-! DEFINITION. Unit reset and the isolation wrappers (R430, R431). -/

namespace Sys2Proof.Machine

open Config

/-- Units that may be reset (R430). -/
def resettable (u : Nat) : Bool :=
  decide (u ≤ 0x43 ∨ (0x50 ≤ u ∧ u ≤ 0x5D) ∨ (0x60 ≤ u ∧ u ≤ 0x77) ∨ (0x81 ≤ u ∧ u ≤ 0x84))

namespace Work

/-- The registers of a unit, as the range of register offsets they lie in. -/
def unitRegs (w : Work) (u : Nat) : Nat × Nat :=
  let at_ := fun (base size i : Nat) => (base + size * i, base + size * i + size)
  if u ≤ 0x43 then (match w.logicalOf u with | some c => at_ 0x600000 0x4000 c | none => (0, 0))
  else if u ≤ 0x53 then at_ 0x502000 0x400 (u - 0x50)
  else if u ≤ 0x57 then at_ 0x503000 0x400 (u - 0x54)
  else if u ≤ 0x59 then at_ 0x504000 0x400 (u - 0x58)
  else if u ≤ 0x5B then at_ 0x505000 0x400 (u - 0x5A)
  else if u ≤ 0x5D then at_ 0x506000 0x400 (u - 0x5C)
  else if u ≤ 0x63 then at_ 0x481000 0x100 (u - 0x60)
  else if u ≤ 0x73 then at_ 0x401000 0x100 (u - 0x64)
  else if u ≤ 0x75 then at_ 0x50C000 0x400 (u - 0x74)
  else if u ≤ 0x77 then at_ 0x50A000 0x400 (u - 0x76)
  else if u ≤ 0x84 then at_ 0xA02000 0x100 (u - 0x81)
  else (0, 0)

/-- Registers a unit reset leaves: what names a core's physical core and its spare rows, and a Dravig port's ENABLE (R258, R300, R429). -/
def unitKeeps (f : Fld) : Bool := f == Reg.ASH_PHYS_ID || f == Reg.TS_SPARES_LEFT || f == Reg.DPORT_ENABLE

/-- A unit's registers and counters take their reset values. -/
def clearUnitRegs (w : Work) (u : Nat) : Work :=
  let (lo, hi) := w.unitRegs u
  let kept := (blockOf lo).flatMap (fun f => if unitKeeps f then f.copies (8 * lo) (8 * hi) else [])
  let vals := kept.map (fun x => (x, w.rd x.f x.i x.j))
  let w := { w with d := { w.d with regs := w.d.regs.filter (fun e => decide (e.1 < 8 * lo ∨ 8 * hi ≤ e.1)) } }
  vals.foldl (fun w v => w.wr v.1.f v.2 v.1.i v.1.j) w

/-- A sounding under way on a unit is abandoned without a mismatch and becomes due again from its old start (R431, R475). -/
def abandonSounding (w : Work) (u : Nat) : Work :=
  match slotOfUnit u with
  | none => w
  | some s =>
    let x := w.snd s
    if !x.running then w else (w.setSnd s { x with running := false, again := false, waiting := [] }).wr Reg.SLOT_LAST_START_TB x.prev s

/-- The work a unit holds ends with UNIT_RESET_ABORT (R431). -/
def dropWork (w : Work) (u : Nat) : Work :=
  let cut := fun (w : Work) (k : Nat) => if (w.eng k).run = 0 then w else (w.cutNode (w.eng k).run (w.eng k).node stUnitResetAbort).freeUnit k
  if u ≤ 0x43 then
    match w.logicalOf u with
    | some c => if w.coreBusy c then ((w.abortTask c stUnitResetAbort 0 0).setCore c { (w.abortTask c stUnitResetAbort 0 0).core c with queue := [] }).settleTask c else w
    | none => w
  else if 0x60 ≤ u ∧ u ≤ 0x63 then
    let w := (List.range 64).foldl (fun w c =>
      let x := w.ispCtx c
      if x.pipe = u - 0x60 + 1 then (w.cutNode x.run x.node stUnitResetAbort).setIspCtx c { x with pipe := 0, lines := [] } else w) w
    { w with d := { w.d with isp := { w.d.isp with pipes := tdel w.d.isp.pipes (u - 0x60) } } }
  else if 0x64 ≤ u ∧ u ≤ 0x73 then w.portDisable (u - 0x64)
  else if u = 0x76 ∨ u = 0x77 then
    match w.chainOf u with
    | some c =>
      if c.kind = 2 then (w.setChain u none).freeUnit u else w.endChain u c stUnitResetAbort 0
    | none => w
  else cut (cut w u) (u + 0x100)

/-- A unit reset starts (R430, R431): its checks, then the wrapper's first steps; a Dravig port takes a link reset (R429). none leaves the completion to the
release. -/
def unitReset (w : Work) (u : Nat) (job : Option JobRef) : Work × Option Nat :=
  if !unitKnown u then (w, some stDescReserved)
  else if !resettable u ∨ w.isRetired u then (w, some stDescFormat)
  else if 0x81 ≤ u then (w.linkReset (u - 0x81), some stOk)
  else
    let w := (w.dropWork u).abandonSounding u
    (w.setSec { w.d.sec with resets := w.d.sec.resets ++ [⟨u, job, w.now⟩] }, none)

/-- Reset releases and the wrapper reopens (R431): the unit's registers are at their reset values and the job completes; a unit that was retired meanwhile
answers ENGINE_RETIRED (R430). -/
def unitResetRelease (w : Work) (u : Nat) : Work :=
  match w.d.sec.resets.find? (fun r => r.unit == u) with
  | none => w
  | some r =>
    let w := w.setSec { w.d.sec with resets := w.d.sec.resets.filter (fun x => x.unit != u) }
    let gone := w.isRetired u
    let w := if gone then w else w.clearUnitRegs u
    match r.job with
    | some j => w.complete j (if gone then stEngineRetired else stOk)
    | none => w

end Work

end Sys2Proof.Machine
end

