-- ==== Sys2Proof/Machine/Observe.lean ====
section
/-! DEFINITION. Counter snapshots, trace marks, resource claims, GPIO, general timers and boundary scan (R488 to R506). -/

namespace Sys2Proof.Machine

open Config

namespace Work

/-! ### Snapshots (R488 to R492) -/

/-- The value of the counter a directory entry names: unit ID and register offset; a core's by its physical core, a retired one's as it last stood (R488,
R258). -/
def counterAt (w : Work) (dir : Nat) : Nat :=
  let u := dir % 256
  let off := dir / 256
  let at_ := fun (o : Nat) => match (fieldsAt o 4).find? (fun x => x.f.acc == .rc && x.f.off + x.f.s1 * x.i + x.f.s2 * x.j == o) with
    | some x => low x.f.wid (w.valueOf x)
    | none => 0
  if dir = 0 then 0
  else if u ≤ 0x43 then
    let o := off % 0x4000
    match w.logicalOf u with
    | some c => at_ (0x600000 + 0x4000 * c + o)
    | none =>
      let rc := coreFields.filter (fun f => decide (f.acc = .rc))
      match rc.findIdx? (fun f => f.off % 0x4000 == o) with
      | some k => (tget [] w.d.saf.lostCounters u).getD k 0
      | none => 0
  else at_ off

/-- A COUNTER_SNAP job starts (R489): a refusal, or the set's header shows it pending. -/
def counterSnap (w : Work) (job : Option JobRef) (id tb : Nat) : Work × Option Nat :=
  let k := id % 4
  if tb < w.now + 1000 ∨ w.now + 1000000000000 < tb ∨ w.d.sec.snaps.any (fun s => s.set == k) then (w, some stDescFormat)
  else
    let w := (((w.wr Reg.SNAP_ID id k).wr Reg.SNAP_TB tb k).wr Reg.SNAP_PENDING 1 k).wr Reg.SNAP_VALID 0 k
    (w.setSec { w.d.sec with snaps := w.d.sec.snaps.filter (fun s => s.set != k) ++ [⟨k, job, false, []⟩] }, none)

/-- At SNAP_TB every unit copies its counters (R490, R491). -/
def snapCapture (w : Work) (k : Nat) : Work :=
  match w.d.sec.snaps.find? (fun s => s.set == k && !s.taken) with
  | none => w
  | some s =>
    let w := w.advance (w.rd Reg.SNAP_TB k)
    let asleep := pack ((List.range 15).map (fun d => (b2n (let v := w.rd Reg.DOM_STATE d; v == 1 || v == 2), d, 1)))
    let w := w.wr Reg.SNAP_DOMAINS_ASLEEP asleep k
    let counts := (List.range 1536).map (fun i => w.counterAt (dirEntry i))
    w.setSec { w.d.sec with snaps := w.d.sec.snaps.map (fun x => if x.set == k then { s with taken := true, counts := counts } else x) }

/-- Every shadow is visible: the header shows it and the job completes (R492). -/
def snapComplete (w : Work) (k : Nat) : Work :=
  match w.d.sec.snaps.find? (fun s => s.set == k && s.taken) with
  | none => w
  | some s =>
    let w := s.counts.zipIdx.foldl (fun (w : Work) (c : Nat × Nat) => w.wr Reg.SNAP_SHADOW c.1 k c.2) w
    let w := ((w.wr Reg.SNAP_CAPTURE_END_TB w.now k).wr Reg.SNAP_VALID 1 k).wr Reg.SNAP_PENDING 0 k
    let w := w.setSec { w.d.sec with snaps := w.d.sec.snaps.filter (fun x => x.set != k) }
    match s.job with
    | some j => w.complete j stOk
    | none => w

/-- CNT_TRACE_MARK is written (R495). -/
def traceMark (w : Work) (req v : Nat) : Work := w.trace req 0x20 v 0 0

/-! ### Claims (R499 to R501) -/

/-- How many resources a class has (R499). -/
def claimCount (cls : Nat) : Nat := match cls with | 1 => 32 | 2 => 16 | 3 => 16 | 4 => 384 | _ => 0

/-- Resources named but never claimable: the SAFE_FAULT_N pins and the sounding timer. -/
def neverClaimable (cls i : Nat) : Bool := (cls == 1 && (i == 32 || i == 33)) || (cls == 2 && i == 16)

/-- A requester's own result. -/
def claimResult (w : Work) (req st holder : Nat) : Work := w.setSec { w.d.sec with claims := tset (0, 0xFF) w.d.sec.claims req (st, holder) }

/-- A CLM_REQ write that claims or releases (R500). -/
def claim (w : Work) (req cls i gid : Nat) (release : Bool) : Work :=
  if neverClaimable cls i then w.claimResult req stClaimDenied uSafety
  else if claimCount cls ≤ i then w.claimResult req stDescFormat 0xFF
  else
    let (fh, fs, fg) := holdFields cls
    let h := w.rd fh i
    if release then
      if h = req ∧ !w.on fs i then (((w.wr fh 0xFF i).wr fg 0xFFFF i).wr fs 0 i).claimResult req stOk 0xFF
      else w.claimResult req stClaimDenied h
    else if h = 0xFF then (((w.wr fh req i).wr fg gid i).wr fs 0 i).claimResult req stOk req
    else w.claimResult req stClaimDenied h

/-- A write to a resource's control register by a unit that does not hold it (R501). -/
def notHolder (w : Work) (req holder : Nat) : Work := w.err req stClaimDenied holder

/-- GPIO_OUT is written (R501): only pins the writer holds change; another named, by a bit that would change, is logged once. -/
def gpioOut (w : Work) (req v : Nat) : Work :=
  let old := w.rd Reg.CLM_GPIO_OUT
  let mine := fun (p : Nat) => w.rd Reg.HOLDG_HOLDER p == req
  let new := pack ((List.range 32).map (fun p => (b2n (bitAt (if mine p then v else old) p), p, 1)))
  let w := w.wr Reg.CLM_GPIO_OUT new
  match (List.range 32).find? (fun p => !mine p && bitAt v p != bitAt old p) with
  | some p => w.notHolder req (w.rd Reg.HOLDG_HOLDER p)
  | none => w

/-- The timer that a pin captures for (R43). -/
def captureTimer (w : Work) (p : Nat) : Option Nat :=
  ((w.region 4 0).find? (fun e => bits e 7 0 == p && bits e 15 8 == 4)).map (fun e => bits e 23 16)

/-- Does some pin capture for a timer (R43)? -/
def captures (w : Work) (t : Nat) : Bool := (List.range 32).any (fun p => w.captureTimer p == some t)

/-- An input edge reaches a timer in capture mode. -/
def timerCapture (w : Work) (t : Nat) : Work :=
  if !w.on Reg.TMR_ENABLE t ∨ w.rd Reg.TMR_MODE t ≠ 2 ∨ !w.captures t then w
  else (w.wr Reg.TMR_CAPTURE_TB w.now t).offer (low 8 (ioSource 1)) 2 (w.rd Reg.TMR_CHANNEL t) 1

/-- A GPIO ball's level changes from outside (R43): on an input it is offered to Mason as an interrupt (R336), a wake pin at its WAKE_LEVEL is a wake source
(R417), and a capture input is an edge for its timer (R504). -/
def gpioEdge (w : Work) (p : Nat) (level : Bool) : Work :=
  let b := w.d.balls
  if bitAt b.gpio p = level then w
  else
    let w := { w with d := { w.d with balls := { b with gpio := bxor b.gpio (2 ^ p) } } }
    let w := match w.captureTimer p with
      | some t => w.timerCapture t
      | none => w
    let w := if w.wakePin p then w.wakeSource 3 else w
    match (w.region 4 0).find? (fun e => bits e 7 0 == p && (bits e 15 8 == 1 || bits e 15 8 == 5)) with
    | some _ => w.offer (low 8 (ioSource 0)) 2 (low 12 (gpioChannel p)) 1
    | none => w

/-! ### General timers (R504, by the edge rule of R120) -/

/-- A timer starts afresh when it is enabled. -/
def timerEnable (w : Work) (t : Nat) : Work := { w with d := { w.d with balls := { w.d.balls with next := tdel w.d.balls.next t } } }

/-- A timer expires: its Mason event, and its output; what level an expiry drives there is open. -/
def timerExpiry (w : Work) (t : Nat) : Work :=
  let mode := w.rd Reg.TMR_MODE t
  if !w.on Reg.TMR_ENABLE t ∨ 1 < mode then w
  else
    let due := match tget 0 w.d.balls.next t with
      | 0 => max (w.rd Reg.TMR_START_TB t) w.now
      | n + 1 => n
    let w := w.advance due
    let (w, out) := w.free 1
    let b := w.d.balls
    let b := { b with timers := if bitAt b.timers t = (out == 1) then b.timers else bxor b.timers (2 ^ t) }
    let b := if mode = 1 then { b with next := tset 0 b.next t (due + w.rd Reg.TMR_PERIOD_NS t + 1) } else { b with next := tdel b.next t }
    let w := { w with d := { w.d with balls := b } }
    let w := if mode = 0 then w.wr Reg.TMR_ENABLE 0 t else w
    w.offer (low 8 (ioSource 1)) 2 (w.rd Reg.TMR_CHANNEL t) 1

/-! ### Boundary scan (R505, R506) -/

/-- Load an instruction; dr is what its data register captures. -/
def tapLoad (w : Work) (i : TapIns) (dr : Nat) : Work := { w with d := { w.d with tap := { w.d.tap with ins := i, dr := dr } } }

/-- The scan takes every ball: the links lose theirs (R506). -/
def scanBalls (w : Work) (i : TapIns) : Work :=
  let w := { w with d := { w.d with tap := { w.d.tap with ins := i, held := true } } }
  (w.setHif { w.d.hif with linkUp := false, linkL1 := false }).upTo 4 (fun w p => w.linkDrop p)

/-- The balls go back to their functional drivers. -/
def freeBalls (w : Work) : Work := { w with d := { w.d with tap := { w.d.tap with held := false } } }

/-- BYPASS, IDCODE and SAMPLE/PRELOAD do not disturb the device; one that follows an instruction that held the balls gives them back. -/
def tapBypass (w : Work) : Work := (w.tapLoad .bypass 0).freeBalls
def tapIdcode (w : Work) : Work :=
  (w.tapLoad .idcode (pack [(1, 0, 1), (jtagMaker, 1, 11), (w.s0.otp.partNumber, 12, 16), (w.s0.otp.stepping, 28, 4)])).freeBalls
def tapSample (w : Work) (preload : List Bool) : Work :=
  let (w, v) := w.free 64
  let w := (w.tapLoad .samplePreload v).freeBalls
  { w with d := { w.d with tap := { w.d.tap with preload := preload } } }
def tapExtest (w : Work) : Work := w.scanBalls .extest
def tapExtestPulse (w : Work) : Work := w.scanBalls .extestPulse
def tapExtestTrain (w : Work) : Work := w.scanBalls .extestTrain
def tapClamp (w : Work) : Work := w.scanBalls .clamp
def tapHighz (w : Work) : Work := w.scanBalls .highz

/-- A TAP reset returns the balls to their functional drivers; the links then retrain. -/
def tapReset (w : Work) : Work := (w.tapLoad .reset 0).freeBalls

/-- A PLL loses lock (R465): the safety manager detects it, and of the reactions to a clock fault SAFE_DEGRADED is the one that applies. R481 gives it no
CAUSE_INFO. -/
def pllLoss (w : Work) : Work :=
  let (w, info) := w.free 32
  (w.err uSafety stOk).degrade uSafety stSafeDegraded info

end Work

end Sys2Proof.Machine
end

