-- ==== Sys2Proof/Machine/Replay.lean ====
section
/-! DEFINITION. Replay sources: descriptor rings, frame starts and lines read from memory (R116 to R118). -/

namespace Sys2Proof.Machine

open Config

namespace Work

/-- Is a context enabled with REPLAY = 1 (R42)? -/
def replayCtx (w : Work) (c : Nat) : Bool := w.ctxEnabled c && bitAt (wd (w.ctxMap c) 0) 1

/-- A write of ING_RPL_TAIL (R116). -/
def replayTail (w : Work) (c v : Nat) : Work := w.wr Reg.ING_RPL_TAIL v c

/-- HEAD moves past a descriptor. -/
def replayAdvance (w : Work) (c : Nat) : Work := w.wr Reg.ING_RPL_HEAD ((w.rd Reg.ING_RPL_HEAD c + 1) % w.rd Reg.ING_RPL_RING_SIZE c) c

/-- The status of a descriptor (R118). -/
def replayCheck (w : Work) (c : Nat) (ws : List Nat) : Nat :=
  let lines := bits (wd ws 5) 31 16
  let bytes := bits (wd ws 5) 15 0
  if bits (wd ws 0) 31 4 ≠ 0 ∨ bits (wd ws 9) 31 1 ≠ 0 ∨ (List.range 6).any (fun k => wd ws (10 + k) != 0) then stDescReserved
  else if bits (wd ws 0) 3 0 ≠ 1 ∨ lines = 0 ∨ 16384 < lines ∨ bytes = 0 ∨ wd64 ws 2 % 64 ≠ 0 ∨ wd ws 4 % 64 ≠ 0 ∨
      (w.ctxIn c).replayFc.any (fun f => decide (wd ws 1 ≤ f)) then stDescFormat
  else if (List.range lines).all (fun i => w.assigned (wd64 ws 2 + i * wd ws 4) bytes) then stOk else stBoundFault

/-- The engine fetches and checks the descriptor at HEAD (R116, R118). -/
def replayFetch (w : Work) (c : Nat) : Work :=
  if !w.replayCtx c || w.rd Reg.ING_RPL_HEAD c == w.rd Reg.ING_RPL_TAIL c || (w.ctxIn c).replay.isSome then w
  else
    let (w, st, bs) := w.readAt uKeystone (w.rd Reg.ING_RPL_RING_BASE c + 64 * w.rd Reg.ING_RPL_HEAD c) 64
    let ws := bytesWords bs
    let st := if st ≠ stOk then st else w.replayCheck c ws
    if st ≠ stOk then ((w.inc Reg.ING_RPL_CNT_REFUSED c).err uKeystone st c).replayAdvance c
    else
      let sof := wd64 ws 6
      let w := if sof ≠ 0 ∧ sof < w.now then w.inc Reg.ING_RPL_CNT_LATE_START c else w
      w.setCtxIn c { w.ctxIn c with replay := some ⟨ws, sof, false, 0⟩ }

/-- A replay frame start is issued (R117). -/
def replayStart (w : Work) (c : Nat) : Work :=
  match (w.ctxIn c).replay with
  | none => w
  | some r =>
    if r.started ∨ (r.sofTb = 0 ∧ (w.ctxIn c).frame.isSome) then w
    else
      let w := w.advance r.sofTb
      if w.rd Reg.CTX_WIDTH c = 0 ∨ w.rd Reg.CTX_HEIGHT c = 0 then
        (w.setCtxIn c { w.ctxIn c with replay := none, replayFc := some (wd r.words 1), replayEnd := w.now }).replayAdvance c
      else
        let w := w.contextStart c (bits (wd (w.ctxMap c) 0) 29 24) (wd r.words 1) false
        w.setCtxIn c { w.ctxIn c with replay := some { r with sofTb := if r.sofTb = 0 then w.now else r.sofTb, started := true } }

/-- A replay line falls due and is presented, late ns after that where memory delivers it later (R117). After the last line the frame
ends, unless NO_EOF leaves that to the end-of-frame timeout (R116). -/
def replayLine (w : Work) (c late : Nat) : Work :=
  match (w.ctxIn c).replay with
  | none => w
  | some r =>
    if !r.started then w
    else
      let w := w.advance (r.sofTb + (r.line + 1) * wd r.words 8 + late)
      let w := if late = 0 then w else w.inc Reg.ING_RPL_CNT_STALL c
      let (w, st, bs) := w.readAt uKeystone (wd64 r.words 2 + r.line * wd r.words 4) (bits (wd r.words 5) 15 0)
      let w := if (w.ctxIn c).frame.isSome then w.takeLine c bs (decide (st = stOk)) false
        else if (w.ctxIn c).timedOut then w.inc Reg.ING_CTX_CNT_LATE_LINES c else w
      let next := r.line + 1
      if next < bits (wd r.words 5) 31 16 then w.setCtxIn c { w.ctxIn c with replay := some { r with line := next } }
      else
        let w := if bitAt (wd r.words 9) 0 then w
          else if (w.ctxIn c).frame.isNone && (w.ctxIn c).timedOut then w.inc Reg.ING_CTX_CNT_LATE_LINES c
          else w.endFrame c
        (w.setCtxIn c { w.ctxIn c with replay := none, replayFc := some (wd r.words 1), replayEnd := w.now }).replayAdvance c

end Work

end Sys2Proof.Machine
end

