-- ==== Sys2Proof/Machine/Registers.lean ====
section
/-! DEFINITION. Register accesses (R6 to R10, R25): who may write what, ranges and reserved encodings, the writes that start something, and
reads with their effects. -/

namespace Sys2Proof.Machine

open Config

/-- A requester's unit ID (R18). -/
def unitOf : Requester → Nat
  | .host => uHost
  | .pair n => uPair n.val
  | .security => uSecurity
  | .safety => uSafety

/-- The host or a control pair, who may write what software owns (R421, R438, R464, R486). -/
def ownOf : Requester → Bool
  | .host => true
  | .pair _ => true
  | .security => false
  | .safety => false

namespace Work

/-! ### Who may write (R25) -/

/-- May a requester write the register at an offset (R333, R343, R344, R384, R421, R438, R441, R464, R486, R502)? -/
def mayWrite (u off : Nat) : Bool :=
  let host := u == uHost
  let pair := decide (0x7A ≤ u ∧ u ≤ 0x7D)
  match off / 0x100000 with
  | 1 => if off = 0x104010 then host || pair else if 0x104000 ≤ off then true else if off = 0x100008 then host || pair else !host
  | 3 =>
    if off < 0x380000 then true
    else if off < 0x390000 then off == 0x380028 || !host
    else if off < 0x3A0000 then u == 0x7A + (off - 0x390000) / 0x1000
    else if off < 0x3B0000 then pair
    else true
  | 9 => !host
  | 11 => if off = 0xB00024 then host || pair else !host && !pair
  | 12 => host || pair
  | 13 => if off < 0xD0001C then host || pair else true
  | _ => true

/-- In RECOVERY without firmware the host reaches only the identity and PWR_ blocks, the apertures and the image registers (R437). -/
def answers (w : Work) (u off : Nat) : Bool :=
  u != uHost || w.rd Reg.RST_BOOT_STATE != 5 || w.d.sec.running.isSome ||
    decide (off < 0x200000 ∨ (0x200280 ≤ off ∧ off < 0x2002A0) ∨ (0xC01000 ≤ off ∧ off < 0xC01020))

/-! ### Ranges and reserved encodings (R10) -/

/-- The parameter, ledger and ISP state areas, by their bases and the ISP stride, as (base, bytes). -/
def areaList (param ledger isp stride : Nat) : List (Nat × Nat) :=
  ([(param, 0x800000), (ledger, 0x100000), (isp, 64 * stride)].filter (fun (x : Nat × Nat) => x.1 != 0 && x.2 != 0))

/-- No two of the three areas overlap (R125). -/
def areasApart (param ledger isp stride : Nat) : Bool :=
  let l := areaList param ledger isp stride
  (List.range l.length).all (fun i => (List.range i).all (fun j =>
    let a := l.getD i (0, 0)
    let b := l.getD j (0, 0)
    decide (a.1 + a.2 ≤ b.1 ∨ b.1 + b.2 ≤ a.1)))

/-- A new value of KS_LEDGER_BASE, ING_PARAM_BASE, ISP_STATE_BASE or ISP_STATE_STRIDE (R82, R125, R152). -/
def areaOk (w : Work) (f : Fld) (v : Nat) : Bool :=
  let param := if f = Reg.ING_PARAM_BASE then v else w.rd Reg.ING_PARAM_BASE
  let ledger := if f = Reg.KS_LEDGER_BASE then v else w.rd Reg.KS_LEDGER_BASE
  let isp := if f = Reg.ISP_STATE_BASE then v else w.rd Reg.ISP_STATE_BASE
  let stride := if f = Reg.ISP_STATE_STRIDE then v else w.rd Reg.ISP_STATE_STRIDE
  areasApart param ledger isp stride &&
    (if f = Reg.KS_LEDGER_BASE then v % 0x100000 == 0 && w.inRole 4 v 0x100000
     else if f = Reg.ING_PARAM_BASE then v % 0x20000 == 0 && w.inRole 4 v 0x800000
     else isp % 0x10000 == 0 && stride % 0x10000 == 0 && w.inRole 4 isp (max 1 (64 * stride)))

/-- The units whose timeout comparators COLLIDE reaches (R498); the watchdog's is the safety manager's. -/
def collideTarget (u : Nat) : Bool :=
  decide (u ≤ 0x43 ∨ (0x64 ≤ u ∧ u ≤ 0x73) ∨ u = uKeystone ∨ u = uMason ∨ (0x80 ≤ u ∧ u ≤ 0x84) ∨ u = uSafety)

/-- May the field copy take a new value that differs from the one it holds? -/
def fieldOk (w : Work) (x : FldAt) (v : Nat) : Bool :=
  let f := x.f
  let within := fun (lo hi : Nat) => decide (lo ≤ v ∧ v ≤ hi)
  match f.off / 0x100000 with
  | 1 =>
    if f = Reg.PWR_UP_HOLD_MS then within 1 1024
    else if f = Reg.RST_WDT_TIMEOUT_MS then within 10 65535
    else true
  | 2 =>
    if f = Reg.QE_STALL_DEFAULT_MS ∨ f = Reg.QE_ARB_WEIGHT then v != 0
    else if f = Reg.QE_ERR_LOG2 then within 6 16
    else if f = Reg.QE_TB_ROLE then v != 3
    else if f = Reg.QE_TB_PTM_PERIOD_US then within 100 65535
    else if f = Reg.QE_BAR2_AP then
      let size := 2 ^ w.d.hif.bar2Log2 / 4
      let a := v / size * size
      w.inDram a 1 || inQuarry a 1 || inTiles a 1 || (inPhysTiles a 1 && w.on Reg.SEC_DEBUG_UNLOCKED)
    else true
  | 3 =>
    if f = Reg.KS_DISPATCH_EN then v == 0 || w.areaOk Reg.KS_LEDGER_BASE (w.rd Reg.KS_LEDGER_BASE)
    else if f = Reg.KS_LEDGER_COPY then v == 1 || w.rd Reg.SAF_TARGET != 1
    else if f = Reg.KS_LEDGER_BASE then w.areaOk f v
    else if f = Reg.MSN_OWNER_QUOTA then within 0 4096
    else true
  | 4 =>
    if f = Reg.ING_PARAM_BASE ∨ f = Reg.ISP_STATE_BASE ∨ f = Reg.ISP_STATE_STRIDE then w.areaOk f v
    else if f = Reg.PORT_PHY then !w.on Reg.PORT_ENABLE x.i && decide (v < 2)
    else if f = Reg.PORT_LANES then !w.on Reg.PORT_ENABLE x.i && decide (v < 3)
    else if f = Reg.PORT_LINE_NUM_EN ∨ f = Reg.PORT_LANE_ORDER ∨ f = Reg.PORT_LANE_INVERT then !w.on Reg.PORT_ENABLE x.i
    else if f = Reg.CTX_WIDTH ∨ f = Reg.CTX_HEIGHT then within 16 16384
    else if f = Reg.CTX_MOSAIC_PERIOD ∨ f = Reg.CTX_DPCM then v != 3
    else if f = Reg.CTX_EOF_TIMEOUT_NS then v != 0
    else if f = Reg.ING_RPL_RING_BASE then v % 64 == 0
    else if f = Reg.ING_RPL_RING_SIZE then within 16 4096 && (List.range 13).any (fun k => v == 2 ^ k)
    else if f = Reg.SYNC_PERIOD_NS then decide (1000 ≤ v)
    else if f = Reg.I3C_SPEED then decide (v < 6)
    else true
  | 5 => if f = Reg.CP_COPY_JOB_PRIO then v != 63 else true
  | 8 => if f = Reg.QRY_SCRUB_INTERVAL then decide (256 ≤ v) else true
  | 9 =>
    if f = Reg.DDR_CAP_ISP then within 10 100
    else if f = Reg.DDR_W1 ∨ f = Reg.DDR_W2 ∨ f = Reg.DDR_W3 then v != 0
    else if f = Reg.DDR_AGE_LIMIT_NS then within 100 4095
    else if f = Reg.DDR_COPY_SHARE then within 10 90
    else if f = Reg.DDR_TRACK_INTERVAL_MS then within 10 65535
    else if f = Reg.DDR_UE_LIMIT then within 1 255
    else true
  | 10 =>
    if f = Reg.DRV_ALT_PARENT then decide (v < 5)
    else if f = Reg.DRV_SYNC_PERIOD_US then within 10 65535
    else if f = Reg.WIN_BASE ∨ f = Reg.WIN_SIZE then !w.on Reg.WIN_OPEN x.i
    else true
  | 12 =>
    if f = Reg.SEC_IMG_ADDR ∨ f = Reg.SEC_CC_ADDR then v % 64 == 0 && (w.inDram v 1 || inQuarry v 1)
    else if f = Reg.SEC_IMG_LEN then decide (v ≤ 0x4000000)
    else if f = Reg.SEC_DBG_TOKEN_ADDR then v % 64 == 0
    else true
  | 13 =>
    if f = Reg.CNT_TRACE_LOG2 then within 8 24
    else if f = Reg.CNT_TRACE_BASE then v % 64 == 0 && w.inDram v 1
    else true
  | 14 => if f = Reg.TST_TARGET then collideTarget v else true
  | 15 =>
    if f = Reg.TMR_MODE then v != 3
    else if f = Reg.TMR_PERIOD_NS then decide (1000 ≤ v) || w.rd Reg.TMR_MODE x.i != 1
    else true
  | _ => true

/-! ### Writing one register -/

/-- A field's value with the bits an access covers replaced: k is the field's lowest bit, lo and n the access's lowest bit and width. -/
def mergeBits (old k wid lo n data : Nat) : Nat :=
  let a := max k lo
  let b := min (k + wid) (lo + n)
  low (a - k) old + low (b - a) (data / 2 ^ (a - lo)) * 2 ^ (a - k) + old / 2 ^ (b - k) * 2 ^ (b - k)

/-- Fields whose new value starts something; they are applied after the register's other fields. -/
def hooked (f : Fld) : Bool :=
  f == Reg.PORT_ENABLE || f == Reg.DPORT_ENABLE || f == Reg.WIN_OPEN || f == Reg.TMR_ENABLE || f == Reg.TST_EN || f == Reg.QE_TB_ROLE ||
    f == Reg.MSN_ENABLE || f == Reg.ING_RPL_TAIL || f == Reg.SYNC_ENABLE || f == Reg.I3C_ENABLE

/-- Give a field copy a value it may take. -/
def putField (w : Work) (u : Nat) (x : FldAt) (v : Nat) : Work :=
  if x.f = Reg.PORT_ENABLE then if v = 1 then w.portEnable x.i else w.portDisable x.i
  else if x.f = Reg.DPORT_ENABLE then w.drvPortEnable x.i (v == 1)
  else if x.f = Reg.WIN_OPEN then if v = 1 then w.windowOpen u x.i else w.windowClose x.i
  else if x.f = Reg.ING_RPL_TAIL then w.replayTail x.i v
  else if x.f = Reg.TMR_ENABLE then
    let w' := w.wr x.f v x.i
    if v = 1 ∧ !w.on Reg.TMR_ENABLE x.i then w'.timerEnable x.i else w'
  else if x.f = Reg.TST_EN then
    let w' := w.wr x.f v
    if v ≠ 0 ∧ w.rd x.f = 0 then { w' with d := { w'.d with tst := w.rd Reg.TST_SEED } } else w'
  else if x.f = Reg.QE_TB_ROLE then
    let w' := w.wr x.f v
    if v = w.rd x.f then w'
    else if v = 1 then w'.setHif { w'.d.hif with ptmGood := 0, ptmDone := false, ptmOut := false, ptmNext := 0 }
    else if v = 2 then w'.setDrv { w'.d.drv with syncGood := 0, syncDone := false, syncOut := false, syncNext := 0 }
    else w'
  else if x.f = Reg.SYNC_ENABLE ∧ v = 0 then w.fsyncOff x.i
  else if x.f = Reg.I3C_ENABLE ∧ v = 1 then w.i3cEnable x.i
  else if x.f = Reg.MSN_ENABLE then (w.wr x.f v).reschedule
  else w.wr x.f v x.i x.j

/-- Apply a write's bits to one field copy, by its type (R8); the flag tells whether a value was turned away. -/
def applyField (w : Work) (u lo n data : Nat) (x : FldAt) : Work × Bool :=
  let old := low x.f.wid (w.valueOf x)
  let v := mergeBits old x.key x.f.wid lo n data
  let plain := fun (_ : Unit) => if v != old && !w.fieldOk x v then (w, true) else (w.putField u x v, false)
  match x.f.acc with
  | .rw =>
    if x.f = Reg.DOM_HOLD ∧ x.i = 0 then (w, false) else plain ()
  | .rwl => if w.on Reg.MSN_OWNER_LOCK then (w, false) else plain ()
  | .rw1 =>
    if w.d.locked1.contains x.key then (w, false)
    else
      let w := if x.f = Reg.RST_WDT_EN then (if v = 1 then w.wdtArm else w) else w.wr x.f v x.i x.j
      ({ w with d := { w.d with locked1 := x.key :: w.d.locked1 } }, false)
  | .w1c => (w.wr x.f (Nat.land old (bxor (mergeBits 0 x.key x.f.wid lo n data) (2 ^ x.f.wid - 1))) x.i x.j, false)
  | .w1s => (w.wr x.f (Nat.lor old (mergeBits 0 x.key x.f.wid lo n data)) x.i x.j, false)
  | _ => (w, false)

/-- The fields of an access in the order they are applied. -/
def writeOrder (l : List FldAt) : List FldAt :=
  let rwl := l.filter (fun x => x.f.acc == .rwl)
  let rest := l.filter (fun x => x.f.acc != .rwl)
  rwl ++ rest.filter (fun x => !hooked x.f) ++ rest.filter (fun x => hooked x.f)

/-- A write of the plain fields at an offset; one that turns a value away is logged once. -/
def writeFields (w : Work) (u off n data : Nat) : Work :=
  let (w, bad) := (writeOrder (fieldsAt off n)).foldl (fun (acc : Work × Bool) x =>
    let (w, b) := acc.1.applyField u (8 * off) (8 * n) data x
    (w, acc.2 || b)) (w, false)
  if bad then w.log u else w

/-! ### Registers with effects of their own -/

/-- Is the register that starts at an 8-byte offset 64 bits wide? -/
def isWide (off : Nat) : Bool :=
  (fieldsAt off 8).any (fun x => x.f.off + x.f.s1 * x.i + x.f.s2 * x.j == off && decide (32 < x.f.lo + x.f.wid))

/-- Is it of type WO (R6)? -/
def isWo (off : Nat) : Bool := (fieldsAt off 8).any (fun x => x.f.acc == .wo)

/-- The placement registers (R391): a torus of at most 192 devices with the device inside it, written while no port is up. -/
def placeDevice (w : Work) (u data : Nat) : Work :=
  if (List.range 4).any (fun p => w.rd Reg.DPORT_STATE p != dpDown && w.rd Reg.DPORT_STATE p != dpOut) then w.log u
  else
    let sizeOk := fun (v : Nat) => decide (1 ≤ v ∧ v ≤ 16)
    let x := if sizeOk (bits data 4 0) then bits data 4 0 else w.rd Reg.DRV_X_SIZE
    let y := if sizeOk (bits data 9 5) then bits data 9 5 else w.rd Reg.DRV_Y_SIZE
    let w := if sizeOk (bits data 4 0) && sizeOk (bits data 9 5) then w else w.log u
    let mx := bits data 13 10
    let my := bits data 17 14
    if 192 < x * y ∨ x ≤ mx ∨ y ≤ my then w.err u stDeviceIdLimit
    else
      let w := (((w.wr Reg.DRV_X_SIZE x).wr Reg.DRV_Y_SIZE y).wr Reg.DRV_MY_X mx).wr Reg.DRV_MY_Y my
      (w.wr Reg.DRV_DEVICE_ID (my * x + mx)).wr Reg.DRV_ID_VALID 1

/-- A pair's command (R333), by its OP. -/
def masonCommand (w : Work) (p cmd : Nat) : Work :=
  let a : MsnCmd := ⟨bits cmd 31 16, bits cmd 37 32, bits cmd 41 38, bitAt cmd 42, bits cmd 15 8 + bits cmd 63 43, (w.pair p).arg⟩
  match bits cmd 7 0 with
  | 1 => w.msnCreate p a
  | 2 => w.msnExit p a
  | 3 => w.msnYield p a
  | 4 => w.msnWait p a
  | 5 => w.msnSleep p a
  | 6 => w.msnSignal p a
  | 7 => w.msnSetPrio p a
  | 8 => w.msnSetAffinity p a
  | 9 => w.msnSuspend p a
  | 10 => w.msnResume p a
  | 11 => w.msnBind p a
  | 12 => w.msnWaitFlag p a
  | 13 => w.msnKill p a
  | _ => w.answer p stDescFormat

/-- SEC_IMG_CMD (R438). -/
def imageCommand (w : Work) (u cmd : Nat) : Work :=
  match cmd with
  | 1 => w.imgBoot u true
  | 2 => w.stageUpdate u true
  | 3 => w.handOver u true
  | 4 => w.programNor u true
  | _ => w.log u

/-- SEC_CC_GO (R447): the command's OP is what its words at SEC_CC_ADDR say. -/
def cornerstoneGo (w : Work) (u : Nat) : Work :=
  w.cornerstone (ccOp (bytesWords (w.fetch (w.rd Reg.SEC_CC_ADDR) 64))) u true

/-- SEC_DBG_CMD (R461, R462). -/
def debugCommand (w : Work) (u cmd : Nat) : Work :=
  match cmd with
  | 1 => w.debugChallenge u true
  | 2 => w.debugUnlock u true
  | _ => w.log u

/-- The claim holder of a frame-sync generator's or a timer's registers, where the offset is one (R120, R501). -/
def claimedBy (w : Work) (off : Nat) : Option Nat :=
  if 0x405000 ≤ off ∧ off < 0x405200 then some (w.rd Reg.HOLDF_HOLDER ((off - 0x405000) / 0x20))
  else if 0xF03000 ≤ off ∧ off < 0xF03200 then some (w.rd Reg.HOLDT_HOLDER ((off - 0xF03000) / 0x20))
  else none

/-- A write to a register that does more than set its fields, of its whole width; none for any other register. -/
def special (w : Work) (u off data : Nat) : Option Work :=
  let at_ := fun (base stride count : Nat) =>
    if base ≤ off ∧ (off - base) % stride = 0 ∧ (off - base) / stride < count then some ((off - base) / stride) else none
  match off / 0x100000 with
  | 1 =>
    if off = 0x100008 then some (w.levelRequest u true data)
    else if off = 0x104010 then some (w.chipResetRequest u true (bitAt data 0) (bits data 31 16))
    else if off = 0x10401C then some w.wdtKick
    else none
  | 2 =>
    if off = 0x200008 then some (w.negotiate (low 32 data) (data / 2 ^ 32))
    else if off = 0x200018 then some (w.aqEnable u (bitAt data 0))
    else if off = 0x200060 then some (w.errRingBase u data)
    else match at_ 0x201000 4 256, at_ 0x210004 64 8192 with
      | some t, _ => some (w.fenceWrite t data)
      | none, some q => some (if bitAt data 0 then w.queueResume q else w)
      | none, none => none
  | 3 =>
    if off = 0x380028 then some (w.hostSignal u (bits data 15 0) (bits data 31 16))
    else match at_ 0x340008 16 16384, at_ 0x390000 0x1000 4, at_ 0x390008 0x1000 4, at_ 0x390010 0x1000 4 with
      | some f, _, _, _ => some (w.hostFlagSignal f (bits data 23 0) (bits data 47 32))
      | none, some p, _, _ => some (if bitAt data 1 then w.pairDrain p else w.pairReturn p)
      | none, none, some p, _ => some (w.masonCommand p data)
      | none, none, none, some p => some (w.setPair p { w.pair p with arg := data })
      | none, none, none, none => none
  | 4 => (at_ 0x405408 0x40 8).map (fun m => w.i3cPush m u data)
  | 9 => if off = 0x90002C then some (w.retrainNow u true (bits data 7 0)) else none
  | 10 => if off = 0xA00008 then some (w.placeDevice u data) else none
  | 11 => if off = 0xB00024 then some (w.forceSound u (bits data 6 0)) else none
  | 12 =>
    if off = 0xC01010 then some (if w.on Reg.SEC_IMG_BUSY then w.log u else w.imageCommand u (bits data 2 0))
    else if 0xC02000 ≤ off ∧ w.on Reg.SEC_CC_BUSY then some (w.log u)
    else if off = 0xC02010 then some (if bitAt data 0 then w.cornerstoneGo u else w)
    else if off = 0xC03028 then some (w.debugCommand u (bits data 1 0))
    else none
  | 13 => if off = 0xD00020 then some (w.traceMark u data) else none
  | 15 =>
    if off = 0xF00010 then some (w.claim u (bits data 7 0) (bits data 31 16) (bits data 47 32) (bitAt data 8))
    else if off = 0xF02004 then some (w.gpioOut u data)
    else none
  | _ => none

/-- The 64-bit registers of `special` that take a write of one half, with what stands in the other. -/
def halfSpecial (w : Work) (u off data : Nat) : Option Work :=
  if off = 0x20000C then some (w.negotiate (w.regBits 0x200008 4) data)
  else if off = 0x200060 ∨ off = 0x200064 then
    let old := w.rd Reg.QE_ERR_RING_BASE
    some (w.errRingBase u (if off = 0x200060 then old / 2 ^ 32 * 2 ^ 32 + data else low 32 old + 2 ^ 32 * data))
  else none

/-- A write of one register, or of a half of a 64-bit one. -/
def writeOne (w : Work) (u off n data : Nat) : Work :=
  let base := off / 8 * 8
  let wide := isWide base
  let reg := if wide then base else off
  if (fieldsAt off n).isEmpty then w
  else if !mayWrite u reg then w.log u
  else if wide && n == 4 && isWo base then w.log u
  else match w.claimedBy off with
    | some h => if h = u then w.writeFields u off n data else w.notHolder u h
    | none =>
      match if wide && n == 4 then w.halfSpecial u off data else w.special u off data with
      | some w' => w'
      | none => w.writeFields u off n data

/-! ### Accesses -/

/-- The doorbells of BAR0 (R347, R352). -/
def doorbell (w : Work) (off data : Nat) : Work :=
  if off % 8 ≠ 0 then w
  else if off < 0x1010000 then w.submissionDoorbell ((off - 0x1000000) / 8) data
  else if 0x1100000 ≤ off ∧ off < 0x1110000 then w.completionDoorbell ((off - 0x1100000) / 8) data
  else w

/-- A register write of n bytes (R6, R25). -/
def regWrite (w : Work) (u off n data : Nat) : Work :=
  if (n ≠ 4 ∧ n ≠ 8) ∨ off % n ≠ 0 then w.log u
  else if 0x1000000 ≤ off then if u = uHost then w.doorbell off data else w
  else if off / 0x100000 = 14 ∧ !w.on Reg.SEC_DEBUG_UNLOCKED then w.log u
  else if !w.answers u off then w
  else if n = 8 ∧ !isWide off then (w.writeOne u off 4 (low 32 data)).writeOne u (off + 4) 4 (low 32 (data / 2 ^ 32))
  else w.writeOne u off n (low (8 * n) data)

/-- A field copy's value as a requester reads it, with what the read does. -/
def readField (w : Work) (u : Nat) (x : FldAt) : Work × Nat :=
  if x.f = Reg.ING_I3C_RDATA then w.i3cRead x.i
  else if x.f = Reg.CLM_STATUS then (w, (tget (0, 0xFF) w.d.sec.claims u).1)
  else if x.f = Reg.CLM_HOLDER then (w, (tget (0, 0xFF) w.d.sec.claims u).2)
  else
    let v := low x.f.wid (w.valueOf x)
    match x.f.acc with
    | .wo => (w, 0)
    | .rc => (w.wr x.f 0 x.i x.j, v)
    | _ => (w, v)

/-- Read n bytes of registers with the effects of the fields they cover. -/
def readFields (w : Work) (u off n : Nat) : Work × Nat :=
  let k0 := 8 * off
  let (w, v) := (fieldsAt off n).foldl (fun (acc : Work × Nat) x =>
    let (w, v) := acc.1.readField u x
    (w, acc.2 + (if k0 ≤ x.key then v * 2 ^ (x.key - k0) else v / 2 ^ (k0 - x.key)))) (w, 0)
  (w, low (8 * n) v)

/-- Replace a requester's high-half latch. -/
def setLatch (w : Work) (u : Nat) (x : Nat × Nat) : Work := { w with d := { w.d with latches := tset (0, 0) w.d.latches u x } }

/-- A register read of n bytes (R6 to R9): its value, and what it does. A latch that holds nothing is (0, 0). -/
def regRead (w : Work) (u off n : Nat) : Work × Nat :=
  let l := tget (0, 0) w.d.latches u
  let w := w.setLatch u (0, 0)
  if (n ≠ 4 ∧ n ≠ 8) ∨ off % n ≠ 0 ∨ 0x1000000 ≤ off then (w, 0)
  else if off / 0x100000 = 14 ∧ !w.on Reg.SEC_DEBUG_UNLOCKED then (w, 0)
  else if !w.answers u off then w.free (8 * n)
  else if n = 4 ∧ off % 8 = 0 ∧ isWide off then
    let (w, v) := w.readFields u off 8
    (w.setLatch u (off + 4, v / 2 ^ 32), low 32 v)
  else if n = 4 ∧ l.1 = off ∧ off ≠ 0 then (w, l.2)
  else w.readFields u off n

/-- The register read's value goes to its reader; of a tripped device only the identity and PWR_ blocks answer (R420). -/
def regReadOut (w : Work) (u off n : Nat) : Work :=
  if w.on Reg.PWR_TRIPPED ∧ 0x200000 ≤ off then w.setHif { w.d.hif with readUr := true }
  else
    let (w, v) := w.regRead u off n
    w.setHif { w.d.hif with readData := v, readUr := false }

/-- A register write as it comes from a requester; of a tripped device only the identity and PWR_ blocks answer (R420). -/
def regWriteIn (w : Work) (u off n data : Nat) : Work :=
  if w.on Reg.PWR_TRIPPED ∧ 0x200000 ≤ off then w else w.regWrite u off n data

/-- What a write of the register at an offset does, where the requester may write it (R25, R437). -/
def asWriter (w : Work) (u off : Nat) (f : Work → Work) : Work :=
  if !w.answers u off then w
  else if !mayWrite u off then w.log u
  else match w.claimedBy off with
    | some h => if h = u then f w else w.notHolder u h
    | none => f w

end Work

end Sys2Proof.Machine
end

