-- ==== Sys2Proof/Machine/Gate.lean ====
section
/-! DEFINITION. What stops commands from acting: a thermal trip and a stopped reference clock; and what follows as a command ends: the retirements the safety
manager has been asked for, and the trace records accepted (DEDUCED, log entry 35). -/

namespace Sys2Proof.Machine

namespace Work

/-- What a command leaves to do when it ends: HOST_EMIT nodes whose completion has left its queue are done (R55), frames that no instance takes any more are given up
(R58), cores asked to retire leave service (R301), trace records accepted go to the ring (R494), and the idle timers of domains at work restart (R412). -/
def settle (w : Work) : Work := w.settleEmits.expirePartners.retireAsked.traceDrain.idleTimers

/-- The effect of a command of domains 0 and 12 and of what needs no clock but REFCLK25: nothing once that has stopped (R518). -/
def whileOn (w : Work) (f : Work → Work) : Work := if w.d.pwr.refStopped then w else (f w).settle

/-- The effect of a command of any other domain: nothing while the device is tripped either (R420). -/
def whileClocked (w : Work) (f : Work → Work) : Work := if w.on Reg.PWR_TRIPPED then w else w.whileOn f

/-- A rail fault; of a device without REFCLK25 only the rails of the power-on reset detector act (R514, R515, R518). -/
def railFaultIn (w : Work) (r : Rail) (words : List Nat) : Work :=
  if w.d.pwr.refStopped then (match r with
    | .vddAo | .vddio | .vdd1 => w.powerOn
    | _ => w)
  else w.railFault r words

end Work

/-- Run the effect of a command of a domain that a thermal trip stops. -/
def State.act (s : State) (f : Work → Work) : State := s.run (fun w => w.whileClocked f)

/-- Run the effect of a command of domains 0 and 12. -/
def State.actOn (s : State) (f : Work → Work) : State := s.run (fun w => w.whileOn f)

end Sys2Proof.Machine
end

