-- ==== Sys2Proof/Machine/CmdAshlar.lean ====
section
/-! DEFINITION. What each command does: tasks of the ashlar cores. -/

namespace Sys2Proof.Machine

/-- TASK_LAUNCH (R253): A task starts on a core 48 V-cycles after dispatch and copies its ODT and program. -/
def execTaskLaunch (c : Fin 64) (s : State) : Host.Outcome State Fault Refusal :=
  .next (s.act fun w => w.unlessHeld (w.d.cores.getD c.val 0xFF) fun w => w.taskLaunch c.val)

/-- LAUNCH_COPY_DONE (R253): The launch copy ends and the task issues its first operation. -/
def execLaunchCopyDone (c : Fin 64) (s : State) : Host.Outcome State Fault Refusal :=
  .next (s.act fun w => w.unlessHeld (w.d.cores.getD c.val 0xFF) fun w => w.copyDone c.val)

/-- TILE_OP_COMPLETE (R283): An issued tile operation completes and its scoreboard entries retire; a ring link may have failed under its traffic (R15). -/
def execTileOpComplete (c : Fin 64) (unit : Fin 3) (ring : Option (Fin 4)) (s : State) : Host.Outcome State Fault Refusal :=
  .next (s.act fun w => w.unlessHeld (w.d.cores.getD c.val 0xFF) fun w => w.opComplete c.val unit.val (ring.map Fin.val))

/-- BROADCAST_TRANSFER_START (R247): A broadcast unit starts transfer n once every member has issued its operation n. -/
def execBroadcastTransferStart (c : Fin 64) (s : State) : Host.Outcome State Fault Refusal :=
  .next (s.act fun w => w.unlessHeld (w.d.cores.getD c.val 0xFF) fun w => w.bcastStart c.val)

/-- WAIT_LIMIT_EXPIRY (R256): A flag or broadcast stall reaches WAIT_LIMIT_NS and the task aborts with FLAG_TIMEOUT. -/
def execWaitLimitExpiry (c : Fin 64) (s : State) : Host.Outcome State Fault Refusal :=
  .next (s.act fun w => w.waitLimitExpiry c.val)

/-- INSTRUCTION_BUFFER_REFILLED (R230): A tile-program refill of the instruction buffer from the QUARRY segment ends and issue resumes. -/
def execInstructionBufferRefilled (c : Fin 64) (s : State) : Host.Outcome State Fault Refusal :=
  .next (s.act fun w => w.unlessHeld (w.d.cores.getD c.val 0xFF) fun w => w.bufferRefilled c.val)

end Sys2Proof.Machine
end

