-- ==== Sys2Proof/Machine/CmdBoot.lean ====
section
/-! DEFINITION. What each command does: resets and boot. -/

namespace Sys2Proof.Machine

/-- POWER_ON_RESET (R514): The on-die detector releases power-on reset once every rail is valid and boot begins. -/
def execPowerOnReset (s : State) : Host.Outcome State Fault Refusal :=
  .next (s.run fun w => w.powerOn)

/-- PERST_N (R423): PERST_N causes a chip reset. -/
def execPerstN (s : State) : Host.Outcome State Fault Refusal :=
  .next (s.actOn fun w => w.perstN)

/-- RAIL_FAULT (R515): A rail leaves its range while running and the device resets or reports a fault. -/
def execRailFault (rail : Rail) (words : List (BitVec 40)) (s : State) : Host.Outcome State Fault Refusal :=
  .next (s.run fun w => w.railFaultIn rail (words.map BitVec.toNat))

/-- REFCLK_STOP (R518): REFCLK25 stops and every domain stops. -/
def execRefclkStop (s : State) : Host.Outcome State Fault Refusal :=
  .next (s.run fun w => w.refclkStop)

/-- PWR_WDT_KICK (R427): A write kicks the watchdog. -/
def execPwrWdtKick (req : Requester) (s : State) : Host.Outcome State Fault Refusal :=
  .next (s.actOn fun w => w.asWriter (unitOf req) (0x10401C) fun w => w.wdtKick)

/-- WATCHDOG_EXPIRY (R427): The watchdog expires and causes a chip reset. -/
def execWatchdogExpiry (s : State) : Host.Outcome State Fault Refusal :=
  .next (s.actOn fun w => w.wdtExpiry)

/-- CHIP_RESET_REQUEST (R428): A PWR_RESET_CTRL write with CHIP and the key requests a chip reset. -/
def execChipResetRequest (req : Requester) (chip : Bool) (key : BitVec 16) (s : State) : Host.Outcome State Fault Refusal :=
  .next (s.actOn fun w => w.asWriter (unitOf req) (0x104010) fun w => w.chipResetRequest (unitOf req) true chip key.toNat)

/-- CHIP_RESET (R425): A chip reset puts DRAM in self-refresh, clears state and restarts boot. -/
def execChipReset (s : State) : Host.Outcome State Fault Refusal :=
  .next (s.actOn fun w => w.chipResetDue)

/-- PLL_LOCK (R435): The root PLL locks and boot continues with option bytes and ROM. -/
def execPllLock (s : State) : Host.Outcome State Fault Refusal :=
  .next (s.act fun w => w.pllLock)

/-- PCIE_LINK_UP (R435): PCIe link training completes. -/
def execPcieLinkUp (s : State) : Host.Outcome State Fault Refusal :=
  .next (s.actOn fun w => w.pcieLinkUp)

/-- LPDDR_TRAINING_DONE (R380): Boot training of the channels ends and failing channels are retired. -/
def execLpddrTrainingDone (failed : List Nat) (s : State) : Host.Outcome State Fault Refusal :=
  .next (s.act fun w => w.trainingDone failed)

/-- FIRMWARE_FETCHED (R435): The ROM finishes reading the firmware image from the NOR. -/
def execFirmwareFetched (answered : Bool) (s : State) : Host.Outcome State Fault Refusal :=
  .next (s.act fun w => w.firmwareFetched answered)

/-- FIRMWARE_VERIFIED (R434): The firmware image passes or fails its checks and the control pairs start or RECOVERY is entered. -/
def execFirmwareVerified (s : State) : Host.Outcome State Fault Refusal :=
  .next (s.act fun w => w.firmwareVerified)

/-- BOOT_BITSTREAM_FETCHED (R435): Firmware finishes fetching the boot bitstream from the NOR for loading. -/
def execBootBitstreamFetched (answered : Bool) (s : State) : Host.Outcome State Fault Refusal :=
  .next (s.act fun w => w.bootFetched answered)

/-- IMG_BOOT (R437): SEC_IMG_CMD 1 boots a host-placed firmware image in RECOVERY. -/
def execImgBoot (req : Requester) (s : State) : Host.Outcome State Fault Refusal :=
  .next (s.act fun w => w.asWriter (unitOf req) (0xC01010) fun w => w.imgBoot (unitOf req) true)

/-- STAGE_UPDATE (R439): SEC_IMG_CMD 2 copies and verifies an update image into bank B. -/
def execStageUpdate (req : Requester) (s : State) : Host.Outcome State Fault Refusal :=
  .next (s.act fun w => w.asWriter (unitOf req) (0xC01010) fun w => w.stageUpdate (unitOf req) true)

/-- HAND_OVER (R439): SEC_IMG_CMD 3 starts moving the control pairs to the staged firmware one at a time. -/
def execHandOver (req : Requester) (s : State) : Host.Outcome State Fault Refusal :=
  .next (s.act fun w => w.asWriter (unitOf req) (0xC01010) fun w => w.handOver (unitOf req) true)

/-- PAIR_HANDOVER_DONE (R439): The new kernel has started on a drained pair and the next pair drains. -/
def execPairHandoverDone (s : State) : Host.Outcome State Fault Refusal :=
  .next (s.act fun w => w.pairHandover)

/-- HANDOVER_TIMEOUT (R439): A new kernel fails to start on a pair within 100 ms and the pair returns to the old bank. -/
def execHandoverTimeout (reported : Option (BitVec 8)) (s : State) : Host.Outcome State Fault Refusal :=
  .next (s.act fun w => w.handoverTimeout (reported.map BitVec.toNat))

/-- PROGRAM_NOR (R438): SEC_IMG_CMD 4 writes a verified image to the NOR and reads it back. -/
def execProgramNor (req : Requester) (s : State) : Host.Outcome State Fault Refusal :=
  .next (s.act fun w => w.asWriter (unitOf req) (0xC01010) fun w => w.programNor (unitOf req) true)

/-- PLL_LOCK_LOSS (R465): A PLL loses lock and the safety manager detects it. -/
def execPllLockLoss (s : State) : Host.Outcome State Fault Refusal :=
  .next (s.actOn fun w => w.pllLoss)

end Sys2Proof.Machine
end

