-- ==== Sys2Proof/Machine/Jobs.lean ====
section
/-! DEFINITION. Jobs: when a checked job may start, what each opcode starts, and jobs given with their submission entries (R355, R357 to R361). -/

namespace Sys2Proof.Machine

open Config

namespace Work

/-- The oldest job of a queue that has not started, if every fetch before it has returned and no fence wait of the queue holds it (R355, R360). -/
def nextJob (w : Work) (q : Nat) : Option (Nat × BufEnt) :=
  if w.d.hif.fences.any (fun f => f.job.q == q) then none
  else
    let buf := (w.queue q).buf
    match buf.zipIdx.find? (fun (e : BufEnt × Nat) => !e.1.emit && (decide (e.1.st = .checked) || decide (e.1.st = .fetching))) with
    | some (e, k) => if e.st = .checked then some (k, e) else none
    | none => none

/-- Does the unit that runs a job accept it now (R355)? A copy needs a free engine, a load the loader, and a fence signal that every earlier job of the queue
has posted. -/
def accepts (w : Work) (q k : Nat) (e : BufEnt) : Bool :=
  match e.job.op with
  | 2 => w.copyFree
  | 3 | 5 => w.d.ldr.run.isNone && w.d.ldr.queue.isEmpty
  | 6 => bitAt (wd e.words 4) 8 || ((w.queue q).buf.take k).all (fun x => x.emit)
  | _ => true

/-- A job that ends as it starts. -/
def ends (_w : Work) (j : JobRef) (r : Work × Nat) : Work := r.1.complete j r.2

/-- Start a job by its opcode (R358). -/
def startJob (w : Work) (j : JobRef) (ws : List Nat) : Work :=
  let w4 := wd ws 4
  let opt := fun (r : Work × Option Nat) => match r.2 with
    | some st => r.1.complete j st
    | none => r.1
  match j.op with
  | 1 =>
    let gid := bits w4 15 0
    let c := bits w4 31 24
    match bits w4 17 16 with
    | 0 => w.ends j (w.graphBind gid c)
    | 1 => opt (w.graphTrigger j gid c)
    | _ => w.ends j (w.graphUnbind gid c)
  | 2 => w.copyJob j ws
  | 3 => w.loadStart ⟨some j, false, some (bits w4 9 0), 0, 0⟩
  | 4 => w.ends j (w.paramPost ((ws.drop 4).take 8))
  | 5 => w.loadStart ⟨some j, false, none, wd64 ws 6, w4⟩
  | 6 =>
    if bitAt w4 8 then w.fenceWait j (bits w4 7 0) (wd ws 5) (wd ws 6)
    else (w.fenceSignal (bits w4 7 0) (wd ws 5)).complete j stOk
  | 7 => opt (w.counterSnap (some j) (bits w4 15 0) (wd64 ws 6))
  | 0x40 => w.ends j (w.createQueue ws)
  | 0x41 =>
    let (w, st) := w.deleteQueue (bits w4 15 0) j
    if st = stOk then w else w.complete j st
  | 0x42 => let (w, st, info) := w.attest (bits w4 7 0) (wd64 ws 6) (wd ws 8); w.complete j st info
  | 0x43 => let (w, st, info) := w.otpRecordRead (bits w4 15 0) (wd64 ws 6) (wd ws 8); w.complete j st info
  | 0x44 => opt (w.unitReset (bits w4 7 0) (some j))
  | _ => w.complete j stDescFormat

/-- The next job of a queue starts, once its unit accepts it (R355). -/
def jobStart (w : Work) (q : Nat) : Work :=
  if w.rd Reg.Q_STATE q ≠ qActive then w
  else match w.nextJob q with
    | none => w
    | some (k, e) =>
      if !w.accepts q k e then w
      else
        let qq := w.queue q
        (w.setQueue q { qq with buf := qq.buf.set k { e with st := .started } }).startJob e.job e.words

/-- The words of a submission entry (R353). -/
def entryWords16 (w : Work) (h : JobHead) (op : Nat) (payload : List Nat) : List Nat :=
  [pack [(op, 0, 8), (w.rd Reg.QE_ACTIVE_GEN, 8, 4), (b2n h.noIrq, 12, 1)], low 32 h.tag, 0, 0] ++ (payload ++ List.replicate 12 0).take 12

/-- A job of a queue with its entry at hand: it is checked as R355 says, takes its place in the result buffer, and starts if it may (DESIGN CHOICE, log entry 34). -/
def submit (w : Work) (h : JobHead) (op : Nat) (payload : List Nat) : Work :=
  let qq := w.queue h.q
  if w.rd Reg.Q_STATE h.q ≠ qActive ∨ 256 ≤ qq.buf.length then w
  else
    let ws := w.entryWords16 h op payload
    let st := w.entryStatus h.q ws
    let e : BufEnt := ⟨false, ⟨h.q, low 32 h.tag, op, h.noIrq⟩, ws, w.rd Reg.Q_SQ_HEAD h.q, if st = stOk then .checked else .ready, st, 0, false, false, none, false⟩
    (w.setQueue h.q { qq with buf := qq.buf ++ [e] }).jobStart h.q

/-- A 64-bit payload field as its two words. -/
def lohi (v : Nat) : List Nat := [low 32 v, low 32 (v / 2 ^ 32)]

end Work

end Sys2Proof.Machine
end

