-- ==== Sys2Proof/Machine/CmdFrames.lean ====
section
/-! DEFINITION. What each command does: graph runs and frames from the sensors. -/

namespace Sys2Proof.Machine

/-- GRAPH_RUN_BIND (R359): GRAPH_RUN mode 0 binds a graph to a context from the next start-of-frame. -/
def execGraphRunBind (h : JobHead) (graph : BitVec 16) (context : BitVec 8) (s : State) : Host.Outcome State Fault Refusal :=
  .next (s.act fun w => w.submit h 1 [graph.toNat + 0 * 0x10000 + context.toNat * 0x1000000])

/-- GRAPH_RUN_TRIGGER (R359): GRAPH_RUN mode 1 instantiates a graph at job start, or ends with INSTANCE_BUSY. -/
def execGraphRunTrigger (h : JobHead) (graph : BitVec 16) (context : BitVec 8) (s : State) : Host.Outcome State Fault Refusal :=
  .next (s.act fun w => w.submit h 1 [graph.toNat + 1 * 0x10000 + context.toNat * 0x1000000])

/-- GRAPH_RUN_UNBIND (R359): GRAPH_RUN mode 2 removes the graph binding of a context from the next start-of-frame. -/
def execGraphRunUnbind (h : JobHead) (graph : BitVec 16) (context : BitVec 8) (s : State) : Host.Outcome State Fault Refusal :=
  .next (s.act fun w => w.submit h 1 [graph.toNat + 2 * 0x10000 + context.toNat * 0x1000000])

/-- FRAME_START_PACKET (R108): A CSI-2 frame start packet advances the context's extended frame counter, applies pending parameter sets and reaches the Keystone as start-of-frame. -/
def execFrameStartPacket (p : Fin 16) (vc : Fin 32) (n : BitVec 16) (s : State) : Host.Outcome State Fault Refusal :=
  .next (s.act fun w => w.csiPacket p.val vc.val (.frameStart n.toNat))

/-- INSTANTIATE (R65): The Keystone starts a queued instantiation in the lowest free slot and resets the slot's flags. -/
def execInstantiate (s : State) : Host.Outcome State Fault Refusal :=
  .next (s.act fun w => w.instantiate)

/-- INSTANTIATION_DONE (R65): Instantiation ends after 16 + NODE_COUNT + FLAGS_PER_INSTANCE V-cycles and nodes without inputs are dispatched. -/
def execInstantiationDone (s : State) : Host.Outcome State Fault Refusal :=
  .next (s.act fun w => w.instantiationDone)

/-- LONG_PACKET (R110): A CSI-2 long packet is routed to its context and its line is padded, cut or written to the course buffer. -/
def execLongPacket (p : Fin 16) (vc : Fin 32) (dt : Fin 64) (payload : List Byte) (crcOk : Bool) (s : State) : Host.Outcome State Fault Refusal :=
  .next (s.act fun w => w.csiPacket p.val vc.val (.long dt.val payload crcOk))

/-- LINE_START_PACKET (R109): A line start or line end short packet sets the line position from its line number. -/
def execLineStartPacket (p : Fin 16) (vc : Fin 32) (n : BitVec 16) (isEnd : Bool) (s : State) : Host.Outcome State Fault Refusal :=
  .next (s.act fun w => w.csiPacket p.val vc.val (if isEnd then .lineEnd n.toNat else .lineStart n.toNat))

/-- FRAME_END_PACKET (R110): A frame end packet closes the open frame, padding any missing lines. -/
def execFrameEndPacket (p : Fin 16) (vc : Fin 32) (n : BitVec 16) (s : State) : Host.Outcome State Fault Refusal :=
  .next (s.act fun w => w.csiPacket p.val vc.val (.frameEnd n.toNat))

/-- GENERIC_SHORT_PACKET (R105): A generic short packet is discarded and counted. -/
def execGenericShortPacket (p : Fin 16) (vc : Fin 32) (s : State) : Host.Outcome State Fault Refusal :=
  .next (s.act fun w => w.csiPacket p.val vc.val .generic)

/-- HEADER_ECC (R114): A packet with a header error is corrected and used, or discarded and charged to the last context as a padded line. -/
def execHeaderEcc (p : Fin 16) (fix : HeaderFix) (s : State) : Host.Outcome State Fault Refusal :=
  .next (s.act fun w => w.headerEcc p.val fix)

/-- EOF_TIMEOUT (R113): A frame still open at SOF_TB + EOF_TIMEOUT_NS is closed short with EOF_TIMEOUT set. -/
def execEofTimeout (c : Fin 64) (s : State) : Host.Outcome State Fault Refusal :=
  .next (s.act fun w => w.eofTimeout c.val)

end Sys2Proof.Machine
end

