-- ==== Sys2Proof/Machine/Bar.lean ====
section
/-! DEFINITION. The PCIe function beside its queues: BAR2 apertures, host reads that get no completion, and D3hot (R347 to R349, R367, R418). -/

namespace Sys2Proof.Machine

open Config

namespace Work

/-! ### BAR2 (R348, R349) -/

/-- A BAR2 aperture's size. -/
def apSize (w : Work) : Nat := 2 ^ w.d.hif.bar2Log2 / 4

/-- The device physical address a BAR2 offset reaches. -/
def bar2Addr (w : Work) (off : Nat) : Nat :=
  let n := off / w.apSize
  w.rd Reg.QE_BAR2_AP n / w.apSize * w.apSize + off % w.apSize

/-- A host read of n bytes through BAR2: its data; Unsupported Request, also of a tripped device (R420); or poisoned data. -/
def bar2Read (w : Work) (off n : Nat) : Work :=
  if 2 ^ w.d.hif.bar2Log2 < off + n ∨ w.on Reg.PWR_TRIPPED then w.setHif { w.d.hif with bar2Data := [], bar2Ur := true, bar2Ep := false }
  else
    let (w, st, bs) := w.readAt uHost (w.bar2Addr off) n
    w.setHif { w.d.hif with bar2Data := bs, bar2Ur := st != stOk && st != stEccUncorrectable, bar2Ep := st == stEccUncorrectable }

/-- A host write through BAR2; of a poisoned one, each 8-byte word it touches is stored poisoned (R367). -/
def bar2Write (w : Work) (off : Nat) (bs : List Byte) (poisoned : Bool) : Work :=
  if 2 ^ w.d.hif.bar2Log2 < off + bs.length ∨ bs = [] ∨ w.on Reg.PWR_TRIPPED then w
  else
    let a := w.bar2Addr off
    let (w, st) := w.writeAt uHost a bs
    let w := if poisoned then w.inc Reg.QE_CNT_POISON_IN else w
    if poisoned && st == stOk then
      ((List.range ((a + bs.length - 1) / 8 - a / 8 + 1)).foldl (fun w k => w.setPoison (w.storage ((a / 8 + k) * 8)) true) w).err uPcie stOk 0 a
    else w

/-! ### Host reads without a completion (R367) -/

/-- The reader ends with COMPLETION_TIMEOUT. -/
def completionTimeout (w : Work) (r : HostReader) : Work :=
  match r with
  | .queue q => w.entryFetched q .timeout
  | .loader => w.loaderTimeout
  | .copy second => w.chainTimeout (if second then 0x77 else 0x76)
  | .core c => w.loadTimeout c.val

/-- A bad TLP is discarded (R367); of a poisoned completion the data is poisoned to its reader, which acts as it does on poison (R298, R322, R355). -/
def tlpError (w : Work) (e : TlpError) (addr : Nat) : Work :=
  let told := w.setHif { w.d.hif with aer := w.d.hif.aer ++ [3] }
  match e with
  | .malformed | .poisonedBar0 => w.badTlp e addr
  | .poisonedCpl (.queue q) => told.entryFetched q .poisoned
  | .poisonedCpl .loader => told.loaderFails .poisoned
  | .poisonedCpl (.copy second) => (w.badTlp e addr).chainPoisoned (if second then 0x77 else 0x76)
  | .poisonedCpl (.core c) => (w.badTlp e addr).loadFails c.val stEccUncorrectable

/-! ### D3hot (R418) -/

/-- The function enters D3hot: the queue engine stops fetching and writes to the host are held. -/
def d3Entry (w : Work) : Work := if w.d.hif.d3hot then w else w.setHif { w.d.hif with d3hot := true, d3Since := w.now }

/-- The function returns to D0: held writes leave in order, and stall timeouts run on. -/
def d0Return (w : Work) : Work :=
  if !w.d.hif.d3hot then w
  else
    let t := w.now
    let w := w.d.hif.heldWrites.foldl (fun w x => w.put .host x.1 x.2) w
    let qs := w.d.hif.queues.map (fun (e : Nat × Queue) =>
      let s := w.rd Reg.QE_Q_STALL_TB e.1
      if s = 0 then e else (e.1, { e.2 with paused := e.2.paused + (t - max s w.d.hif.d3Since) }))
    w.setHif { w.d.hif with d3hot := false, heldWrites := [], queues := qs }

/-- Hot-join is not supported: the master NACKs the request, which changes nothing (R119). -/
def hotJoin (w : Work) (_master : Nat) : Work := w

end Work

end Sys2Proof.Machine
end

