-- ==== Sys2Proof/Machine/CmdHost.lean ====
section
/-! DEFINITION. What each command does: the host interface. -/

namespace Sys2Proof.Machine

/-- HOST_IF_NEGOTIATE (R366): A write of QE_HOST_IF_REQ selects the active host interface version. -/
def execHostIfNegotiate (req : Requester) (lowest highest : BitVec 32) (s : State) : Host.Outcome State Fault Refusal :=
  .next (s.act fun w => w.asWriter (unitOf req) (0x200008) fun w => w.negotiate lowest.toNat highest.toNat)

/-- AQ_ENABLE (R366): A write of AQ_ENABLE activates the admin queue when a version is valid. -/
def execAqEnable (req : Requester) (v : Bool) (s : State) : Host.Outcome State Fault Refusal :=
  .next (s.act fun w => w.asWriter (unitOf req) (0x200018) fun w => w.aqEnable (unitOf req) v)

/-- BAR2_READ (R349): A host read through a BAR2 aperture is served, refused or completed poisoned. -/
def execBar2Read (off : BitVec 40) (n : BitVec 13) (s : State) : Host.Outcome State Fault Refusal :=
  .next (s.actOn fun w => w.bar2Read off.toNat n.toNat)

/-- BAR2_WRITE (R349): A host write through a BAR2 aperture is applied, discarded or stored poisoned. -/
def execBar2Write (off : BitVec 40) (data : List Byte) (poisoned : Bool) (s : State) : Host.Outcome State Fault Refusal :=
  .next (s.actOn fun w => w.bar2Write off.toNat data poisoned)

/-- MALFORMED_TLP (R367): A TLP error that AER defines is discarded and reported. -/
def execMalformedTlp (e : TlpError) (addr : BitVec 64) (s : State) : Host.Outcome State Fault Refusal :=
  .next (s.actOn fun w => w.tlpError e addr.toNat)

/-- COMPLETION_TIMEOUT (R367): A device read of host memory gets no completion in time and its reader ends with COMPLETION_TIMEOUT. -/
def execCompletionTimeout (r : HostReader) (s : State) : Host.Outcome State Fault Refusal :=
  .next (s.act fun w => w.completionTimeout r)

/-- PTM_REQUEST (R368): Every PTM_PERIOD_US the device issues a PTM request. -/
def execPtmRequest (s : State) : Host.Outcome State Fault Refusal :=
  .next (s.actOn fun w => w.ptmRequest)

/-- PTM_RESPONSE (R368): A PTM exchange completes and TB is stepped or slewed toward master time. -/
def execPtmResponse (master : BitVec 64) (s : State) : Host.Outcome State Fault Refusal :=
  .next (s.actOn fun w => w.ptmResponse master.toNat)

/-- ERR_RING_BASE_WRITE (R369): An accepted write of QE_ERR_RING_BASE flushes records held on chip. -/
def execErrRingBaseWrite (req : Requester) (base : BitVec 64) (s : State) : Host.Outcome State Fault Refusal :=
  .next (s.act fun w => w.asWriter (unitOf req) (0x200060) fun w => w.errRingBase (unitOf req) base.toNat)

/-- ATTEST (R459): Writes an attestation report to a host buffer. -/
def execAttest (h : JobHead) (report : BitVec 8) (buf : BitVec 64) (bytes : BitVec 32) (s : State) : Host.Outcome State Fault Refusal :=
  .next (s.act fun w => w.submit h 0x42 ([report.toNat, 0] ++ Work.lohi buf.toNat ++ [bytes.toNat]))

/-- OTP_RECORD_READ (R452): Writes cornerstone change records to a buffer. -/
def execOtpRecordRead (h : JobHead) (first : BitVec 16) (buf : BitVec 64) (bytes : BitVec 32) (s : State) : Host.Outcome State Fault Refusal :=
  .next (s.act fun w => w.submit h 0x43 ([first.toNat, 0] ++ Work.lohi buf.toNat ++ [bytes.toNat]))

/-- COUNTER_SNAP (R489): Schedules a counter snapshot into a shadow set at SNAP_TB. -/
def execCounterSnap (h : JobHead) (id : BitVec 16) (tb : BitVec 64) (s : State) : Host.Outcome State Fault Refusal :=
  .next (s.act fun w => w.submit h 7 ([id.toNat, 0] ++ Work.lohi tb.toNat))

/-- SNAP_CAPTURE (R490): At SNAP_TB every unit copies its counters into shadows. -/
def execSnapCapture (k : Fin 4) (s : State) : Host.Outcome State Fault Refusal :=
  .next (s.act fun w => w.snapCapture k.val)

/-- SNAP_COMPLETE (R492): All shadows are visible, the set becomes VALID and the job completes. -/
def execSnapComplete (k : Fin 4) (s : State) : Host.Outcome State Fault Refusal :=
  .next (s.act fun w => w.snapComplete k.val)

/-- UNIT_RESET (R430): A UNIT_RESET job or safety request starts a unit's isolation wrapper sequence. -/
def execUnitReset (unit : BitVec 8) (job : Option JobHead) (s : State) : Host.Outcome State Fault Refusal :=
  .next (s.act fun w =>
    (match job with
    | some h => w.submit h 0x44 [unit.toNat]
    | none => (w.unitReset unit.toNat none).1))

/-- UNIT_RESET_RELEASE (R431): Reset releases, the wrapper reopens and the job completes. -/
def execUnitResetRelease (unit : BitVec 8) (s : State) : Host.Outcome State Fault Refusal :=
  .next (s.act fun w => w.unitResetRelease unit.toNat)

/-- HOT_RESET (R426): A PCIe hot reset clears host-facing state while the device keeps running. -/
def execHotReset (s : State) : Host.Outcome State Fault Refusal :=
  .next (s.actOn fun w => w.hostReset 2)

/-- FLR (R426): A function-level reset clears host-facing state while the device keeps running. -/
def execFlr (s : State) : Host.Outcome State Fault Refusal :=
  .next (s.actOn fun w => w.hostReset 3)

/-- D3HOT_ENTRY (R418): The function enters D3hot and holds every device write to the host. -/
def execD3hotEntry (s : State) : Host.Outcome State Fault Refusal :=
  .next (s.actOn fun w => w.d3Entry)

/-- D0_RETURN (R418): The function returns to D0 and held host writes leave in order. -/
def execD0Return (s : State) : Host.Outcome State Fault Refusal :=
  .next (s.actOn fun w => w.d0Return)

end Sys2Proof.Machine
end

