-- ==== Sys2Proof/Machine/CmdKeystone.lean ====
section
/-! DEFINITION. What each command does: the Keystone sequencer. -/

namespace Sys2Proof.Machine

/-- KS_FLAG_SIGNAL (R63): A 64-bit write to KS_FLAG_SIGNAL signals a joint flag with an increment and expected generation. -/
def execKsFlagSignal (req : Requester) (f : Fin 16384) (increment : BitVec 24) (generation : BitVec 16) (s : State) : Host.Outcome State Fault Refusal :=
  .next (s.act fun w => w.asWriter (unitOf req) (0x340008 + 16 * f.val) fun w => w.hostFlagSignal f.val increment.toNat generation.toNat)

/-- FLAG_SIGNAL_APPLY (R60): Signals reaching a joint flag are summed and applied if their generation matches, or dropped. -/
def execFlagSignalApply (f : Fin 16384) (n : Nat) (uncorrectable : Bool) (s : State) : Host.Outcome State Fault Refusal :=
  .next (s.act fun w => if uncorrectable then w.poisonFlag f.val else (w.flagApply f.val n).pyramidsTake)

/-- NODE_DISPATCH (R69): When a unit frees or a ready run appears, the Keystone picks the next node run by priority, deadline and age. -/
def execNodeDispatch (unit : BitVec 9) (s : State) : Host.Outcome State Fault Refusal :=
  .next (s.act fun w => w.nodeDispatch unit.toNat)

/-- NODE_COMPLETE (R55): A node run completes at the point its type defines, counted late if past its deadline. -/
def execNodeComplete (run node : Nat) (s : State) : Host.Outcome State Fault Refusal :=
  .next (s.act fun w => w.nodeComplete run node)

/-- WAIT_TIMEOUT (R72): A node's wait timeout fires and the run is skipped or cut, recorded with FLAG_TIMEOUT. -/
def execWaitTimeout (run node : Nat) (s : State) : Host.Outcome State Fault Refusal :=
  .next (s.act fun w => w.nodeTimeout run node)

/-- TIMEOUT_FILL_DONE (R73): The fill of a skipped or cut run's outputs is visible and the Keystone signals its output flags up to target. -/
def execTimeoutFillDone (run node : Nat) (s : State) : Host.Outcome State Fault Refusal :=
  .next (s.act fun w => w.fillDone run node)

/-- LEDGER_POINT (R76): An run reaches its ledger point and the Keystone writes one ledger entry per context in frame order. -/
def execLedgerPoint (run : Nat) (s : State) : Host.Outcome State Fault Refusal :=
  .next (s.act fun w => (w.tallyTiles run).ledgerPoint run)

/-- HOST_EMIT_POST (R77): A HOST_EMIT node, once its writes and ledger copies are visible, posts its emit completion. -/
def execHostEmitPost (run node : Nat) (s : State) : Host.Outcome State Fault Refusal :=
  .next (s.act fun w => w.hostEmitPost run node)

/-- INSTANCE_COMPLETE (R76): An run whose nodes are all done and entries visible releases its slot. -/
def execInstanceComplete (run : Nat) (s : State) : Host.Outcome State Fault Refusal :=
  .next (s.act fun w => w.instanceComplete run)

/-- SEAL_ZERO_DONE (R455): Zeroing of a sealed slab ends and the slab is released. -/
def execSealZeroDone (slab : Fin 36) (s : State) : Host.Outcome State Fault Refusal :=
  .next (s.act fun w => w.sealZeroDone slab.val)

end Sys2Proof.Machine
end

