-- ==== Sys2Proof/Machine/CmdLink.lean ====
section
/-! DEFINITION. What each command does: Dravig. -/

namespace Sys2Proof.Machine

/-- DRV_PORT_ENABLE (R429): A port ENABLE 0-to-1 write starts link training from DETECT. -/
def execDrvPortEnable (req : Requester) (p : Fin 4) (s : State) : Host.Outcome State Fault Refusal :=
  .next (s.act fun w => w.asWriter (unitOf req) (0xA02000 + 0x100 * p.val) fun w => w.drvPortEnable p.val true)

/-- LINK_TRAINING_STEP_DONE (R386): A Dravig training step ends or fails, advancing the port or returning it to DETECT or OUT. -/
def execLinkTrainingStepDone (p : Fin 4) (lanes : Nat) (pass : Bool) (s : State) : Host.Outcome State Fault Refusal :=
  .next (s.act fun w => w.trainStep p.val lanes pass)

/-- LINK_DOWN (R429): The neighbour drops the link and the port retrains. -/
def execLinkDown (p : Fin 4) (s : State) : Host.Outcome State Fault Refusal :=
  .next (s.act fun w => w.linkDrop p.val)

/-- FLIT_RECEIVE (R388): A flit is received, checked by CRC and sequence, acknowledged or NACKed. -/
def execFlitReceive (p : Fin 4) (flit : List Byte) (s : State) : Host.Outcome State Fault Refusal :=
  .next (s.act fun w => w.flitReceive p.val flit)

/-- REPLAY_TIMEOUT (R388): The oldest unacknowledged flit waits REPLAY_TIMEOUT_NS and the sender replays. -/
def execReplayTimeout (p : Fin 4) (s : State) : Host.Outcome State Fault Refusal :=
  .next (s.act fun w => w.replayTimeout p.val)

/-- WINDOW_WRITE (R395): A received window write is applied whole or refused. -/
def execWindowWrite (p : Fin 4) (h : DrvHead) (window : Fin 64) (generation tag offset : Nat) (payload : List Byte) (s : State) : Host.Outcome State Fault Refusal :=
  .next (s.act fun w =>
    w.arrive p.val ⟨h, .write window.val generation tag offset payload⟩ (fun w => w.orderPacket p.val ⟨h, .write window.val generation tag offset payload⟩))

/-- WINDOW_READ (R395): A received window read is answered with READ_DATA or refused. -/
def execWindowRead (p : Fin 4) (h : DrvHead) (window : Fin 64) (generation tag offset length : Nat) (s : State) : Host.Outcome State Fault Refusal :=
  .next (s.act fun w =>
    w.arrive p.val ⟨h, .read window.val generation tag offset length⟩ (fun w => w.orderPacket p.val ⟨h, .read window.val generation tag offset length⟩))

/-- READ_DATA (R398): Returned read data is written to LOCAL. -/
def execReadData (p : Fin 4) (h : DrvHead) (tag : Nat) (payload : List Byte) (s : State) : Host.Outcome State Fault Refusal :=
  .next (s.act fun w => w.arrive p.val ⟨h, .readData tag payload⟩ (fun w => w.readData p.val h.src tag payload))

/-- FLAG_SIGNAL (R64): A peer's FLAG_SIGNAL packet is applied to a remote-visible flag or refused. -/
def execFlagSignal (p : Fin 4) (h : DrvHead) (f : Fin 16384) (generation tag increment : Nat) (s : State) : Host.Outcome State Fault Refusal :=
  .next (s.act fun w =>
    w.arrive p.val ⟨h, .flagSignal f.val generation tag increment⟩ (fun w => w.orderPacket p.val ⟨h, .flagSignal f.val generation tag increment⟩))

/-- ANSWER (R393): An answer packet retires sent packets and updates the answer record. -/
def execAnswer (p : Fin 4) (h : DrvHead) (tag status : Nat) (cumulative : Bool) (s : State) : Host.Outcome State Fault Refusal :=
  .next (s.act fun w => w.arrive p.val ⟨h, .answer tag status cumulative⟩ (fun w => w.drvAnswer p.val h.src h.pseq status cumulative))

/-- ANSWER_TIMEOUT (R393): A packet left unanswered fails with DEVICE_UNREACHABLE and the sender sends RESYNC. -/
def execAnswerTimeout (dest : Fin 192) (s : State) : Host.Outcome State Fault Refusal :=
  .next (s.act fun w => w.answerTimeout dest.val)

/-- HELLO (R386): A MGMT HELLO is checked against the torus placement. -/
def execHello (p : Fin 4) (id x y port : Nat) (idValid : Bool) (s : State) : Host.Outcome State Fault Refusal :=
  .next (s.act fun w => w.hello p.val id x y port idValid)

/-- GEN_NOTICE (R396): A generation notice updates the peer table or arms flag targets and posts a Mason event. -/
def execGenNotice (p : Fin 4) (h : DrvHead) (n : Notice) (s : State) : Host.Outcome State Fault Refusal :=
  .next (s.act fun w =>
    (match n with
    | .window win gen isOpen => w.arrive p.val ⟨h, .windowNotice win gen isOpen⟩ (fun w => w.windowNotice p.val h.src win gen isOpen)
    | .flag f gen => w.arrive p.val ⟨h, .flagNotice f gen⟩ (fun w => w.flagNotice h.src f gen)))

/-- RESYNC (R393): A RESYNC sets the expected PSEQ of a source. -/
def execResync (p : Fin 4) (h : DrvHead) (lowest : BitVec 16) (s : State) : Host.Outcome State Fault Refusal :=
  .next (s.act fun w => w.arrive p.val ⟨h, .resync lowest.toNat⟩ (fun w => w.resync h.src lowest.toNat))

/-- MESSAGE (R389): A MGMT MESSAGE packet is received. -/
def execMessage (p : Fin 4) (h : DrvHead) (payload : List Byte) (s : State) : Host.Outcome State Fault Refusal :=
  .next (s.act fun w => w.arrive p.val ⟨h, .message payload⟩ (fun w => w))

/-- TIME_SYNC (R400): A TIME_SYNC exchange completes and TB is corrected toward the parent. -/
def execTimeSync (p : Fin 4) (sent taken back got : BitVec 64) (s : State) : Host.Outcome State Fault Refusal :=
  .next (s.act fun w => w.timeSync p.val sent.toNat taken.toNat back.toNat got.toNat)

/-- TIME_SYNC_SEND (R400): Every SYNC_PERIOD_US the device sends TIME_SYNC to its parent. -/
def execTimeSyncSend (s : State) : Host.Outcome State Fault Refusal :=
  .next (s.act fun w => w.timeSyncSend)

/-- BAD_PACKET (R389): A packet with a reserved TYPE, reserved field or bad DEST is discarded. -/
def execBadPacket (p : Fin 4) (header : Vector (BitVec 32) 4) (s : State) : Host.Outcome State Fault Refusal :=
  .next (s.act fun w => w.badPacket p.val (header.toList.map BitVec.toNat))

/-- WINDOW_OPEN (R394): Writing OPEN = 1 opens a remote window and sends GEN_NOTICE. -/
def execWindowOpen (req : Requester) (win : Fin 64) (s : State) : Host.Outcome State Fault Refusal :=
  .next (s.act fun w => w.asWriter (unitOf req) (0xA01000 + 32 * win.val) fun w => w.windowOpen (unitOf req) win.val)

/-- WINDOW_CLOSE (R394): Writing OPEN = 0 closes a window and increments GEN. -/
def execWindowClose (req : Requester) (win : Fin 64) (s : State) : Host.Outcome State Fault Refusal :=
  .next (s.act fun w => w.asWriter (unitOf req) (0xA01000 + 32 * win.val) fun w => w.windowClose win.val)

/-- WINDOW_DRAINED (R395): Every packet passed before the close is visible and DRAINED reads 1. -/
def execWindowDrained (win : Fin 64) (s : State) : Host.Outcome State Fault Refusal :=
  .next (s.act fun w => w.windowDrained win.val)

/-- WAKE_ORDERED_SET (R401): Sixteen WAKE ordered sets on a sleeping port wake the device. -/
def execWakeOrderedSet (p : Fin 4) (s : State) : Host.Outcome State Fault Refusal :=
  .next (s.actOn fun w => w.wakeSets p.val)

/-- CUMULATIVE_OK_ANSWER (R393): A receiver sends a cumulative OK answer every 64 packets or every 1 µs. -/
def execCumulativeOkAnswer (src : Fin 192) (s : State) : Host.Outcome State Fault Refusal :=
  .next (s.act fun w => w.cumulativeAnswer src.val)

/-- NEIGHBOUR_SLEEP (R401): A Dravig neighbour puts its lanes in electrical idle and the port sees it as SLEEP. -/
def execNeighbourSleep (p : Fin 4) (s : State) : Host.Outcome State Fault Refusal :=
  .next (s.act fun w => w.neighbourSleep p.val)

end Sys2Proof.Machine
end

