-- ==== Sys2Proof/Machine/CmdLoad.lean ====
section
/-! DEFINITION. What each command does: register accesses, containers and models. -/

namespace Sys2Proof.Machine

/-- REGISTER_WRITE (R25): A BAR0 or 0x50-range write to a register that has no row of its own is applied, or ignored and logged under the field rules. -/
def execRegisterWrite (req : Requester) (off : BitVec 25) (n : Fin 9) (data : BitVec 64) (s : State) : Host.Outcome State Fault Refusal :=
  .next (s.actOn fun w => w.regWriteIn (unitOf req) off.toNat n.val data.toNat)

/-- BITSTREAM_REGION (R358): A BITSTREAM_REGION job is checked and starts staging the container through the single loader. -/
def execBitstreamRegion (h : JobHead) (addr : BitVec 64) (length : BitVec 32) (s : State) : Host.Outcome State Fault Refusal :=
  .next (s.act fun w => w.submit h 5 ([length.toNat, 0] ++ Work.lohi addr.toNat))

/-- BITSTREAM_STAGED (R47): Staging of the container ends and the loader runs its header, key and format checks. -/
def execBitstreamStaged (fail : FetchFail) (s : State) : Host.Outcome State Fault Refusal :=
  .next (s.act fun w => w.bitstreamStaged fail)

/-- SIGNATURE_VERIFIED (R48): The security core finishes the container signature check and the loader continues with steps 5 to 12. -/
def execSignatureVerified (s : State) : Host.Outcome State Fault Refusal :=
  .next (s.act fun w => w.signatureVerified)

/-- MODEL_IMAGE_CHECKED (R46): A model image has been read, digest-checked, decrypted if needed and written to its slabs. -/
def execModelImageChecked (fail : FetchFail) (s : State) : Host.Outcome State Fault Refusal :=
  .next (s.act fun w => w.modelImageChecked fail)

/-- MODEL_LOAD (R358): A MODEL_LOAD job reloads the image named by the active MODEL_REF through the loader, or is refused while the model is in use. -/
def execModelLoad (h : JobHead) (model : Fin 1024) (s : State) : Host.Outcome State Fault Refusal :=
  .next (s.act fun w => w.submit h 3 [model.val])

end Sys2Proof.Machine
end

