-- ==== Sys2Proof/Machine/CmdMason.lean ====
section
/-! DEFINITION. What each command does: Mason and the control pairs. -/

namespace Sys2Proof.Machine

/-- MSN_EVENT_ACCEPT (R336): Mason's event queue accepts up to four producer entries in a V-cycle. -/
def execMsnEventAccept (s : State) : Host.Outcome State Fault Refusal :=
  .next (s.act fun w => w.eventAccept)

/-- MSN_EVENT_REMOVE (R335): Mason removes one event and wakes the bound waiter or adds to PENDING. -/
def execMsnEventRemove (s : State) : Host.Outcome State Fault Refusal :=
  .next (s.act fun w => w.eventRemove)

/-- THREAD_READY (R337): A woken thread enters READY and Mason recomputes each pair's candidate. -/
def execThreadReady (t : Fin 4096) (s : State) : Host.Outcome State Fault Refusal :=
  .next (s.act fun w => w.threadReady t.val)

/-- CREATE (R333): Creates a SUSPENDED thread in the lowest FREE TID. -/
def execCreate (p : Fin 4) (a : MsnCmd) (s : State) : Host.Outcome State Fault Refusal :=
  .next (s.act fun w => w.msnCreate p.val a)

/-- EXIT (R333): The calling thread becomes FREE once its context is saved. -/
def execExit (p : Fin 4) (a : MsnCmd) (s : State) : Host.Outcome State Fault Refusal :=
  .next (s.act fun w => w.msnExit p.val a)

/-- YIELD (R333): The caller re-enters READY at the tail of its level. -/
def execYield (p : Fin 4) (a : MsnCmd) (s : State) : Host.Outcome State Fault Refusal :=
  .next (s.act fun w => w.msnYield p.val a)

/-- WAIT (R335): Returns a channel's PENDING count or blocks the thread with an optional timeout. -/
def execWait (p : Fin 4) (a : MsnCmd) (s : State) : Host.Outcome State Fault Refusal :=
  .next (s.act fun w => w.msnWait p.val a)

/-- SLEEP_UNTIL (R339): The thread sleeps until the first tick at or after a TB. -/
def execSleepUntil (p : Fin 4) (a : MsnCmd) (s : State) : Host.Outcome State Fault Refusal :=
  .next (s.act fun w => w.msnSleep p.val a)

/-- SIGNAL (R333): Posts an event on a channel. -/
def execSignal (p : Fin 4) (a : MsnCmd) (s : State) : Host.Outcome State Fault Refusal :=
  .next (s.act fun w => w.msnSignal p.val a)

/-- SET_PRIO (R333): Sets a thread's priority. -/
def execSetPrio (p : Fin 4) (a : MsnCmd) (s : State) : Host.Outcome State Fault Refusal :=
  .next (s.act fun w => w.msnSetPrio p.val a)

/-- SET_AFFINITY (R333): Sets a thread's pair affinity. -/
def execSetAffinity (p : Fin 4) (a : MsnCmd) (s : State) : Host.Outcome State Fault Refusal :=
  .next (s.act fun w => w.msnSetAffinity p.val a)

/-- SUSPEND (R333): Suspends a READY, WAITING or SLEEPING thread. -/
def execSuspend (p : Fin 4) (a : MsnCmd) (s : State) : Host.Outcome State Fault Refusal :=
  .next (s.act fun w => w.msnSuspend p.val a)

/-- RESUME (R333): Makes a SUSPENDED thread READY. -/
def execResume (p : Fin 4) (a : MsnCmd) (s : State) : Host.Outcome State Fault Refusal :=
  .next (s.act fun w => w.msnResume p.val a)

/-- BIND (R333): Binds or unbinds a channel's waiter. -/
def execBind (p : Fin 4) (a : MsnCmd) (s : State) : Host.Outcome State Fault Refusal :=
  .next (s.act fun w => w.msnBind p.val a)

/-- MSN_WAIT_FLAG (R333): Registers a channel as a waiter of a joint flag. -/
def execMsnWaitFlag (p : Fin 4) (a : MsnCmd) (s : State) : Host.Outcome State Fault Refusal :=
  .next (s.act fun w => w.msnWaitFlag p.val a)

/-- KILL (R333): Frees a thread in any state. -/
def execKill (p : Fin 4) (a : MsnCmd) (s : State) : Host.Outcome State Fault Refusal :=
  .next (s.act fun w => w.msnKill p.val a)

/-- PREFETCH_LOAD_DONE (R338): A candidate's context frame is loaded into the prefetch slot, preempting a lower-priority thread. -/
def execPrefetchLoadDone (p : Fin 4) (eccBad : Bool) (s : State) : Host.Outcome State Fault Refusal :=
  .next (s.act fun w => w.prefetchDone p.val eccBad)

/-- CONTEXT_SAVE_DONE (R338): The outgoing thread's context has been written to its frame. -/
def execContextSaveDone (p : Fin 4) (s : State) : Host.Outcome State Fault Refusal :=
  .next (s.act fun w => w.saveDone p.val)

/-- MSN_TICK (R339): A microsecond tick falls and the expired delay-list entries are marked. -/
def execMsnTick (s : State) : Host.Outcome State Fault Refusal :=
  .next (s.act fun w => w.msnTick)

/-- DELAY_EXPIRY (R339): An expired delay-list entry is offered to the event queue as KIND 3. -/
def execDelayExpiry (s : State) : Host.Outcome State Fault Refusal :=
  .next (s.act fun w => w.delayExpiry)

/-- QUANTUM_EXPIRY (R338): A thread that has run its QUANTUM_US is switched out for an equal-priority candidate. -/
def execQuantumExpiry (p : Fin 4) (s : State) : Host.Outcome State Fault Refusal :=
  .next (s.act fun w => w.quantumExpiry p.val)

/-- PAIR_DRAIN (R341): Writing DRAIN = 1 removes a pair from placement and switches its thread out. -/
def execPairDrain (req : Requester) (p : Fin 4) (s : State) : Host.Outcome State Fault Refusal :=
  .next (s.act fun w => w.asWriter (unitOf req) (0x390000 + 0x1000 * p.val) fun w => w.pairDrain p.val)

/-- PAIR_RETURN (R341): Writing DRAIN = 0 returns a pair to placement. -/
def execPairReturn (req : Requester) (p : Fin 4) (s : State) : Host.Outcome State Fault Refusal :=
  .next (s.act fun w => w.asWriter (unitOf req) (0x390000 + 0x1000 * p.val) fun w => w.pairReturn p.val)

/-- LOCKSTEP_MISMATCH (R330): A lockstep comparison fails, the pair stops and its thread is FAULTED. -/
def execLockstepMismatch (p : Fin 4) (s : State) : Host.Outcome State Fault Refusal :=
  .next (s.act fun w => w.lockstepMismatch p.val)

/-- KS_MSN_HOST_SIGNAL (R343): A host write posts a KIND 4 event on a Mason channel. -/
def execKsMsnHostSignal (req : Requester) (channel count : BitVec 16) (s : State) : Host.Outcome State Fault Refusal :=
  .next (s.act fun w => w.asWriter (unitOf req) (0x380028) fun w => w.hostSignal (unitOf req) channel.toNat count.toNat)

end Sys2Proof.Machine
end

