-- ==== Sys2Proof/Machine/CmdMemory.lean ====
section
/-! DEFINITION. What each command does: scrubbing, copies and LPDDR5X. -/

namespace Sys2Proof.Machine

/-- PATROL_SCRUB (R299): The scrubber reads, corrects and writes back the next row of a tile store or slab. -/
def execPatrolScrub (mem : Fin 104) (fixed : Nat) (bad : List Nat) (s : State) : Host.Outcome State Fault Refusal :=
  .next (s.act fun w => w.patrolScrub mem.val fixed bad)

/-- COPY (R358): A COPY job submits a descriptor chain to the copy engines. -/
def execCopyJob (h : JobHead) (count : Fin 512) (chain : BitVec 64) (s : State) : Host.Outcome State Fault Refusal :=
  .next (s.act fun w => w.submit h 2 ([count.val, 0] ++ Work.lohi chain.toNat))

/-- COPY_CHAIN_START (R321): A free copy engine takes the next chain and checks it whole. -/
def execCopyChainStart (engine : Fin 2) (s : State) : Host.Outcome State Fault Refusal :=
  .next (s.act fun w => w.copyStart (0x76 + engine.val))

/-- COPY_CHAIN_COMPLETE (R318): All writes of a chain are visible and the node signals or the job completes. -/
def execCopyChainComplete (engine : Fin 2) (s : State) : Host.Outcome State Fault Refusal :=
  .next (s.act fun w => w.unlessHeld (0x76 + engine.val) fun w => w.copyComplete (0x76 + engine.val))

/-- MR4_POLL (R379): Every 16 ms the controller reads MR4 and sets the refresh rate. -/
def execMr4Poll (ch : Fin 32) (rate : BitVec 8) (hot : Bool) (s : State) : Host.Outcome State Fault Refusal :=
  .next (s.act fun w => w.mr4Poll ch.val rate.toNat hot)

/-- REFRESH (R379): A per-bank refresh falls due and is served. -/
def execRefresh (_ch : Fin 32) (_bank : Fin 16) (s : State) : Host.Outcome State Fault Refusal :=
  .next (s.act fun w => w.refresh)

/-- DQS_TRACKING (R380): Oscillator tracking runs on a channel every TRACK_INTERVAL_MS and may queue it for retraining. -/
def execDqsTracking (ch : Fin 32) (drift : Nat) (s : State) : Host.Outcome State Fault Refusal :=
  .next (s.act fun w => w.dqsTracking ch.val drift)

/-- RETRAIN_INTERVAL_EXPIRY (R380): RETRAIN_INTERVAL_S passes since a channel's last training and it is queued for retraining. -/
def execRetrainIntervalExpiry (ch : Fin 32) (s : State) : Host.Outcome State Fault Refusal :=
  .next (s.act fun w => w.retrainExpiry ch.val)

/-- RETRAIN_NOW (R384): A write queues a channel for retraining. -/
def execRetrainNow (req : Requester) (ch : BitVec 8) (s : State) : Host.Outcome State Fault Refusal :=
  .next (s.act fun w => w.asWriter (unitOf req) (0x90002C) fun w => w.retrainNow (unitOf req) true ch.toNat)

/-- EVACUATION_START (R381): The next queued channel begins evacuation to the reserve. -/
def execEvacuationStart (s : State) : Host.Outcome State Fault Refusal :=
  .next (s.act fun w => w.evacuationStart)

/-- EVAC_STRIPE_SWITCH (R381): One stripe's copy is acknowledged and its requests switch to the new home. -/
def execEvacStripeSwitch (s : State) : Host.Outcome State Fault Refusal :=
  .next (s.act fun w => w.evacStripe)

/-- CHANNEL_TRAINING_DONE (R381): Full training of an evacuated channel ends and copy back starts. -/
def execChannelTrainingDone (s : State) : Host.Outcome State Fault Refusal :=
  .next (s.act fun w => w.channelTrained)

/-- TRACKING_SETTLED (R379): After a self-refresh exit, tracking settles and the channels return from 6,400 to 8,533 MT/s. -/
def execTrackingSettled (s : State) : Host.Outcome State Fault Refusal :=
  .next (s.act fun w => w.trackingSettled)

end Sys2Proof.Machine
end

