-- ==== Sys2Proof/Machine/CmdObserve.lean ====
section
/-! DEFINITION. What each command does: trace marks, claims, GPIO, timers and JTAG. -/

namespace Sys2Proof.Machine

/-- CNT_TRACE_MARK (R495): A write writes a MARK trace record. -/
def execCntTraceMark (req : Requester) (v : BitVec 32) (s : State) : Host.Outcome State Fault Refusal :=
  .next (s.act fun w => w.asWriter (unitOf req) (0xD00020) fun w => w.traceMark (unitOf req) v.toNat)

/-- CLAIM (R500): A CLM_REQ write claims a free resource or is denied. -/
def execClaim (req : Requester) (cls : BitVec 8) (idx gid : BitVec 16) (s : State) : Host.Outcome State Fault Refusal :=
  .next (s.act fun w => w.asWriter (unitOf req) (0xF00010) fun w => w.claim (unitOf req) cls.toNat idx.toNat gid.toNat false)

/-- RELEASE (R500): A CLM_REQ write with RELEASE frees a run-time claim held by the writer. -/
def execRelease (req : Requester) (cls : BitVec 8) (idx gid : BitVec 16) (s : State) : Host.Outcome State Fault Refusal :=
  .next (s.act fun w => w.asWriter (unitOf req) (0xF00010) fun w => w.claim (unitOf req) cls.toNat idx.toNat gid.toNat true)

/-- GPIO_OUT_WRITE (R501): A GPIO_OUT write changes only the pins the writer holds. -/
def execGpioOutWrite (req : Requester) (v : BitVec 32) (s : State) : Host.Outcome State Fault Refusal :=
  .next (s.act fun w => w.asWriter (unitOf req) (0xF02004) fun w => w.gpioOut (unitOf req) v.toNat)

/-- TIMER_EXPIRY (R504): A general timer expires, posts its Mason event and drives its output. -/
def execTimerExpiry (t : Fin 16) (s : State) : Host.Outcome State Fault Refusal :=
  .next (s.actOn fun w => w.timerExpiry t.val)

/-- TIMER_CAPTURE (R504): An input edge is captured by a timer in capture mode. -/
def execTimerCapture (t : Fin 16) (s : State) : Host.Outcome State Fault Refusal :=
  .next (s.actOn fun w => w.timerCapture t.val)

/-- BYPASS (R505): JTAG BYPASS instruction. -/
def execBypass (s : State) : Host.Outcome State Fault Refusal :=
  .next (s.run fun w => w.tapBypass)

/-- IDCODE (R505): JTAG IDCODE instruction. -/
def execIdcode (s : State) : Host.Outcome State Fault Refusal :=
  .next (s.run fun w => w.tapIdcode)

/-- SAMPLE_PRELOAD (R506): JTAG SAMPLE/PRELOAD instruction. -/
def execSamplePreload (preload : List Bool) (s : State) : Host.Outcome State Fault Refusal :=
  .next (s.run fun w => w.tapSample preload)

/-- EXTEST (R506): JTAG EXTEST hands the balls to the scan. -/
def execExtest (s : State) : Host.Outcome State Fault Refusal :=
  .next (s.run fun w => w.tapExtest)

/-- EXTEST_PULSE (R506): JTAG EXTEST_PULSE instruction. -/
def execExtestPulse (s : State) : Host.Outcome State Fault Refusal :=
  .next (s.run fun w => w.tapExtestPulse)

/-- EXTEST_TRAIN (R506): JTAG EXTEST_TRAIN instruction. -/
def execExtestTrain (s : State) : Host.Outcome State Fault Refusal :=
  .next (s.run fun w => w.tapExtestTrain)

/-- CLAMP (R506): JTAG CLAMP instruction. -/
def execClamp (s : State) : Host.Outcome State Fault Refusal :=
  .next (s.run fun w => w.tapClamp)

/-- HIGHZ (R506): JTAG HIGHZ instruction. -/
def execHighz (s : State) : Host.Outcome State Fault Refusal :=
  .next (s.run fun w => w.tapHighz)

/-- TAP_RESET (R506): A TAP reset returns the balls to their functional drivers. -/
def execTapReset (s : State) : Host.Outcome State Fault Refusal :=
  .next (s.run fun w => w.tapReset)

/-- REGISTER_READ (R7): A register read returns the value, clears RC fields under R8 and R9, and fills or empties the requester's high-half latch. -/
def execRegisterRead (req : Requester) (off : BitVec 25) (n : Fin 9) (s : State) : Host.Outcome State Fault Refusal :=
  .next (s.actOn fun w => w.regReadOut (unitOf req) off.toNat n.val)

/-- MSIX_UNMASK (R364): Unmasking an MSI-X vector or the function sends the one pending message and clears its PBA bit. -/
def execMsixUnmask (t : MsixTarget) (s : State) : Host.Outcome State Fault Refusal :=
  .next (s.actOn fun w =>
    (match t with
    | .vector v addr data => w.msixUnmaskVec v.val addr data
    | .function => w.msixUnmaskFn))

/-- GPIO_INPUT_EDGE (R336): A change on a GPIO input ball is offered to Mason's event queue as an interrupt event. -/
def execGpioInputEdge (pin : Fin 32) (level : Bool) (s : State) : Host.Outcome State Fault Refusal :=
  .next (s.actOn fun w => w.gpioEdge pin.val level)

/-- HOT_JOIN_REQUEST (R119): A hot-join request on an I3C bus is NACKed. -/
def execHotJoinRequest (m : Fin 8) (s : State) : Host.Outcome State Fault Refusal :=
  .next (s.act fun w => w.hotJoin m.val)

/-- FLAG_DELAY_WAKE (R497): Under FLAG_DELAY perturbation, a flag's delayed wake of its waiters falls due. -/
def execFlagDelayWake (f : Fin 16384) (s : State) : Host.Outcome State Fault Refusal :=
  .next (s.act fun w => w.delayedWake f.val)

end Sys2Proof.Machine
end

