-- ==== Sys2Proof/Machine/CmdPorts.lean ====
section
/-! DEFINITION. What each command does: receive ports, replay, the I3C masters and frame sync. -/

namespace Sys2Proof.Machine

/-- PORT_ENABLE (R525): Writing ENABLE = 1 starts a receive port's receiver, which begins to lock on the sensor. -/
def execPortEnable (req : Requester) (p : Fin 16) (s : State) : Host.Outcome State Fault Refusal :=
  .next (s.act fun w => w.asWriter (unitOf req) (0x401000 + 0x100 * p.val) fun w => w.portEnable p.val)

/-- PORT_DISABLE (R525): Writing ENABLE = 0 turns the receiver off and clears LOCK_FAIL. -/
def execPortDisable (req : Requester) (p : Fin 16) (s : State) : Host.Outcome State Fault Refusal :=
  .next (s.act fun w => w.asWriter (unitOf req) (0x401000 + 0x100 * p.val) fun w => w.portDisable p.val)

/-- PORT_LOCKED (R525): The receiver locks to the sensor's high-speed transmission and LOCKED rises. -/
def execPortLocked (p : Fin 16) (deskewed : Bool) (s : State) : Host.Outcome State Fault Refusal :=
  .next (s.act fun w => w.portLocked p.val deskewed)

/-- LOCK_FAIL (R525): LOCKED has not risen 1 ms after ENABLE and LOCK_FAIL is set. -/
def execLockFail (p : Fin 16) (s : State) : Host.Outcome State Fault Refusal :=
  .next (s.act fun w => w.lockFail p.val)

/-- PARAM_SET (R121): A PARAM_SET job copies a parameter block and command list into a pending-set slot of the context. -/
def execParamSet (h : JobHead) (record : Vector (BitVec 32) 8) (s : State) : Host.Outcome State Fault Refusal :=
  .next (s.act fun w => w.submit h 4 (record.toList.map BitVec.toNat))

/-- REPLAY_TAIL_WRITE (R116): A write to ING_RPL_TAIL hands new frame descriptors to the replay engine. -/
def execReplayTailWrite (req : Requester) (c : Fin 64) (v : BitVec 12) (s : State) : Host.Outcome State Fault Refusal :=
  .next (s.act fun w => w.asWriter (unitOf req) (0x40400C + 0x40 * c.val) fun w => w.replayTail c.val v.toNat)

/-- REPLAY_DESCRIPTOR_FETCH (R118): The replay engine fetches and checks the descriptor at HEAD, refusing it or preparing its frame. -/
def execReplayDescriptorFetch (c : Fin 64) (s : State) : Host.Outcome State Fault Refusal :=
  .next (s.act fun w => w.replayFetch c.val)

/-- REPLAY_FRAME_START (R117): A replay frame start is issued at its SOF_TB, or at once when that has passed. -/
def execReplayFrameStart (c : Fin 64) (s : State) : Host.Outcome State Fault Refusal :=
  .next (s.act fun w => w.replayStart c.val)

/-- REPLAY_LINE_DUE (R117): A replay line reaches its due time and is presented, or stalls until memory delivers it. -/
def execReplayLineDue (c : Fin 64) (late : Nat) (s : State) : Host.Outcome State Fault Refusal :=
  .next (s.act fun w => w.replayLine c.val late)

/-- ING_I3C_CMD (R128): A 64-bit write pushes one command entry onto an I3C master's direct FIFO. -/
def execIngI3cCmd (req : Requester) (m : Fin 8) (v : BitVec 64) (s : State) : Host.Outcome State Fault Refusal :=
  .next (s.act fun w => w.asWriter (unitOf req) (0x405408 + 0x40 * m.val) fun w => w.i3cPush m.val (unitOf req) v.toNat)

/-- I3C_TRANSFER_DONE (R119): An I3C or I2C transfer ends, ACKed or NACKed, and the master moves to its next entry. -/
def execI3cTransferDone (m : Fin 8) (ack : Bool) (data : List Byte) (s : State) : Host.Outcome State Fault Refusal :=
  .next (s.act fun w => w.i3cDone m.val ack data)

/-- I3C_IBI (R119): An in-band interrupt is acknowledged and counted. -/
def execI3cIbi (m : Fin 8) (s : State) : Host.Outcome State Fault Refusal :=
  .next (s.act fun w => w.i3cIbi m.val)

/-- ING_I3C_RDATA (R128): A read of ING_I3C_RDATA pops up to four read bytes. -/
def execIngI3cRdata (req : Requester) (m : Fin 8) (s : State) : Host.Outcome State Fault Refusal :=
  .next (s.act fun w => w.regReadOut (unitOf req) (0x405420 + 0x40 * m.val) 4)

/-- FSYNC_EDGE (R120): A frame-sync generator drives its active edge at START_TB or one PERIOD_NS after the last. -/
def execFsyncEdge (n : Fin 16) (s : State) : Host.Outcome State Fault Refusal :=
  .next (s.actOn fun w => w.fsyncEdge n.val)

/-- FSYNC_PULSE_END (R120): A frame-sync pulse ends after WIDTH_NS. -/
def execFsyncPulseEnd (n : Fin 16) (s : State) : Host.Outcome State Fault Refusal :=
  .next (s.actOn fun w => w.fsyncEnd n.val)

end Sys2Proof.Machine
end

