-- ==== Sys2Proof/Machine/CmdPower.lean ====
section
/-! DEFINITION. What each command does: levels, AVSBus, temperature and sleep. -/

namespace Sys2Proof.Machine

/-- LEVEL_REQUEST (R407): A PWR_LEVEL_REQ write changes the requested performance level. -/
def execLevelRequest (req : Requester) (v : BitVec 32) (s : State) : Host.Outcome State Fault Refusal :=
  .next (s.actOn fun w => w.asWriter (unitOf req) (0x100008) fun w => w.levelRequest (unitOf req) true v.toNat)

/-- AVS_FRAME_DONE (R408): An AVSBus frame completes, advancing a level transition or telemetry, or is retried. -/
def execAvsFrameDone (rail : Fin 3) (reply : AvsReply) (s : State) : Host.Outcome State Fault Refusal :=
  .next (s.actOn fun w => w.avsFrame rail.val reply)

/-- AVS_RETRY (R409): After an AVSBus hold the controller retries the transition every 10 ms. -/
def execAvsRetry (dom : Fin 2) (s : State) : Host.Outcome State Fault Refusal :=
  .next (s.actOn fun w => w.avsRetry dom.val)

/-- SLEW_DONE (R408): A regulator slew ends and the confirming read is sent. -/
def execSlewDone (dom : Fin 2) (s : State) : Host.Outcome State Fault Refusal :=
  .next (s.actOn fun w => w.slewDone dom.val)

/-- POWER_SAMPLE (R410): Package power is updated and the cap controller steps cap_level. -/
def execPowerSample (milliwatts : Nat) (s : State) : Host.Outcome State Fault Refusal :=
  .next (s.actOn fun w => w.powerSample milliwatts)

/-- THERMAL_SAMPLE (R419): The sensors are sampled and the trip check runs. -/
def execThermalSample (sensors : Vector (Int × Bool) 48) (s : State) : Host.Outcome State Fault Refusal :=
  .next (s.actOn fun w => w.thermalSample sensors.toList)

/-- THROTTLE_TICK (R419): Every 1 ms while hot the thermal level slows. -/
def execThrottleTick (s : State) : Host.Outcome State Fault Refusal :=
  .next (s.actOn fun w => w.throttleTick)

/-- THROTTLE_RELAX_TICK (R419): Every 100 ms while cool the thermal level speeds up. -/
def execThrottleRelaxTick (s : State) : Host.Outcome State Fault Refusal :=
  .next (s.actOn fun w => w.throttleRelax)

/-- DOMAIN_IDLE_EXPIRY (R412): A domain's idle timer reaches its S1 or S2 time and quiescing starts. -/
def execDomainIdleExpiry (d : Fin 15) (deep : Bool) (s : State) : Host.Outcome State Fault Refusal :=
  .next (s.act fun w => w.domainExpiry d.val deep)

/-- DOMAIN_DRAINED (R412): In-flight transfers drain and the domain enters S1. -/
def execDomainDrained (d : Fin 15) (s : State) : Host.Outcome State Fault Refusal :=
  .next (s.act fun w => w.domainDrained d.val)

/-- DRAIN_TIMEOUT (R412): A drain not finished at 10 µs aborts the sleep entry. -/
def execDrainTimeout (d : Fin 15) (unit : BitVec 8) (s : State) : Host.Outcome State Fault Refusal :=
  .next (s.act fun w => w.drainTimeout d.val unit.toNat)

/-- DOMAIN_S2_ENTERED (R412): Retention is saved and the domain enters S2. -/
def execDomainS2Entered (d : Fin 15) (s : State) : Host.Outcome State Fault Refusal :=
  .next (s.act fun w => w.domainDeep d.val)

/-- DOMAIN_WAKE (R414): An access to a sleeping domain stalls at its boundary and starts its wake. -/
def execDomainWake (d : Fin 15) (s : State) : Host.Outcome State Fault Refusal :=
  .next (s.act fun w => w.domainWake d.val)

/-- DOMAIN_WAKE_DONE (R414): The domain is ON and the stalled access proceeds. -/
def execDomainWakeDone (d : Fin 15) (s : State) : Host.Outcome State Fault Refusal :=
  .next (s.act fun w => w.domainOn d.val)

/-- S3_ENTRY (R415): All S3 conditions hold and the device starts entering S3. -/
def execS3Entry (s : State) : Host.Outcome State Fault Refusal :=
  .next (s.act fun w => w.s3Entry)

/-- S3_ENTRY_DONE (R415): Every domain, channel and link has reached its S3 state. -/
def execS3EntryDone (s : State) : Host.Outcome State Fault Refusal :=
  .next (s.act fun w => w.s3Entered)

/-- WAKE_SOURCE (R417): An enabled wake source starts the S3 exit. -/
def execWakeSource (source : BitVec 3) (s : State) : Host.Outcome State Fault Refusal :=
  .next (s.act fun w => w.wakeSource source.toNat)

/-- TB_ALARM (R415): The TB alarm fires as a wake source. -/
def execTbAlarm (s : State) : Host.Outcome State Fault Refusal :=
  .next (s.act fun w => w.tbAlarm)

/-- S3_EXIT_DONE (R416): The first useful cycle after S3 is reached and dispatch resumes. -/
def execS3ExitDone (s : State) : Host.Outcome State Fault Refusal :=
  .next (s.act fun w => w.s3Left)

/-- LINK_L1_ENTRY (R411): The PCIe link enters L1 and the PCIe domain may enter S1, and one S3 condition is met. -/
def execLinkL1Entry (s : State) : Host.Outcome State Fault Refusal :=
  .next (s.actOn fun w => w.linkL1)

end Sys2Proof.Machine
end

