-- ==== Sys2Proof/Machine/CmdQueues.lean ====
section
/-! DEFINITION. What each command does: queue pairs, completions and fences. -/

namespace Sys2Proof.Machine

/-- SUBMISSION_DOORBELL (R352): The host advances a queue's SQ tail. -/
def execSubmissionDoorbell (q : Fin 8192) (v : BitVec 32) (s : State) : Host.Outcome State Fault Refusal :=
  .next (s.act fun w => w.submissionDoorbell q.val v.toNat)

/-- COMPLETION_DOORBELL (R352): The host frees CQ entries by advancing its head. -/
def execCompletionDoorbell (q : Fin 8192) (v : BitVec 32) (s : State) : Host.Outcome State Fault Refusal :=
  .next (s.act fun w => w.completionDoorbell q.val v.toNat)

/-- FETCH_GRANT (R356): The fetch arbiter grants one queue and a submission entry read is issued. -/
def execFetchGrant (s : State) : Host.Outcome State Fault Refusal :=
  .next (s.act fun w => w.fetchGrant)

/-- ENTRY_FETCHED (R355): A fetched submission entry is checked in order and failing jobs end at once. -/
def execEntryFetched (q : Fin 8192) (fail : FetchFail) (s : State) : Host.Outcome State Fault Refusal :=
  .next (s.act fun w => w.entryFetched q.val fail)

/-- JOB_START (R355): A checked job starts once its unit accepts it, in submission order. -/
def execJobStart (q : Fin 8192) (s : State) : Host.Outcome State Fault Refusal :=
  .next (s.act fun w => w.jobStart q.val)

/-- COMPLETION_POST (R357): A ready completion is written to the CQ when it has room, followed by its MSI-X message. -/
def execCompletionPost (q : Fin 8192) (s : State) : Host.Outcome State Fault Refusal :=
  .next (s.act fun w => w.postNext q.val)

/-- CQ_STALL_TIMEOUT (R357): A CQ still full at the end of the stall timeout puts its queue in ERROR. -/
def execCqStallTimeout (q : Fin 8192) (s : State) : Host.Outcome State Fault Refusal :=
  .next (s.act fun w => w.cqStallTimeout q.val)

/-- QUEUE_RESUME (R371): Writing RESUME returns a queue from ERROR to ACTIVE and posts held completions. -/
def execQueueResume (req : Requester) (q : Fin 8192) (s : State) : Host.Outcome State Fault Refusal :=
  .next (s.act fun w => w.asWriter (unitOf req) (0x210004 + 64 * q.val) fun w => w.queueResume q.val)

/-- CREATE_QUEUE (R361): Creates and activates a queue pair. -/
def execCreateQueue (h : JobHead) (payload : Vector (BitVec 32) 12) (s : State) : Host.Outcome State Fault Refusal :=
  .next (s.act fun w => w.submit h 0x40 (payload.toList.map BitVec.toNat))

/-- DELETE_QUEUE (R361): Sets a queue DELETING and stops its fetching. -/
def execDeleteQueue (h : JobHead) (qid : BitVec 16) (s : State) : Host.Outcome State Fault Refusal :=
  .next (s.act fun w => w.submit h 0x41 [qid.toNat])

/-- DELETE_QUEUE_DONE (R361): A deleting queue's started jobs have posted and the queue becomes INACTIVE. -/
def execDeleteQueueDone (q : Fin 8192) (s : State) : Host.Outcome State Fault Refusal :=
  .next (s.act fun w => w.deleteQueueDone q.val)

/-- FENCE_SIGNAL (R360): A FENCE with MODE 0 adds VALUE to a fence token after earlier completions post. -/
def execFenceSignal (h : JobHead) (token : BitVec 8) (value : BitVec 32) (s : State) : Host.Outcome State Fault Refusal :=
  .next (s.act fun w => w.submit h 6 [token.toNat, value.toNat, 0])

/-- FENCE_WAIT (R360): A FENCE with MODE 1 holds later jobs until the token reaches VALUE. -/
def execFenceWait (h : JobHead) (token : BitVec 8) (value timeout : BitVec 32) (s : State) : Host.Outcome State Fault Refusal :=
  .next (s.act fun w => w.submit h 6 [token.toNat + 0x100, value.toNat, timeout.toNat])

/-- FENCE_WAIT_TIMEOUT (R360): A fence wait's timeout elapses and it completes with FLAG_TIMEOUT. -/
def execFenceWaitTimeout (q : Fin 8192) (s : State) : Host.Outcome State Fault Refusal :=
  .next (s.act fun w => w.fenceTimeout q.val)

/-- QE_FENCE_WRITE (R360): A host write sets a fence token's count. -/
def execQeFenceWrite (req : Requester) (t : Fin 256) (v : BitVec 32) (s : State) : Host.Outcome State Fault Refusal :=
  .next (s.act fun w => w.asWriter (unitOf req) (0x201000 + 4 * t.val) fun w => w.fenceWrite t.val v.toNat)

end Sys2Proof.Machine
end

