-- ==== Sys2Proof/Machine/CmdSafety.lean ====
section
/-! DEFINITION. What each command does: the safety manager. -/

namespace Sys2Proof.Machine

/-- SOUNDING_DUE (R472): A slot reaches LS without a gap and its unit's next boundary is taken. -/
def execSoundingDue (slot : Fin 90) (s : State) : Host.Outcome State Fault Refusal :=
  .next (s.act fun w => w.soundingDue slot.val)

/-- SOUNDING_START (R472): A sounding starts in a gap or at a boundary, saving the unit's state. -/
def execSoundingStart (slot : Fin 90) (s : State) : Host.Outcome State Fault Refusal :=
  .next (s.act fun w => w.soundingStart slot.val)

/-- SOUNDING_RESULT (R476): A sounding's signature is compared and the unit resumes, is re-sounded or is retired. -/
def execSoundingResult (slot : Fin 90) (area : List Byte) (s : State) : Host.Outcome State Fault Refusal :=
  .next (s.act fun w => w.soundingResult slot.val area)

/-- SOUNDING_OVERRUN (R474): A sounding still running at 2 × L_u is stopped and counts as a mismatch. -/
def execSoundingOverrun (slot : Fin 90) (s : State) : Host.Outcome State Fault Refusal :=
  .next (s.act fun w => w.soundingOverrun slot.val)

/-- SAF_FORCE_SOUND (R486): A write forces a sounding of a slot at its next boundary. -/
def execSafForceSound (req : Requester) (slot : BitVec 7) (s : State) : Host.Outcome State Fault Refusal :=
  .next (s.act fun w => w.asWriter (unitOf req) (0xB00024) fun w => w.forceSound (unitOf req) slot.toNat)

/-- SOUNDING_SET_READY (R471): The sounding set is written and expanded and first soundings begin. -/
def execSoundingSetReady (set : List Byte) (expected : Vector (BitVec 32) 90) (s : State) : Host.Outcome State Fault Refusal :=
  .next (s.act fun w => w.soundingSet set (expected.toList.map BitVec.toNat))

/-- PAIR_RETEST_DONE (R480): A pair re-test after lockstep mismatch ends and the pair returns or is retired. -/
def execPairRetestDone (p : Fin 4) (pass : Bool) (s : State) : Host.Outcome State Fault Refusal :=
  .next (s.act fun w => w.pairRetest p.val pass)

/-- HEARTBEAT_TOGGLE (R469): SAFE_FAULT_N toggles every HEARTBEAT_US and the checker is refreshed. -/
def execHeartbeatToggle (s : State) : Host.Outcome State Fault Refusal :=
  .next (s.actOn fun w => w.heartbeatToggle)

/-- HEARTBEAT_EXPIRY (R469): The heartbeat checker gets no refresh in time and enters SAFE_DEGRADED. -/
def execHeartbeatExpiry (s : State) : Host.Outcome State Fault Refusal :=
  .next (s.actOn fun w => w.heartbeatExpiry)

/-- RECOVERY_BOUND_EXPIRY (R483): A held re-execution reaches RECOVERY_BOUND and the run is dropped. -/
def execRecoveryBoundExpiry (run : Nat) (s : State) : Host.Outcome State Fault Refusal :=
  .next (s.act fun w => w.recoveryExpiry run)

/-- ERROR_INJECTION_DONE (R484): Start-time error injection ends and a failing checker enters SAFE_DEGRADED. -/
def execErrorInjectionDone (passed : Nat) (fail : Option (Nat × Nat)) (s : State) : Host.Outcome State Fault Refusal :=
  .next (s.act fun w => w.injectionDone passed fail)

end Sys2Proof.Machine
end

