-- ==== Sys2Proof/Machine/CmdSecurity.lean ====
section
/-! DEFINITION. What each command does: The cornerstone, SPDM and debug. -/

namespace Sys2Proof.Machine

/-- ENROLL_KEY (R449): Enrols an owner key in the lowest empty slot. -/
def execEnrollKey (req : Requester) (s : State) : Host.Outcome State Fault Refusal :=
  .next (s.act fun w => w.asWriter (unitOf req) (0xC02010) fun w => w.cornerstone 1 (unitOf req) true)

/-- REVOKE_KEY (R449): Revokes an owner key slot. -/
def execRevokeKey (req : Requester) (s : State) : Host.Outcome State Fault Refusal :=
  .next (s.act fun w => w.asWriter (unitOf req) (0xC02010) fun w => w.cornerstone 2 (unitOf req) true)

/-- ROLLBACK_SET (R449): Raises the anti-rollback counter. -/
def execRollbackSet (req : Requester) (s : State) : Host.Outcome State Fault Refusal :=
  .next (s.act fun w => w.asWriter (unitOf req) (0xC02010) fun w => w.cornerstone 3 (unitOf req) true)

/-- OB_WRITE (R449): Burns a new option-byte copy. -/
def execObWrite (req : Requester) (s : State) : Host.Outcome State Fault Refusal :=
  .next (s.act fun w => w.asWriter (unitOf req) (0xC02010) fun w => w.cornerstone 4 (unitOf req) true)

/-- DEBUG_LOCK (R463): Sets the one-way debug lock. -/
def execDebugLock (req : Requester) (s : State) : Host.Outcome State Fault Refusal :=
  .next (s.act fun w => w.asWriter (unitOf req) (0xC02010) fun w => w.cornerstone 5 (unitOf req) true)

/-- PROFILE_LOCK (R449): Sets the safety profile lock. -/
def execProfileLock (req : Requester) (s : State) : Host.Outcome State Fault Refusal :=
  .next (s.act fun w => w.asWriter (unitOf req) (0xC02010) fun w => w.cornerstone 6 (unitOf req) true)

/-- MODEL_KEY_LOAD (R454): Decrypts and loads a model key into the volatile store. -/
def execModelKeyLoad (req : Requester) (s : State) : Host.Outcome State Fault Refusal :=
  .next (s.act fun w => w.asWriter (unitOf req) (0xC02010) fun w => w.cornerstone 0x10 (unitOf req) true)

/-- MODEL_KEY_CLEAR (R449): Clears one or all model keys. -/
def execModelKeyClear (req : Requester) (s : State) : Host.Outcome State Fault Refusal :=
  .next (s.act fun w => w.asWriter (unitOf req) (0xC02010) fun w => w.cornerstone 0x11 (unitOf req) true)

/-- CHANGE_RECORD_BURNED (R451): A change's record row reads back valid, the change takes effect and SEC_CC_STATUS posts. -/
def execChangeRecordBurned (s : State) : Host.Outcome State Fault Refusal :=
  .next (s.actOn fun w => w.changeBurned)

/-- GET_VERSION (R456): SPDM GET_VERSION request. -/
def execGetVersion (s : State) : Host.Outcome State Fault Refusal :=
  .next (s.actOn fun w => w.getVersion)

/-- GET_CAPABILITIES (R456): SPDM GET_CAPABILITIES request. -/
def execGetCapabilities (s : State) : Host.Outcome State Fault Refusal :=
  .next (s.actOn fun w => w.getCapabilities)

/-- NEGOTIATE_ALGORITHMS (R456): SPDM NEGOTIATE_ALGORITHMS request. -/
def execNegotiateAlgorithms (s : State) : Host.Outcome State Fault Refusal :=
  .next (s.actOn fun w => w.negotiateAlgorithms)

/-- GET_DIGESTS (R456): SPDM GET_DIGESTS request. -/
def execGetDigests (s : State) : Host.Outcome State Fault Refusal :=
  .next (s.actOn fun w => w.getDigests)

/-- GET_CERTIFICATE (R457): SPDM GET_CERTIFICATE request for slot 0. -/
def execGetCertificate (slot : Fin 16) (offset length : BitVec 16) (s : State) : Host.Outcome State Fault Refusal :=
  .next (s.actOn fun w => w.getCertificate slot.val offset.toNat length.toNat)

/-- CHALLENGE (R456): SPDM CHALLENGE answered with a signature. -/
def execChallenge (slot : BitVec 8) (nonce : Vector Byte 32) (s : State) : Host.Outcome State Fault Refusal :=
  .next (s.actOn fun w => w.spdmChallenge slot.toNat nonce.toList)

/-- GET_MEASUREMENTS (R458): SPDM GET_MEASUREMENTS request. -/
def execGetMeasurements (slot index : BitVec 8) (signed : Bool) (nonce : Vector Byte 32) (s : State) : Host.Outcome State Fault Refusal :=
  .next (s.actOn fun w => w.getMeasurements slot.toNat index.toNat signed nonce.toList)

/-- UNSUPPORTED_REQUEST (R456): An unsupported SPDM request is answered with ERROR UnsupportedRequest. -/
def execUnsupportedRequest (s : State) : Host.Outcome State Fault Refusal :=
  .next (s.actOn fun w => w.unsupportedRequest)

/-- DEBUG_CHALLENGE (R461): SEC_DBG_CMD 1 draws a fresh debug challenge. -/
def execDebugChallenge (req : Requester) (s : State) : Host.Outcome State Fault Refusal :=
  .next (s.act fun w => w.asWriter (unitOf req) (0xC03028) fun w => w.debugChallenge (unitOf req) true)

/-- DEBUG_UNLOCK (R462): SEC_DBG_CMD 2 checks a token, or none under open policy, and unlocks debug. -/
def execDebugUnlock (req : Requester) (s : State) : Host.Outcome State Fault Refusal :=
  .next (s.act fun w => w.asWriter (unitOf req) (0xC03028) fun w => w.debugUnlock (unitOf req) true)

end Sys2Proof.Machine
end

