-- ==== Sys2Proof/Machine/CmdTileOps.lean ====
section
/-! DEFINITION. What each command does: tile operations. -/

namespace Sys2Proof.Machine

/-- MATMUL (R239): The array accumulates A × B into a bank. -/
def execMatmul (c : Fin 64) (s : State) : Host.Outcome State Fault Refusal :=
  .next (s.act fun w => w.unlessHeld (w.d.cores.getD c.val 0xFF) fun w => w.issue c.val 0x01)

/-- CONV (R240): The array accumulates an implicit-GEMM convolution into a bank. -/
def execConvolve (c : Fin 64) (s : State) : Host.Outcome State Fault Refusal :=
  .next (s.act fun w => w.unlessHeld (w.d.cores.getD c.val 0xFF) fun w => w.issue c.val 0x02)

/-- ACC_LOAD (R241): A bank is loaded from a tile-store operand. -/
def execAccLoad (c : Fin 64) (s : State) : Host.Outcome State Fault Refusal :=
  .next (s.act fun w => w.unlessHeld (w.d.cores.getD c.val 0xFF) fun w => w.issue c.val 0x03)

/-- ACC_STORE (R241): A bank is scaled, biased and converted into DST. -/
def execAccStore (c : Fin 64) (s : State) : Host.Outcome State Fault Refusal :=
  .next (s.act fun w => w.unlessHeld (w.d.cores.getD c.val 0xFF) fun w => w.issue c.val 0x04)

/-- ACC_ZERO (R238): A bank is cleared to zero. -/
def execAccZero (c : Fin 64) (s : State) : Host.Outcome State Fault Refusal :=
  .next (s.act fun w => w.unlessHeld (w.d.cores.getD c.val 0xFF) fun w => w.issue c.val 0x05)

/-- VADD (R243): Vector add. -/
def execVadd (c : Fin 64) (s : State) : Host.Outcome State Fault Refusal :=
  .next (s.act fun w => w.unlessHeld (w.d.cores.getD c.val 0xFF) fun w => w.issue c.val 0x20)

/-- VSUB (R243): Vector subtract. -/
def execVsub (c : Fin 64) (s : State) : Host.Outcome State Fault Refusal :=
  .next (s.act fun w => w.unlessHeld (w.d.cores.getD c.val 0xFF) fun w => w.issue c.val 0x21)

/-- VMUL (R243): Vector multiply. -/
def execVmul (c : Fin 64) (s : State) : Host.Outcome State Fault Refusal :=
  .next (s.act fun w => w.unlessHeld (w.d.cores.getD c.val 0xFF) fun w => w.issue c.val 0x22)

/-- VMAC (R243): Vector fused multiply-add. -/
def execVmac (c : Fin 64) (s : State) : Host.Outcome State Fault Refusal :=
  .next (s.act fun w => w.unlessHeld (w.d.cores.getD c.val 0xFF) fun w => w.issue c.val 0x23)

/-- VMAX (R243): Vector maximum. -/
def execVmax (c : Fin 64) (s : State) : Host.Outcome State Fault Refusal :=
  .next (s.act fun w => w.unlessHeld (w.d.cores.getD c.val 0xFF) fun w => w.issue c.val 0x24)

/-- VMIN (R243): Vector minimum. -/
def execVmin (c : Fin 64) (s : State) : Host.Outcome State Fault Refusal :=
  .next (s.act fun w => w.unlessHeld (w.d.cores.getD c.val 0xFF) fun w => w.issue c.val 0x25)

/-- VABS (R243): Vector absolute value. -/
def execVabs (c : Fin 64) (s : State) : Host.Outcome State Fault Refusal :=
  .next (s.act fun w => w.unlessHeld (w.d.cores.getD c.val 0xFF) fun w => w.issue c.val 0x26)

/-- VCVT (R271): Vector conversion to DST's format, writing block scales for MX. -/
def execVcvt (c : Fin 64) (s : State) : Host.Outcome State Fault Refusal :=
  .next (s.act fun w => w.unlessHeld (w.d.cores.getD c.val 0xFF) fun w => w.issue c.val 0x27)

/-- VLUT (R245): Vector table lookup with interpolation. -/
def execVlut (c : Fin 64) (s : State) : Host.Outcome State Fault Refusal :=
  .next (s.act fun w => w.unlessHeld (w.d.cores.getD c.val 0xFF) fun w => w.issue c.val 0x28)

/-- VEXP (R273): Vector exponential. -/
def execVexp (c : Fin 64) (s : State) : Host.Outcome State Fault Refusal :=
  .next (s.act fun w => w.unlessHeld (w.d.cores.getD c.val 0xFF) fun w => w.issue c.val 0x29)

/-- VRCP (R273): Vector reciprocal. -/
def execVrcp (c : Fin 64) (s : State) : Host.Outcome State Fault Refusal :=
  .next (s.act fun w => w.unlessHeld (w.d.cores.getD c.val 0xFF) fun w => w.issue c.val 0x2A)

/-- VRSQRT (R273): Vector reciprocal square root. -/
def execVrsqrt (c : Fin 64) (s : State) : Host.Outcome State Fault Refusal :=
  .next (s.act fun w => w.unlessHeld (w.d.cores.getD c.val 0xFF) fun w => w.issue c.val 0x2B)

/-- VREDSUM (R272): Row sum over dimension 0. -/
def execVredsum (c : Fin 64) (s : State) : Host.Outcome State Fault Refusal :=
  .next (s.act fun w => w.unlessHeld (w.d.cores.getD c.val 0xFF) fun w => w.issue c.val 0x2C)

/-- VREDMAX (R272): Row maximum over dimension 0. -/
def execVredmax (c : Fin 64) (s : State) : Host.Outcome State Fault Refusal :=
  .next (s.act fun w => w.unlessHeld (w.d.cores.getD c.val 0xFF) fun w => w.issue c.val 0x2D)

/-- VSMX (R243): Softmax exponentials with row sums into c. -/
def execVsmx (c : Fin 64) (s : State) : Host.Outcome State Fault Refusal :=
  .next (s.act fun w => w.unlessHeld (w.d.cores.getD c.val 0xFF) fun w => w.issue c.val 0x2E)

/-- VNORM (R243): Normalisation (a − b) × c. -/
def execVnorm (c : Fin 64) (s : State) : Host.Outcome State Fault Refusal :=
  .next (s.act fun w => w.unlessHeld (w.d.cores.getD c.val 0xFF) fun w => w.issue c.val 0x2F)

/-- VSTAT (R272): Per-row mean and inverse standard deviation. -/
def execVstat (c : Fin 64) (s : State) : Host.Outcome State Fault Refusal :=
  .next (s.act fun w => w.unlessHeld (w.d.cores.getD c.val 0xFF) fun w => w.issue c.val 0x30)

/-- LOAD (R246): DMA from Quarry, DRAM or host into the tile store. -/
def execLoad (c : Fin 64) (errs : List (BitVec 48 × Bool)) (s : State) : Host.Outcome State Fault Refusal :=
  .next (s.act fun w => w.unlessHeld (w.d.cores.getD c.val 0xFF) fun w => w.issueLoad c.val (errs.map (fun e => (e.1.toNat, e.2))))

/-- STORE (R246): DMA from the tile store to Quarry, DRAM or host. -/
def execStore (c : Fin 64) (s : State) : Host.Outcome State Fault Refusal :=
  .next (s.act fun w => w.unlessHeld (w.d.cores.getD c.val 0xFF) fun w => w.issue c.val 0x41)

/-- LOAD_BCAST (R247): A broadcast load joins its quoin's broadcast group. -/
def execLoadBcast (c : Fin 64) (s : State) : Host.Outcome State Fault Refusal :=
  .next (s.act fun w => w.unlessHeld (w.d.cores.getD c.val 0xFF) fun w => w.issue c.val 0x42)

/-- RDSTRIDE (R246): In-store strided reorder. -/
def execRdstride (c : Fin 64) (s : State) : Host.Outcome State Fault Refusal :=
  .next (s.act fun w => w.unlessHeld (w.d.cores.getD c.val 0xFF) fun w => w.issue c.val 0x43)

/-- RDTRANS (R246): In-store block transpose. -/
def execRdtrans (c : Fin 64) (s : State) : Host.Outcome State Fault Refusal :=
  .next (s.act fun w => w.unlessHeld (w.d.cores.getD c.val 0xFF) fun w => w.issue c.val 0x44)

/-- REMOTE_WRITE (R290): Write to another member's tile store through its REMOTE port. -/
def execRemoteWrite (c : Fin 64) (s : State) : Host.Outcome State Fault Refusal :=
  .next (s.act fun w => w.unlessHeld (w.d.cores.getD c.val 0xFF) fun w => w.issue c.val 0x45)

/-- REMOTE_READ (R290): Read from another member's tile store. -/
def execRemoteRead (c : Fin 64) (s : State) : Host.Outcome State Fault Refusal :=
  .next (s.act fun w => w.unlessHeld (w.d.cores.getD c.val 0xFF) fun w => w.issue c.val 0x46)

/-- WAIT_FLAG (R248): A core stalls issue until a joint flag reaches the computed count. -/
def execWaitFlag (c : Fin 64) (s : State) : Host.Outcome State Fault Refusal :=
  .next (s.act fun w => w.unlessHeld (w.d.cores.getD c.val 0xFF) fun w => w.issue c.val 0x60)

/-- SIGNAL_FLAG (R248): Once earlier writes are visible the core signals a joint flag. -/
def execSignalFlag (c : Fin 64) (s : State) : Host.Outcome State Fault Refusal :=
  .next (s.act fun w => w.unlessHeld (w.d.cores.getD c.val 0xFF) fun w => w.issue c.val 0x61)

/-- FENCE (R248): Issue stalls until earlier operations complete, and with SCOPE their writes are visible. -/
def execFence (c : Fin 64) (s : State) : Host.Outcome State Fault Refusal :=
  .next (s.act fun w => w.unlessHeld (w.d.cores.getD c.val 0xFF) fun w => w.issue c.val 0x62)

/-- LOOP (R249): Opens a loop level with its count. -/
def execTileLoop (c : Fin 64) (s : State) : Host.Outcome State Fault Refusal :=
  .next (s.act fun w => w.unlessHeld (w.d.cores.getD c.val 0xFF) fun w => w.issue c.val 0x80)

/-- ENDLOOP (R249): Increments a loop counter and repeats or closes the level. -/
def execEndloop (c : Fin 64) (s : State) : Host.Outcome State Fault Refusal :=
  .next (s.act fun w => w.unlessHeld (w.d.cores.getD c.val 0xFF) fun w => w.issue c.val 0x81)

/-- BRANCH (R249): Jumps forward when a loop-counter condition holds. -/
def execBranch (c : Fin 64) (s : State) : Host.Outcome State Fault Refusal :=
  .next (s.act fun w => w.unlessHeld (w.d.cores.getD c.val 0xFF) fun w => w.issue c.val 0x82)

/-- END (R254): Ends the task once its writes are visible. -/
def execTileEnd (c : Fin 64) (s : State) : Host.Outcome State Fault Refusal :=
  .next (s.act fun w => w.unlessHeld (w.d.cores.getD c.val 0xFF) fun w => w.issue c.val 0x83)

/-- NOP (R249): Uses one issue slot. -/
def execNop (c : Fin 64) (s : State) : Host.Outcome State Fault Refusal :=
  .next (s.act fun w => w.unlessHeld (w.d.cores.getD c.val 0xFF) fun w => w.issue c.val 0x84)

/-- SET_ROUND (R250): Sets the output rounding mode. -/
def execSetRound (c : Fin 64) (s : State) : Host.Outcome State Fault Refusal :=
  .next (s.act fun w => w.unlessHeld (w.d.cores.getD c.val 0xFF) fun w => w.issue c.val 0xA0)

/-- SET_SCALE (R262): Sets a per-tensor FP8 scale or OUT_SCALE. -/
def execSetScale (c : Fin 64) (s : State) : Host.Outcome State Fault Refusal :=
  .next (s.act fun w => w.unlessHeld (w.d.cores.getD c.val 0xFF) fun w => w.issue c.val 0xA1)

/-- SET_SPARSE (R242): Sets the sparsity metadata descriptor. -/
def execSetSparse (c : Fin 64) (s : State) : Host.Outcome State Fault Refusal :=
  .next (s.act fun w => w.unlessHeld (w.d.cores.getD c.val 0xFF) fun w => w.issue c.val 0xA2)

/-- SET_LUT (R245): Loads a LUT slot. -/
def execSetLut (c : Fin 64) (s : State) : Host.Outcome State Fault Refusal :=
  .next (s.act fun w => w.unlessHeld (w.d.cores.getD c.val 0xFF) fun w => w.issue c.val 0xA3)

end Sys2Proof.Machine
end

