-- ==== Sys2Proof/Machine/CmdVision.lean ====
section
/-! DEFINITION. What each command does: plumb units, pipelines and vision engines. -/

namespace Sys2Proof.Machine

/-- PLUMB_TILE_ROW_REDUCED (R85): A plumb unit finishes reducing one tile row of the confidence source. -/
def execPlumbTileRowReduced (engine : Fin 2) (s : State) : Host.Outcome State Fault Refusal :=
  .next (s.act fun w => w.unlessHeld (0x74 + engine.val) fun w => w.plumbRow (0x74 + engine.val))

/-- PLUMB_SELECTION_DONE (R89): Tile selection ends and the tile list, mask and statistics are written and signalled. -/
def execPlumbSelectionDone (engine : Fin 2) (s : State) : Host.Outcome State Fault Refusal :=
  .next (s.act fun w => w.unlessHeld (0x74 + engine.val) fun w => w.plumbSelect (0x74 + engine.val))

/-- GATED_TILE_LAUNCH (R95): The Keystone launches the next listed tile on the lowest free core 48 V-cycles after its previous task ends. -/
def execGatedTileLaunch (run node : Nat) (s : State) : Host.Outcome State Fault Refusal :=
  .next (s.act fun w => w.gatedLaunch run node)

/-- SEAM_OUTPUT_DONE (R99): The seam has written all pixel words and writes the history header last with VALID set. -/
def execSeamOutputDone (engine : Fin 2) (s : State) : Host.Outcome State Fault Refusal :=
  .next (s.act fun w => w.unlessHeld (0x74 + engine.val) fun w => w.seamDone (0x74 + engine.val))

/-- ISP_STRIPE_START (R149): A freed pipeline takes the next ready stripe by the deadline scheduler. -/
def execIspStripeStart (engine : Fin 4) (s : State) : Host.Outcome State Fault Refusal :=
  .next (s.act fun w => w.unlessHeld (0x60 + engine.val) fun w => w.ispStart engine.val)

/-- ISP_STRIPE_END (R147): A pipeline finishes a stripe, signals its output flags and frees. -/
def execIspStripeEnd (engine : Fin 4) (fixed : Nat) (bad : List Nat) (s : State) : Host.Outcome State Fault Refusal :=
  .next (s.act fun w => w.unlessHeld (0x60 + engine.val) fun w => w.ispEnd engine.val fixed bad)

/-- STEREO_LEVEL_DONE (R166): A stereo engine finishes one pass of one level and moves on or writes the first course. -/
def execStereoLevelDone (engine : Fin 2) (s : State) : Host.Outcome State Fault Refusal :=
  .next (s.act fun w => w.unlessHeld (0x58 + engine.val) fun w => w.stereoLevel (0x58 + engine.val))

/-- STEREO_TILE_ROW_DONE (R167): A stereo tile row at FINE_LEVEL is written and full stripes are signalled. -/
def execStereoTileRowDone (engine : Fin 2) (s : State) : Host.Outcome State Fault Refusal :=
  .next (s.act fun w => w.unlessHeld (0x58 + engine.val) fun w => w.stereoRow (0x58 + engine.val))

/-- STEREO_REFINE_DONE (R168): Built-in stereo refinement finishes and port 1 is signalled. -/
def execStereoRefineDone (engine : Fin 2) (s : State) : Host.Outcome State Fault Refusal :=
  .next (s.act fun w => w.unlessHeld (0x58 + engine.val) fun w => w.stereoRefine (0x58 + engine.val))

/-- STEREO_GATED_TILE_DONE (R169): A gated stereo engine finishes one listed tile and sets its DONE bit. -/
def execStereoGatedTileDone (engine : Fin 2) (s : State) : Host.Outcome State Fault Refusal :=
  .next (s.act fun w => w.unlessHeld (0x58 + engine.val) fun w => w.stereoGated (0x58 + engine.val))

/-- FLOW_LEVEL_DONE (R174): A flow engine finishes one pass of one level. -/
def execFlowLevelDone (engine : Fin 2) (s : State) : Host.Outcome State Fault Refusal :=
  .next (s.act fun w => w.unlessHeld (0x5A + engine.val) fun w => w.flowLevel (0x5A + engine.val))

/-- FLOW_TILE_ROW_DONE (R184): A flow tile row at LAST is written and full stripes are signalled. -/
def execFlowTileRowDone (engine : Fin 2) (s : State) : Host.Outcome State Fault Refusal :=
  .next (s.act fun w => w.unlessHeld (0x5A + engine.val) fun w => w.flowRow (0x5A + engine.val))

/-- FLOW_REFINE_DONE (R185): Built-in flow refinement finishes and port 1 is signalled. -/
def execFlowRefineDone (engine : Fin 2) (s : State) : Host.Outcome State Fault Refusal :=
  .next (s.act fun w => w.unlessHeld (0x5A + engine.val) fun w => w.flowRefine (0x5A + engine.val))

/-- FLOW_GATED_TILE_DONE (R186): A gated flow engine finishes one listed tile. -/
def execFlowGatedTileDone (engine : Fin 2) (s : State) : Host.Outcome State Fault Refusal :=
  .next (s.act fun w => w.unlessHeld (0x5A + engine.val) fun w => w.flowGated (0x5A + engine.val))

/-- FEATURE_PHASE_DONE (R201): A feature engine finishes its track, detect, write, describe or match phase. -/
def execFeaturePhaseDone (engine : Fin 2) (s : State) : Host.Outcome State Fault Refusal :=
  .next (s.act fun w => w.unlessHeld (0x5C + engine.val) fun w => w.featurePhase (0x5C + engine.val))

/-- PYRAMID_LEVEL_PUBLISHED (R210): A pyramid level and its sideband array are visible and the output flag is signalled. -/
def execPyramidLevelPublished (engine : Fin 4) (s : State) : Host.Outcome State Fault Refusal :=
  .next (s.act fun w => w.unlessHeld (0x50 + engine.val) fun w => w.pyramidPublish (0x50 + engine.val))

/-- WARP_TILE_DONE (R219): A warp engine finishes an output tile and signals full stripes. -/
def execWarpTileDone (engine : Fin 4) (s : State) : Host.Outcome State Fault Refusal :=
  .next (s.act fun w => w.unlessHeld (0x54 + engine.val) fun w => w.warpTile (0x54 + engine.val))

/-- WARP_BLOCK_FETCHED (R218): A missing source block arrives in the warp tile cache. -/
def execWarpBlockFetched (engine : Fin 4) (s : State) : Host.Outcome State Fault Refusal :=
  .next (s.act fun w => w.unlessHeld (0x54 + engine.val) fun w => w.warpFetched (0x54 + engine.val))

end Sys2Proof.Machine
end

