-- ==== Sys2Proof/Machine/Dispatch.lean ====
section
/-! DEFINITION. One arm per command. -/

namespace Sys2Proof.Machine

/-- The effect of a command on the state, the queue of commands apart. -/
def exec (i : Instr) (s : State) : Host.Outcome State Fault Refusal :=
  match i with
  | .registerWrite req off n data => Sys2Proof.Machine.execRegisterWrite req off n data s
  | .bitstreamRegion h addr length => Sys2Proof.Machine.execBitstreamRegion h addr length s
  | .bitstreamStaged fail => Sys2Proof.Machine.execBitstreamStaged fail s
  | .signatureVerified => Sys2Proof.Machine.execSignatureVerified s
  | .modelImageChecked fail => Sys2Proof.Machine.execModelImageChecked fail s
  | .modelLoad h model => Sys2Proof.Machine.execModelLoad h model s
  | .graphRunBind h graph context => Sys2Proof.Machine.execGraphRunBind h graph context s
  | .graphRunTrigger h graph context => Sys2Proof.Machine.execGraphRunTrigger h graph context s
  | .graphRunUnbind h graph context => Sys2Proof.Machine.execGraphRunUnbind h graph context s
  | .frameStartPacket p vc n => Sys2Proof.Machine.execFrameStartPacket p vc n s
  | .instantiate => Sys2Proof.Machine.execInstantiate s
  | .instantiationDone => Sys2Proof.Machine.execInstantiationDone s
  | .longPacket p vc dt payload crcOk => Sys2Proof.Machine.execLongPacket p vc dt payload crcOk s
  | .lineStartPacket p vc n isEnd => Sys2Proof.Machine.execLineStartPacket p vc n isEnd s
  | .frameEndPacket p vc n => Sys2Proof.Machine.execFrameEndPacket p vc n s
  | .genericShortPacket p vc => Sys2Proof.Machine.execGenericShortPacket p vc s
  | .headerEcc p fix => Sys2Proof.Machine.execHeaderEcc p fix s
  | .eofTimeout c => Sys2Proof.Machine.execEofTimeout c s
  | .portEnable req p => Sys2Proof.Machine.execPortEnable req p s
  | .portDisable req p => Sys2Proof.Machine.execPortDisable req p s
  | .portLocked p deskewed => Sys2Proof.Machine.execPortLocked p deskewed s
  | .lockFail p => Sys2Proof.Machine.execLockFail p s
  | .paramSet h record => Sys2Proof.Machine.execParamSet h record s
  | .replayTailWrite req c v => Sys2Proof.Machine.execReplayTailWrite req c v s
  | .replayDescriptorFetch c => Sys2Proof.Machine.execReplayDescriptorFetch c s
  | .replayFrameStart c => Sys2Proof.Machine.execReplayFrameStart c s
  | .replayLineDue c late => Sys2Proof.Machine.execReplayLineDue c late s
  | .ingI3cCmd req m v => Sys2Proof.Machine.execIngI3cCmd req m v s
  | .i3cTransferDone m ack data => Sys2Proof.Machine.execI3cTransferDone m ack data s
  | .i3cIbi m => Sys2Proof.Machine.execI3cIbi m s
  | .ingI3cRdata req m => Sys2Proof.Machine.execIngI3cRdata req m s
  | .fsyncEdge n => Sys2Proof.Machine.execFsyncEdge n s
  | .fsyncPulseEnd n => Sys2Proof.Machine.execFsyncPulseEnd n s
  | .ksFlagSignal req f increment generation => Sys2Proof.Machine.execKsFlagSignal req f increment generation s
  | .flagSignalApply f n uncorrectable => Sys2Proof.Machine.execFlagSignalApply f n uncorrectable s
  | .nodeDispatch unit => Sys2Proof.Machine.execNodeDispatch unit s
  | .nodeComplete run node => Sys2Proof.Machine.execNodeComplete run node s
  | .waitTimeout run node => Sys2Proof.Machine.execWaitTimeout run node s
  | .timeoutFillDone run node => Sys2Proof.Machine.execTimeoutFillDone run node s
  | .ledgerPoint run => Sys2Proof.Machine.execLedgerPoint run s
  | .hostEmitPost run node => Sys2Proof.Machine.execHostEmitPost run node s
  | .instanceComplete run => Sys2Proof.Machine.execInstanceComplete run s
  | .sealZeroDone slab => Sys2Proof.Machine.execSealZeroDone slab s
  | .plumbTileRowReduced engine => Sys2Proof.Machine.execPlumbTileRowReduced engine s
  | .plumbSelectionDone engine => Sys2Proof.Machine.execPlumbSelectionDone engine s
  | .gatedTileLaunch run node => Sys2Proof.Machine.execGatedTileLaunch run node s
  | .seamOutputDone engine => Sys2Proof.Machine.execSeamOutputDone engine s
  | .ispStripeStart engine => Sys2Proof.Machine.execIspStripeStart engine s
  | .ispStripeEnd engine fixed bad => Sys2Proof.Machine.execIspStripeEnd engine fixed bad s
  | .stereoLevelDone engine => Sys2Proof.Machine.execStereoLevelDone engine s
  | .stereoTileRowDone engine => Sys2Proof.Machine.execStereoTileRowDone engine s
  | .stereoRefineDone engine => Sys2Proof.Machine.execStereoRefineDone engine s
  | .stereoGatedTileDone engine => Sys2Proof.Machine.execStereoGatedTileDone engine s
  | .flowLevelDone engine => Sys2Proof.Machine.execFlowLevelDone engine s
  | .flowTileRowDone engine => Sys2Proof.Machine.execFlowTileRowDone engine s
  | .flowRefineDone engine => Sys2Proof.Machine.execFlowRefineDone engine s
  | .flowGatedTileDone engine => Sys2Proof.Machine.execFlowGatedTileDone engine s
  | .featurePhaseDone engine => Sys2Proof.Machine.execFeaturePhaseDone engine s
  | .pyramidLevelPublished engine => Sys2Proof.Machine.execPyramidLevelPublished engine s
  | .warpTileDone engine => Sys2Proof.Machine.execWarpTileDone engine s
  | .warpBlockFetched engine => Sys2Proof.Machine.execWarpBlockFetched engine s
  | .taskLaunch c => Sys2Proof.Machine.execTaskLaunch c s
  | .launchCopyDone c => Sys2Proof.Machine.execLaunchCopyDone c s
  | .tileOpComplete c unit ring => Sys2Proof.Machine.execTileOpComplete c unit ring s
  | .matmul c => Sys2Proof.Machine.execMatmul c s
  | .convolve c => Sys2Proof.Machine.execConvolve c s
  | .accLoad c => Sys2Proof.Machine.execAccLoad c s
  | .accStore c => Sys2Proof.Machine.execAccStore c s
  | .accZero c => Sys2Proof.Machine.execAccZero c s
  | .vadd c => Sys2Proof.Machine.execVadd c s
  | .vsub c => Sys2Proof.Machine.execVsub c s
  | .vmul c => Sys2Proof.Machine.execVmul c s
  | .vmac c => Sys2Proof.Machine.execVmac c s
  | .vmax c => Sys2Proof.Machine.execVmax c s
  | .vmin c => Sys2Proof.Machine.execVmin c s
  | .vabs c => Sys2Proof.Machine.execVabs c s
  | .vcvt c => Sys2Proof.Machine.execVcvt c s
  | .vlut c => Sys2Proof.Machine.execVlut c s
  | .vexp c => Sys2Proof.Machine.execVexp c s
  | .vrcp c => Sys2Proof.Machine.execVrcp c s
  | .vrsqrt c => Sys2Proof.Machine.execVrsqrt c s
  | .vredsum c => Sys2Proof.Machine.execVredsum c s
  | .vredmax c => Sys2Proof.Machine.execVredmax c s
  | .vsmx c => Sys2Proof.Machine.execVsmx c s
  | .vnorm c => Sys2Proof.Machine.execVnorm c s
  | .vstat c => Sys2Proof.Machine.execVstat c s
  | .load c errs => Sys2Proof.Machine.execLoad c errs s
  | .store c => Sys2Proof.Machine.execStore c s
  | .loadBcast c => Sys2Proof.Machine.execLoadBcast c s
  | .broadcastTransferStart c => Sys2Proof.Machine.execBroadcastTransferStart c s
  | .rdstride c => Sys2Proof.Machine.execRdstride c s
  | .rdtrans c => Sys2Proof.Machine.execRdtrans c s
  | .remoteWrite c => Sys2Proof.Machine.execRemoteWrite c s
  | .remoteRead c => Sys2Proof.Machine.execRemoteRead c s
  | .waitFlag c => Sys2Proof.Machine.execWaitFlag c s
  | .signalFlag c => Sys2Proof.Machine.execSignalFlag c s
  | .fence c => Sys2Proof.Machine.execFence c s
  | .tileLoop c => Sys2Proof.Machine.execTileLoop c s
  | .endloop c => Sys2Proof.Machine.execEndloop c s
  | .branch c => Sys2Proof.Machine.execBranch c s
  | .tileEnd c => Sys2Proof.Machine.execTileEnd c s
  | .nop c => Sys2Proof.Machine.execNop c s
  | .setRound c => Sys2Proof.Machine.execSetRound c s
  | .setScale c => Sys2Proof.Machine.execSetScale c s
  | .setSparse c => Sys2Proof.Machine.execSetSparse c s
  | .setLut c => Sys2Proof.Machine.execSetLut c s
  | .waitLimitExpiry c => Sys2Proof.Machine.execWaitLimitExpiry c s
  | .patrolScrub mem fixed bad => Sys2Proof.Machine.execPatrolScrub mem fixed bad s
  | .copyJob h count chain => Sys2Proof.Machine.execCopyJob h count chain s
  | .copyChainStart engine => Sys2Proof.Machine.execCopyChainStart engine s
  | .copyChainComplete engine => Sys2Proof.Machine.execCopyChainComplete engine s
  | .msnEventAccept => Sys2Proof.Machine.execMsnEventAccept s
  | .msnEventRemove => Sys2Proof.Machine.execMsnEventRemove s
  | .threadReady t => Sys2Proof.Machine.execThreadReady t s
  | .create p a => Sys2Proof.Machine.execCreate p a s
  | .exit p a => Sys2Proof.Machine.execExit p a s
  | .yield p a => Sys2Proof.Machine.execYield p a s
  | .wait p a => Sys2Proof.Machine.execWait p a s
  | .sleepUntil p a => Sys2Proof.Machine.execSleepUntil p a s
  | .signal p a => Sys2Proof.Machine.execSignal p a s
  | .setPrio p a => Sys2Proof.Machine.execSetPrio p a s
  | .setAffinity p a => Sys2Proof.Machine.execSetAffinity p a s
  | .suspend p a => Sys2Proof.Machine.execSuspend p a s
  | .resume p a => Sys2Proof.Machine.execResume p a s
  | .bind p a => Sys2Proof.Machine.execBind p a s
  | .msnWaitFlag p a => Sys2Proof.Machine.execMsnWaitFlag p a s
  | .kill p a => Sys2Proof.Machine.execKill p a s
  | .prefetchLoadDone p eccBad => Sys2Proof.Machine.execPrefetchLoadDone p eccBad s
  | .contextSaveDone p => Sys2Proof.Machine.execContextSaveDone p s
  | .msnTick => Sys2Proof.Machine.execMsnTick s
  | .delayExpiry => Sys2Proof.Machine.execDelayExpiry s
  | .quantumExpiry p => Sys2Proof.Machine.execQuantumExpiry p s
  | .pairDrain req p => Sys2Proof.Machine.execPairDrain req p s
  | .pairReturn req p => Sys2Proof.Machine.execPairReturn req p s
  | .lockstepMismatch p => Sys2Proof.Machine.execLockstepMismatch p s
  | .ksMsnHostSignal req channel count => Sys2Proof.Machine.execKsMsnHostSignal req channel count s
  | .submissionDoorbell q v => Sys2Proof.Machine.execSubmissionDoorbell q v s
  | .completionDoorbell q v => Sys2Proof.Machine.execCompletionDoorbell q v s
  | .fetchGrant => Sys2Proof.Machine.execFetchGrant s
  | .entryFetched q fail => Sys2Proof.Machine.execEntryFetched q fail s
  | .jobStart q => Sys2Proof.Machine.execJobStart q s
  | .completionPost q => Sys2Proof.Machine.execCompletionPost q s
  | .cqStallTimeout q => Sys2Proof.Machine.execCqStallTimeout q s
  | .queueResume req q => Sys2Proof.Machine.execQueueResume req q s
  | .createQueue h payload => Sys2Proof.Machine.execCreateQueue h payload s
  | .deleteQueue h qid => Sys2Proof.Machine.execDeleteQueue h qid s
  | .deleteQueueDone q => Sys2Proof.Machine.execDeleteQueueDone q s
  | .fenceSignal h token value => Sys2Proof.Machine.execFenceSignal h token value s
  | .fenceWait h token value timeout => Sys2Proof.Machine.execFenceWait h token value timeout s
  | .fenceWaitTimeout q => Sys2Proof.Machine.execFenceWaitTimeout q s
  | .qeFenceWrite req t v => Sys2Proof.Machine.execQeFenceWrite req t v s
  | .hostIfNegotiate req lowest highest => Sys2Proof.Machine.execHostIfNegotiate req lowest highest s
  | .aqEnable req v => Sys2Proof.Machine.execAqEnable req v s
  | .bar2Read off n => Sys2Proof.Machine.execBar2Read off n s
  | .bar2Write off data poisoned => Sys2Proof.Machine.execBar2Write off data poisoned s
  | .malformedTlp e addr => Sys2Proof.Machine.execMalformedTlp e addr s
  | .completionTimeout r => Sys2Proof.Machine.execCompletionTimeout r s
  | .ptmRequest => Sys2Proof.Machine.execPtmRequest s
  | .ptmResponse master => Sys2Proof.Machine.execPtmResponse master s
  | .errRingBaseWrite req base => Sys2Proof.Machine.execErrRingBaseWrite req base s
  | .attest h report buf bytes => Sys2Proof.Machine.execAttest h report buf bytes s
  | .otpRecordRead h first buf bytes => Sys2Proof.Machine.execOtpRecordRead h first buf bytes s
  | .counterSnap h id tb => Sys2Proof.Machine.execCounterSnap h id tb s
  | .snapCapture k => Sys2Proof.Machine.execSnapCapture k s
  | .snapComplete k => Sys2Proof.Machine.execSnapComplete k s
  | .unitReset unit job => Sys2Proof.Machine.execUnitReset unit job s
  | .unitResetRelease unit => Sys2Proof.Machine.execUnitResetRelease unit s
  | .hotReset => Sys2Proof.Machine.execHotReset s
  | .flr => Sys2Proof.Machine.execFlr s
  | .d3hotEntry => Sys2Proof.Machine.execD3hotEntry s
  | .d0Return => Sys2Proof.Machine.execD0Return s
  | .mr4Poll ch rate hot => Sys2Proof.Machine.execMr4Poll ch rate hot s
  | .refresh ch bank => Sys2Proof.Machine.execRefresh ch bank s
  | .dqsTracking ch drift => Sys2Proof.Machine.execDqsTracking ch drift s
  | .retrainIntervalExpiry ch => Sys2Proof.Machine.execRetrainIntervalExpiry ch s
  | .retrainNow req ch => Sys2Proof.Machine.execRetrainNow req ch s
  | .evacuationStart => Sys2Proof.Machine.execEvacuationStart s
  | .evacStripeSwitch => Sys2Proof.Machine.execEvacStripeSwitch s
  | .channelTrainingDone => Sys2Proof.Machine.execChannelTrainingDone s
  | .drvPortEnable req p => Sys2Proof.Machine.execDrvPortEnable req p s
  | .linkTrainingStepDone p lanes pass => Sys2Proof.Machine.execLinkTrainingStepDone p lanes pass s
  | .linkDown p => Sys2Proof.Machine.execLinkDown p s
  | .flitReceive p flit => Sys2Proof.Machine.execFlitReceive p flit s
  | .replayTimeout p => Sys2Proof.Machine.execReplayTimeout p s
  | .windowWrite p h window generation tag offset payload => Sys2Proof.Machine.execWindowWrite p h window generation tag offset payload s
  | .windowRead p h window generation tag offset length => Sys2Proof.Machine.execWindowRead p h window generation tag offset length s
  | .readData p h tag payload => Sys2Proof.Machine.execReadData p h tag payload s
  | .flagSignal p h f generation tag increment => Sys2Proof.Machine.execFlagSignal p h f generation tag increment s
  | .answer p h tag status cumulative => Sys2Proof.Machine.execAnswer p h tag status cumulative s
  | .answerTimeout dest => Sys2Proof.Machine.execAnswerTimeout dest s
  | .hello p id x y port idValid => Sys2Proof.Machine.execHello p id x y port idValid s
  | .genNotice p h n => Sys2Proof.Machine.execGenNotice p h n s
  | .resync p h lowest => Sys2Proof.Machine.execResync p h lowest s
  | .message p h payload => Sys2Proof.Machine.execMessage p h payload s
  | .timeSync p sent taken back got => Sys2Proof.Machine.execTimeSync p sent taken back got s
  | .timeSyncSend => Sys2Proof.Machine.execTimeSyncSend s
  | .badPacket p header => Sys2Proof.Machine.execBadPacket p header s
  | .windowOpen req win => Sys2Proof.Machine.execWindowOpen req win s
  | .windowClose req win => Sys2Proof.Machine.execWindowClose req win s
  | .windowDrained win => Sys2Proof.Machine.execWindowDrained win s
  | .wakeOrderedSet p => Sys2Proof.Machine.execWakeOrderedSet p s
  | .levelRequest req v => Sys2Proof.Machine.execLevelRequest req v s
  | .avsFrameDone rail reply => Sys2Proof.Machine.execAvsFrameDone rail reply s
  | .avsRetry dom => Sys2Proof.Machine.execAvsRetry dom s
  | .slewDone dom => Sys2Proof.Machine.execSlewDone dom s
  | .powerSample milliwatts => Sys2Proof.Machine.execPowerSample milliwatts s
  | .thermalSample sensors => Sys2Proof.Machine.execThermalSample sensors s
  | .throttleTick => Sys2Proof.Machine.execThrottleTick s
  | .throttleRelaxTick => Sys2Proof.Machine.execThrottleRelaxTick s
  | .domainIdleExpiry d deep => Sys2Proof.Machine.execDomainIdleExpiry d deep s
  | .domainDrained d => Sys2Proof.Machine.execDomainDrained d s
  | .drainTimeout d unit => Sys2Proof.Machine.execDrainTimeout d unit s
  | .domainS2Entered d => Sys2Proof.Machine.execDomainS2Entered d s
  | .domainWake d => Sys2Proof.Machine.execDomainWake d s
  | .domainWakeDone d => Sys2Proof.Machine.execDomainWakeDone d s
  | .s3Entry => Sys2Proof.Machine.execS3Entry s
  | .s3EntryDone => Sys2Proof.Machine.execS3EntryDone s
  | .wakeSource source => Sys2Proof.Machine.execWakeSource source s
  | .tbAlarm => Sys2Proof.Machine.execTbAlarm s
  | .s3ExitDone => Sys2Proof.Machine.execS3ExitDone s
  | .powerOnReset => Sys2Proof.Machine.execPowerOnReset s
  | .perstN => Sys2Proof.Machine.execPerstN s
  | .railFault rail words => Sys2Proof.Machine.execRailFault rail words s
  | .refclkStop => Sys2Proof.Machine.execRefclkStop s
  | .pwrWdtKick req => Sys2Proof.Machine.execPwrWdtKick req s
  | .watchdogExpiry => Sys2Proof.Machine.execWatchdogExpiry s
  | .chipResetRequest req chip key => Sys2Proof.Machine.execChipResetRequest req chip key s
  | .chipReset => Sys2Proof.Machine.execChipReset s
  | .pllLock => Sys2Proof.Machine.execPllLock s
  | .errorInjectionDone passed fail => Sys2Proof.Machine.execErrorInjectionDone passed fail s
  | .pcieLinkUp => Sys2Proof.Machine.execPcieLinkUp s
  | .lpddrTrainingDone failed => Sys2Proof.Machine.execLpddrTrainingDone failed s
  | .firmwareFetched answered => Sys2Proof.Machine.execFirmwareFetched answered s
  | .firmwareVerified => Sys2Proof.Machine.execFirmwareVerified s
  | .bootBitstreamFetched answered => Sys2Proof.Machine.execBootBitstreamFetched answered s
  | .imgBoot req => Sys2Proof.Machine.execImgBoot req s
  | .stageUpdate req => Sys2Proof.Machine.execStageUpdate req s
  | .handOver req => Sys2Proof.Machine.execHandOver req s
  | .pairHandoverDone => Sys2Proof.Machine.execPairHandoverDone s
  | .handoverTimeout reported => Sys2Proof.Machine.execHandoverTimeout reported s
  | .programNor req => Sys2Proof.Machine.execProgramNor req s
  | .enrollKey req => Sys2Proof.Machine.execEnrollKey req s
  | .revokeKey req => Sys2Proof.Machine.execRevokeKey req s
  | .rollbackSet req => Sys2Proof.Machine.execRollbackSet req s
  | .obWrite req => Sys2Proof.Machine.execObWrite req s
  | .debugLock req => Sys2Proof.Machine.execDebugLock req s
  | .profileLock req => Sys2Proof.Machine.execProfileLock req s
  | .modelKeyLoad req => Sys2Proof.Machine.execModelKeyLoad req s
  | .modelKeyClear req => Sys2Proof.Machine.execModelKeyClear req s
  | .changeRecordBurned => Sys2Proof.Machine.execChangeRecordBurned s
  | .getVersion => Sys2Proof.Machine.execGetVersion s
  | .getCapabilities => Sys2Proof.Machine.execGetCapabilities s
  | .negotiateAlgorithms => Sys2Proof.Machine.execNegotiateAlgorithms s
  | .getDigests => Sys2Proof.Machine.execGetDigests s
  | .getCertificate slot offset length => Sys2Proof.Machine.execGetCertificate slot offset length s
  | .challenge slot nonce => Sys2Proof.Machine.execChallenge slot nonce s
  | .getMeasurements slot index signed nonce => Sys2Proof.Machine.execGetMeasurements slot index signed nonce s
  | .unsupportedRequest => Sys2Proof.Machine.execUnsupportedRequest s
  | .debugChallenge req => Sys2Proof.Machine.execDebugChallenge req s
  | .debugUnlock req => Sys2Proof.Machine.execDebugUnlock req s
  | .soundingDue slot => Sys2Proof.Machine.execSoundingDue slot s
  | .soundingStart slot => Sys2Proof.Machine.execSoundingStart slot s
  | .soundingResult slot area => Sys2Proof.Machine.execSoundingResult slot area s
  | .soundingOverrun slot => Sys2Proof.Machine.execSoundingOverrun slot s
  | .safForceSound req slot => Sys2Proof.Machine.execSafForceSound req slot s
  | .soundingSetReady set expected => Sys2Proof.Machine.execSoundingSetReady set expected s
  | .pairRetestDone p pass => Sys2Proof.Machine.execPairRetestDone p pass s
  | .heartbeatToggle => Sys2Proof.Machine.execHeartbeatToggle s
  | .heartbeatExpiry => Sys2Proof.Machine.execHeartbeatExpiry s
  | .recoveryBoundExpiry run => Sys2Proof.Machine.execRecoveryBoundExpiry run s
  | .cntTraceMark req v => Sys2Proof.Machine.execCntTraceMark req v s
  | .claim req cls idx gid => Sys2Proof.Machine.execClaim req cls idx gid s
  | .release req cls idx gid => Sys2Proof.Machine.execRelease req cls idx gid s
  | .gpioOutWrite req v => Sys2Proof.Machine.execGpioOutWrite req v s
  | .timerExpiry t => Sys2Proof.Machine.execTimerExpiry t s
  | .timerCapture t => Sys2Proof.Machine.execTimerCapture t s
  | .bypass => Sys2Proof.Machine.execBypass s
  | .idcode => Sys2Proof.Machine.execIdcode s
  | .samplePreload preload => Sys2Proof.Machine.execSamplePreload preload s
  | .extest => Sys2Proof.Machine.execExtest s
  | .extestPulse => Sys2Proof.Machine.execExtestPulse s
  | .extestTrain => Sys2Proof.Machine.execExtestTrain s
  | .clamp => Sys2Proof.Machine.execClamp s
  | .highz => Sys2Proof.Machine.execHighz s
  | .tapReset => Sys2Proof.Machine.execTapReset s
  | .registerRead req off n => Sys2Proof.Machine.execRegisterRead req off n s
  | .msixUnmask t => Sys2Proof.Machine.execMsixUnmask t s
  | .gpioInputEdge pin level => Sys2Proof.Machine.execGpioInputEdge pin level s
  | .hotJoinRequest m => Sys2Proof.Machine.execHotJoinRequest m s
  | .instructionBufferRefilled c => Sys2Proof.Machine.execInstructionBufferRefilled c s
  | .trackingSettled => Sys2Proof.Machine.execTrackingSettled s
  | .cumulativeOkAnswer src => Sys2Proof.Machine.execCumulativeOkAnswer src s
  | .neighbourSleep p => Sys2Proof.Machine.execNeighbourSleep p s
  | .linkL1Entry => Sys2Proof.Machine.execLinkL1Entry s
  | .pllLockLoss => Sys2Proof.Machine.execPllLockLoss s
  | .flagDelayWake f => Sys2Proof.Machine.execFlagDelayWake f s

end Sys2Proof.Machine
end

