-- ==== Sys2Proof/Safety.lean ====
section
/-! DEFINITION. The terms statements are made in: a device that runs, what a command's effect is, frames over registers, and the canonical forms. -/

namespace Sys2Proof.Machine

open Config

/-- The value of copy (i, j) of a register field. -/
def State.rd (s : State) (f : Fld) (i : Nat := 0) (j : Nat := 0) : Nat := (Work.start s).rd f i j

/-- The working copy a command on a state starts from; queries of the model are asked of it. -/
abbrev State.w (s : State) : Work := Work.start s

/-- The device is neither tripped nor without its reference clock, so that commands of every domain act (R420, R518). -/
abbrev Runs (s : State) : Prop := s.dev.pwr.refStopped = false ∧ s.rd Reg.PWR_TRIPPED ≠ 1

/-- The command answers a next state: the effect f, committed, with what its end leaves to do: retirements asked for and trace records accepted. -/
def Does (i : Instr) (s : State) (f : Work → Work) : Prop := exec i s = .next (s.run fun w => (f w).settle)

/-- Nothing is left to do when a command ends: no retirement is asked for, no trace record waits, every completion that a HOST_EMIT node has handed over is posted
or still in its queue, and every open frame has its instance or is discarded. -/
abbrev Settled (s : State) : Prop :=
  s.dev.saf.retireAsk = [] ∧ s.dev.trc.queue = [] ∧
    (∀ r ∈ s.dev.ks.runs, ∀ n ∈ r.handed,
      r.emitted.contains n = true ∨ s.dev.hif.queues.any (fun q => q.2.buf.any (fun e => e.owner == some (r.id, n))) = true) ∧
    (∀ e ∈ s.dev.ing.ctxs, e.2.loose = [] ∧ ∀ f ∈ e.2.frame, f.run ≠ 0 ∨ f.discard = true)

/-- A requester may write the register at an offset: it answers, the field rules admit the requester, and no claim of another holds it (R25, R437, R501). -/
abbrev Writable (s : State) (req : Requester) (off : Nat) : Prop :=
  s.w.answers (unitOf req) off = true ∧ Work.mayWrite (unitOf req) off = true ∧ s.w.claimedBy off = none

/-- A core is at the issue of an operation of a given opcode: no sounding holds it, its task runs and has not been asked to stop, the words at PC are the
operation's, no descriptor it reads is poisoned, and its operands pass the checks of issue (R231, R255). -/
abbrev Issues (s : State) (c op : Nat) (ws : List Nat) (uses : List Use) (os : List (Option Opnd)) : Prop :=
  Runs s ∧ s.w.sounding (s.dev.cores.getD c 0xFF) = false ∧ (s.w.core c).phase = .running ∧ (s.w.core c).ended = false ∧ (s.w.core c).stop = false ∧
    s.w.fetchOp c = .op ws ∧ opUses ws = some uses ∧ opCode ws = op ∧
    (s.w.descRanges (s.w.taskParams (s.w.core c)) c ws uses).findSome? (fun r => s.w.firstPoison r.1 64) = none ∧
    s.w.issueCheck (s.w.taskParams (s.w.core c)) c (s.w.core c) ws uses (s.w.coreLcs c) = .inr os

/-- The unit of an operation has room for it: the scoreboard has entries, none of them names what it reads, writes or takes its descriptors from, and the unit's
queue is not full (R231, R232, R283). -/
abbrev UnitAccepts (s : State) (c : Nat) (ws : List Nat) (uses : List Use) (os : List (Option Opnd)) : Prop :=
  let k := s.w.core c
  let p := s.w.taskParams k
  let dst := Work.opDests p k c uses os
  (Work.liveEntries c k).length + (dst.filter (Work.ownTile c)).length ≤ 32 ∧
    Work.hazard c k (((Work.opSources p k c ws uses os).filter (Work.ownTile c)) ++ s.w.descRanges p c ws uses) = false ∧
    dst.any (fun r => k.queue.any (fun q => (q.writes ++ q.reads).any (overlap r))) = false ∧
    (k.queue.filter (fun q => q.unit == opUnit ws)).length < 8

/-- The job a submission entry asks for. -/
def jobRef (h : JobHead) (op : Nat) : JobRef := ⟨h.q, low 32 h.tag, op, h.noIrq⟩

/-- A submission entry that passes the checks, as the only entry of its queue's buffer (R355). -/
def checkedEntry (w : Work) (h : JobHead) (op : Nat) (payload : List Nat) : BufEnt :=
  ⟨false, jobRef h op, w.entryWords16 h op payload, w.rd Reg.Q_SQ_HEAD h.q, .checked, stOk, 0, false, false, none, false⟩

/-- The entry joins its queue's empty buffer and starts. -/
def startEntry (w : Work) (h : JobHead) (op : Nat) (payload : List Nat) : Work :=
  let e := checkedEntry w h op payload
  let w := w.setQueue h.q { w.queue h.q with buf := [e] }
  w.setQueue h.q { w.queue h.q with buf := [{ e with st := .started }] }

/-- A job starts at once: its queue is ACTIVE, empty and behind no fence wait, its entry passes the checks of R355, and the unit that takes it is free. -/
abbrev JobStarts (s : State) (h : JobHead) (op : Nat) (payload : List Nat) : Prop :=
  Runs s ∧ s.rd Reg.Q_STATE h.q = Work.qActive ∧ (s.w.queue h.q).buf = [] ∧ s.dev.hif.fences.any (fun f => f.job.q == h.q) = false ∧
    s.w.entryStatus h.q (s.w.entryWords16 h op payload) = stOk ∧ (op = 2 → s.w.copyFree = true) ∧
    (op = 3 ∨ op = 5 → s.dev.ldr.run = none ∧ s.dev.ldr.queue = [])

/-- Memory, the OTP and the queue of commands are as before. -/
def MemSame (s t : State) : Prop := t.mem = s.mem ∧ t.otp = s.otp ∧ t.pending = s.pending

/-- Only field copies with keys in a list differ, and the idle timers of domains at work: every other register field, and everything that is not a register, is as
before. -/
def OnlyRegs (ks : List Nat) (s t : State) : Prop :=
  t = { s with dev := { s.dev with regs := t.dev.regs, pwr := { s.dev.pwr with doms := t.dev.pwr.doms } } } ∧
    (∀ d, t.w.dom d = { s.w.dom d with idleFrom := (t.w.dom d).idleFrom }) ∧
    (∀ (f : Fld) (i j : Nat), f.key i j ∉ ks → t.rd f i j = s.rd f i j)

/-- Every field copy whose key is not in a list is as before. -/
def RegsSame (ks : List Nat) (s t : State) : Prop := ∀ (f : Fld) (i j : Nat), f.key i j ∉ ks → t.rd f i j = s.rd f i j

/-- Every memory and the OTP rows are in canonical form: addresses strictly rising, nothing listed that an unlisted address reads as. -/
def Canonical (s : State) : Prop := s.mem.wf = true ∧ twf 0 s.otp.rows = true

end Sys2Proof.Machine
end

