-- ==== Sys2Proof/Certificates/Slice0/Obligations.lean ====
section
/-! DEFINITION. The statements for the provers. Each says what commands do, by rules of the spec; Does i s f says that the command i on the state s answers a
next state, the effect f on s, committed. A statement of several parts is their conjunction, family by family. -/

open Sys2Proof Sys2Proof.Machine Sys2Proof.Machine.Work Sys2Proof.Config

/-- R333 to R335, R338, R339: on a running device each Mason command of a pair, given in its own form on operands it accepts, has its effect: CREATE takes the
lowest FREE TID; EXIT, YIELD, SLEEP_UNTIL and a WAIT on an empty channel switch the caller out; WAIT on a channel with pending events returns their count.
It rests on choices of the model: log entry 16. -/
def Obligations.MasonCallerCommands : Prop :=
  ∀ (s : State) (p : Fin 4) (a : MsnCmd), Runs s → a.rsv = 0 →
    (∀ t, a.target = 0 → a.affinity ≠ 0 → (a.owner = true → a.prio ≤ s.rd Reg.MSN_OWNER_MAX_PRIO ∧ s.w.ownerThreads < s.rd Reg.MSN_OWNER_QUOTA) →
      s.w.freeTid = some t →
      Does (.create p a) s fun w =>
        ((w.setThread t { Thread.none with st := .suspended, owner := a.owner, prio := low 6 a.prio, affinity := low 4 a.affinity }).put .ctl
          (Work.frameAddr t) (leBytes 8 a.arg ++ List.replicate 1016 0#8)).answer p.val stOk 0 t) ∧
    (∀ t, s.w.curTid p.val = some t → a.target = 0 → a.arg = 0 →
      (Does (.exit p a) s fun w => (w.answer p.val stOk).switchOut p.val .free) ∧
      (Does (.yield p a) s fun w =>
        ((w.setThread t { w.thread t with result := Work.result stOk 0 0 0 }).answer p.val stOk).switchOut p.val .ready)) ∧
    (∀ t, s.w.curTid p.val = some t → a.target = 0 →
      Does (.sleepUntil p a) s fun w =>
        ((w.setThread t { w.thread t with deadline := a.arg, ended := .open, st := .sleeping }).delayInsert a.arg t).switchOut p.val .sleeping) ∧
    (∀ t, s.w.curTid p.val = some t → a.target ≤ 4095 → ((s.w.chan a.target).2 = 0xFFFF ∨ (s.w.chan a.target).2 = t) →
      (0 < (s.w.chan a.target).1 →
        Does (.wait p a) s fun w =>
          (w.setChan a.target (0, (w.chan a.target).2)).answer p.val stOk 0 0 (w.chan a.target).1) ∧
      ((s.w.chan a.target).1 = 0 →
        Does (.wait p a) s fun w =>
          let v := w.setThread t { w.thread t with waitCh := a.target, deadline := a.arg, ended := .open, st := .waiting }
          (if a.arg = 0 then v else v.delayInsert a.arg t).switchOut p.val .waiting))

/-- R333: the commands that name a thread or a channel. A thread a command names is live: not FREE, not FAULTED, and an owner thread where the command acts for
an owner. SIGNAL offers an event of its count; SET_PRIO and SET_AFFINITY set the field; SUSPEND takes a READY, WAITING or SLEEPING thread from every list;
RESUME wakes a SUSPENDED one; BIND sets a channel's waiter; MSN_WAIT_FLAG registers a channel with a flag; KILL frees a thread that its caller does not run. It rests
on choices of the model: log entry 16. -/
def Obligations.MasonNamedCommands : Prop :=
  ∀ (s : State) (p : Fin 4) (a : MsnCmd), Runs s → a.rsv = 0 →
    (a.target ≤ 4095 → 0 < a.arg → a.arg ≤ 0xFFFF →
      Does (.signal p a) s fun w => (w.offer uMason 4 a.target a.arg).answer p.val stOk) ∧
    (a.arg = 0 → s.w.liveCheck a a.target = stOk → (a.owner = true → a.prio ≤ s.rd Reg.MSN_OWNER_MAX_PRIO) →
      Does (.setPrio p a) s fun w =>
        (w.setThread a.target { w.thread a.target with prio := low 6 a.prio }).reschedule.answer p.val stOk) ∧
    (a.arg = 0 → s.w.liveCheck a a.target = stOk → a.affinity ≠ 0 →
      Does (.setAffinity p a) s fun w =>
        (w.setThread a.target { w.thread a.target with affinity := low 4 a.affinity }).reschedule.answer p.val stOk) ∧
    (a.arg = 0 → s.w.liveCheck a a.target = stOk → s.w.curTid p.val ≠ some a.target →
      ((s.w.thread a.target).st = .ready ∨ (s.w.thread a.target).st = .waiting ∨ (s.w.thread a.target).st = .sleeping) →
      Does (.suspend p a) s fun w =>
        let v := (w.undelay a.target).setThread a.target { w.thread a.target with st := .suspended, deadline := 0, waitCh := 0 }
        (v.setMsn { v.d.msn with
          ready := v.d.msn.ready.filter (fun x => x != a.target), waking := v.d.msn.waking.filter (fun x => x != a.target) }).reschedule.answer p.val stOk) ∧
    (a.arg = 0 → s.w.liveCheck a a.target = stOk → (s.w.thread a.target).st = .suspended → s.dev.msn.waking.contains a.target = false →
      Does (.resume p a) s fun w =>
        let v := w.setThread a.target { w.thread a.target with result := Work.result stOk 2 0 0 }
        (v.setMsn { v.d.msn with waking := v.d.msn.waking ++ [a.target] }).answer p.val stOk) ∧
    (a.target ≤ 4095 → a.arg ≤ 0xFFFF → (low 16 a.arg = 0xFFFF ∨ s.w.liveCheck a (low 16 a.arg) = stOk) →
      Does (.bind p a) s fun w => (w.setChan a.target ((w.chan a.target).1, low 16 a.arg)).answer p.val stOk) ∧
    (a.target ≤ 4095 → bits a.arg 31 14 = 0 → bits a.arg 63 48 = 0 →
      Does (.msnWaitFlag p a) s fun w => (w.channelWait (bits a.arg 13 0) (bits a.arg 47 32) a.target).answer p.val stOk) ∧
    (a.arg = 0 → s.w.nameCheck a a.target = stOk → s.w.curTid p.val ≠ some a.target →
      Does (.kill p a) s fun w =>
        let v := (w.undelay a.target).setThread a.target Thread.none
        let v := v.setMsn { v.d.msn with
          ready := v.d.msn.ready.filter (fun x => x != a.target), waking := v.d.msn.waking.filter (fun x => x != a.target) }
        ((List.range 4).foldl (fun (v : Work) (q : Nat) =>
          let v := if (v.pair q).saving.any (fun s => s.1 == a.target) = true then (v.setPair q { v.pair q with saving := none }).fillPair q else v
          if v.curTid q = some a.target then (v.wr Reg.PAIR_CUR_TID 0xFFFF q).takeSlot q else v) v).reschedule.answer p.val stOk)

/-- R335 to R342: events enter and leave Mason's queue, threads enter READY, contexts are loaded and saved, time passes and pairs stop, drain and return. -/
def Obligations.MasonEvents : Prop :=
  ∀ (s : State), Runs s →
    (∀ e, s.dev.msn.offers = [e] → s.dev.msn.evq.length < 1024 →
      Does .msnEventAccept s fun w =>
        let v := w.setMsn { w.d.msn with offers := [] }
        let v := ((v.acceptOne [e] v e).add Reg.KS_MSN_CNT_EVQ_STALL 0).add Reg.KS_MSN_CNT_EXPIRY_STALL 0
        v.raise Reg.MSN_EVQ_PEAK v.d.msn.evq.length) ∧
    (∀ e r, s.dev.msn.evq = e :: r → e.kind ≠ 3 → (s.w.chan e.channel).2 = 0xFFFF → (s.w.chan e.channel).1 + e.count ≤ 0xFFFF →
      Does .msnEventRemove s fun w =>
        ((w.setMsn { w.d.msn with evq := r }).inc Reg.KS_MSN_CNT_EVENTS).setChan e.channel ((w.chan e.channel).1 + e.count, 0xFFFF)) ∧
    (∀ t : Fin 4096, s.dev.msn.waking.contains t.val = true → Does (.threadReady t) s fun w => w.enterReady t.val) ∧
    (∀ p : Fin 4, s.rd Reg.PAIR_SLOT_TID p.val ≠ 0xFFFF → s.rd Reg.PAIR_SLOT_LOADED p.val ≠ 1 →
      (Does (.prefetchLoadDone p true) s fun w => w.frameFault (s.rd Reg.PAIR_SLOT_TID p.val)) ∧
      (∀ loaded : Work → Work,
        (∀ w, loaded w = (w.wr Reg.PAIR_SLOT_LOADED 1 p.val).setPair p.val
          { w.pair p.val with slotCtx := w.bytes .ctl (Work.frameAddr (s.rd Reg.PAIR_SLOT_TID p.val)) 1024 }) →
        (∀ c, s.w.curTid p.val = some c → (s.w.thread (s.rd Reg.PAIR_SLOT_TID p.val)).prio ≤ (s.w.thread c).prio →
          Does (.prefetchLoadDone p false) s loaded) ∧
        (∀ c, s.w.curTid p.val = some c → (s.w.thread c).prio < (s.w.thread (s.rd Reg.PAIR_SLOT_TID p.val)).prio →
          Does (.prefetchLoadDone p false) s fun w => ((loaded w).inc Reg.KS_MSN_CNT_PREEMPT).leaveThread p.val c .running) ∧
        (s.w.curTid p.val = none → (s.w.pair p.val).saving = none →
          Does (.prefetchLoadDone p false) s fun w => (loaded w).takeSlot p.val))) ∧
    (∀ (p : Fin 4) t after, (s.w.pair p.val).saving = some (t, after) →
      Does (.contextSaveDone p) s fun w =>
        let v := w.setPair p.val { w.pair p.val with saving := none }
        let v := match after with
          | .free => (v.setThread t Thread.none).reschedule
          | .ready => v.enterReady t
          | .running => v.enterReadyHead t
          | _ => v.reschedule
        if (v.curTid p.val).isNone then
          if v.on Reg.PAIR_SLOT_LOADED p.val && v.pairUp p.val then v.takeSlot p.val else v.wr Reg.PAIR_IDLE 1 p.val
        else v) ∧
    (∀ t r, s.dev.msn.expired = t :: r →
      Does .delayExpiry s fun w => w.setMsn { w.d.msn with expired := r, offers := w.d.msn.offers ++ [⟨0, uMason, 3, 1, 0, t⟩] }) ∧
    (Does .msnTick s fun w =>
      let v := w.advance ((w.d.msn.lastTick / 1000 + 1) * 1000)
      v.setMsn { v.d.msn with
        lastTick := v.now, delays := v.d.msn.delays.filter (fun e => !decide (e.1 ≤ v.now))
        expired := v.d.msn.expired ++ (v.d.msn.delays.filter (fun e => decide (e.1 ≤ v.now))).map Prod.snd }) ∧
    (∀ (p : Fin 4) t, s.w.curTid p.val = some t → s.rd Reg.THR_QUANTUM_US t ≠ 0 → s.rd Reg.PAIR_SLOT_TID p.val ≠ 0xFFFF →
      (s.w.thread (s.rd Reg.PAIR_SLOT_TID p.val)).prio = (s.w.thread t).prio →
      Does (.quantumExpiry p) s fun w =>
        (w.advance (roundUp ((w.pair p.val).runTb + 1000 * w.rd Reg.THR_QUANTUM_US t) 1000)).switchOut p.val .ready) ∧
    (∀ (req : Requester) (p : Fin 4), Writable s req (0x390000 + 0x1000 * p.val) →
      (s.rd Reg.PAIR_DRAIN p.val ≠ 1 → s.w.curTid p.val = none → Does (.pairDrain req p) s fun w => (w.wr Reg.PAIR_DRAIN 1 p.val).reschedule) ∧
      (∀ t, s.rd Reg.PAIR_DRAIN p.val ≠ 1 → s.w.curTid p.val = some t →
        Does (.pairDrain req p) s fun w =>
          let v := (w.wr Reg.PAIR_DRAIN 1 p.val).finishSave p.val
          let v := v.put .ctl (Work.frameAddr t) (v.pair p.val).ctx
          ((v.setPair p.val { v.pair p.val with saving := some (t, .running) }).takeSlot p.val).reschedule) ∧
      (Does (.pairReturn req p) s fun w => (w.wr Reg.PAIR_DRAIN 0 p.val).reschedule)) ∧
    (∀ (req : Requester) (channel count : BitVec 16), channel.toNat ≤ 4095 → count.toNat ≠ 0 → Writable s req 0x380028 →
      Does (.ksMsnHostSignal req channel count) s fun w => w.offer uHost 4 channel.toNat count.toNat)

/-- R330, R480: a lockstep mismatch stops a pair in service, faults its thread and posts it on FAULT_CHANNEL, and with no pair left the safety manager enters
SAFE_DEGRADED; a re-test that passes returns a stopped pair to service with a TRANSIENT record, and one that fails retires it. -/
def Obligations.PairLockstepAndRetest : Prop :=
  ∀ (s : State) (p : Fin 4), Runs s →
    (∀ t, s.rd Reg.PAIR_IN_SERVICE p.val = 1 → s.w.curTid p.val = some t → (s.w.pair p.val).returnTb = 0 →
      Does (.lockstepMismatch p) s fun w =>
        let v := (((w.inc Reg.KS_MSN_CNT_LOCKSTEP_MISMATCH p.val).err (uPair p.val) stOk).pairTime p.val).wr Reg.PAIR_IN_SERVICE 0 p.val
        let v := (v.setThread t { v.thread t with st := .faulted }).offer uMason 5 (v.rd Reg.MSN_FAULT_CHANNEL) t
        let v := ((v.wr Reg.PAIR_CUR_TID 0xFFFF p.val).wr Reg.PAIR_SLOT_TID 0xFFFF p.val).wr Reg.PAIR_SLOT_LOADED 0 p.val
        let v := v.finishSave p.val
        let v := (v.setPair p.val { v.pair p.val with slotCtx := [], retesting := true }).reschedule
        if (List.range 4).all (fun q => !v.on Reg.PAIR_IN_SERVICE q) then v.degrade (uPair p.val) stEngineRetired 0 else v) ∧
    ((s.w.pair p.val).retesting = true →
      (Does (.pairRetestDone p true) s fun w =>
        let v := (w.wr Reg.PAIR_IN_SERVICE 1 p.val).setPair p.val { w.pair p.val with retesting := false, returnTb := w.now }
        ((v.inc Reg.SAF_CNT_TRANSIENT).err (uPair p.val) stOk (2 * 2 ^ 24)).reschedule) ∧
      (Does (.pairRetestDone p false) s fun w =>
        let v := ((w.wr Reg.PAIR_RETIRED 1 p.val).wr Reg.PAIR_IN_SERVICE 0 p.val)
        let v := v.setPair p.val { v.pair p.val with retesting := false }
        let v := { v with d := { v.d with retired := uPair p.val :: v.d.retired } }
        (v.inc Reg.SAF_CNT_RETIRED).err (uPair p.val) stEngineRetired (3 * 2 ^ 24)))

/-- R105 to R114, on a port that is enabled and locked. A frame start counts its packet and starts a frame, with its extended frame number, in each context the
CONTEXT_MAP feeds from that port and virtual channel. A long packet whose data type no such context expects is counted as untracked; one that a context
with an open frame expects is taken as its line. A line number is kept for the line that follows where LINE_NUM_EN is 1. A frame end closes the open frame.
A generic short packet is only counted. A packet with a header error is dropped and counted, or corrected, counted and used. It rests on choices of the
model: log entry 14. -/
def Obligations.SensorPackets : Prop :=
  ∀ (s : State) (p : Fin 16) (vc : Fin 32), Runs s → s.w.portLive p.val = true →
    (∀ (n : BitVec 16), tget [] s.dev.ldr.mapOld (p.val * 32 + vc.val) = [] → s.w.ctxsOf p.val vc.val = [] →
      Does (.frameStartPacket p vc n) s fun w =>
        let v := w.inc Reg.ING_PORT_CNT_PACKETS p.val
        v.setLdr { v.d.ldr with mapOld := tdel v.d.ldr.mapOld (p.val * 32 + vc.val) }) ∧
    (∀ (n : BitVec 16) (c : Nat), tget [] s.dev.ldr.mapOld (p.val * 32 + vc.val) = [] → s.w.ctxsOf p.val vc.val = [c] →
      s.rd Reg.CTX_WIDTH c ≠ 0 → s.rd Reg.CTX_HEIGHT c ≠ 0 →
      Does (.frameStartPacket p vc n) s fun w =>
        let v := w.inc Reg.ING_PORT_CNT_PACKETS p.val
        let v := v.setLdr { v.d.ldr with mapOld := tdel v.d.ldr.mapOld (p.val * 32 + vc.val) }
        let e := Work.extFc (v.rd Reg.CTX_EXT_FC c) (v.rd Reg.CTX_FC_MAX c) (v.ctxIn c).lastF n.toNat (v.ctxIn c).ever (v.on Reg.CTX_FC_LOCAL c)
        let v := (v.add Reg.ING_CTX_CNT_FC_SKIP e.2.1 c).contextStart c (bits (wd (w.mapFor p.val vc.val) (4 * c)) 29 24) e.1 e.2.2
        v.setCtxIn c { v.ctxIn c with lastF := n.toNat }) ∧
    (∀ (dt : Fin 64) (bs : List Byte), s.rd Reg.PWR_DEVICE_STATE < 2 → (∀ c ∈ s.w.ctxsOf p.val vc.val, bits (wd (s.w.mapFor p.val vc.val) (4 * c)) 29 24 ≠ dt.val) →
      Does (.longPacket p vc dt bs true) s fun w =>
        (((w.inc Reg.ING_PORT_CNT_PACKETS p.val).inc Reg.ING_PORT_CNT_UNTRACKED p.val).wr Reg.PORT_LAST_UNTRACKED_VC vc.val p.val).wr
          Reg.PORT_LAST_UNTRACKED_DT dt.val p.val) ∧
    (∀ (dt : Fin 64) (bs : List Byte) (c : Nat) (r : List Nat) (f : OpenFrame), s.rd Reg.PWR_DEVICE_STATE < 2 → s.w.ctxsOf p.val vc.val = c :: r →
      bits (wd (s.w.mapFor p.val vc.val) (4 * c)) 29 24 = dt.val → (s.w.ctxIn c).frame = some f →
      Does (.longPacket p vc dt bs true) s fun w =>
        let v := w.inc Reg.ING_PORT_CNT_PACKETS p.val
        (v.setIng { v.d.ing with lastCtx := tset 64 v.d.ing.lastCtx p.val c }).takeLine c bs true (w.on Reg.PORT_LINE_NUM_EN p.val)) ∧
    (∀ (n : BitVec 16) (c : Nat), n ≠ 0#16 → s.rd Reg.PORT_LINE_NUM_EN p.val = 1 → s.w.ctxsOf p.val vc.val = [c] →
      (Does (.lineStartPacket p vc n true) s fun w => w.inc Reg.ING_PORT_CNT_PACKETS p.val) ∧
      (Does (.lineStartPacket p vc n false) s fun w =>
        (w.inc Reg.ING_PORT_CNT_PACKETS p.val).modFrame c fun f => { f with
          lineNo := some n.toNat
          firstLine := match f.firstLine with
            | none => some n.toNat
            | some m => some m })) ∧
    (∀ (n : BitVec 16) (c : Nat) (f : OpenFrame), s.w.ctxsOf p.val vc.val = [c] → (s.w.ctxIn c).frame = some f →
      Does (.frameEndPacket p vc n) s fun w => (w.inc Reg.ING_PORT_CNT_PACKETS p.val).endFrame c) ∧
    (Does (.genericShortPacket p vc) s fun w => (w.inc Reg.ING_PORT_CNT_PACKETS p.val).inc Reg.ING_PORT_CNT_SHORT_OTHER p.val) ∧
    ((s.w.ctxIn (tget 64 s.dev.ing.lastCtx p.val)).frame = none →
      Does (.headerEcc p .discarded) s fun w => w.inc Reg.ING_PORT_CNT_HDR_DROP p.val) ∧
    (∀ c, s.w.ctxsOf p.val vc.val = [c] →
      Does (.headerEcc p (.corrected vc .generic)) s fun w =>
        (((w.inc Reg.ING_PORT_CNT_HDR_FIXED p.val).frameBits c 0x20).inc Reg.ING_PORT_CNT_PACKETS p.val).inc Reg.ING_PORT_CNT_SHORT_OTHER p.val)

/-- R113: the end-of-frame timeout, at SOF_TB + EOF_TIMEOUT_NS, counts itself, sets EOF_TIMEOUT and FRAME_SHORT in the frame still open, the latter counted
once per frame, and closes the frame. R65, R66: with no other instantiation under way the Keystone starts the first queued graph: each flag of its slot takes the
next generation, COUNT 0 and the graph's TARGET; after 16 + NODE_COUNT + FLAGS_PER_INSTANCE V-cycles the graph runs, its nodes wait on their inputs, the
lines that waited go in, and its nodes without inputs are dispatched where their units are free. It rests on choices of the model: log entry 14. -/
def Obligations.FramesIntoGraphs : Prop :=
  (∀ (s : State) (c : Fin 64) (f : OpenFrame), Runs s → (s.w.ctxIn c.val).frame = some f →
     Does (.eofTimeout c) s fun w =>
       let v := ((w.advance (f.sofTb + f.eofNs)).inc Reg.ING_CTX_CNT_EOF_TIMEOUT c.val).frameBits c.val 0x10
       let v := ((if bitAt f.bits 2 = true then v else v.inc Reg.ING_CTX_CNT_FRAME_SHORT c.val).frameBits c.val 4).closeFrame c.val
       v.setCtxIn c.val { v.ctxIn c.val with timedOut := true }) ∧
  (∀ (s : State) (r : GRun), Runs s → s.dev.ks.runs.any (fun x => decide (x.phase = .creating)) = false → s.w.firstQueued = some r →
     Does .instantiate s fun w =>
       let g := w.version r.seq
       let v := (w.reach w.d.ks.instV).upTo g.flagCount (fun v i =>
         let f := v.flagOf r i
         let v := ((v.wr Reg.FLAG_GENERATION ((v.rd Reg.FLAG_GENERATION f + 1) % 65536) f).wr Reg.FLAG_COUNT 0 f).wr Reg.FLAG_TARGET (g.target i) f
         let v := v.setWaits f ((v.waits f).filter (fun x => match x.who with
           | .node _ _ => false
           | _ => true))
         if v.d.ks.poisoned.contains f = true then v.setKs { v.d.ks with poisoned := v.d.ks.poisoned.filter (fun x => x != f) } else v)
       let v := v.setKs { v.d.ks with instV := v.d.clk.vcycle }
       let gens := (List.range g.flagCount).map (fun i => v.rd Reg.FLAG_GENERATION (v.flagOf r i))
       let v := (v.modRun r.id (fun x => { x with phase := .creating, gens := gens })).inc Reg.KS_CNT_INSTANTIATED
       if v.on Reg.KS_TRACE_EN = true then v.trace uKeystone 1 (Work.runTag r) r.afc g.ver else v) ∧
  (∀ (s : State) (r : GRun), Runs s → s.dev.ks.runs.find? (fun x => decide (x.phase = .creating)) = some r →
     Does .instantiationDone s fun w =>
       let g := w.version r.seq
       let v := (w.reach (w.d.ks.instV + (16 + g.nodeCount + g.flagCount))).modRun r.id (fun x => { x with phase := .running })
       let v := v.setKs { v.d.ks with instV := v.d.clk.vcycle + 1 }
       let v := ((v.waitAll r.id g).flushRun r.id).notifyFlags r.id
       ((List.range g.nodeCount).filter (fun n => (g.inEdges n).isEmpty)).foldl (fun (v : Work) n => (v.nodeUnits g n).foldl (fun v u =>
         match v.grun? r.id with
         | some q => if (nodeRun q n).st = .waiting then v.nodeDispatch u else v
         | none => v) v) v)

/-- R116 to R118: a write of ING_RPL_TAIL hands descriptors to the replay engine; it fetches the one at HEAD, refuses it by its status, which is counted and
recorded, or prepares its frame; the frame starts at its SOF_TB; and each line is presented at its due time. It rests on choices of the model: log entry
15. -/
def Obligations.ReplayFrames : Prop :=
  ∀ (s : State) (req : Requester) (c : Fin 64), Runs s →
    (∀ v : BitVec 12, Writable s req (0x40400C + 0x40 * c.val) →
      Does (.replayTailWrite req c v) s fun w => w.wr Reg.ING_RPL_TAIL v.toNat c.val) ∧
    (∀ v st bs, s.w.replayCtx c.val = true → s.rd Reg.ING_RPL_HEAD c.val ≠ s.rd Reg.ING_RPL_TAIL c.val → (s.w.ctxIn c.val).replay = none →
      s.w.readAt uKeystone (s.rd Reg.ING_RPL_RING_BASE c.val + 64 * s.rd Reg.ING_RPL_HEAD c.val) 64 = (v, st, bs) →
      (st ≠ stOk →
        Does (.replayDescriptorFetch c) s fun _ => ((v.inc Reg.ING_RPL_CNT_REFUSED c.val).err uKeystone st c.val).replayAdvance c.val) ∧
      (st = stOk → v.replayCheck c.val (bytesWords bs) = stOk → wd64 (bytesWords bs) 6 = 0 →
        Does (.replayDescriptorFetch c) s fun _ =>
          v.setCtxIn c.val { v.ctxIn c.val with replay := some ⟨bytesWords bs, 0, false, 0⟩ })) ∧
    (∀ r, (s.w.ctxIn c.val).replay = some r → r.started = false → (r.sofTb ≠ 0 ∨ (s.w.ctxIn c.val).frame = none) →
      Does (.replayFrameStart c) s fun w =>
        let v := w.advance r.sofTb
        if v.rd Reg.CTX_WIDTH c.val = 0 ∨ v.rd Reg.CTX_HEIGHT c.val = 0 then
          (v.setCtxIn c.val { v.ctxIn c.val with replay := none, replayFc := some (wd r.words 1), replayEnd := v.now }).replayAdvance c.val
        else
          let v := v.contextStart c.val (bits (wd (v.ctxMap c.val) 0) 29 24) (wd r.words 1) false
          v.setCtxIn c.val { v.ctxIn c.val with replay := some { r with sofTb := if r.sofTb = 0 then v.now else r.sofTb, started := true } }) ∧
    (∀ r late, (s.w.ctxIn c.val).replay = some r → r.started = true → r.line + 1 < bits (wd r.words 5) 31 16 →
      Does (.replayLineDue c late) s fun w =>
        let v := w.advance (r.sofTb + (r.line + 1) * wd r.words 8 + late)
        let v := if late = 0 then v else v.inc Reg.ING_RPL_CNT_STALL c.val
        let g := v.readAt uKeystone (wd64 r.words 2 + r.line * wd r.words 4) (bits (wd r.words 5) 15 0)
        let v := if (g.1.ctxIn c.val).frame.isSome then g.1.takeLine c.val g.2.2 (decide (g.2.1 = stOk)) false
          else if (g.1.ctxIn c.val).timedOut then g.1.inc Reg.ING_CTX_CNT_LATE_LINES c.val else g.1
        v.setCtxIn c.val { v.ctxIn c.val with replay := some { r with line := r.line + 1 } })

/-- R525: writing ENABLE = 1 starts a port's receiver, which begins to lock, where RATE is within R104's limits, and sets LOCK_FAIL where it is not; a receiver
that locks raises LOCKED and clears LOCK_FAIL; one that has not locked 1 ms after ENABLE sets LOCK_FAIL; writing ENABLE = 0 turns the receiver off, clears
its status and closes its frames. R119, R128: a direct command of 1 to 4 bytes pushed on an I3C master's FIFO of 64 waits there; the message on the bus of an enabled master that has no list
ends and takes its entry away, keeping the bytes an acknowledged read gave, counting and recording one not acknowledged; an in-band interrupt is counted; a read of
ING_I3C_RDATA answers the next four bytes and pops them. R120: an enabled generator drives its active edge in the first V-cycle whose TB is at least START_TB, or one PERIOD_NS after its last,
for WIDTH_NS, and counts it; the pulse then ends. One whose pulse would not be shorter than the period leaves its output inactive and is logged. -/
def Obligations.PortsAndSensorControl : Prop :=
  (∀ (s : State) (req : Requester) (p : Fin 16), Runs s →
     (Writable s req (0x401000 + 0x100 * p.val) → s.rd Reg.PORT_ENABLE p.val ≠ 1 →
       Does (.portEnable req p) s fun w =>
         let v := w.wr Reg.PORT_ENABLE 1 p.val
         if v.rateOk p.val then v.setIng { v.d.ing with locking := tset 0 v.d.ing.locking p.val (v.now + 1) }
         else (v.wr Reg.PORT_LOCK_FAIL 1 p.val).setIng { v.d.ing with shut := p.val :: v.d.ing.shut }) ∧
     (Writable s req (0x401000 + 0x100 * p.val) →
       Does (.portDisable req p) s fun w =>
         let v := (((w.wr Reg.PORT_ENABLE 0 p.val).wr Reg.PORT_LOCK_FAIL 0 p.val).wr Reg.PORT_LOCKED 0 p.val).wr Reg.PORT_DESKEWED 0 p.val
         (v.setIng { v.d.ing with
           locking := tdel v.d.ing.locking p.val, shut := v.d.ing.shut.filter (fun q => q != p.val) }).portFrames p.val) ∧
     (s.rd Reg.PORT_ENABLE p.val = 1 → s.dev.ing.shut.contains p.val = false →
       Does (.portLocked p false) s fun w =>
         let v := (w.wr Reg.PORT_LOCKED 1 p.val).wr Reg.PORT_LOCK_FAIL 0 p.val
         v.setIng { v.d.ing with locking := tdel v.d.ing.locking p.val }) ∧
     (tget 0 s.dev.ing.locking p.val ≠ 0 → s.rd Reg.PORT_LOCKED p.val ≠ 1 →
       Does (.lockFail p) s fun w => (w.advance (tget 0 w.d.ing.locking p.val - 1 + 1000000)).wr Reg.PORT_LOCK_FAIL 1 p.val)) ∧
  (∀ (s : State) (req : Requester) (m : Fin 8), Runs s →
     (∀ v : BitVec 64, Writable s req (0x405408 + 0x40 * m.val) → (s.w.i3c m.val).fifo.length < 64 → 1 ≤ bits v.toNat 10 8 → bits v.toNat 10 8 ≤ 4 →
       Does (.ingI3cCmd req m v) s fun w =>
         let x := w.i3c m.val
         let fifo := x.fifo ++ [Nat.land (low 32 v.toNat) 0xF7F + v.toNat / 2 ^ 32 % 2 ^ 32 * 2 ^ 32]
         w.setI3c m.val { x with fifo := fifo, direct := x.direct || (w.on Reg.I3C_ENABLE m.val && x.lists.isEmpty) }) ∧
     (∀ e es data, s.rd Reg.I3C_ENABLE m.val = 1 → (s.w.i3c m.val).lists = [] → (s.w.i3c m.val).fifo = e :: es →
       (Does (.i3cTransferDone m true data) s fun w =>
         w.setI3c m.val { w.i3c m.val with
           fifo := es, direct := !es.isEmpty, rdata := (w.i3c m.val).rdata ++ (if bitAt e 11 then data.take (bits e 10 8) else []) }) ∧
       (Does (.i3cTransferDone m false data) s fun w =>
         ((w.setI3c m.val { w.i3c m.val with fifo := es, direct := !es.isEmpty }).inc Reg.ING_I3C_CNT_NACK m.val).err uKeystone stOk m.val)) ∧
     (∀ u e es ls data, s.rd Reg.I3C_ENABLE m.val = 1 → (s.w.i3c m.val).lists = (u, e :: es) :: ls → (s.w.i3c m.val).direct = false →
       ∀ next : I3c → I3c, (∀ x, next x = { x with direct := x.lists.isEmpty && !x.fifo.isEmpty }) →
       (Does (.i3cTransferDone m true data) s fun w =>
         w.setI3c m.val (next { w.i3c m.val with lists := if es.isEmpty then ls else (u, es) :: ls })) ∧
       (Does (.i3cTransferDone m false data) s fun w =>
         ((w.setI3c m.val (next { w.i3c m.val with lists := ls })).inc Reg.ING_I3C_CNT_NACK m.val).err u stOk m.val)) ∧
     (s.rd Reg.I3C_ENABLE m.val = 1 → Does (.i3cIbi m) s fun w => w.inc Reg.ING_I3C_CNT_IBI m.val) ∧
     (s.w.answers (unitOf req) (0x405420 + 0x40 * m.val) = true →
       Does (.ingI3cRdata req m) s fun w =>
         let v := (w.setLatch (unitOf req) (0, 0)).setI3c m.val { w.i3c m.val with rdata := (w.i3c m.val).rdata.drop 4 }
         v.setHif { v.d.hif with readData := low 32 (leNat ((w.i3c m.val).rdata.take 4)), readUr := false })) ∧
  (∀ (s : State) (n : Fin 16), s.dev.pwr.refStopped = false →
     (∀ due, s.rd Reg.SYNC_ENABLE n.val = 1 → due = (if (s.w.fsync n.val).next = 0 then max (s.rd Reg.SYNC_START_TB n.val) s.w.now else (s.w.fsync n.val).next) →
       Does (.fsyncEdge n) s fun w =>
         let v := w.advance due
         if v.rd Reg.SYNC_PERIOD_NS n.val ≤ v.rd Reg.SYNC_WIDTH_NS n.val then
           (v.setFsync n.val { w.fsync n.val with active := false, next := due + v.rd Reg.SYNC_PERIOD_NS n.val }).log uKeystone n.val
         else
           let u := v.setFsync n.val ⟨true, if v.on Reg.SYNC_ONE_SHOT n.val then 0 else due + v.rd Reg.SYNC_PERIOD_NS n.val, due + v.rd Reg.SYNC_WIDTH_NS n.val⟩
           (if v.on Reg.SYNC_ONE_SHOT n.val then u.wr Reg.SYNC_ENABLE 0 n.val else u).inc Reg.SYNC_EDGES n.val) ∧
     ((s.w.fsync n.val).active = true →
       Does (.fsyncPulseEnd n) s fun w =>
         (w.advance (w.fsync n.val).pulseEnd).setFsync n.val { w.fsync n.val with active := false, pulseEnd := 0 }))

/-- R60, R61, R63: a write of KS_FLAG_SIGNAL with a nonzero increment sends a signal to its flag. The first n signals on their way to a flag that is not
poisoned reach it in one V-cycle: those whose generation is the flag's are summed and applied as one update, COUNT saturating at 0xFF_FFFF, the rest
counted as stale; what passes both the old COUNT and TARGET counts as overshoot; then near misses are counted, the waiters whose thresholds COUNT now
meets are woken, and pyramid engines read the stripes that have come. R303: an uncorrectable error in a flag's entry is counted, poisons the flag and writes an error record; signals to a poisoned flag are
dropped and counted. It rests on choices of the model: log entry 13. -/
def Obligations.FlagUpdates : Prop :=
  (∀ (s : State) (f : Fin 16384), Runs s →
     (∀ (req : Requester) (inc : BitVec 24) (gen : BitVec 16), Writable s req (0x340008 + 16 * f.val) → inc ≠ 0#24 →
       Does (.ksFlagSignal req f inc gen) s fun w => w.setKs { w.d.ks with signals := w.d.ks.signals ++ [⟨f.val, inc.toNat, gen.toNat, false⟩] }) ∧
     (∀ n mine good sum, s.dev.ks.poisoned.contains f.val = false → mine = (s.dev.ks.signals.filter (fun x => x.flag == f.val)).take n →
       good = mine.filter (fun x => x.gen == s.rd Reg.FLAG_GENERATION f.val) → sum = (good.map Sig.inc).sum → sum ≠ 0 →
       Does (.flagSignalApply f n false) s fun w =>
         let rest := w.d.ks.signals.filter (fun x => x.flag != f.val) ++ (w.d.ks.signals.filter (fun x => x.flag == f.val)).drop n
         let v := (w.setKs { w.d.ks with signals := rest }).add Reg.KS_CNT_STALE_SIGNAL (mine.length - good.length)
         let old := v.rd Reg.FLAG_COUNT f.val
         let v := v.add Reg.KS_CNT_OVERSHOOT (old + sum - max old (v.rd Reg.FLAG_TARGET f.val))
         let v := (v.wr Reg.FLAG_COUNT (min 0xFFFFFF (old + sum)) f.val).inc Reg.KS_CNT_FLAG_UPDATES
         ((v.countNearMiss f.val old).wakeMet f.val).pyramidsTake)) ∧
  (∀ (s : State) (f : Fin 16384) (n : Nat), Runs s →
     (Does (.flagSignalApply f n true) s fun w =>
       let v := (w.inc Reg.KS_CNT_FLAG_ECC_UNCORR).wr Reg.KS_LAST_ECC_FLAG f.val
       (v.setKs { v.d.ks with poisoned := f.val :: v.d.ks.poisoned.filter (fun x => x != f.val) }).err uKeystone stEccUncorrectable f.val) ∧
     (s.dev.ks.poisoned.contains f.val = true →
       Does (.flagSignalApply f n false) s fun w =>
         let rest := w.d.ks.signals.filter (fun x => x.flag != f.val) ++ (w.d.ks.signals.filter (fun x => x.flag == f.val)).drop n
         ((w.setKs { w.d.ks with signals := rest }).add
           Reg.KS_CNT_FLAG_POISON_DROP ((w.d.ks.signals.filter (fun x => x.flag == f.val)).take n).length).pyramidsTake))

/-- R55, R69, R253: an engine that is in service and free takes the first ready candidate by the order of R69, a copy engine its next chain; a core's turn starts
the NEURAL node picked for it on its cores; a pipeline's turn hands a ready ISP_OUT to the deadline scheduler; the Keystone's own nodes and a Dravig port's start
likewise; where a kind has no engine left the node is skipped. R55, R71, R151: a running node whose work has finished completes, its unit is freed, and one past its
deadline counts as late. R72, R96, R148: a waiting node whose inputs are not there, or whose ISP state has no room, is skipped with FLAG_TIMEOUT at its
timeout, a starved consumer is cut, and so is a gated node with tiles still to launch. R73: once the fill of a skipped or cut node is visible its flags are
signalled up to target. R76 to R79, R102: at its ledger point a graph bound to contexts hands one entry per context to the ledger, in frame order; a
HOST_EMIT node hands its completion to its queue once, or sends its bare message; a graph whose nodes are over and whose entries are written leaves its
slot, answering the job that triggered it. R455: once a sealed slab that is being zeroed has been zeroed, its bytes read as zero and it is no longer
under seal. It rests on choices of the model: log entry 17. -/
def Obligations.NodesAndGraphs : Prop :=
  (∀ (s : State) (u : BitVec 9) (r : GRun) (n : Nat), Runs s →
     (unitKind u.toNat ≠ 0 → unitKind u.toNat ≠ 2 → unitKind u.toNat ≠ 0xB →
       (s.w.unitFree u.toNat = true → s.w.pickFirst (s.w.engineCands u.toNat) = some (r, n) →
         Does (.nodeDispatch u) s fun w => w.startEngine u.toNat r n) ∧
       (s.w.inService u.toNat = false → s.w.partner u.toNat = none → s.w.pickFirst (s.w.readyNodes [unitKind u.toNat]) = some (r, n) →
         Does (.nodeDispatch u) s fun w => w.cutNode r.id n stEngineRetired)) ∧
     (∀ c, (u.toNat = 0x76 ∨ u.toNat = 0x77) → s.rd Reg.CP_BUSY (u.toNat - 0x76) ≠ 1 → s.w.isRetired u.toNat = false → s.w.soundingOn u.toNat = false →
       s.w.chainChoice u.toNat = some c → Does (.nodeDispatch u) s fun w => w.copyTake u.toNat c) ∧
     (u.toNat < 64 → s.w.neuralPick u.toNat = some (r, n) →
       (setBits 64 ((s.w.version r.seq).coreSet n)).all (fun c => decide (s.dev.cores.getD c 0xFF ≤ 67) && !s.w.soundingOn (s.dev.cores.getD c 0xFF)) = true →
       Does (.nodeDispatch u) s fun w => w.startNeural r n) ∧
     (0x60 ≤ u.toNat → u.toNat ≤ 0x63 → s.w.pickFirst ((s.w.readyNodes [2]).filter (fun c => (nodeRun c.1 c.2).tile == 0)) = some (r, n) →
       (kindUnits 2).all (fun k => !s.w.inService k) = false →
       (s.w.ispShort r (Work.ispContext (s.w.version r.seq) n) = false → Does (.nodeDispatch u) s fun w => w.holdNode r.id n 0xFF 0x60 []) ∧
       (s.w.ispShort r (Work.ispContext (s.w.version r.seq) n) = true → Does (.nodeDispatch u) s fun w =>
         (w.inc Reg.ISP_CTX_CNT_STATE_SHORT (Work.ispContext (w.version r.seq) n)).modNode r.id n (fun x => { x with tile := 1 }))) ∧
     (u.toNat = uKeystone → s.w.pickFirst (s.w.readyNodes [1, 0xC, 0xE]) = some (r, n) →
       Does (.nodeDispatch u) s fun w => w.startOwn r n) ∧
     (0x81 ≤ u.toNat → u.toNat ≤ 0x84 → s.w.pickFirst ((s.w.readyNodes [0xD]).filter (fun c =>
         s.w.sendReady ((s.w.version c.1.seq).params c.2) && uDravig (s.w.sendPort ((s.w.version c.1.seq).params c.2) c.1.slot) == u.toNat)) = some (r, n) →
       Does (.nodeDispatch u) s fun w => (w.holdNode r.id n u.toNat u.toNat []).sendStart r.id n)) ∧
  (∀ (s : State) (r : GRun) (id n : Nat), Runs s → s.w.grun? id = some r →
     ((nodeRun r n).st = .running → s.w.nodeFinished r n = true →
       Does (.nodeComplete id n) s fun w =>
         let g := w.version r.seq
         let late := decide (g.node n 1 ≠ 0) && decide (r.origin + g.node n 1 < w.now)
         let v := (w.modNode id n (fun x => { x with st := .done, late := late })).freeUnit (nodeRun r n).unit
         let v := if (nodeRun r n).again = true then v.recovered id n else v
         let c := Work.ispContext (v.version r.seq) n
         let v := if g.typ n = 2 then
             ((if v.ispDeadline r c < v.now then v.inc Reg.ISP_CTX_CNT_BUDGET_MISS c else v).wr Reg.ISPC_LAST_DONE_TB v.now c).raise
               Reg.ISPC_MAX_LAG_NS (v.now - Work.frameSof r c) c
           else v
         if late = true then (v.inc Reg.KS_CNT_NODES_LATE).modRun id (fun q => { q with lateNodes := q.lateNodes + 1 }) else v) ∧
     (∀ g t, g = s.w.version r.seq → t = g.node n 2 → t ≠ 0 →
       ((nodeRun r n).st = .waiting → r.phase = .running → neverWaits g n = false →
         s.w.inputsReady r n = false ∨ (g.typ n = 2 ∧ s.w.ispShort r (Work.ispContext g n) = true) →
         Does (.waitTimeout id n) s fun w => (w.advance (r.origin + t)).cutNode id n stFlagTimeout) ∧
       ((nodeRun r n).st = .running → g.gated n = false → neverWaits g n = false → s.w.starved r n = true →
         Does (.waitTimeout id n) s fun w => (w.advance ((nodeRun r n).waitFrom + t)).cutNode id n stFlagTimeout) ∧
       ((nodeRun r n).st = .running → g.gated n = true → (nodeRun r n).finished = false → (nodeRun r n).cutAsked = false →
         launchedTiles g n (nodeRun r n) < s.w.listCount (s.w.inputList r n (listPort g n)) →
         Does (.waitTimeout id n) s fun w =>
           if g.typ n = 8 then (w.advance (r.origin + t)).cutNode id n stFlagTimeout else (w.advance (r.origin + t)).askCut id n stFlagTimeout)) ∧
     ((nodeRun r n).fillOwed = true → (nodeRun r n).cores = 0 →
       (nodeRun r n).filled = true ∨ (s.w.fillWrites r n = [] ∧ (s.w.version r.seq).typ n ≠ 0xB) →
       Does (.timeoutFillDone id n) s fun w => (w.signalToTarget id n).modNode id n (fun x => { x with fillOwed := false }))) ∧
  (∀ (s : State) (r : GRun) (id n : Nat), Runs s → s.w.grun? id = some r →
     (r.ledgered = false → r.entered = false → s.w.atLedgerPoint r = true → r.heldUntil = 0 → r.trigger = none → s.rd Reg.KS_LEDGER_BASE ≠ 0 →
       s.dev.ks.holds.any (fun h => h.run == id) = false →
       Does (.ledgerPoint id) s fun w =>
         let g := w.version r.seq
         let lists := ((List.range g.nodeCount).filter (fun m => g.typ m == 9 && decide ((nodeRun r m).st = .done))).map
           (fun m => wd64 (g.params m) 8 + r.slot * wd (g.params m) 7)
         let done := (lists.map (fun a => ((List.range (w.listCount a)).filter (fun i => w.listDone a i)).length)).sum
         let v := w.modRun id (fun q => { q with tilesRefined := done, tilesDeferred := q.tilesMasked - done })
         ((v.setKs { v.d.ks with holds := v.d.ks.holds ++ r.frames.map (fun f => ⟨id, f.ctx, f.fc, []⟩) }).modRun id
           (fun q => { q with entered := true })).flushLedger) ∧
     (∀ g p q, g = s.w.version r.seq → p = g.params n → q = bits (wd p 0) 15 0 → g.typ n = 0x0C →
       (r.phase = .refused ∨ (nodeRun r n).st = .running ∨ (nodeRun r n).st = .skipped ∨ (nodeRun r n).st = .cut) →
       r.handed.contains n = false → s.w.emitBlocked r n = false → (g.ledgerEn n = true ∨ r.phase = .refused ∨ r.entered = true → r.ledgered = true) →
       ∀ copied : Work → Work × Bool,
         (∀ w, copied w = if g.ledgerEn n = true ∧ w.on Reg.KS_LEDGER_COPY = true ∧ r.trigger = none then w.ledgerCopies r p else (w, false)) →
         (q ≠ 0xFFFF → s.rd Reg.Q_STATE q = 1 → (s.w.queue q).buf.length < 256 → (copied s.w).1.rd Reg.Q_STATE q = 1 →
           Does (.hostEmitPost id n) s fun w =>
             ((copied w).1.modRun id (fun q => { q with handed := n :: q.handed })).emitReady q (id, n) (bitAt (wd p 0) 16) (copied w).2) ∧
         (q = 0xFFFF → s.rd Reg.Q_STATE q ≠ 1 →
           Does (.hostEmitPost id n) s fun w =>
             let v := (copied w).1.modRun id (fun q => { q with handed := n :: q.handed })
             (if bitAt (wd p 1) 11 = true then v.sendVector (bits (wd p 1) 10 0) else v).modRun id (fun q => { q with emitted := n :: q.emitted }))) ∧
     (s.w.runComplete r = true → s.rd Reg.KS_TRACE_EN ≠ 1 →
       Does (.instanceComplete id) s fun w =>
         let v := (w.inc Reg.KSG_COMPLETED r.gid).modRun id (fun q => { q with phase := .released })
         let v := match r.trigger with
           | some j => v.complete j (w.runStatus r)
           | none => v
         match v.grun? id with
         | some q => (if v.runPaid q = true then v.setKs { v.d.ks with runs := v.d.ks.runs.filter (fun q => q.id != id) } else v).releaseOld
         | none => v)) ∧
  (∀ (s : State) (slab : Fin 36), Runs s → s.dev.ldr.zeroing.contains slab.val = true →
     Does (.sealZeroDone slab) s fun w =>
       let v := { w with mops := .clear .dev (0x4000000000 + slab.val * 0x1000000) (0x4000000000 + slab.val * 0x1000000 + 0x1000000) :: w.mops }
       v.setLdr { v.d.ldr with zeroing := v.d.ldr.zeroing.filter (fun x => x != slab.val), sealed := tdel v.d.ldr.sealed slab.val })

/-- R230 to R232: each operation of the array, vector and DMA units that passes the checks of issue, with room in its unit and no hazard, joins its unit's
queue with its operands, setup state and loop counters captured; PC moves on and the operation counts; the scoreboard follows and the units run. A LOAD that
meets errors of memory within its source issues with them found first (R297, R298, R376). It rests on choices of the model: log entry 66. -/
def Obligations.UnitOperations : Prop :=
  (∀ x ∈ ([(.matmul, 0x01), (.convolve, 0x02), (.accLoad, 0x03), (.accStore, 0x04), (.accZero, 0x05), (.vadd, 0x20), (.vsub, 0x21), (.vmul, 0x22), (.vmac, 0x23),
      (.vmax, 0x24), (.vmin, 0x25), (.vabs, 0x26), (.vcvt, 0x27), (.vlut, 0x28), (.vexp, 0x29), (.vrcp, 0x2A), (.vrsqrt, 0x2B), (.vredsum, 0x2C),
      (.vredmax, 0x2D), (.vsmx, 0x2E), (.vnorm, 0x2F), (.vstat, 0x30), (fun c => .load c [], 0x40), (.store, 0x41), (.loadBcast, 0x42), (.rdstride, 0x43), (.rdtrans, 0x44),
      (.remoteWrite, 0x45), (.remoteRead, 0x46)] : List ((Fin 64 → Instr) × Nat)),
    ∀ (s : State) (c : Fin 64) ws uses os, Issues s c.val x.2 ws uses os → UnitAccepts s c.val ws uses os →
      Does (x.1 c) s fun w =>
        let k := w.core c.val
        let p := w.taskParams k
        let b := opBcast ws
        let q : TileOp := {
          unit := opUnit ws, pc := w.rd Reg.ASH_PC c.val, words := ws, opnds := os, setup := k.setup, lcs := w.coreLcs c.val
          rows := match os with
            | some d :: _ => if opCode ws = 4 then storeRows ws (w.coreLcs c.val) k.args d.d else 0
            | _ => 0
          writes := opDests p k c.val uses os, reads := opSources p k c.val ws uses os
          bcast := if b then some k.bseq else none, started := false, done := false, got := [] }
        let v := w.setCore c.val { k with
          queue := k.queue ++ [q], bseq := if b then k.bseq + 1 else k.bseq
          bwait := if b && k.bwait.isNone then some w.now else k.bwait }
        let v := v.issued c.val (w.rd Reg.ASH_PC c.val + 1)
        ((if b then v.wr Reg.ASH_BCAST_WAIT 1 c.val else v).scoreboard c.val).runCore c.val) ∧
  (∀ (s : State) (c : Fin 64) (errs : List (BitVec 48 × Bool)) (v : Work) (q : TileOp) (x : Opnd) (r : Nat × Nat), Runs s →
    s.w.sounding (s.dev.cores.getD c.val 0xFF) = false → v = s.w.issue c.val 0x40 → (v.core c.val).queue.length = (s.w.core c.val).queue.length + 1 →
    (v.core c.val).queue.getLast? = some q → q.opnds.getD 1 none = some x → r = footRange (s.w.taskParams (s.w.core c.val)) c.val x.d none →
    Does (.load c errs) s fun w =>
      let met := errs.filter (fun e => decide (r.1 ≤ e.1.toNat ∧ e.1.toNat ≤ r.2))
      (met.foldl (fun w e => w.memError e.1.toNat e.2) w).issue c.val 0x40)

/-- R248, R254, R257: control operations that touch flags or end the task. WAIT_FLAG goes on where COUNT meets the threshold it computes, and otherwise stalls
and registers the core; once the core has been woken it goes on and its A-cycles of wait count; with the queue empty, SIGNAL_FLAG signals its flag, unless
a re-execution suppresses it, FENCE goes on, and END closes the task's records. It rests on choices of the model:
log entry 17. -/
def Obligations.FlagOperations : Prop :=
  ∀ (s : State) (c : Fin 64) ws uses os,
    (∀ r f th, Issues s c.val 0x60 ws uses os → (s.w.core c.val).stall = none → s.w.grun? (s.w.core c.val).run = some r → f = s.w.flagOf r (opImm ws) →
      th = min 0xFFFFFF ((if bits (opArgB ws) 23 0 = 0 then s.rd Reg.FLAG_TARGET f else bits (opArgB ws) 23 0) +
        (if bitAt (wd ws 2) 12 then bits (wd ws 2) 20 13 * s.rd Reg.ASH_LC c.val (bits (wd ws 2) 11 10) else 0)) →
      s.dev.ks.poisoned.contains f = false →
      (th ≤ s.rd Reg.FLAG_COUNT f → Does (.waitFlag c) s fun w => w.issued c.val (w.rd Reg.ASH_PC c.val + 1)) ∧
      (s.rd Reg.FLAG_COUNT f < th →
        Does (.waitFlag c) s fun w =>
          ((w.setCore c.val { w.core c.val with stall := some w.now }).wr Reg.ASH_FLAG_WAIT 1 c.val).register f (.core c.val) th)) ∧
    (∀ t, Issues s c.val 0x60 ws uses os → (s.w.core c.val).stall = some t → s.rd Reg.ASH_FLAG_WAIT c.val ≠ 1 →
      Does (.waitFlag c) s fun w =>
        ((w.setCore c.val { w.core c.val with stall := none }).add Reg.ASH_CNT_FLAG_WAIT ((w.now - t) * 11 / 5) c.val).issued c.val (w.rd Reg.ASH_PC c.val + 1)) ∧
    (∀ r, Issues s c.val 0x61 ws uses os → (s.w.core c.val).queue = [] → s.w.grun? (s.w.core c.val).run = some r →
      (s.dev.ks.signals.filter (fun x => x.flag % 16 == s.w.flagOf r (opImm ws) % 16)).length < 64 →
      Does (.signalFlag c) s fun w =>
        let v := (w.setCore c.val { w.core c.val with signals := (w.core c.val).signals + 1 }).issued c.val (w.rd Reg.ASH_PC c.val + 1)
        if (w.core c.val).signals < (w.core c.val).suppress then v
        else v.signalIdx (w.core c.val).run (w.core c.val).node (opImm ws) (bits (opArgB ws) 23 0)) ∧
    (Issues s c.val 0x62 ws uses os → (s.w.core c.val).queue = [] →
      Does (.fence c) s fun w => w.issued c.val (w.rd Reg.ASH_PC c.val + 1)) ∧
    (Issues s c.val 0x83 ws uses os → (s.w.core c.val).queue = [] →
      Does (.tileEnd c) s fun w =>
        let k := w.core c.val
        let v := (w.issued c.val (w.rd Reg.ASH_PC c.val + 1)).wr Reg.ASH_LAST_STATUS 0 c.val
        let v := (v.wr Reg.ASH_LAST_SAT (b2n k.sat) c.val).wr Reg.ASH_LAST_REEXEC (b2n k.reexec) c.val
        (((v.wr Reg.ASH_LAST_END_TB v.now c.val).coreTrace c.val 0x11 0).stopIssue c.val).settleTask c.val)

/-- R249: LOOP opens a level with its count, given or the rounded-up quotient of a launch argument, or passes over its body with a count of 0; ENDLOOP counts and repeats the body or closes the level; BRANCH jumps
forward when its condition on the level's counter holds; NOP uses one issue slot. R242, R245, R250, R262: setup operations change the setup state that
later operations capture: the rounding mode, one of the three scales, the sparsity descriptor or none, and a table slot filled from the 258 entries of its
operand. -/
def Obligations.LoopsAndSetup : Prop :=
  (∀ (s : State) (c : Fin 64) ws uses os,
     (∀ count, Issues s c.val 0x80 ws uses os →
       count = min 0xFFFFFF (if bitAt (opFlags ws) 2 = true then ceilDiv (wd (s.w.core c.val).args (bits (opImm ws) 2 0)) (opArgB ws) else opArgB ws) →
       (count ≠ 0 → Does (.tileLoop c) s fun w =>
         let v := w.wr Reg.ASH_LC 0 c.val (bits (opFlags ws) 1 0)
         (v.setCore c.val { w.core c.val with
           loops := ⟨bits (opFlags ws) 1 0, w.rd Reg.ASH_PC c.val, bits (wd ws 2) 31 10, count⟩ :: (w.core c.val).loops }).issued
           c.val (w.rd Reg.ASH_PC c.val + 1)) ∧
       (count = 0 → Does (.tileLoop c) s fun w =>
         (w.wr Reg.ASH_LC 0 c.val (bits (opFlags ws) 1 0)).issued c.val (w.rd Reg.ASH_PC c.val + bits (wd ws 2) 31 10 + 1))) ∧
     (∀ l r, Issues s c.val 0x81 ws uses os → (s.w.core c.val).loops = l :: r →
       Does (.endloop c) s fun w =>
         let n := w.rd Reg.ASH_LC c.val l.level + 1
         let v := w.wr Reg.ASH_LC n c.val l.level
         if n < l.count then v.issued c.val (l.start + 1)
         else (v.setCore c.val { w.core c.val with loops := r }).issued c.val (w.rd Reg.ASH_PC c.val + 1)) ∧
     (∀ v x, Issues s c.val 0x82 ws uses os → v = s.rd Reg.ASH_LC c.val (bits (opFlags ws) 1 0) → x = bits (opArgB ws) 23 0 →
       Does (.branch c) s fun w =>
         w.issued c.val (if (bits (opFlags ws) 3 2 = 0 ∧ v = x) ∨ (bits (opFlags ws) 3 2 = 1 ∧ v ≠ x) ∨ (bits (opFlags ws) 3 2 = 2 ∧ v < x) ∨
           (bits (opFlags ws) 3 2 = 3 ∧ x ≤ v) then w.rd Reg.ASH_PC c.val + opImm ws else w.rd Reg.ASH_PC c.val + 1)) ∧
     (Issues s c.val 0x84 ws uses os → Does (.nop c) s fun w => w.issued c.val (w.rd Reg.ASH_PC c.val + 1))) ∧
  (∀ (s : State) (c : Fin 64) ws uses os,
     (Issues s c.val 0xA0 ws uses os →
       Does (.setRound c) s fun w =>
         let k := w.core c.val
         (w.setCore c.val { k with setup := { k.setup with trunc := bitAt (opFlags ws) 0 } }).issued c.val (w.rd Reg.ASH_PC c.val + 1)) ∧
     (Issues s c.val 0xA1 ws uses os →
       Does (.setScale c) s fun w =>
         let k := w.core c.val
         let u := k.setup
         let u := if bits (opFlags ws) 1 0 = 0 then { u with scaleA := opArgB ws } else if bits (opFlags ws) 1 0 = 1 then { u with scaleB := opArgB ws }
           else { u with scaleOut := opArgB ws }
         (w.setCore c.val { k with setup := u }).issued c.val (w.rd Reg.ASH_PC c.val + 1)) ∧
     (∀ a m b d, Issues s c.val 0xA2 ws uses os → os = [a, m, b, d] →
       hazard c.val (s.w.core c.val) (opSources (s.w.taskParams (s.w.core c.val)) (s.w.core c.val) c.val ws uses os ++
         s.w.descRanges (s.w.taskParams (s.w.core c.val)) c.val ws uses) = false →
       Does (.setSparse c) s fun w =>
         let k := w.core c.val
         (w.setCore c.val { k with setup := { k.setup with sparse := m.map Opnd.d } }).issued c.val (w.rd Reg.ASH_PC c.val + 1)) ∧
     (∀ t a b d tab, Issues s c.val 0xA3 ws uses os → os = [a, some t, b, d] →
       hazard c.val (s.w.core c.val) (opSources (s.w.taskParams (s.w.core c.val)) (s.w.core c.val) c.val ws uses os ++
         s.w.descRanges (s.w.taskParams (s.w.core c.val)) c.val ws uses) = false →
       s.w.opndPoison (segBase (s.w.taskParams (s.w.core c.val)) c.val 0) t.d none = none →
       tab = (List.range 258).map (fun i => s.w.elem (segBase (s.w.taskParams (s.w.core c.val)) c.val 0) t.d i 0 0 0) →
       FVal.le (FVal.of32 (wd tab 257)) (FVal.of32 (wd tab 256)) = false →
       Does (.setLut c) s fun w =>
         let k := w.core c.val
         (w.setCore c.val { k with setup := if bitAt (opFlags ws) 0 then { k.setup with lut1 := tab } else { k.setup with lut0 := tab } }).issued
           c.val (w.rd Reg.ASH_PC c.val + 1)))

/-- R230, R247, R253, R256, R283: a task that has been dispatched launches and its core's registers say so; its launch copy brings it to its first operation;
an operation that has completed leaves its queue, and a ring link that failed under it goes out of service (R15); a broadcast that every member has issued
from one source is read once and delivered to each; a stall that reaches the task's limit aborts it
with FLAG_TIMEOUT; a refill brings the operations at PC into the instruction buffer. R231, R255: an operation refused at the checks of issue moves no byte:
the task aborts with the status, the offset and the segment of the refusal. -/
def Obligations.TasksRunAndEnd : Prop :=
  (∀ (s : State) (c : Fin 64), Runs s → s.w.sounding (s.dev.cores.getD c.val 0xFF) = false →
     (∀ r, (s.w.core c.val).phase = .launching → s.w.grun? (s.w.core c.val).run = some r → s.rd Reg.SLOT_SSTATE (s.w.phys c.val) ≠ 1 →
       Does (.taskLaunch c) s fun w =>
         let k := w.core c.val
         let v := w.reach (max (k.since + 48) k.freeAt)
         let v := (((v.wr Reg.ASH_BUSY 1 c.val).wr Reg.ASH_RANK k.rank c.val).wr Reg.ASH_CUR_GRAPH r.gid c.val).wr Reg.ASH_CUR_NODE k.node c.val
         let v := (((v.wr Reg.ASH_CUR_CONTEXT r.actx c.val).wr Reg.ASH_CUR_SLOT r.slot c.val).wr Reg.ASH_PC 0 c.val).inc Reg.ASH_CNT_TASKS c.val
         ((v.upTo 4 (fun v j => v.wr Reg.ASH_LC 0 c.val j)).setCore c.val { k with phase := .copying }).coreTrace c.val 0x10 0) ∧
     (∀ p, (s.w.core c.val).phase = .copying → (s.w.core c.val).ended = false → p = s.w.taskParams (s.w.core c.val) → bitAt (wd p 0) 4 = false →
       s.w.firstPoison (segBase p c.val 1 + wd p 4) (64 * bits (wd p 1) 15 0) = none →
       Does (.launchCopyDone c) s fun w =>
         let v := w.setCore c.val { w.core c.val with phase := .running }
         ((v.store (segBase p c.val 0 + wd p 5) (v.fetch (segBase p c.val 1 + wd p 4) (64 * bits (wd p 1) 15 0))).fillBuffer c.val 0).settleTask c.val) ∧
     (∀ p v, (s.w.core c.val).phase = .copying → (s.w.core c.val).ended = false → p = s.w.taskParams (s.w.core c.val) → bitAt (wd p 0) 4 = true →
       s.w.firstPoison (segBase p c.val 1 + wd p 4) (64 * bits (wd p 1) 15 0) = none →
       v = (s.w.setCore c.val { s.w.core c.val with phase := .running }).store (segBase p c.val 0 + wd p 5)
         (s.w.fetch (segBase p c.val 1 + wd p 4) (64 * bits (wd p 1) 15 0)) →
       v.firstPoison (segBase p c.val 1 + wd p 2) (16 * bits (wd p 1) 31 16) = none →
       Does (.launchCopyDone c) s fun _ =>
         (v.store (segBase p c.val 0 + wd p 3) (v.fetch (segBase p c.val 1 + wd p 2) (16 * bits (wd p 1) 31 16))).settleTask c.val) ∧
     (∀ (u : Fin 3) (ring : Option (Fin 4)) i q, (s.w.core c.val).queue.findIdx? (fun q => q.unit == u.val) = some i → (s.w.core c.val).queue[i]? = some q →
       q.done = true →
       Does (.tileOpComplete c u ring) s fun w =>
         let v := match ring with
           | some l => if q.unit = 2 ∧ (w.opRings (w.taskParams (w.core c.val)) (w.core c.val) c.val q).contains l.val = true then
               { w with d := { w.d with ring := l.val :: w.d.ring } }.err uKeystone stLinkDegraded l.val
             else w
           | none => w
         (((v.stretched c.val q).setCore c.val { w.core c.val with queue := (w.core c.val).queue.eraseIdx i }).scoreboard c.val).settleTask c.val) ∧
     (∀ q n v got, pendingBcast (s.w.core c.val) = some q → n = q.bcast.getD 0 →
       (n < (s.w.core c.val).bnext → s.w.bcastRead c.val q = (v, .inl got) →
         Does (.broadcastTransferStart c) s fun _ => v.bcastDeliver c.val n got) ∧
       (∀ grp lead x, (s.w.core c.val).bnext ≤ n → grp = s.w.bcastGroup c.val → lead = grp.headD c.val → grp.all (fun m => decide (n < (s.w.core m).bseq)) = true →
         (s.w.core lead).queue.find? (fun y => y.bcast == some n) = some x →
         (∀ m ∈ grp, ((s.w.core m).queue.find? (fun y => y.bcast == some n)).map (bcastSource (s.w.taskParams (s.w.core m)) m) =
           some (bcastSource (s.w.taskParams (s.w.core lead)) lead x)) →
         s.w.bcastRead lead x = (v, .inl got) →
         Does (.broadcastTransferStart c) s fun _ => grp.foldl (fun (w : Work) m => w.bcastDeliver m n got) v)) ∧
     ((s.w.core c.val).phase = .running → (s.w.core c.val).ended = false → s.w.waitLimit (s.w.core c.val) ≠ 0 →
       (∀ t, s.rd Reg.ASH_FLAG_WAIT c.val = 1 → (s.w.core c.val).stall = some t →
         Does (.waitLimitExpiry c) s fun w =>
           (w.advance ((match (w.core c.val).bwait with
             | some u => min t u
             | none => t) + w.waitLimit (w.core c.val))).abort c.val stFlagTimeout 0 0) ∧
       (∀ u, (s.w.core c.val).stall = none → (s.w.core c.val).bwait = some u →
         Does (.waitLimitExpiry c) s fun w => (w.advance (u + w.waitLimit (w.core c.val))).abort c.val stFlagTimeout 0 0)) ∧
     ((s.w.core c.val).phase = .running → (s.w.core c.val).ended = false → s.w.fetchOp c.val = .refill →
       Does (.instructionBufferRefilled c) s fun w => w.fillBuffer c.val (w.rd Reg.ASH_PC c.val))) ∧
  (∀ (s : State) (c : Fin 64) ws uses status off seg, Runs s → s.w.sounding (s.dev.cores.getD c.val 0xFF) = false → (s.w.core c.val).phase = .running →
     (s.w.core c.val).ended = false → (s.w.core c.val).stop = false → s.w.fetchOp c.val = .op ws → opUses ws = some uses → opCode ws = 0x20 →
     (s.w.descRanges (s.w.taskParams (s.w.core c.val)) c.val ws uses).findSome? (fun r => s.w.firstPoison r.1 64) = none →
     s.w.issueCheck (s.w.taskParams (s.w.core c.val)) c.val (s.w.core c.val) ws uses (s.w.coreLcs c.val) = .inl (status, off, seg, none) →
     Does (.vadd c) s fun w => ((w.abortTask c.val status off seg).runQueues c.val).settleTask c.val)

/-- R85, R89, R95, R99: a plumb unit whose tile row's source is covered reduces it; after its last row it writes the tile list, mask and statistics; a seam, once
its words have had their cycles, writes its output and history. A plumb unit or seam whose source holds a poisoned word reports it and its node is cut. R95: the
next listed tile of a gated NEURAL node that runs goes to the lowest core of its set that is free, in service and under no sounding. R147 to R149: a free
pipeline takes the context its scheduler chooses; one that ends a stripe processes its lines, writes its outputs and is free, and is free too where the run or
frame of its stripe is gone. It rests on choices of the model: log entries 17, 20, 21, 26, 79 and 80. -/
def Obligations.VisionDispatch : Prop :=
  (∀ (s : State) (e : Fin 2) (r : GRun), Runs s → s.w.sounding (0x74 + e.val) = false →
     (∀ x p g area, x = s.w.eng (0x74 + e.val) → s.w.grun? x.run = some r → p = (s.w.version r.seq).params x.node → g = plumbGrid p → x.row < g.2.2 →
       s.w.covers r x.node 0 (min (bits (wd p 1) 31 16) ((x.row + 1) * g.1) - 1) = true → area = s.w.rowArea r x.node (x.row * g.1) g.1 →
       (area.find? (fun a => s.w.meetsPoison a.1 a.2) = none →
         Does (.plumbTileRowReduced e) s fun w => w.plumbReduce (0x74 + e.val) x r g.2.1 (min (bits (wd p 1) 31 16) ((x.row + 1) * g.1) - 1)) ∧
       (∀ a, area.find? (fun a => s.w.meetsPoison a.1 a.2) = some a →
         Does (.plumbTileRowReduced e) s fun w => (w.reportPoison a.1 a.2).cutNode r.id x.node stEccUncorrectable)) ∧
     (∀ x g, x = s.w.eng (0x74 + e.val) → s.w.grun? x.run = some r → g = plumbGrid ((s.w.version r.seq).params x.node) → g.2.2 ≤ x.row →
       Does (.plumbSelectionDone e) s fun w => w.plumbLists (0x74 + e.val) x r g.2.1 g.2.2) ∧
     (∀ x c v, x = s.w.eng (0x174 + e.val) → s.w.grun? x.run = some r → c = s.w.seamCtx r x.node →
       v = s.w.reach (x.since + ceilDiv (c.wid * c.hei * c.e) 128) →
       (v.meetsPoison c.first.base (c.first.pitch * c.hei) = false →
         Does (.seamOutputDone e) s fun w => (w.reach (x.since + ceilDiv (c.wid * c.hei * c.e) 128)).seamWrite (0x74 + e.val) x r c (wd64 c.p 6 + r.slot * wd c.p 8)) ∧
       (v.meetsPoison c.first.base (c.first.pitch * c.hei) = true →
         Does (.seamOutputDone e) s fun w => ((w.reach (x.since + ceilDiv (c.wid * c.hei * c.e) 128)).reportPoison c.first.base
           (c.first.pitch * c.hei)).cutNode r.id x.node stEccUncorrectable))) ∧
  (∀ (s : State) (r : GRun) (id n c : Nat), Runs s → s.w.grun? id = some r → (s.w.version r.seq).typ n = 8 → (s.w.version r.seq).gated n = true →
     (nodeRun r n).st = .running → (nodeRun r n).finished = false →
     (nodeRun r n).tile < s.w.listCount (s.w.inputList r n (listPort (s.w.version r.seq) n)) →
     (setBits 64 ((s.w.version r.seq).coreSet n)).find? (fun c =>
       !s.w.coreBusy c && decide (s.dev.cores.getD c 0xFF ≤ 67) && !s.w.soundingOn (s.dev.cores.getD c 0xFF)) = some c →
     Does (.gatedTileLaunch id n) s fun w =>
       w.gatedTask id n r (w.version r.seq) (nodeRun r n) (w.inputList r n (listPort (w.version r.seq) n)) c) ∧
  (∀ (s : State) (p : Fin 4), Runs s → s.w.sounding (0x60 + p.val) = false →
     (∀ c r n count, s.rd Reg.ISP_SCHED_EN = 1 → s.w.pipeFree p.val = true → s.w.ispChoice p.val = some (c, r, n, count) →
       Does (.ispStripeStart p) s fun w => w.ispTake p.val c r n count) ∧
     (∀ c x fixed bad, c = s.rd Reg.PIPE_CUR_CONTEXT p.val → x = s.w.ispCtx c → s.rd Reg.PIPE_BUSY p.val = 1 → x.pipe = p.val + 1 →
       (∀ r f, s.w.grun? x.run = some r → s.w.frameOf r c = some f →
         Does (.ispStripeEnd p fixed bad) s fun w => w.ispStripe p.val c x r f fixed bad) ∧
       ((s.w.grun? x.run = none ∨ ∃ r, s.w.grun? x.run = some r ∧ s.w.frameOf r c = none) →
         Does (.ispStripeEnd p fixed bad) s fun w => (w.wr Reg.PIPE_BUSY 0 p.val).setIspCtx c { w.ispCtx c with pipe := 0 })))

/-- R153, R166 to R169: a stereo engine whose images are not poisoned ends a pass of a level, a tile row of the level it writes (the last of them ends the
level), its refinement, or a listed tile, each in its own phase. R174, R184 to R186: the same of a flow engine. R298: one whose images hold a poisoned word
reports it and its node is cut, whatever it ends. It rests on choices of the model: log entries 19, 23 and 24. -/
def Obligations.StereoAndFlowSteps : Prop :=
  (∀ (s : State) (e : Fin 2) (r : GRun) (x : EngRun) (c : StCtx) (l : Nat) (areas : List (Nat × Nat)), Runs s → s.w.sounding (0x58 + e.val) = false →
     x = s.w.eng (0x58 + e.val) → s.w.grun? x.run = some r → c = s.w.stCtx r x.node (0x58 + e.val) → l = (if x.phase ≤ 1 then x.level else c.fine) →
     areas = [((s.w.stImg c 0 l).base, (s.w.stImg c 0 l).bytes), ((s.w.stImg c 1 l).base, (s.w.stImg c 1 l).bytes)] →
     (∀ a cmd, areas.find? (fun a => s.w.meetsPoison a.1 a.2) = some a →
       cmd ∈ [Instr.stereoLevelDone e, .stereoTileRowDone e, .stereoRefineDone e, .stereoGatedTileDone e] →
       Does cmd s fun w => (w.reportPoison a.1 a.2).cutNode r.id x.node stEccUncorrectable) ∧
     (areas.find? (fun a => s.w.meetsPoison a.1 a.2) = none →
       (x.phase ≤ 1 → Does (.stereoLevelDone e) s fun w => w.stLevelPass (0x58 + e.val) c x) ∧
       (x.phase = 0 → x.level = c.fine →
         (x.row + 1 < ceilDiv (lvDim c.hei c.fine) 16 →
           Does (.stereoTileRowDone e) s fun w =>
             let v := w.reach (stageStart x + 512 + ceilDiv ((1 + b2n c.paths8) * (lvTw c.wid c.fine * 16 * (x.row + 1) * stSlots c c.fine)) 128)
             v.stRow (0x58 + e.val) c (v.stLevel c false c.fine)) ∧
         (ceilDiv (lvDim c.hei c.fine) 16 ≤ x.row + 1 → Does (.stereoTileRowDone e) s fun w => w.stLevelPass (0x58 + e.val) c x)) ∧
       (x.phase = 2 → Does (.stereoRefineDone e) s fun w => w.stRefinePass (0x58 + e.val) c x) ∧
       (∀ g lst, g = s.w.version r.seq → lst = s.w.inputList r x.node (listPort g x.node) → x.phase = 3 → x.row < s.w.listCount lst →
         Does (.stereoGatedTileDone e) s fun w => w.stGatedTile (0x58 + e.val) c x g lst))) ∧
  (∀ (s : State) (e : Fin 2) (r : GRun) (x : EngRun) (c : FlCtx) (l : Nat) (areas : List (Nat × Nat)), Runs s → s.w.sounding (0x5A + e.val) = false →
     x = s.w.eng (0x5A + e.val) → s.w.grun? x.run = some r → c = s.w.flCtx r x.node (0x5A + e.val) → l = (if x.phase ≤ 1 then x.level else c.last) →
     areas = ((s.w.flI c l).base, (s.w.flI c l).bytes) :: (if x.pass = 1 then [] else [((s.w.flJ c l).base, (s.w.flJ c l).bytes)]) →
     (∀ a cmd, areas.find? (fun a => s.w.meetsPoison a.1 a.2) = some a →
       cmd ∈ [Instr.flowLevelDone e, .flowTileRowDone e, .flowRefineDone e, .flowGatedTileDone e] →
       Does cmd s fun w => (w.reportPoison a.1 a.2).cutNode r.id x.node stEccUncorrectable) ∧
     (areas.find? (fun a => s.w.meetsPoison a.1 a.2) = none →
       (x.phase ≤ 1 → Does (.flowLevelDone e) s fun w => w.flLevelPass (0x5A + e.val) c x) ∧
       (x.phase = 0 → x.level = c.last →
         (x.row + 1 < ceilDiv (lvDim c.hei c.last) 16 →
           Does (.flowTileRowDone e) s fun w =>
             let v := w.reach (stageStart x + 512 + ceilDiv (lvTw c.wid c.last * 16 * (x.row + 1) * (bits (wd c.p 0) 25 23 + 1)) 8)
             v.flRow (0x5A + e.val) c (if x.pass = 1 then [] else v.flLevel c false c.last)) ∧
         (ceilDiv (lvDim c.hei c.last) 16 ≤ x.row + 1 → Does (.flowTileRowDone e) s fun w => w.flLevelPass (0x5A + e.val) c x)) ∧
       (x.phase = 2 → Does (.flowRefineDone e) s fun w => w.flRefinePass (0x5A + e.val) c x) ∧
       (∀ g lst, g = s.w.version r.seq → lst = s.w.inputList r x.node (listPort g x.node) → x.phase = 3 → x.row < s.w.listCount lst →
         Does (.flowGatedTileDone e) s fun w => w.flGatedTile (0x5A + e.val) c x g lst)))

/-- R192, R201, R207, R210, R211: a feature engine ends its phase; a pyramid engine takes the input lines that stand and, once its input frame is complete,
publishes a level. R215 to R219: a warp engine whose source lines are there looks its output tile's source blocks up in its cache: it fetches the first one
missing, and with none missing writes the tile. R298: one of these whose input holds a poisoned word reports it and its node is cut. It rests on choices of
the model: log entries 22 and 25. -/
def Obligations.FeaturePyramidAndWarpSteps : Prop :=
  (∀ (s : State) (r : GRun), Runs s →
     (∀ (e : Fin 2) x c areas, s.w.sounding (0x5C + e.val) = false → x = s.w.eng (0x5C + e.val) → s.w.grun? x.run = some r → c = s.w.ftCtx r x.node →
       areas = (List.range c.levels).map (fun l => ((s.w.ftImg c l).base, (s.w.ftImg c l).bytes)) →
       (areas.find? (fun a => s.w.meetsPoison a.1 a.2) = none → Does (.featurePhaseDone e) s fun w => w.featureStep (0x5C + e.val) x c) ∧
       (∀ a, areas.find? (fun a => s.w.meetsPoison a.1 a.2) = some a →
         Does (.featurePhaseDone e) s fun w => (w.reportPoison a.1 a.2).cutNode r.id x.node stEccUncorrectable)) ∧
     (∀ (e : Fin 4) v x m, s.w.sounding (0x50 + e.val) = false → v = s.w.pyramidTake (0x50 + e.val) → x = v.eng (0x50 + e.val) → v.grun? x.run = some r →
       m = v.pyrInput r x.node → v.covers r x.node 0 (m.h - 1) = true →
       (v.meetsPoison m.base m.bytes = false → Does (.pyramidLevelPublished e) s fun w =>
         (w.pyramidTake (0x50 + e.val)).pyrLevel (0x50 + e.val) x r ((v.version r.seq).params x.node) m) ∧
       (v.meetsPoison m.base m.bytes = true → Does (.pyramidLevelPublished e) s fun w =>
         ((w.pyramidTake (0x50 + e.val)).reportPoison m.base m.bytes).cutNode r.id x.node stEccUncorrectable))) ∧
  (∀ (s : State) (e : Fin 4) (r : GRun) x c x0 y0 rest hits cache, Runs s → s.w.sounding (0x54 + e.val) = false → x = s.w.eng (0x54 + e.val) →
     s.w.grun? x.run = some r → c = s.w.warpCtx r x.node → warpOrigin c x = (x0, y0) → rest = (s.w.warpLookups c x0 y0).drop x.pass →
     cacheHits rest x.tiles = (hits, cache) → y0 < c.oh → s.w.warpReady r x.node c x0 y0 = true →
     (rest.length ≤ hits →
       (s.w.meetsPoison c.src.base c.src.bytes = false → Does (.warpTileDone e) s fun w => w.warpWrite (0x54 + e.val) x r c x0 y0 hits cache) ∧
       (s.w.meetsPoison c.src.base c.src.bytes = true → Does (.warpTileDone e) s fun w =>
         (w.reportPoison c.src.base c.src.bytes).cutNode r.id x.node stEccUncorrectable)) ∧
     (∀ b more, rest.drop hits = b :: more →
       Does (.warpBlockFetched e) s fun w =>
         ((w.setEng (0x54 + e.val) { x with pass := x.pass + hits + 1, tiles := cache.drop (cache.length - 127) ++ [b] }).add
           Reg.VIS_WP_CNT_HITS hits e.val).inc Reg.VIS_WP_CNT_FETCHES e.val))

/-- R358, R359: graph, model, container, copy and parameter jobs, given in a queue where they start at once. GRAPH_RUN binds, triggers or unbinds a graph;
MODEL_LOAD and BITSTREAM_REGION go to the loader; COPY hands its chain to the copy engines; PARAM_SET posts its record. It rests on choices of the model:
log entry 34. -/
def Obligations.GraphAndDataJobs : Prop :=
  ∀ (s : State) (h : JobHead),
    (∀ (g : BitVec 16) (c : BitVec 8), JobStarts s h 1 [g.toNat + 0 * 0x10000 + c.toNat * 0x1000000] →
      Does (.graphRunBind h g c) s fun w =>
        let r := (startEntry w h 1 [g.toNat + 0 * 0x10000 + c.toNat * 0x1000000]).graphBind g.toNat c.toNat
        r.1.complete (jobRef h 1) r.2) ∧
    (∀ (g : BitVec 16) (c : BitVec 8), JobStarts s h 1 [g.toNat + 1 * 0x10000 + c.toNat * 0x1000000] →
      Does (.graphRunTrigger h g c) s fun w =>
        let r := (startEntry w h 1 [g.toNat + 1 * 0x10000 + c.toNat * 0x1000000]).graphTrigger (jobRef h 1) g.toNat c.toNat
        match r.2 with
        | some st => r.1.complete (jobRef h 1) st
        | none => r.1) ∧
    (∀ (g : BitVec 16) (c : BitVec 8), JobStarts s h 1 [g.toNat + 2 * 0x10000 + c.toNat * 0x1000000] →
      Does (.graphRunUnbind h g c) s fun w =>
        let r := (startEntry w h 1 [g.toNat + 2 * 0x10000 + c.toNat * 0x1000000]).graphUnbind g.toNat c.toNat
        r.1.complete (jobRef h 1) r.2) ∧
    (∀ (n : Fin 512) (a : BitVec 64), JobStarts s h 2 ([n.val, 0] ++ lohi a.toNat) →
      Does (.copyJob h n a) s fun w =>
        let v := startEntry w h 2 ([n.val, 0] ++ lohi a.toNat)
        { v with d := { v.d with cpy := { v.d.cpy with
          waiting := v.d.cpy.waiting ++ [⟨1, some (jobRef h 2), 0, 0, [], a.toNat, n.val, v.now⟩] } } }) ∧
    (∀ m : Fin 1024, JobStarts s h 3 [m.val] →
      Does (.modelLoad h m) s fun w => (startEntry w h 3 [m.val]).loadStart ⟨some (jobRef h 3), false, some m.val, 0, 0⟩) ∧
    (∀ r : Vector (BitVec 32) 8, JobStarts s h 4 (r.toList.map BitVec.toNat) →
      Does (.paramSet h r) s fun w =>
        let x := (startEntry w h 4 (r.toList.map BitVec.toNat)).paramPost (r.toList.map BitVec.toNat)
        x.1.complete (jobRef h 4) x.2) ∧
    (∀ (a : BitVec 64) (n : BitVec 32), JobStarts s h 5 ([n.toNat, 0] ++ lohi a.toNat) →
      Does (.bitstreamRegion h a n) s fun w =>
        (startEntry w h 5 ([n.toNat, 0] ++ lohi a.toNat)).loadStart ⟨some (jobRef h 5), false, none, a.toNat, n.toNat⟩)

/-- R360, R361, R430, R452, R459, R489: fence, snapshot and admin jobs, given in a queue where they start at once. FENCE adds to a token or waits on it;
COUNTER_SNAP schedules a snapshot; CREATE_QUEUE makes a queue and DELETE_QUEUE stops one; ATTEST and OTP_RECORD_READ write to their buffer; UNIT_RESET
starts a unit's isolation. It rests on choices of the model: log entry 34. -/
def Obligations.FenceAndAdminJobs : Prop :=
  ∀ (s : State) (h : JobHead),
    (∀ (t : BitVec 8) (v : BitVec 32), JobStarts s h 6 [t.toNat, v.toNat, 0] →
      Does (.fenceSignal h t v) s fun w => ((startEntry w h 6 [t.toNat, v.toNat, 0]).fenceSignal t.toNat v.toNat).complete (jobRef h 6) stOk) ∧
    (∀ (t : BitVec 8) (v n : BitVec 32), JobStarts s h 6 [t.toNat + 0x100, v.toNat, n.toNat] →
      Does (.fenceWait h t v n) s fun w => (startEntry w h 6 [t.toNat + 0x100, v.toNat, n.toNat]).fenceWait (jobRef h 6) t.toNat v.toNat n.toNat) ∧
    (∀ (id : BitVec 16) (tb : BitVec 64), JobStarts s h 7 ([id.toNat, 0] ++ lohi tb.toNat) →
      Does (.counterSnap h id tb) s fun w =>
        let r := (startEntry w h 7 ([id.toNat, 0] ++ lohi tb.toNat)).counterSnap (some (jobRef h 7)) id.toNat tb.toNat
        match r.2 with
        | some st => r.1.complete (jobRef h 7) st
        | none => r.1) ∧
    (∀ r : Vector (BitVec 32) 12, JobStarts s h 0x40 (r.toList.map BitVec.toNat) →
      Does (.createQueue h r) s fun w =>
        let x := (startEntry w h 0x40 (r.toList.map BitVec.toNat)).createQueue (w.entryWords16 h 0x40 (r.toList.map BitVec.toNat))
        x.1.complete (jobRef h 0x40) x.2) ∧
    (∀ q : BitVec 16, JobStarts s h 0x41 [q.toNat] →
      Does (.deleteQueue h q) s fun w =>
        let r := (startEntry w h 0x41 [q.toNat]).deleteQueue q.toNat (jobRef h 0x41)
        if r.2 = stOk then r.1 else r.1.complete (jobRef h 0x41) r.2) ∧
    (∀ (r : BitVec 8) (a : BitVec 64) (n : BitVec 32), JobStarts s h 0x42 ([r.toNat, 0] ++ lohi a.toNat ++ [n.toNat]) →
      Does (.attest h r a n) s fun w =>
        let x := (startEntry w h 0x42 ([r.toNat, 0] ++ lohi a.toNat ++ [n.toNat])).attest r.toNat a.toNat n.toNat
        x.1.complete (jobRef h 0x42) x.2.1 x.2.2) ∧
    (∀ (f : BitVec 16) (a : BitVec 64) (n : BitVec 32), JobStarts s h 0x43 ([f.toNat, 0] ++ lohi a.toNat ++ [n.toNat]) →
      Does (.otpRecordRead h f a n) s fun w =>
        let x := (startEntry w h 0x43 ([f.toNat, 0] ++ lohi a.toNat ++ [n.toNat])).otpRecordRead f.toNat a.toNat n.toNat
        x.1.complete (jobRef h 0x43) x.2.1 x.2.2) ∧
    (∀ u : BitVec 8, JobStarts s h 0x44 [u.toNat] →
      Does (.unitReset u (some h)) s fun w =>
        let r := (startEntry w h 0x44 [u.toNat]).unitReset u.toNat (some (jobRef h 0x44))
        match r.2 with
        | some st => r.1.complete (jobRef h 0x44) st
        | none => r.1)

/-- R299, R300: the scrubber takes one row of a tile store or slab: what it corrects is counted and recorded; an uncorrectable word of the row is poisoned and
reported, and so is the row spared at 3 corrected errors in a pass; the next row follows, and after the last one the pass is counted. A memory whose
scrubbing is off keeps its place. R379, R380: MR4 polling sets a channel's refresh rate and, at a newly high temperature, writes an error record; a refresh
delays and changes nothing; drift over DRIFT_LIMIT, an interval that has passed since the last training, or a write of RETRAIN_NOW queues a channel for
retraining; settled tracking restores the rate. It rests on choices of the model: log entry 66. -/
def Obligations.MemoryCare : Prop :=
  ((∀ (s : State) (mem : Fin 104) (fixed c row found : Nat), Runs s → mem.val < 68 → s.w.logicalOf mem.val = some c →
     s.rd Reg.TS_SCRUB_EN c = 1 → row = tget 0 s.dev.ecc.scrub mem.val → found = tget 0 s.dev.ecc.fixes (mem.val * 65536 + row) + fixed → row < 4095 → fixed ≠ 0 →
     Does (.patrolScrub mem fixed []) s fun w =>
       let v := { w with d := { w.d with ecc := { w.d.ecc with
         scrub := tset 0 w.d.ecc.scrub mem.val (row + 1), fixes := tset 0 w.d.ecc.fixes (mem.val * 65536 + row) found } } }
       let v := (((v.add Reg.ASH_TS_CNT_ECC_FIXED fixed c).wr Reg.TS_LAST_ECC_OFFSET (row * 128) c).wr Reg.TS_LAST_ECC_UNCORR 0 c).wr Reg.TS_LAST_ECC_TB w.now c
       if 3 ≤ found then v.spareRow mem.val row else v) ∧
   (∀ (s : State) (mem : Fin 104) (fixed c : Nat) bad, Runs s → mem.val < 68 → s.w.logicalOf mem.val = some c → s.rd Reg.TS_SCRUB_EN c ≠ 1 →
     Does (.patrolScrub mem fixed bad) s fun w => w) ∧
   ∀ (s : State) (mem : Fin 104) (fixed : Nat), Runs s → 68 ≤ mem.val →
     (∀ bad, s.rd Reg.QRY_SCRUB_EN ≠ 1 → Does (.patrolScrub mem fixed bad) s fun w => w) ∧
     (∀ row found, s.rd Reg.QRY_SCRUB_EN = 1 → row = tget 0 s.dev.ecc.scrub mem.val → found = tget 0 s.dev.ecc.fixes (mem.val * 65536 + row) + fixed →
       row + 1 < scrubRows mem.val → fixed ≠ 0 →
       Does (.patrolScrub mem fixed []) s fun w =>
         let v := { w with d := { w.d with ecc := { w.d.ecc with
           scrub := tset 0 w.d.ecc.scrub mem.val (row + 1), fixes := tset 0 w.d.ecc.fixes (mem.val * 65536 + row) found } } }
         let v := (((v.add Reg.QRY_CNT_ECC_FIXED fixed (mem.val - 68)).wr Reg.SLAB_LAST_ECC_OFFSET (row * scrubBytes mem.val) (mem.val - 68)).wr
           Reg.SLAB_LAST_ECC_UNCORR 0 (mem.val - 68)).wr Reg.SLAB_LAST_ECC_TB w.now (mem.val - 68)
         if 3 ≤ found then v.spareRow mem.val row else v) ∧
     (∀ row k, s.rd Reg.QRY_SCRUB_EN = 1 → row = tget 0 s.dev.ecc.scrub mem.val → scrubRows mem.val ≤ row + 1 → k < scrubBytes mem.val / 8 →
       Does (.patrolScrub mem 0 [k]) s fun w =>
         let v := { w with d := { w.d with ecc := { w.d.ecc with
           scrub := tset 0 w.d.ecc.scrub mem.val 0, fixes := tset 0 w.d.ecc.fixes (mem.val * 65536 + row) (tget 0 w.d.ecc.fixes (mem.val * 65536 + row)) } } }
         let v := (v.setPoison (scrubAddr mem.val row + 8 * k) true).eccReport (scrubAddr mem.val row + 8 * k)
         ({ v with d := { v.d with ecc := { v.d.ecc with fixes := v.d.ecc.fixes.filter (fun e => decide (e.1 / 65536 ≠ mem.val)) } } }).inc
           Reg.QRY_CNT_SCRUB_PASSES (mem.val - 68))) ∧
  (∀ (s : State) (ch : Fin 32), Runs s →
     (∀ rate : BitVec 8, s.dev.pwr.mr4Hot.contains ch.val = false →
       Does (.mr4Poll ch rate true) s fun w =>
         let v := w.wr Reg.CH_MR4_RATE rate.toNat ch.val
         ({ v with d := { v.d with pwr := { v.d.pwr with mr4Hot := ch.val :: v.d.pwr.mr4Hot.filter (fun c => c != ch.val) } } }).log (uChannel ch.val) 0 0 rate.toNat) ∧
     (∀ bank, Does (.refresh ch bank) s fun w => w) ∧
     (∀ drift, Does (.dqsTracking ch drift) s fun w =>
       if w.rd Reg.DDR_DRIFT_LIMIT < drift then (w.wr Reg.CH_DRIFT (min 0xFFFF drift) ch.val).queueRetrain ch.val else w.wr Reg.CH_DRIFT (min 0xFFFF drift) ch.val) ∧
     (s.rd Reg.DDR_RETRAIN_INTERVAL_S ≠ 0 →
       Does (.retrainIntervalExpiry ch) s fun w =>
         (w.advance (w.rd Reg.CH_LAST_TRAIN_TB ch.val + w.rd Reg.DDR_RETRAIN_INTERVAL_S * 1000000000)).queueRetrain ch.val) ∧
     (∀ (req : Requester) (n : BitVec 8), Writable s req 0x90002C →
       Does (.retrainNow req n) s fun w => if n.toNat < 32 then w.queueRetrain n.toNat else w.log (unitOf req)) ∧
     (s.dev.ddr.settling = true →
       Does .trackingSettled s fun w => (w.setDdr { w.d.ddr with settling := false }).upTo 32 (fun w k => w.wr Reg.CH_RATE_MTS 8533 k)))

/-- R73, R318, R321: a free copy engine takes the chain its order gives and checks it; a chain of copies at its end has moved what its descriptors name, in
their order, and has counted it; its node or job then ends with its status. A fill chain at its end has stored what its node's fill is, and its node is told. -/
def Obligations.CopyChains : Prop :=
  ∀ (s : State) (e : Fin 2) (c : Chain), Runs s →
    (s.rd Reg.CP_BUSY e.val ≠ 1 → s.w.isRetired (0x76 + e.val) = false → s.w.soundingOn (0x76 + e.val) = false → s.w.chainChoice (0x76 + e.val) = some c →
      Does (.copyChainStart e) s fun w => w.copyTake (0x76 + e.val) c) ∧
    (∀ ds bad, s.w.sounding (0x76 + e.val) = false → s.w.chainOf (0x76 + e.val) = some c → c.kind ≠ 2 → ds = c.descs.map cpDesc →
      bad = (ds.foldl (fun (acc : Work × Bool) d => ((acc.1.runDesc (0x76 + e.val) d).1, acc.2 || (acc.1.runDesc (0x76 + e.val) d).2))
        (s.w.reach ((s.w.eng (0x76 + e.val)).since + (ds.map CpDesc.cycles).sum), false)).2 →
      Does (.copyChainComplete e) s fun w =>
        let v := (ds.foldl (fun (acc : Work × Bool) d => ((acc.1.runDesc (0x76 + e.val) d).1, acc.2 || (acc.1.runDesc (0x76 + e.val) d).2))
          (w.reach ((w.eng (0x76 + e.val)).since + (ds.map CpDesc.cycles).sum), false)).1
        let size := fun (d : CpDesc) => d.e * d.ext.foldl (· * ·) 1
        let v := (v.add Reg.VIS_CP_CNT_DESCRIPTORS ds.length e.val).add Reg.VIS_CP_CNT_SLOW (ds.countP (fun d => !d.fast)) e.val
        let moves := ds.countP (fun d => !d.fill && d.linear && spansMeet (cpFoot d.e d.src d.ext d.ss) (cpFoot d.e d.dst d.ext d.ds))
        let v := (v.add Reg.VIS_CP_CNT_MOVES moves e.val).add Reg.VIS_CP_CNT_WRITE_BYTES (ds.map size).sum e.val
        let v := (v.add Reg.VIS_CP_CNT_READ_BYTES ((ds.filter (fun d => !d.fill)).map size).sum e.val).inc Reg.VIS_CP_CNT_CHAINS e.val
        let v := v.wr Reg.CP_CUR_DESC (ds.length - 1) e.val
        (if c.kind = 0 then v.modNode c.run c.node (fun x => { x with tile := ds.length }) else v).endChain (0x76 + e.val) c
          (if bad then stEccUncorrectable else if ds.any (fun d => !d.fast) then stMisalignedSlow else stOk) 0) ∧
    (∀ r ws, s.w.sounding (0x76 + e.val) = false → s.w.chainOf (0x76 + e.val) = some c → c.kind = 2 → s.w.grun? c.run = some r →
      ws = s.w.fillStores (0x76 + e.val) r c.node →
      Does (.copyChainComplete e) s fun w =>
        let v := (ws.foldl (fun w x => (w.store x.1 x.2).countBytes (0x76 + e.val) x.1 x.2.length true) w).countRmw (ws.map (fun x => (x.1, x.2.length)))
        (((v.inc Reg.VIS_CP_CNT_CHAINS e.val).inc Reg.VIS_CP_CNT_FILLS e.val).add Reg.VIS_CP_CNT_WRITE_BYTES (ws.map (fun x => x.2.length)).sum
          e.val).endChain (0x76 + e.val) c stOk 0)

/-- R381, R382: with the reserve free the first queued channel is evacuated, and with the reserve taken its retraining is deferred and counted; stripes switch
one at a time; after the last one out, the channel trains; its training done, the stripes return; after the last one back, the channel is in service again.
It rests on choices of the model: log entry 52. -/
def Obligations.ChannelEvacuation : Prop :=
  ∀ (s : State), Runs s → s.dev.ddr.retire = [] → s.dev.ddr.selfRefresh = false →
    (∀ ch rest, s.dev.ddr.evac = none → s.dev.ddr.queue = ch :: rest →
      Does .evacuationStart s fun w =>
        let v := (w.setDdr { w.d.ddr with queue := rest }).showQueued
        if v.rd Reg.DDR_RESERVE_FREE = 1 then
          let v := v.setDdr { v.d.ddr with evac := some ⟨ch, .out, false⟩ }
          (((v.wr Reg.DDR_EVAC_CH ch).wr Reg.DDR_EVAC_PERMANENT 0).wr Reg.DDR_EVAC_STRIPES_DONE 0).inc Reg.DDR_CNT_EVACUATIONS
        else v.inc Reg.DDR_CNT_RETRAIN_DEFERRED) ∧
    (∀ e, s.dev.ddr.evac = some e → (e.step = .out ∨ e.step = .back) →
      Does .evacStripeSwitch s fun w =>
        let n := w.rd Reg.DDR_EVAC_STRIPES_DONE + 1
        let v := w.wr Reg.DDR_EVAC_STRIPES_DONE n
        if n < v.channelStripes then v
        else if e.step = .back then
          ((((v.setDdr { v.d.ddr with evac := none }).wr Reg.CH_EVACUATED 0 e.ch).wr Reg.CH_IN_SERVICE 1 e.ch).wr Reg.DDR_EVAC_CH 0xFF).inc Reg.DDR_CH_CNT_RETRAINS e.ch
        else if e.permanent = true then v.channelRetired e.ch
        else ((v.setDdr { v.d.ddr with evac := some { e with step := .training } }).wr Reg.CH_EVACUATED 1 e.ch).wr Reg.CH_IN_SERVICE 0 e.ch) ∧
    (∀ e, s.dev.ddr.evac = some e → e.step = .training →
      Does .channelTrainingDone s fun w =>
        let v := ((w.wr Reg.CH_DRIFT 0 e.ch).wr Reg.CH_LAST_TRAIN_TB w.now e.ch).wr Reg.DDR_EVAC_STRIPES_DONE 0
        v.setDdr { v.d.ddr with evac := some { e with step := .back } })

/-- R352, R355, R367: a submission doorbell moves its queue's tail, which is logged where the queue is in ERROR; a completion doorbell that frees entries of a
queue that is not stalled moves its head; a doorbell that names no slot of the ring or a queue without life is counted and logged. A granted queue's next entry
is asked for, but in D3hot. A fetched entry takes its words and the status of its checks, and one whose fetch failed ends with the failure. It rests on choices
of the model: log entries 7 and 84. -/
def Obligations.QueueFetching : Prop :=
  ∀ (s : State) (q : Fin 8192), Runs s →
    (∀ v : BitVec 32, Does (.submissionDoorbell q v) s fun w =>
      if w.dbDead q.val = true ∨ 2 ^ (w.queue q.val).sqLog2 ≤ low 16 v.toNat then (w.inc Reg.QE_CNT_DB_BAD).log uHost q.val
      else
        let t := w.wr Reg.Q_SQ_TAIL (low 16 v.toNat) q.val
        if t.rd Reg.Q_STATE q.val = 2 then t.log uHost q.val else t) ∧
    (∀ v : BitVec 32, s.rd Reg.QE_Q_STALL_TB q.val = 0 →
      Does (.completionDoorbell q v) s fun w =>
        let size := 2 ^ (w.queue q.val).cqLog2
        if w.dbDead q.val = true ∨ size ≤ low 16 v.toNat ∨ w.cqUsed q.val < (low 16 v.toNat + size - w.rd Reg.Q_CQ_HEAD q.val) % size then
          (w.inc Reg.QE_CNT_DB_BAD).log uHost q.val
        else w.wr Reg.Q_CQ_HEAD (low 16 v.toNat) q.val) ∧
    ((s.w.perturbs 2 = false ∨ bitAt (s.rd Reg.TST_BP_MASK) 6 = false) →
      (∀ k gs, s.dev.hif.d3hot = false → s.w.arbitrate = some (k, gs) →
        Does .fetchGrant s fun w =>
          let v := w.setQueue k { w.queue k with
            buf := (w.queue k).buf ++ [⟨false, ⟨k, 0xFFFFFFFF, 0, false⟩, [], w.rd Reg.Q_SQ_HEAD k, .fetching, 0, 0, false, false, none, false⟩] }
          let v := v.setHif { v.d.hif with
            grants := gs, lastQid := if k = 0 then v.d.hif.lastQid else v.d.hif.lastQid.set (v.rd Reg.Q_ARB_CLASS k) k }
          v.wr Reg.Q_SQ_HEAD ((w.rd Reg.Q_SQ_HEAD k + 1) % 2 ^ (w.queue k).sqLog2) k) ∧
      (s.dev.hif.d3hot = true → Does .fetchGrant s fun w => w)) ∧
    (∀ k e, (s.w.queue q.val).buf.findIdx? (fun e => decide (e.st = .fetching)) = some k → (s.w.queue q.val).buf[k]? = some e →
      (Does (.entryFetched q .timeout) s fun w =>
        ((w.inc Reg.QE_CNT_CPL_TIMEOUT).log uHost q.val).setQueue q.val { w.queue q.val with
          buf := (w.queue q.val).buf.set k { e with st := .ready, status := stCompletionTimeout } }) ∧
      (Does (.entryFetched q .poisoned) s fun w =>
        ((w.inc Reg.QE_CNT_POISON_IN).log uHost q.val).setQueue q.val { w.queue q.val with
          buf := (w.queue q.val).buf.set k { e with st := .ready, status := stEccUncorrectable } }) ∧
      (∀ v bs ws, s.w.readAt uPcie ((s.w.queue q.val).sqBase + 64 * e.slot) 64 = (v, stOk, bs) → ws = bytesWords bs →
        Does (.entryFetched q .none) s fun w =>
          let st := v.entryStatus q.val ws
          v.setQueue q.val { w.queue q.val with
            buf := (w.queue q.val).buf.set k { e with
              job := ⟨q.val, wd ws 1, bits (wd ws 0) 7 0, bitAt (wd ws 0) 12⟩, words := ws, st := if st = stOk then .checked else .ready, status := st } }) ∧
      (∀ v st bs, s.w.readAt uPcie ((s.w.queue q.val).sqBase + 64 * e.slot) 64 = (v, st, bs) → st ≠ stOk →
        Does (.entryFetched q .none) s fun w =>
          v.setQueue q.val { w.queue q.val with buf := (w.queue q.val).buf.set k { e with st := .ready, status := st } }))

/-- R355, R357: a checked job that is next in its queue starts when its unit accepts it; a ready completion whose CQ has room is written with its phase, an
emit's with its words and status of that moment (R77), the tail moves on, and its vector is sent; a CQ still full, or full again with completions waiting,
holds them; at the end of its stall timeout its queue goes to ERROR with an error record, and one that is being deleted loses what it held; RESUME makes a
queue in ERROR ACTIVE. R360, R361: a fence wait whose timeout elapses completes with FLAG_TIMEOUT; a host write sets a token's count and completes the waits it
satisfies; a queue being deleted whose buffer has emptied becomes INACTIVE with its heads and tails at 0, and the job that deletes it completes. It rests on
choices of the model: log entry 84. -/
def Obligations.QueueCompletions : Prop :=
  (∀ (s : State) (q : Fin 8192), Runs s →
     (∀ k e, s.rd Reg.Q_STATE q.val = 1 → s.w.nextJob q.val = some (k, e) → s.w.accepts q.val k e = true →
       Does (.jobStart q) s fun w =>
         (w.setQueue q.val { w.queue q.val with buf := (w.queue q.val).buf.set k { e with st := .started } }).startJob e.job e.words) ∧
     (∀ k e, s.rd Reg.Q_STATE q.val = 1 ∨ s.rd Reg.Q_STATE q.val = 3 → postable (s.w.queue q.val) = some k → (s.w.queue q.val).buf[k]? = some e →
       (s.w.cqFull q.val = true → Does (.completionPost q) s fun w =>
         (w.setQueue q.val { w.queue q.val with buf := (w.queue q.val).buf.modify k w.emitNow }).cqHeld q.val) ∧
       (s.w.cqFull q.val = false → Does (.completionPost q) s fun w =>
         let qq := { w.queue q.val with buf := (w.queue q.val).buf.modify k w.emitNow }
         let tail := w.rd Reg.Q_CQ_TAIL q.val
         let next := (tail + 1) % 2 ^ qq.cqLog2
         let v := w.setQueue q.val qq
         let v := (v.writeAt uPcie (qq.cqBase + 16 * tail) (wordsBytes (v.cqWords q.val qq (w.emitNow e)))).1
         let v := v.setQueue q.val { qq with buf := qq.buf.eraseIdx k, phase := if next = 0 then !qq.phase else qq.phase }
         let v := (v.wr Reg.Q_CQ_TAIL next q.val).wr Reg.QE_Q_STALL_TB 0 q.val
         let v := if v.cqFull q.val = true ∧ waitingPosts (v.queue q.val) ≠ [] then v.cqHeld q.val else v
         let v := if e.emit = true then v else (v.inc Reg.QE_CNT_JOBS).inc Reg.QE_Q_CNT_JOBS q.val
         if qq.vectorEn = true ∧ (if e.emit = true then e.irq else !e.job.noIrq) = true then v.sendVector qq.vector else v)) ∧
     (s.dev.hif.d3hot = false → s.rd Reg.QE_Q_STALL_TB q.val ≠ 0 → s.w.cqFull q.val = true →
       (s.rd Reg.Q_STATE q.val = 1 →
         Does (.cqStallTimeout q) s fun w => ((w.advance (w.stallEnd q.val)).wr Reg.Q_STATE 2 q.val).err uPcie stOk q.val) ∧
       (s.rd Reg.Q_STATE q.val = 3 →
         Does (.cqStallTimeout q) s fun w =>
           let v := w.advance (w.stallEnd q.val)
           (v.setQueue q.val { v.queue q.val with buf := [] }).err uPcie stOk q.val)) ∧
     (∀ req, Writable s req (0x210004 + 64 * q.val) → s.rd Reg.Q_STATE q.val = 2 →
       Does (.queueResume req q) s fun w => (w.wr Reg.Q_STATE 1 q.val).wr Reg.QE_Q_STALL_TB 0 q.val)) ∧
  (∀ (s : State) (q : Fin 8192), Runs s →
     (∀ f, s.dev.hif.fences.find? (fun f => f.job.q == q.val && f.deadline != 0) = some f →
       Does (.fenceWaitTimeout q) s fun w =>
         let v := w.advance f.deadline
         (v.setHif { v.d.hif with fences := v.d.hif.fences.filter (fun g => decide (g ≠ f)) }).complete f.job stFlagTimeout) ∧
     (∀ req (t : Fin 256) (v : BitVec 32), Writable s req (0x201000 + 4 * t.val) →
       Does (.qeFenceWrite req t v) s fun w => (w.wr Reg.QE_FENCE v.toNat t.val).fenceWake t.val) ∧
     (∀ j, s.rd Reg.Q_STATE q.val = 3 → (s.w.queue q.val).buf = [] → (s.w.queue q.val).deleter = some j →
       Does (.deleteQueueDone q) s fun w =>
         let v := { w with d := { w.d with hif := { w.d.hif with
           queues := tdel w.d.hif.queues q.val, fences := w.d.hif.fences.filter (fun f => f.job.q != q.val) } } }
         let v := (v.wr Reg.Q_STATE 0 q.val).wr Reg.Q_ARB_CLASS 0 q.val
         (((((v.wr Reg.Q_SQ_HEAD 0 q.val).wr Reg.Q_SQ_TAIL 0 q.val).wr Reg.Q_CQ_HEAD 0 q.val).wr Reg.Q_CQ_TAIL 0 q.val).wr Reg.QE_Q_STALL_TB 0 q.val).complete j stOk))

/-- R25: a write of four bytes that cover one RW field of a register without effects of its own: the field takes the bytes written when its rules admit the
value, and is left alone, with the write logged under the requester's unit ID, when they do not or when the block takes no writes of that requester. It
rests on choices of the model: log entry 58. -/
def Obligations.RegisterWrites : Prop :=
  ∀ (s : State) (req : Requester) (off : BitVec 25) (data : BitVec 64) (x : FldAt) (v : Nat), Runs s → off.toNat % 4 = 0 → off.toNat < 0x1000000 →
    off.toNat / 0x100000 ≠ 14 → fieldsAt off.toNat 4 = [x] → x.f.acc = .rw → Work.hooked x.f = false → x.f ≠ Reg.DOM_HOLD →
    Work.isWide (off.toNat / 8 * 8) = false → s.w.answers (unitOf req) off.toNat = true →
    v = Work.mergeBits (low x.f.wid (s.w.valueOf x)) x.key x.f.wid (8 * off.toNat) 32 (low 32 data.toNat) →
    (Work.mayWrite (unitOf req) off.toNat = false → Does (.registerWrite req off 4 data) s fun w => w.log (unitOf req)) ∧
    (Work.mayWrite (unitOf req) off.toNat = true → s.w.claimedBy off.toNat = none → s.w.special (unitOf req) off.toNat (low 32 data.toNat) = none →
      Does (.registerWrite req off 4 data) s fun w =>
        if v ≠ low x.f.wid (w.valueOf x) ∧ w.fieldOk x v = false then w.log (unitOf req) else w.wr x.f v x.i x.j)

/-- R35, R46 to R48, R453: staging a container reads it once, and a failed read ends the job with the read's status; what is staged is verified once steps 1 to 3
pass, and a failed step refuses it. A container whose trailer is no RSASSA-PSS signature of its bytes under the key its slot names is refused there with
SIG_INVALID; with a good one, steps 5 to 12 refuse it, or its model images are read, or it is committed. A model image whose digest is not the one named, or
that cannot be decrypted under the key it names, is refused; after the last one the container commits, or the reload's image is in place. It rests on choices
of the model: log entries 11, 32 and 40. -/
def Obligations.ContainerChecks : Prop :=
  ∀ (s : State) (run : LoadRun), Runs s → s.dev.ldr.run = some run →
    (∀ fail v st bs, run.phase = .staging → run.job.boot = false → s.w.loadRead uKeystone run.job.addr run.job.len fail = (v, st, bs) →
      Does (.bitstreamStaged fail) s fun _ =>
        if st ≠ stOk then v.failLoad run.job st
        else match v.earlySteps (bytesWords bs) run.job.len with
          | some f => v.refuseLoad run.job f
          | none => v.setLdr { v.d.ldr with run := some { run with phase := .verifying, staged := bs } }) ∧
    (∀ good, run.phase = .verifying →
      good = s.w.signed (bits (wd (bytesWords run.staged) 5) 7 0) (run.staged.take (ctTotal (bytesWords run.staged))) →
      (good = false → Does .signatureVerified s fun w =>
        ((w.inc Reg.SEC_CNT_VERIFY).inc Reg.SEC_CNT_VERIFY_FAIL).refuseLoad run.job ⟨stSigInvalid, 0xFFFF, ctTotal (bytesWords run.staged) - 384, 0xFF⟩) ∧
      (good = true → Does .signatureVerified s fun w =>
        let v := w.inc Reg.SEC_CNT_VERIFY
        let imgs := (Container.ofWords (bytesWords run.staged)).recs.filter (fun r => r.typ == 9 && r.len != 0)
        match v.lateSteps (bytesWords run.staged) run.job.boot with
        | some f => v.refuseLoad run.job f
        | none => if imgs = [] then v.commitLoad run (bytesWords run.staged)
          else v.setLdr { v.d.ldr with run := some { run with phase := .models, images := imgs } })) ∧
    (∀ r rest fail v st bs, run.phase = .models → run.images = r :: rest → s.w.loadRead uSecurity (wd64 r.words 0) (wd r.words 2) fail = (v, st, bs) →
      (st ≠ stOk → Does (.modelImageChecked fail) s fun _ => v.refuseImage run r st 0) ∧
      (st = stOk → sha256 bs ≠ wordsBytes ((r.words.drop 4).take 8) → Does (.modelImageChecked fail) s fun _ => v.refuseImage run r stSigInvalid 16) ∧
      (st = stOk → sha256 bs = wordsBytes ((r.words.drop 4).take 8) →
        (∀ e, v.imagePlain r bs = .inl e → Does (.modelImageChecked fail) s fun _ => v.refuseImage run r e 16) ∧
        (∀ img, v.imagePlain r bs = .inr img → Does (.modelImageChecked fail) s fun _ =>
          let run' := { run with images := rest, checked := run.checked ++ [(r, img)] }
          if rest ≠ [] then v.setLdr { v.d.ldr with run := some run' }
          else if run.job.model.isSome then
            ((run'.checked.foldl (fun w x => w.placeImage x.1 x.2) v).loadDone run.job stOk 0).loadEnd
          else v.commitLoad run' (bytesWords run.staged))))

/-- R366, R369: a range of versions that holds 1.1.0 makes it the active version, and any other range leaves none, with an error record; AQ_ENABLE with a
version active and a valid ring makes queue 0 ACTIVE; an accepted error-ring base takes the records held on chip. -/
def Obligations.HostSetup : Prop :=
  ∀ (s : State) (req : Requester), Runs s →
    (∀ lo hi : BitVec 32, Writable s req 0x200008 →
      Does (.hostIfNegotiate req lo hi) s fun w =>
        let key := fun v => bits v 19 16 * 65536 + bits v 15 8 * 256 + bits v 7 0
        let v := ((w.wr Reg.QE_MIN_MINOR (bits lo.toNat 7 0)).wr Reg.QE_MIN_MAJOR (bits lo.toNat 15 8)).wr Reg.QE_MIN_GEN (bits lo.toNat 19 16)
        let v := ((v.wr Reg.QE_MAX_MINOR (bits hi.toNat 7 0)).wr Reg.QE_MAX_MAJOR (bits hi.toNat 15 8)).wr Reg.QE_MAX_GEN (bits hi.toNat 19 16)
        if key lo.toNat ≤ 65792 ∧ 65792 ≤ key hi.toNat then
          ((((v.wr Reg.QE_ACTIVE_MINOR 0).wr Reg.QE_ACTIVE_MAJOR 1).wr Reg.QE_ACTIVE_GEN 1).wr Reg.QE_ACTIVE_VALID 1).wr Reg.QE_ACTIVE_MISMATCH 0
        else ((v.wr Reg.QE_ACTIVE_VALID 0).wr Reg.QE_ACTIVE_MISMATCH 1).err uPcie stVersionMismatch) ∧
    (Writable s req 0x200018 → s.rd Reg.QE_ACTIVE_VALID = 1 → s.rd Reg.Q_STATE 0 = 0 → 6 ≤ s.rd Reg.QE_AQ_SQ_LOG2 → s.rd Reg.QE_AQ_SQ_LOG2 ≤ 16 →
      6 ≤ s.rd Reg.QE_AQ_CQ_LOG2 → s.rd Reg.QE_AQ_CQ_LOG2 ≤ 16 → s.rd Reg.QE_AQ_SQ_BASE % 64 = 0 → s.rd Reg.QE_AQ_CQ_BASE % 64 = 0 →
      s.w.ringPlace (s.rd Reg.QE_AQ_SQ_BASE) (64 * 2 ^ s.rd Reg.QE_AQ_SQ_LOG2) = true →
      s.w.ringPlace (s.rd Reg.QE_AQ_CQ_BASE) (16 * 2 ^ s.rd Reg.QE_AQ_CQ_LOG2) = true →
      Does (.aqEnable req true) s fun w =>
        ((w.setQueue 0 ⟨w.rd Reg.QE_AQ_SQ_BASE, w.rd Reg.QE_AQ_CQ_BASE, w.rd Reg.QE_AQ_SQ_LOG2, w.rd Reg.QE_AQ_CQ_LOG2, w.rd Reg.QE_AQ_VECTOR,
          w.on Reg.QE_AQ_VECTOR_EN, w.rd Reg.QE_STALL_DEFAULT_MS, true, [], 0, none⟩).wr Reg.Q_STATE 1 0).wr Reg.QE_AQ_ENABLE 1) ∧
    (∀ base : BitVec 64, Writable s req 0x200060 →
      Does (.errRingBaseWrite req base) s fun w =>
        let n := 32 * 2 ^ w.rd Reg.QE_ERR_LOG2
        if base.toNat % 64 = 0 ∧ (w.inDram base.toNat n = true ∨ inHostWin base.toNat n = true) then
          let v := w.wr Reg.QE_ERR_RING_BASE base.toNat
          if base.toNat = 0 then v else v.d.errHeld.foldl (fun v r => v.errPut r) { v with d := { v.d with errHeld := [] } }
        else w.log (unitOf req))

/-- R349, R367: a read through BAR2 answers with the bytes its aperture reaches, unsupported where they may not be read and poisoned where one is; a write
stores them, poisoned words marked and recorded; either beyond the BAR reaches nothing. A malformed or poisoned write to BAR0 is discarded and reported,
and a read of host memory that gets no completion, or a poisoned one, ends its reader's work: a queue's fetch with its status, and a loader, copy chain or
core by their own rules. It rests on choices of the model: log entries 63, 64 and 84. -/
def Obligations.HostTraffic : Prop :=
  ∀ (s : State), Runs s →
    (∀ (off : BitVec 40) (n : BitVec 13), off.toNat + n.toNat ≤ 2 ^ s.dev.hif.bar2Log2 →
      Does (.bar2Read off n) s fun w =>
        let r := w.readAt uHost (w.bar2Addr off.toNat) n.toNat
        r.1.setHif { r.1.d.hif with
          bar2Data := r.2.2, bar2Ur := r.2.1 != stOk && r.2.1 != stEccUncorrectable, bar2Ep := r.2.1 == stEccUncorrectable }) ∧
    (∀ (off : BitVec 40) (n : BitVec 13), 2 ^ s.dev.hif.bar2Log2 < off.toNat + n.toNat →
      Does (.bar2Read off n) s fun w => w.setHif { w.d.hif with bar2Data := [], bar2Ur := true, bar2Ep := false }) ∧
    (∀ (off : BitVec 40) bs, bs ≠ [] → off.toNat + bs.length ≤ 2 ^ s.dev.hif.bar2Log2 →
      (Does (.bar2Write off bs false) s fun w => (w.writeAt uHost (w.bar2Addr off.toNat) bs).1) ∧
      (Does (.bar2Write off bs true) s fun w =>
        let a := w.bar2Addr off.toNat
        let v := (w.writeAt uHost a bs).1.inc Reg.QE_CNT_POISON_IN
        if (w.writeAt uHost a bs).2 = stOk then
          ((List.range ((a + bs.length - 1) / 8 - a / 8 + 1)).foldl (fun w k => w.setPoison (w.storage ((a / 8 + k) * 8)) true) v).err uPcie stOk 0 a
        else v)) ∧
    (∀ (off : BitVec 40) bs p, 2 ^ s.dev.hif.bar2Log2 < off.toNat + bs.length → Does (.bar2Write off bs p) s fun w => w) ∧
    (∀ a : BitVec 64,
      (Does (.malformedTlp .malformed a) s fun w => (w.setHif { w.d.hif with aer := w.d.hif.aer ++ [1] }).err uPcie stOk 0 a.toNat) ∧
      (Does (.malformedTlp .poisonedBar0 a) s fun w =>
        ((w.setHif { w.d.hif with aer := w.d.hif.aer ++ [2] }).inc Reg.QE_CNT_POISON_IN).err uPcie stOk 0 a.toNat)) ∧
    (∀ (q : Fin 8192) (k : Nat) e (a : BitVec 64), (s.w.queue q.val).buf.findIdx? (fun e => decide (e.st = .fetching)) = some k →
      (s.w.queue q.val).buf[k]? = some e →
      (Does (.completionTimeout (.queue q)) s fun w =>
        ((w.inc Reg.QE_CNT_CPL_TIMEOUT).log uHost q.val).setQueue q.val { w.queue q.val with
          buf := (w.queue q.val).buf.set k { e with st := .ready, status := stCompletionTimeout } }) ∧
      (Does (.malformedTlp (.poisonedCpl (.queue q)) a) s fun w =>
        let v := w.setHif { w.d.hif with aer := w.d.hif.aer ++ [3] }
        ((v.inc Reg.QE_CNT_POISON_IN).log uHost q.val).setQueue q.val { w.queue q.val with
          buf := (w.queue q.val).buf.set k { e with st := .ready, status := stEccUncorrectable } })) ∧
    (∀ (a : BitVec 64) second (c : Fin 64),
      (Does (.completionTimeout .loader) s fun w => w.loaderFails .timeout) ∧
      (Does (.malformedTlp (.poisonedCpl .loader) a) s fun w => (w.setHif { w.d.hif with aer := w.d.hif.aer ++ [3] }).loaderFails .poisoned) ∧
      (Does (.completionTimeout (.copy second)) s fun w => w.chainTimeout (if second then 0x77 else 0x76)) ∧
      (Does (.malformedTlp (.poisonedCpl (.copy second)) a) s fun w =>
        (((w.setHif { w.d.hif with aer := w.d.hif.aer ++ [3] }).inc Reg.QE_CNT_POISON_IN).err uPcie stOk 0 a.toNat).chainPoisoned (if second then 0x77 else 0x76)) ∧
      (Does (.completionTimeout (.core c)) s fun w => w.loadTimeout c.val) ∧
      (Does (.malformedTlp (.poisonedCpl (.core c)) a) s fun w =>
        (((w.setHif { w.d.hif with aer := w.d.hif.aer ++ [3] }).inc Reg.QE_CNT_POISON_IN).err uPcie stOk 0 a.toNat).loadFails c.val stEccUncorrectable))

/-- R368: with PTM as TB's source, a request is issued and one that got no answer is counted; a response records the offset, locks TB after eight within 50 ns,
and either steps TB to master time, with a record, at the first exchange when stepping is enabled and dispatch is not, or slews it by the offset. R400:
with Dravig as TB's source and a parent in service, TIME_SYNC goes to the parent each period, and a completed exchange records the offset at its midpoint,
locks TB after eight within 50 ns, and steps or slews it by the rules of R368. It rests on choices of the model: log entry 5. -/
def Obligations.TimeDiscipline : Prop :=
  (∀ (s : State), s.dev.pwr.refStopped = false → s.rd Reg.QE_TB_ROLE = 1 →
     (Does .ptmRequest s fun w =>
       let v := if w.d.hif.ptmNext = 0 then w else w.advance w.d.hif.ptmNext
       let v := if v.d.hif.ptmOut = true then v.inc Reg.QE_CNT_PTM_MISSED else v
       v.setHif { v.d.hif with ptmOut := true, ptmAt := v.now, ptmNext := v.now + 1000 * v.rd Reg.QE_TB_PTM_PERIOD_US }) ∧
     (∀ (m : BitVec 64) (off : Int) good, s.dev.hif.ptmOut = true → off = ((s.dev.hif.ptmAt + s.w.now) / 2 : Nat) - (m.toNat : Int) →
       good = (if off < 50 ∧ -50 < off then s.dev.hif.ptmGood + 1 else 0) →
       Does (.ptmResponse m) s fun w =>
         let v := (w.wr Reg.QE_TB_LAST_OFFSET (wrapInt 32 off)).wr Reg.QE_TB_LOCKED (b2n (decide (8 ≤ good)))
         if v.d.hif.ptmDone = false ∧ v.on Reg.QE_TB_STEP_EN = true ∧ v.on Reg.KS_DISPATCH_EN = false then
           let v := v.setHif { v.d.hif with ptmOut := false, ptmGood := good, ptmDone := true, slew := 0 }
           { v with d := { v.d with clk := { v.d.clk with tb11 := 11 * ((v.now : Int) - off).toNat } } }.err uPcie stOk 0 0 (wrapInt 32 (-off))
         else v.setHif { v.d.hif with ptmOut := false, ptmGood := good, ptmDone := true, slew := -(11 * off) })) ∧
  (∀ (s : State) (p : Nat), Runs s → s.rd Reg.QE_TB_ROLE = 2 → s.rd Reg.DRV_TB_MASTER ≠ 1 → s.w.tbParent = some p →
     (Does .timeSyncSend s fun w =>
       let v := w.advance w.d.drv.syncNext
       let v := v.setDrv { v.d.drv with syncOut := true, syncNext := v.now + 1000 * v.rd Reg.DRV_SYNC_PERIOD_US }
       v.queuePacket p 0 ⟨⟨v.rd Reg.DPORT_NEIGHBOUR_ID p, v.rd Reg.DRV_DEVICE_ID, 0⟩, .timeSync⟩) ∧
     (∀ (q : Fin 4) (t1 t2 t3 t4 : BitVec 64) (off : Int) good, q.val = p → s.dev.drv.syncOut = true →
       off = (((t1.toNat : Int) - t2.toNat) + ((t4.toNat : Int) - t3.toNat)) / 2 →
       good = (if off < 50 ∧ -50 < off then s.dev.drv.syncGood + 1 else 0) →
       Does (.timeSync q t1 t2 t3 t4) s fun w =>
         let v := (w.wr Reg.DRV_TB_LAST_OFFSET (wrapInt 32 off)).wr Reg.DRV_LOCKED (b2n (decide (8 ≤ good)))
         let step := !v.d.drv.syncDone && v.on Reg.QE_TB_STEP_EN && !v.on Reg.KS_DISPATCH_EN
         let v := v.setDrv { v.d.drv with syncOut := false, syncGood := good, syncDone := true }
         let v := v.setHif { v.d.hif with slew := if step = true then 0 else -(11 * off) }
         if step = true then
           { v with d := { v.d with clk := { v.d.clk with tb11 := 11 * ((v.now : Int) - off).toNat } } }.err uPcie stOk 0 0 (wrapInt 32 (-off))
         else v))

/-- R418, R426: D3hot holds the device's writes to the host, and the return to D0 lets them leave in order and gives each stall the time it was suspended for;
a hot reset or a function-level reset records its cause, returns the queue engine's registers and the host interface to reset, and reports itself, the
device running on. R423 to R425, R428: PERST_N, and a chip reset that has been asked for, set their cause bits and count, restart TB at 0 and boot in ROM,
put LPDDR5X into self-refresh with its contents kept, empty the tile stores and the Quarry, and keep core assignments, retirements, row spares and the OTP;
PERST_N leaves a thermal trip, the other does not. R427, R428: a kick restarts the watchdog, one in the V-cycle of expiry counting as a near miss; an
expiry is a chip reset with cause bit 4; a write that asks for a chip reset with the key has it come 1 µs later, one with another key is logged. It rests
on choices of the model: log entries 45, 48, 55 and 65. -/
def Obligations.Resets : Prop :=
  (∀ (s : State), s.dev.pwr.refStopped = false →
     (s.dev.hif.d3hot = false → Does .d3hotEntry s fun w => w.setHif { w.d.hif with d3hot := true, d3Since := w.now }) ∧
     (s.dev.hif.d3hot = true →
       Does .d0Return s fun w =>
         let v := w.d.hif.heldWrites.foldl (fun w x => w.put .host x.1 x.2) w
         v.setHif { v.d.hif with
           d3hot := false, heldWrites := []
           queues := v.d.hif.queues.map (fun e =>
             if v.rd Reg.QE_Q_STALL_TB e.1 = 0 then e
             else (e.1, { e.2 with paused := e.2.paused + (w.now - max (v.rd Reg.QE_Q_STALL_TB e.1) v.d.hif.d3Since) })) }) ∧
     (∀ i cause, ((i = .hotReset ∧ cause = 2) ∨ (i = .flr ∧ cause = 3)) →
       (s.w.wr Reg.PWR_RESET_CAUSE (Nat.lor (s.rd Reg.PWR_RESET_CAUSE) (2 ^ cause))).justReset = false →
       Does i s fun w =>
         let v := (w.wr Reg.PWR_RESET_CAUSE (Nat.lor (w.rd Reg.PWR_RESET_CAUSE) (2 ^ cause))).hostReadsEnd
         let h := v.d.hif
         let v := { v with d := { v.d with
           regs := v.d.regs.filter (fun e => !qeKey e.1), locked1 := v.d.locked1.filter (fun k => !qeKey k), errHeld := []
           hif := { HostIf.reset with linkUp := h.linkUp && cause != 2, bar2Log2 := h.bar2Log2, readData := h.readData } } }
         let v := v.setSec { v.d.sec with doe := .silent }
         v.offer uPcie 5 (v.rd Reg.MSN_FAULT_CHANNEL) cause)) ∧
  (∀ (s : State) (i : Instr) (c : Nat) (perst : Bool), s.dev.pwr.refStopped = false → s.w.justReset = false → s.dev.sec.change = none →
     ((i = .perstN ∧ c = 1 ∧ perst = true) ∨ (i = .chipReset ∧ perst = false ∧ s.dev.sec.resetAt = none ∧ s.dev.saf.resetAsk = some c)) →
     ∃ t, exec i s = .next t ∧ t.rd Reg.PWR_RESET_CAUSE = low 7 (Nat.lor (s.rd Reg.PWR_RESET_CAUSE) (2 ^ c)) ∧ t.rd Reg.RST_BOOT_STATE = 0 ∧
       t.rd Reg.PWR_TRIPPED = (if s.rd Reg.PWR_TRIPPED = 1 ∧ perst = false then 1 else 0) ∧ t.dev.clk = ⟨0, 0⟩ ∧ t.dev.sec = Sec.reset ∧
       t.dev.hif = HostIf.reset ∧ t.dev.ddr.selfRefresh = true ∧ t.dev.cores = s.dev.cores ∧ t.dev.retired = s.dev.retired ∧
       t.dev.ecc.spared = s.dev.ecc.spared ∧ t.otp = s.otp ∧ (∀ a, a < 0x4000000000 → t.mem.byte .dev a = s.mem.byte .dev a) ∧
       (∀ a, 0x4000000000 ≤ a → a < 0x10000000000 → t.mem.byte .dev a = 0#8)) ∧
  (∀ (s : State), s.dev.pwr.refStopped = false →
     (∀ req, Writable s req 0x10401C → s.rd Reg.RST_WDT_EN ≠ 1 →
       Does (.pwrWdtKick req) s fun w => w.setSec { w.d.sec with kick := w.now }) ∧
     (∀ req, Writable s req 0x10401C → s.rd Reg.RST_WDT_EN = 1 →
       Does (.pwrWdtKick req) s fun w =>
         let v := w.collide uSafety w.wdtEnd
         let v := if v.atDue v.wdtEnd = true then (v.inc Reg.PWR_CNT_WDT_NEAR_MISS).wr Reg.PWR_WDT_NEAR_MISS_TB v.now else v
         v.setSec { v.d.sec with kick := v.now }) ∧
     (s.rd Reg.RST_WDT_EN = 1 → Does .watchdogExpiry s fun w => (w.advance w.wdtEnd).chipReset 4 false) ∧
     (∀ req (key : BitVec 16), Writable s req 0x104010 →
       (key = 0xA5C3#16 → Does (.chipResetRequest req true key) s fun w => w.setSec { w.d.sec with resetAt := some (w.now + 1000) }) ∧
       (key ≠ 0xA5C3#16 → ∀ chip, Does (.chipResetRequest req chip key) s fun w => w.log (unitOf req))) ∧
     (∀ v info, s.w.free 32 = (v, info) → Does .pllLockLoss s fun _ => (v.err uSafety stOk).degrade uSafety stSafeDegraded info))

/-- R430, R431, R490, R492: a safety request for a unit's reset drops its work and opens its wrapper's sequence, or is a link reset of a Dravig port, or is
refused; the release clears its registers and ends the job that asked; at SNAP_TB every counter is copied aside with the domains asleep noted, and once the
copies are visible the set is VALID and its job completes. It rests on choices of the model: log entry 54. -/
def Obligations.WrappersAndSnapshots : Prop :=
  ∀ (s : State), Runs s →
    (∀ u : BitVec 8, unitKnown u.toNat = true → resettable u.toNat = true → s.w.isRetired u.toNat = false → u.toNat < 0x81 →
      Does (.unitReset u none) s fun w =>
        let v := (w.dropWork u.toNat).abandonSounding u.toNat
        v.setSec { v.d.sec with resets := v.d.sec.resets ++ [⟨u.toNat, none, v.now⟩] }) ∧
    (∀ u : BitVec 8, 0x81 ≤ u.toNat → u.toNat ≤ 0x84 → s.w.isRetired u.toNat = false →
      Does (.unitReset u none) s fun w =>
        let p := u.toNat - 0x81
        let v := w.clearPortRegs p
        let v := (v.setDport p { v.dport p with step := 0, hello := false, off := true }).setPortState p dpDown
        if v.on Reg.DPORT_ENABLE p = true then v.trainPort p else v) ∧
    (∀ u : BitVec 8, resettable u.toNat = false ∨ s.w.isRetired u.toNat = true → Does (.unitReset u none) s fun w => w) ∧
    (∀ (u : BitVec 8) r, s.dev.sec.resets.find? (fun r => r.unit == u.toNat) = some r → s.w.isRetired u.toNat = false →
      Does (.unitResetRelease u) s fun w =>
        let v := (w.setSec { w.d.sec with resets := w.d.sec.resets.filter (fun x => x.unit != u.toNat) }).clearUnitRegs u.toNat
        match r.job with
        | some j => v.complete j stOk
        | none => v) ∧
    (∀ (k : Fin 4) x, s.dev.sec.snaps.find? (fun x => x.set == k.val && !x.taken) = some x →
      Does (.snapCapture k) s fun w =>
        let v := w.advance (w.rd Reg.SNAP_TB k.val)
        let asleep := pack ((List.range 15).map (fun d => (b2n (v.rd Reg.DOM_STATE d == 1 || v.rd Reg.DOM_STATE d == 2), d, 1)))
        let v := v.wr Reg.SNAP_DOMAINS_ASLEEP asleep k.val
        let counts := (List.range 1536).map (fun i => v.counterAt (dirEntry i))
        v.setSec { v.d.sec with snaps := v.d.sec.snaps.map (fun y => if y.set == k.val then { x with taken := true, counts := counts } else y) }) ∧
    (∀ (k : Fin 4) x, s.dev.sec.snaps.find? (fun x => x.set == k.val && x.taken) = some x →
      Does (.snapComplete k) s fun w =>
        let v := x.counts.zipIdx.foldl (fun (w : Work) (c : Nat × Nat) => w.wr Reg.SNAP_SHADOW c.1 k.val c.2) w
        let v := ((v.wr Reg.SNAP_CAPTURE_END_TB v.now k.val).wr Reg.SNAP_VALID 1 k.val).wr Reg.SNAP_PENDING 0 k.val
        let v := v.setSec { v.d.sec with snaps := v.d.sec.snaps.filter (fun x => x.set != k.val) }
        match x.job with
        | some j => v.complete j stOk
        | none => v)

/-- R386, R401, R429: enabling a port starts its training at full width, which after a written 0 is a link reset that clears its registers; a step that ends
with lanes to spare sets the width and goes on, and a third failure takes the port OUT; a HELLO that does not fit the torus takes it OUT with an error record;
after a HELLO that does, training ends ACTIVE; a dropped link is reset and, where its port is enabled, trains again; an idle neighbour puts the port to SLEEP,
and a waking one retrains it from step 3. It rests on choices of the model: log entry 70. -/
def Obligations.PortTraining : Prop :=
  ∀ (s : State) (p : Fin 4), Runs s →
    (∀ req train reset,
      train = (fun (v : Work) => ((v.setDport p.val { v.dport p.val with
        step := 1, fails := 0, cap := 0, hello := false, replays := [], off := false }).wr Reg.DPORT_WIDTH 0 p.val).setPortState p.val 1) →
      reset = (fun (w : Work) =>
        let v := w.clearPortRegs p.val
        let v := (v.setDport p.val { v.dport p.val with step := 0, hello := false, off := true }).setPortState p.val 0
        if v.rd Reg.DPORT_ENABLE p.val = 1 then train v else v) →
      (Writable s req (0xA02000 + 0x100 * p.val) → s.rd Reg.DPORT_ENABLE p.val ≠ 1 →
        ((s.w.dport p.val).off = false → Does (.drvPortEnable req p) s fun w => train (w.wr Reg.DPORT_ENABLE 1 p.val)) ∧
        ((s.w.dport p.val).off = true → Does (.drvPortEnable req p) s fun w => reset (w.wr Reg.DPORT_ENABLE 1 p.val))) ∧
      (Writable s req (0xA02000 + 0x100 * p.val) → s.rd Reg.DPORT_ENABLE p.val = 1 →
        Does (.drvPortEnable req p) s fun w => w.wr Reg.DPORT_ENABLE 1 p.val) ∧
      (s.rd Reg.DPORT_STATE p.val ≠ 0 → s.rd Reg.DPORT_STATE p.val ≠ 4 → Does (.linkDown p) s reset)) ∧
    (∀ lanes, s.rd Reg.DPORT_STATE p.val = 1 →
      (∀ pass, (s.w.dport p.val).fails = 2 → pass = false →
        Does (.linkTrainingStepDone p lanes pass) s fun w =>
          let v := w.setDport p.val { w.dport p.val with fails := 3 }
          (v.setDport p.val { v.dport p.val with step := 0, hello := false }).setPortState p.val 4) ∧
      ((s.w.dport p.val).fails < 2 → Does (.linkTrainingStepDone p lanes false) s fun w =>
        w.setDport p.val { w.dport p.val with step := 1, fails := (w.dport p.val).fails + 1, hello := false }) ∧
      ((s.w.dport p.val).step = 1 → 2 ≤ lanes → Does (.linkTrainingStepDone p lanes true) s fun w =>
        (w.setDport p.val { w.dport p.val with step := 2 }).wr
          Reg.DPORT_WIDTH (max (w.dport p.val).cap (if 8 ≤ lanes then 0 else if 4 ≤ lanes then 1 else 2)) p.val) ∧
      ((s.w.dport p.val).step = 2 → Does (.linkTrainingStepDone p lanes true) s fun w => w.setDport p.val { w.dport p.val with step := 3 }) ∧
      ((s.w.dport p.val).step = 3 → (s.w.dport p.val).hello = true → s.rd Reg.DRV_ID_VALID = 1 →
        Does (.linkTrainingStepDone p lanes true) s fun w =>
          pumpPort 4096 ((w.setDport p.val { w.dport p.val with
            step := 0, replay := (w.dport p.val).replay.map (fun f => { f with tb := w.now }) }).setPortState p.val 2) p.val)) ∧
    (∀ id x y port idValid, s.rd Reg.DPORT_STATE p.val = 1 → (s.w.dport p.val).step = 3 → s.rd Reg.DRV_ID_VALID = 1 →
      Does (.hello p id x y port idValid) s fun w =>
        let v := w.wr Reg.DPORT_NEIGHBOUR_ID id p.val
        if x = v.rd Reg.DRV_X_SIZE ∧ y = v.rd Reg.DRV_Y_SIZE ∧ idValid = true ∧ id = v.beyond p.val ∧ port = (p.val + 2) % 4 then
          v.setDport p.val { v.dport p.val with hello := true }
        else
          let v := v.err (uDravig p.val) stLinkDegraded id
          (v.setDport p.val { v.dport p.val with step := 0, hello := false }).setPortState p.val 4) ∧
    (s.rd Reg.DPORT_STATE p.val = 2 → Does (.neighbourSleep p) s fun w => w.setPortState p.val 3) ∧
    (s.rd Reg.DPORT_STATE p.val = 3 → s.rd Reg.PWR_DEVICE_STATE = 0 →
      Does (.wakeOrderedSet p) s fun w =>
        (w.setDport p.val { w.dport p.val with step := 3, fails := 0, hello := false }).setPortState p.val 1)

/-- R388: a flit that fails its CRC, or is out of sequence, is discarded and answered with NACK; one in order moves the sequence on, takes the credits it
returns, and acknowledges or asks for a replay as it says; what can be sent then follows. A replay timer that fires resends what is unacknowledged. It
rests on choices of the model: log entry 29. -/
def Obligations.FlitsInOrder : Prop :=
  ∀ (s : State) (p : Fin 4), Runs s → s.rd Reg.DPORT_STATE p.val = 2 →
    (∀ bs, flitGood bs = false → Does (.flitReceive p bs) s fun w =>
      let v := (w.inc Reg.DRV_CNT_FLITS_RX p.val).inc Reg.DRV_CNT_CRC_ERR p.val
      v.setDport p.val { v.dport p.val with nack := true }) ∧
    (∀ bs, flitGood bs = true → bits (flitWord bs 0) 11 0 ≠ (s.w.dport p.val).rxSeq → Does (.flitReceive p bs) s fun w =>
      let v := w.inc Reg.DRV_CNT_FLITS_RX p.val
      v.setDport p.val { v.dport p.val with nack := true }) ∧
    (∀ bs, flitGood bs = true → bits (flitWord bs 0) 11 0 = (s.w.dport p.val).rxSeq →
      Does (.flitReceive p bs) s fun w =>
        let h := flitWord bs 0
        let c := flitWord bs 1
        let v := w.inc Reg.DRV_CNT_FLITS_RX p.val
        let x := v.dport p.val
        let v := v.setDport p.val { x with
          rxSeq := (x.rxSeq + 1) % 4096, ackValid := true, nack := false
          credits := [min 32 (x.credits.getD 0 0 + bits c 7 0), min 32 (x.credits.getD 1 0 + bits c 15 8)] }
        let v := if bitAt h 24 = true then v.ackFlits p.val (bits h 23 12) else v
        let v := if bitAt h 25 = true then v.replayFlits p.val else v
        pumpPort 512 v p.val) ∧
    (∀ f rest, (s.w.dport p.val).replay = f :: rest →
      Does (.replayTimeout p) s fun w => (w.advance (f.tb + w.rd Reg.DPORT_REPLAY_TIMEOUT_NS p.val)).replayFlits p.val)

/-- R64, R387, R392, R395: a packet for this device gives its flits' credits back and, next in PSEQ order, acts, and held ones behind it follow. A window write or read with the window's
generation that lies inside it is applied whole and counted, a read being answered with its bytes; one that fails its check is dropped whole, counted and
answered; a signal to a flag that is not remote-visible is refused. It rests on choices of the model: log entry 70. -/
def Obligations.PacketsInOrder : Prop :=
  ∀ (s : State) (p : Fin 4) (h : DrvHead), Runs s → s.rd Reg.DPORT_STATE p.val = 2 → h.dest < 192 → h.dest = s.rd Reg.DRV_DEVICE_ID →
    h.pseq = s.w.expected h.src →
    ∀ next : DrvBody → Work → (Work → Work) → Work,
      (∀ b w f, next b w f =
        let v := w.oweCredits p.val ⟨h, b⟩
        takeKept 1024 (applyHeld 257 (f (v.setDrv { v.d.drv with expect := tset 0 v.d.drv.expect h.src ((h.pseq + 1) % 65536) })) h.src)) →
      (∀ (win : Fin 64) gen tag off data,
        (s.rd Reg.WIN_OPEN win.val ≠ 1 ∨ gen ≠ s.rd Reg.WIN_GEN win.val →
          Does (.windowWrite p h win gen tag off data) s fun w => next (.write win.val gen tag off data) w fun w =>
            (w.inc Reg.DRV_WIN_CNT_DROPS win.val).answerPacket ⟨h, .write win.val gen tag off data⟩ stWindowClosed) ∧
        (s.rd Reg.WIN_OPEN win.val = 1 → gen = s.rd Reg.WIN_GEN win.val → s.rd Reg.WIN_SIZE win.val < off + data.length →
          Does (.windowWrite p h win gen tag off data) s fun w => next (.write win.val gen tag off data) w fun w =>
            (w.inc Reg.DRV_WIN_CNT_DROPS win.val).answerPacket ⟨h, .write win.val gen tag off data⟩ stBoundFault) ∧
        (s.rd Reg.WIN_OPEN win.val = 1 → gen = s.rd Reg.WIN_GEN win.val → off + data.length ≤ s.rd Reg.WIN_SIZE win.val →
          Does (.windowWrite p h win gen tag off data) s fun w => next (.write win.val gen tag off data) w fun w =>
            let r := w.writeAt (uDravig p.val) (w.rd Reg.WIN_BASE win.val + off) data
            if r.2 = stOk then r.1.packetApplied p.val ⟨h, .write win.val gen tag off data⟩ win.val
            else r.1.dropPacket ⟨h, .write win.val gen tag off data⟩ win.val r.2)) ∧
      (∀ (win : Fin 64) gen tag off len, s.rd Reg.WIN_OPEN win.val = 1 → gen = s.rd Reg.WIN_GEN win.val → off + len ≤ s.rd Reg.WIN_SIZE win.val →
        Does (.windowRead p h win gen tag off len) s fun w => next (.read win.val gen tag off len) w fun w =>
          let r := w.readAt (uDravig p.val) (w.rd Reg.WIN_BASE win.val + off) len
          if r.2.1 = stOk then
            ((r.1.packetApplied p.val ⟨h, .read win.val gen tag off len⟩ win.val).forward ⟨⟨h.src, h.dest, h.pseq⟩, .readData tag r.2.2⟩).1
          else r.1.dropPacket ⟨h, .read win.val gen tag off len⟩ win.val r.2.1) ∧
      (∀ (f : Fin 16384) gen tag inc,
        (s.w.flagOwner f.val = none → Does (.flagSignal p h f gen tag inc) s fun w => next (.flagSignal f.val gen tag inc) w fun w =>
          (w.inc Reg.KS_CNT_REMOTE_REFUSED).answerPacket ⟨h, .flagSignal f.val gen tag inc⟩ stRemoteRefused) ∧
        (∀ g i, s.w.flagOwner f.val = some (g, i) → g.remoteVisible i = true → Does (.flagSignal p h f gen tag inc) s fun w => next (.flagSignal f.val gen tag inc) w fun w =>
          let v := (w.setKs { w.d.ks with signals := [⟨f.val, low 24 inc, gen, true⟩] }).flagApply f.val 1
          let v := v.setKs { v.d.ks with signals := w.d.ks.signals ++ v.d.ks.signals }
          if w.rd Reg.FLAG_GENERATION f.val ≠ gen then v.answerPacket ⟨h, .flagSignal f.val gen tag inc⟩ stRemoteRefused
          else v.cover ⟨h, .flagSignal f.val gen tag inc⟩))

/-- R387, R389, R393, R396, R399: packets for this device that carry no PSEQ of their own, their credits given back: read data is written where its request
said and retires it; an answer retires the packet it names, or with CUMULATIVE all up to it; RESYNC sets a source's PSEQ; a notice writes the peer table or
arms the targets that match; a message changes nothing more. It rests on choices of the model: log entry 29. -/
def Obligations.PacketsAtOnce : Prop :=
  ∀ (s : State) (p : Fin 4) (h : DrvHead), Runs s → s.rd Reg.DPORT_STATE p.val = 2 → h.dest < 192 → h.dest = s.rd Reg.DRV_DEVICE_ID →
    ∀ took : DrvBody → Work → (Work → Work) → Work, (∀ b w f, took b w f = takeKept 1024 (f (w.oweCredits p.val ⟨h, b⟩))) →
      (∀ data, Does (.message p h data) s fun w => took (.message data) w fun w => w) ∧
      (∀ tag data u, s.dev.drv.unans.find? (fun u => u.dest == h.src && u.isRead && u.tag == tag) = some u →
        Does (.readData p h tag data) s fun w => took (.readData tag data) w fun w =>
          ((w.writeAt (uDravig p.val) u.addr (data.take u.len)).1.retire p.val u (w.writeAt (uDravig p.val) u.addr (data.take u.len)).2).pumpSends) ∧
      (∀ tag status,
        (Does (.answer p h tag status false) s fun w => took (.answer tag status false) w fun w =>
          ((w.d.drv.unans.filter (fun u => u.dest == h.src && u.pseq == h.pseq)).foldl (fun w u => w.retire p.val u status) w).pumpSends) ∧
        (Does (.answer p h tag status true) s fun w => took (.answer tag status true) w fun w =>
          ((w.d.drv.unans.filter (fun u => u.dest == h.src && !u.isRead && seqLe 16 u.pseq h.pseq)).foldl (fun w u => w.retire p.val u status) w).pumpSends)) ∧
      (∀ n : BitVec 16, Does (.resync p h n) s fun w => took (.resync n.toNat) w fun w =>
        takeKept 1024 (applyHeld 257 (w.setDrv { w.d.drv with expect := tset 0 w.d.drv.expect h.src n.toNat }) h.src)) ∧
      (∀ win gen isOpen, h.src < 192 → Does (.genNotice p h (.window win gen isOpen)) s fun w => took (.windowNotice win gen isOpen) w fun w =>
        (((w.inc Reg.DRV_CNT_NOTICES).wr Reg.PEER_GEN gen (64 * h.src + win)).wr Reg.PEER_VALID (b2n isOpen) (64 * h.src + win)).offer
          (uDravig p.val) 2 (w.rd Reg.DRV_NOTICE_CHANNEL) 1) ∧
      (∀ f gen, Does (.genNotice p h (.flag f gen)) s fun w => took (.flagNotice f gen) w fun w =>
        (w.inc Reg.DRV_CNT_NOTICES).upTo 256 fun w t =>
          if w.rd Reg.TGT_DEVICE t = h.src ∧ w.rd Reg.TGT_FLAG t = f then (w.wr Reg.TGT_GEN gen t).wr Reg.TGT_ARMED 1 t else w)

/-- R394 to R396: a window whose BASE and SIZE are as R394 asks opens, and every subscriber is told; a close raises GEN modulo 65,536, tells them, and DRAINED
reads 0 until what passed its check is visible; a window that is open takes no further open. R389, R393: a bad packet is discarded and counted; what is due
of a destination's unanswered packets fails with DEVICE_UNREACHABLE, and RESYNC carries the lowest PSEQ still held; packets applied from a source are
covered by one cumulative OK answer. It rests on choices of the model: log entry 87. -/
def Obligations.WindowsAndLinkTimers : Prop :=
  (∀ (s : State) (req : Requester) (win : Fin 64), Runs s →
     (Writable s req (0xA01000 + 32 * win.val) → s.rd Reg.WIN_OPEN win.val ≠ 1 →
       Does (.windowOpen req win) s fun w =>
         let base := w.rd Reg.WIN_BASE win.val
         let size := w.rd Reg.WIN_SIZE win.val
         if base % 4096 = 0 ∧ size % 4096 = 0 ∧ 4096 ≤ size ∧ size ≤ 0x4000000 ∧ (w.inDram base size = true ∨ w.inRole 2 base size = true) then
           (w.wr Reg.WIN_OPEN 1 win.val).notify (.windowNotice win.val (w.rd Reg.WIN_GEN win.val) true)
         else w.log (unitOf req)) ∧
     (Writable s req (0xA01000 + 32 * win.val) → s.rd Reg.WIN_OPEN win.val = 1 →
       (Does (.windowOpen req win) s fun w => w) ∧
       (Does (.windowClose req win) s fun w =>
         let v := ((w.wr Reg.WIN_OPEN 0 win.val).wr Reg.WIN_GEN ((w.rd Reg.WIN_GEN win.val + 1) % 65536) win.val).wr Reg.WIN_DRAINED 0 win.val
         v.notify (.windowNotice win.val ((w.rd Reg.WIN_GEN win.val + 1) % 65536) false))) ∧
     (s.rd Reg.WIN_OPEN win.val ≠ 1 → Does (.windowDrained win) s fun w => w.wr Reg.WIN_DRAINED 1 win.val)) ∧
  (∀ (s : State), Runs s →
     (∀ (p : Fin 4) (hd : Vector (BitVec 32) 4), s.rd Reg.DPORT_STATE p.val = 2 → badHeader (hd.toList.map BitVec.toNat) = true →
       Does (.badPacket p hd) s fun w => w.inc Reg.DRV_CNT_BAD_PACKET) ∧
     (∀ (dest : Fin 192) u, s.dev.drv.unans.find? (fun u => u.dest == dest.val) = some u →
       Does (.answerTimeout dest) s fun w =>
         let v := w.advance (u.tb + w.rd Reg.DRV_ANSWER_TIMEOUT_NS)
         let isDue := fun (u : Unans) => u.dest == dest.val && decide (u.tb + w.rd Reg.DRV_ANSWER_TIMEOUT_NS ≤ v.now)
         let due := v.d.drv.unans.filter isDue
         let v := v.setDrv { v.d.drv with unans := v.d.drv.unans.filter (fun u => !isDue u) }
         let v := due.foldl (fun (w : Work) u => (((w.err (uDravig (w.portTo dest.val)) stDeviceUnreachable u.dest 0 u.window).inc
           Reg.DRV_CNT_TX_REFUSED).inc Reg.DRV_CNT_UNREACHABLE).failPacket u stDeviceUnreachable) v
         let lowest := match v.d.drv.unans.find? (fun u => u.dest == dest.val) with
           | some u => u.pseq
           | none => tget 0 v.d.drv.nextSeq dest.val
         let v := (v.forward ⟨⟨dest.val, v.rd Reg.DRV_DEVICE_ID, 0⟩, .resync lowest⟩).1
         ((due.map Unans.send).eraseDups.foldl (fun w s => w.finishSend s) v).pumpSends) ∧
     (∀ src : Fin 192, (tget (0, 0) s.dev.drv.covered src.val).1 ≠ 0 →
       Does (.cumulativeOkAnswer src) s fun w =>
         ((w.setDrv { w.d.drv with covered := tdel w.d.drv.covered src.val }).forward
           ⟨⟨src.val, w.rd Reg.DRV_DEVICE_ID, (tget (0, 0) w.d.drv.covered src.val).2⟩, .answer 0 stOk true⟩).1))

/-- R407: a write of PWR_LEVEL_REQ sets the levels asked for, and each domain then aims at the slowest level any limit asks for: the request, the policy, the
heat and the cap. R408, R409: an acknowledged voltage write goes on to the slew, a slew's end to the confirming read, and a read within 10 mV ends the
transition, with the divider change of a faster level; a failed frame is counted and the third one holds the level until a retry 10 ms later; telemetry and
status words are kept, and a rail fault holds the rail. It rests on choices of the model: log entry 36. -/
def Obligations.PerformanceLevels : Prop :=
  ((∀ (s : State) (req : Requester) (v : BitVec 32), s.dev.pwr.refStopped = false → Writable s req 0x100008 →
     Does (.levelRequest req v) s fun w => ((w.wr Reg.PWR_LEVEL_REQ_A (v.toNat % 4)).wr Reg.PWR_LEVEL_REQ_V (v.toNat / 4 % 2)).retarget) ∧
   ∀ w : Work,
     (w.levelTarget 0).1 = max (max (w.rd Reg.PWR_LEVEL_REQ_A) (bits (w.policy 0) 1 0)) (max w.d.pwr.thermalA (min w.d.pwr.capLevel 3)) ∧
     (w.levelTarget 1).1 = max (max (w.rd Reg.PWR_LEVEL_REQ_V) (bits (w.policy 0) 2 2)) (max w.d.pwr.thermalV (if w.d.pwr.capLevel = 4 then 1 else 0))) ∧
  (∀ (s : State) (dom : Fin 2) (x : Shift), s.dev.pwr.refStopped = false → s.w.shiftOf dom.val = some x →
     let good := fun (w : Work) => w.setPwr { w.d.pwr with fails := w.d.pwr.fails.set dom.val 0 }
     (x.step = .write → Does (.avsFrameDone ⟨dom.val, by omega⟩ .written) s fun w => (good w).setShift dom.val (some { x with step := .slew })) ∧
     (x.step = .slew → Does (.slewDone dom) s fun w => w.setShift dom.val (some { x with step := .confirm })) ∧
     (∀ mv, x.step = .confirm → Does (.avsFrameDone ⟨dom.val, by omega⟩ (.voltage mv)) s fun w =>
       let v := (good w).wr Reg.RAIL_VOLTAGE_MV mv dom.val
       let want := levelMv dom.val (if x.back = true then v.levelNow dom.val else x.target)
       if want + 10 < mv ∨ mv + 10 < want then v
       else ((if x.faster = true ∧ x.back = false then v.setLevel dom.val x.target else v).setShift dom.val none).retarget) ∧
     (∀ n, n = s.dev.pwr.fails.getD dom.val 0 + 1 →
       Does (.avsFrameDone ⟨dom.val, by omega⟩ .failed) s fun w =>
         let v := (w.inc Reg.PWR_CNT_AVS_ERR).setPwr { w.d.pwr with fails := w.d.pwr.fails.set dom.val (if 3 ≤ n then 0 else n) }
         if 3 ≤ n then v.avsHold dom.val false else v) ∧
     (∀ da, Does (.avsFrameDone ⟨dom.val, by omega⟩ (.current da)) s fun w => (good w).wr Reg.RAIL_CURRENT_DA da dom.val) ∧
     (∀ word fault, Does (.avsFrameDone ⟨dom.val, by omega⟩ (.status word fault)) s fun w =>
       let v := (good w).wr Reg.RAIL_AVS_STATUS word dom.val
       if fault = true then v.avsHold dom.val true else v) ∧
     (s.dev.pwr.retry.getD dom.val 0 ≠ 0 → Does (.avsRetry dom) s fun w =>
       let v := w.advance (w.d.pwr.retry.getD dom.val 0)
       (v.setPwr { v.d.pwr with retry := v.d.pwr.retry.set dom.val 0 }).retarget))

/-- R410, R419, R420: a power sample sums the rails' telemetry and the estimates, keeps the peak, and drives the cap controller; a thermal sample keeps every
reading, reports sensors that newly fail and dies without one, and trips the device at a second reading of 115 °C; a hot millisecond slows the A domain a
level, a cool tenth of a second speeds it up again. It rests on choices of the model: log entries 36 and 39. -/
def Obligations.PowerAndHeat : Prop :=
  ∀ (s : State), s.dev.pwr.refStopped = false →
    (∀ mw, Does (.powerSample mw) s fun w =>
      let rails := ((List.range 3).map (fun r => w.rd Reg.RAIL_VOLTAGE_MV r * w.rd Reg.RAIL_CURRENT_DA r / 10)).sum
      let p := low 32 (rails + mw)
      ((((w.wr Reg.PWR_PACKAGE_POWER p).raise Reg.PWR_PEAK_POWER p).capUnheld p).capStep p).retarget) ∧
    (∀ mv, Does (.avsFrameDone 2 (.voltage mv)) s fun w => (w.setPwr { w.d.pwr with fails := w.d.pwr.fails.set 2 0 }).wr Reg.RAIL_VOLTAGE_MV mv 2) ∧
    (∀ (t : Vector (Int × Bool) 48), (∀ i : Fin 48, t[i].2 = false) → (∀ i : Nat, s.rd Reg.SENS_FAULT i = 0) → s.rd Reg.PWR_TRIPPED ≠ 1 →
      Does (.thermalSample t) s fun w =>
        let v := w.upTo 48 (fun w i => (w.wr Reg.SENS_TEMP (wrapInt 12 (t.toList.getD i (0, false)).1) i).wr Reg.SENS_FAULT 0 i)
        let at_ := fun (i : Nat) => (t.toList.getD i (0, false)).1
        let top := (List.range 48).foldl (fun m i => if at_ m < at_ i then i else m) 0
        let v := (v.wr Reg.PWR_TEMP_MAX (wrapInt 12 (at_ top))).wr Reg.PWR_HOTTEST_SENSOR top
        let hot := (List.range 48).filter (fun i => decide (460 ≤ at_ i))
        let v := v.setPwr { v.d.pwr with hot := hot }
        if hot.any (fun i => w.d.pwr.hot.contains i) = true then v.thermalTrip else v) ∧
    (s.w.thermalReadings.any (fun x => decide (s.w.throttleAt ≤ x)) = true → s.dev.pwr.thermalA < 2 →
      Does .throttleTick s fun w => ((w.inc Reg.PWR_CNT_THROTTLE_STEPS).setPwr { w.d.pwr with thermalA := w.d.pwr.thermalA + 1 }).retarget) ∧
    (s.w.thermalReadings.all (fun x => decide (x < s.w.throttleAt - 20)) = true → s.dev.pwr.thermalV = 0 → s.dev.pwr.thermalA ≠ 0 →
      Does .throttleRelaxTick s fun w => ((w.inc Reg.PWR_CNT_THROTTLE_STEPS).setPwr { w.d.pwr with thermalA := w.d.pwr.thermalA - 1 }).retarget)

/-- R412 to R414: a domain whose idle time has come starts to enter sleep, or a unit that must keep running refuses, which is counted; drained, it is in S1,
and with its state saved in S2; a drain that takes too long ends the entry and is counted; an access to a sleeping domain starts its wake, which ends ON
with the longest stall kept. It rests on choices of the model: log entry 38. -/
def Obligations.DomainSleep : Prop :=
  ∀ (s : State) (d : Fin 15), Runs s →
    (∀ deep idle, idle = (if deep = true then 1000 * s.w.policy 2 else s.w.policy 1) → idle ≠ 0 → s.w.domainMay d.val deep = true → s.rd Reg.DOM_STATE d.val = 0 →
      s.rd Reg.DOM_HOLD d.val ≠ 1 →
      (s.w.domainIdle d.val = true → (s.w.advance ((s.w.dom d.val).idleFrom + idle)).refuser d.val = none →
        Does (.domainIdleExpiry d deep) s fun w =>
          let v := w.advance ((w.dom d.val).idleFrom + idle)
          (v.wr Reg.DOM_STATE 3 d.val).setDom d.val { w.dom d.val with goal := if deep = true then 2 else 1, start := v.now, wake := false }) ∧
      (∀ u, s.w.refuser d.val ≠ none → (s.w.advance ((s.w.dom d.val).idleFrom + idle)).refuser d.val = some u →
        Does (.domainIdleExpiry d deep) s fun w =>
          let v := w.advance ((w.dom d.val).idleFrom + idle)
          (((v.inc Reg.PWR_DOM_CNT_REFUSED d.val).wr Reg.DOM_LAST_REFUSER u d.val).wr Reg.DOM_LAST_REFUSE_TB v.now d.val).setDom d.val
            { w.dom d.val with idleFrom := v.now })) ∧
    (s.rd Reg.DOM_STATE d.val = 3 → (s.w.dom d.val).goal ≠ 0 → (s.w.dom d.val).wake = false →
      Does (.domainDrained d) s fun w =>
        (((w.cycles 20).wr Reg.DOM_STATE 1 d.val).inc Reg.PWR_DOM_CNT_S1 d.val).soundingsPause d.val) ∧
    (∀ u : BitVec 8, s.rd Reg.DOM_STATE d.val = 3 →
      Does (.drainTimeout d u) s fun w =>
        let v := w.advance ((w.dom d.val).start + 10000)
        let v := ((v.inc Reg.PWR_DOM_CNT_ABORTED d.val).wr Reg.DOM_LAST_REFUSER u.toNat d.val).wr Reg.DOM_LAST_REFUSE_TB v.now d.val
        (v.wr Reg.DOM_STATE 0 d.val).setDom d.val { w.dom d.val with goal := 0, wake := false, idleFrom := v.now }) ∧
    (s.rd Reg.DOM_STATE d.val = 1 → (s.w.dom d.val).goal = 2 → (s.w.dom d.val).wake = false →
      Does (.domainS2Entered d) s fun w => ((w.wr Reg.DOM_STATE 2 d.val).inc Reg.PWR_DOM_CNT_S2 d.val).setDom d.val { w.dom d.val with goal := 0 }) ∧
    (s.rd Reg.DOM_STATE d.val = 1 ∨ s.rd Reg.DOM_STATE d.val = 2 → (s.w.dom d.val).goal = 0 → d.val ≠ 12 →
      Does (.domainWake d) s fun w =>
        let v := w.inc Reg.PWR_DOM_CNT_WAKES d.val
        let v := v.setDom d.val { w.dom d.val with stall := if (w.dom d.val).stall = 0 then w.now + 1 else (w.dom d.val).stall }
        (v.wr Reg.DOM_STATE 4 d.val).setDom d.val { v.dom d.val with goal := 0, wake := false }) ∧
    (s.rd Reg.DOM_STATE d.val = 4 →
      Does (.domainWakeDone d) s fun w =>
        let v := if (w.dom d.val).stall = 0 then w else w.raise Reg.PWR_DOM_WAKE_STALL_MAX (w.now + 1 - (w.dom d.val).stall) d.val
        ((v.wr Reg.DOM_STATE 0 d.val).setDom d.val { DomSt.reset with idleFrom := v.now }).soundingsResume d.val)

/-- R415 to R417: with its conditions met S3 is entered, S3_IDLE_MS after the last domain went idle, the alarm at the earlier of PWR_TB_ALARM and 2 ms before the
head of Mason's delay list; once entered, every domain but domain 0 is in S2 and the channels refresh themselves; an enabled source that is seen, the alarm
among them, takes the device out, or waits for the entry's end, as a wake pin at its level does; the exit's end puts every domain ON. It rests on choices of
the model: log entries 38 and 39. -/
def Obligations.DeviceSleep : Prop :=
  ∀ (s : State), Runs s →
    (s.rd Reg.PWR_DEVICE_STATE = 0 → s.w.s3Ready = true →
      Does .s3Entry s fun w =>
        let v := w.advance (((List.range 15).drop 1).foldl (fun t d => max t (w.dom d).idleFrom) 0 + 1000000 * w.policy 3)
        let a := v.rd Reg.PWR_TB_ALARM
        let alarm := match v.d.msn.delays.head? with
          | none => a
          | some e => if a = 0 then e.1 - 2000000 else min a (e.1 - 2000000)
        (v.wr Reg.PWR_DEVICE_STATE 1).setPwr { v.d.pwr with alarm := alarm, s3Wake := none }) ∧
    (s.rd Reg.PWR_DEVICE_STATE = 1 →
      Does .s3EntryDone s fun w =>
        let v := ((w.wr Reg.PWR_DEVICE_STATE 2).inc Reg.PWR_CNT_S3_ENTRIES).selfRefreshEnter
        let v := v.upTo 14 (fun w d => ((w.wr Reg.DOM_STATE 2 (d + 1)).soundingsPause (d + 1)).setDom (d + 1) { w.dom (d + 1) with goal := 0 })
        let v := v.upTo 4 (fun w p => if w.rd Reg.DPORT_STATE p = 2 then w.setPortState p 3 else w)
        match v.d.pwr.s3Wake with
        | some x => v.s3Exit x
        | none => if bitAt (v.rd Reg.PWR_WAKE_EN) 3 = true ∧ (List.range 32).any v.wakePin = true then v.s3Exit 3 else v) ∧
    (∀ src : BitVec 3, bitAt (s.rd Reg.PWR_WAKE_EN) src.toNat = true → s.w.wakeSeen src.toNat = true →
      (s.rd Reg.PWR_DEVICE_STATE = 2 → Does (.wakeSource src) s fun w => w.s3Exit src.toNat) ∧
      (s.rd Reg.PWR_DEVICE_STATE = 1 → s.dev.pwr.s3Wake = none → Does (.wakeSource src) s fun w =>
        (w.inc Reg.PWR_CNT_WAKE_DURING_ENTRY).setPwr { w.d.pwr with s3Wake := some src.toNat })) ∧
    (∀ src : BitVec 3, bitAt (s.rd Reg.PWR_WAKE_EN) src.toNat = false ∨ s.w.wakeSeen src.toNat = false → Does (.wakeSource src) s fun w => w) ∧
    (s.rd Reg.PWR_DEVICE_STATE = 2 → s.dev.pwr.alarm ≠ 0 → Does .tbAlarm s fun w => (w.advance w.d.pwr.alarm).wakeSource 4) ∧
    (s.rd Reg.PWR_DEVICE_STATE = 3 →
      Does .s3ExitDone s fun w =>
        let v := (w.wr Reg.PWR_DEVICE_STATE 0).selfRefreshExit
        let v := v.upTo 14 (fun w d => ((w.wr Reg.DOM_STATE 0 (d + 1)).setDom (d + 1) { DomSt.reset with idleFrom := w.now }).soundingsResume (d + 1))
        v.upTo 4 (fun w p => w.retrainFromHello p)) ∧
    (s.dev.hif.linkUp = true → Does .linkL1Entry s fun w => w.setHif { w.d.hif with linkL1 := true })

/-- R380, R432, R435: at PLL lock the option bytes are read, from the newest good copy or as defaults, BAR2 takes its size and ROM runs, fetching firmware
where the boot source says; the PCIe link comes up; the end of DRAM training stamps every channel and lets boot go on. It rests on choices of the model:
log entry 43. -/
def Obligations.BootSteps : Prop :=
  ∀ (s : State), Runs s →
    (∀ ob copy, s.dev.sec.boot = .pll → s.w.obInForce = (ob, copy) →
      Does .pllLock s fun w =>
        let v := w.upTo 16 (fun w k => w.wr Reg.PWR_OB (leNat ((ob.drop (4 * k)).take 4)) k)
        let v := (v.wr Reg.RST_OB_COPY_USED (copy.getD 0)).wr Reg.RST_OB_DEFAULTS (b2n copy.isNone)
        let v := v.setHif { v.d.hif with bar2Log2 := 30 + min 8 (bits (v.ob 3) 3 0) }
        let v := v.setSec { v.d.sec with boot := .rom }
        (v.wr Reg.RST_BOOT_STATE (b2n (v.bootSource == 0 || v.bootSource == 2))).wr Reg.RST_RECOVERY_REASON 0) ∧
    (s.dev.sec.boot ≠ .pll →
      (Does .pcieLinkUp s fun w => w.setHif { w.d.hif with linkUp := true }) ∧
      (s.dev.sec.trained = false → Does (.lpddrTrainingDone []) s fun w =>
        let v := w.setSec { w.d.sec with trained := true }
        ((v.setDdr { v.d.ddr with selfRefresh := false, settling := false }).upTo 32 (fun w ch => w.wr Reg.CH_LAST_TRAIN_TB w.now ch)).bootStep7 true)) ∧
    (∀ a, s.dev.sec.boot = .rom → s.rd Reg.RST_BOOT_STATE = 1 → s.dev.sec.image = none → a = 0x10000 * (s.w.ob 14 + 256 * s.w.ob 15) →
      (Does (.firmwareFetched false) s fun w => ((w.wr Reg.RST_BOOT_STATE 0).wr Reg.RST_RECOVERY_REASON 2).bootStep7 false) ∧
      (s.w.num .nor a 4 = 0x46485359 → Does (.firmwareFetched true) s fun w =>
        w.setSec { w.d.sec with image := some ⟨.norBoot, w.bytes .nor a (min 0x180000 (max 768 (w.num .nor (a + 8) 4))), none⟩ })) ∧
    (∀ a, s.rd Reg.RST_BOOT_STATE = 3 → s.dev.ldr.run = none → a = 0x10000 * (s.w.ob 16 + 256 * s.w.ob 17) →
      (Does (.bootBitstreamFetched false) s fun w => (w.wr Reg.RST_BOOT_STATE 5).wr Reg.RST_RECOVERY_REASON 4) ∧
      (s.w.num .nor a 4 = 0x42485359 → Does (.bootBitstreamFetched true) s fun w =>
        let n := min 0x4000000 (w.num .nor (a + 8) 4)
        w.stagedChecks ⟨⟨none, true, none, a, n⟩, .staging, [], [], []⟩ (w.bytes .nor a (max n 768))))

/-- R434, R437 to R439: an image of good form whose trailer is no RSASSA-PSS signature of its bytes under the key its slot names fails with SIG_INVALID. An image
under check starts when it passes and otherwise leaves the device as R437 says; in RECOVERY a host-placed image is taken for its checks; a staged update that
passes goes to the free bank; an image or container that passes is written to the NOR at the place its MAGIC names. A handover drains the pairs in turn, ends
when the last has moved, and is undone for a pair that does not start in 100 ms. It rests on choices of the model: log entries 11, 32 and 44. -/
def Obligations.FirmwareImages : Prop :=
  (∀ (w : Work) (bs : List Byte), w.fwEarly (bytesWords bs) bs.length = none →
     w.signed (bits (wd (bytesWords bs) 4) 7 0) (bs.take (wd (bytesWords bs) 2)) = false → (w.fwCheck bs).2 = stSigInvalid) ∧
  ∀ (s : State), Runs s →
    (∀ im v st, s.dev.sec.image = some im → (match im.early with
        | some e => (s.w, e)
        | none => s.w.fwCheck im.bytes) = (v, st) →
      Does .firmwareVerified s fun _ =>
        let v := v.wr Reg.RST_LAST_BOOT_STATUS st
        if im.use = .norBoot then
          if st = stOk then v.startImage im.bytes true
          else (((v.setSec { v.d.sec with image := none }).wr Reg.RST_BOOT_STATE 0).wr Reg.RST_RECOVERY_REASON 1).bootStep7 false
        else
          let v := (v.wr Reg.SEC_IMG_BUSY 0).wr Reg.SEC_IMG_STATUS st
          if st = stOk then v.startImage im.bytes false else v.setSec { v.d.sec with image := none }) ∧
    (∀ req, Writable s req 0xC01010 → s.rd Reg.SEC_IMG_BUSY ≠ 1 →
      (∀ v st bs, s.rd Reg.RST_BOOT_STATE = 5 → s.w.imgRead = (v, st, bs) →
        Does (.imgBoot req) s fun _ => (v.wr Reg.SEC_IMG_BUSY 1).setSec { v.d.sec with image := some ⟨.hostBoot, bs, if st = stOk then none else some st⟩ }) ∧
      (∀ v bs u st, s.w.imgRead = (v, stOk, bs) → v.fwCheck bs = (u, st) →
        Does (.stageUpdate req) s fun _ =>
          let f := fwInfo bs
          let st := if st = stOk ∧ ((u.d.sec.running.map FwInfo.version).getD 0) < f.compat then stVersionMismatch else st
          let u := u.wr Reg.SEC_IMG_STATUS st
          if st ≠ stOk then u
          else ((u.put .ctl (if u.d.sec.bankB = true then 0 else 0x180000) (bs.take (wd (bytesWords (bs.take 12)) 2))).wr Reg.SEC_IMG_STAGED 1).setSec
            { u.d.sec with staged := some f }) ∧
      (∀ v bs u st, s.w.imgRead = (v, stOk, bs) → wd (bytesWords bs) 0 = 0x46485359 → v.fwCheck bs = (u, st) →
        Does (.programNor req) s fun _ =>
          let u := u.wr Reg.SEC_IMG_STATUS st
          if st ≠ stOk then u else u.put .nor (0x10000 * (u.ob 14 + 256 * u.ob 15)) (bs.take (wd (bytesWords bs) 2))) ∧
      (∀ v bs ws good u, s.w.imgRead = (v, stOk, bs) → ws = bytesWords bs → wd ws 0 ≠ 0x46485359 →
        v.earlySteps ws (if wd ws 2 ≤ bs.length then wd ws 2 else 0) = none → good = v.signed (bits (wd ws 5) 7 0) (bs.take (wd ws 2)) → u = v.countVerify good →
        (good = false → Does (.programNor req) s fun _ => u.wr Reg.SEC_IMG_STATUS stSigInvalid) ∧
        (good = true → u.rollbackCounter ≤ bits (wd ws 5) 15 8 → stepReserved ws = none →
          Does (.programNor req) s fun _ =>
            let u := u.wr Reg.SEC_IMG_STATUS stOk
            u.put .nor (0x10000 * (u.ob 16 + 256 * u.ob 17)) (bs.take (wd ws 2)))) ∧
      (∀ p, s.dev.sec.staged ≠ none → s.w.nextPair 0 = some p →
        Does (.handOver req) s fun w =>
          let v := w.wr Reg.SEC_IMG_BUSY 1
          (v.setSec { v.d.sec with handover := some ⟨p, v.now⟩ }).pairDrain p)) ∧
    (∀ h f, s.dev.sec.handover = some h → s.dev.sec.staged = some f → s.w.curTid h.pair = none → (s.w.pair h.pair).saving = none → s.w.keyActive f.slot = true →
      Does .pairHandoverDone s fun w =>
        let v := (w.setSec { w.d.sec with moved := h.pair :: w.d.sec.moved }).pairReturn h.pair
        match v.nextPair (h.pair + 1) with
        | some p => (v.setSec { v.d.sec with handover := some ⟨p, v.now⟩ }).pairDrain p
        | none => v.handoverDone) ∧
    (∀ h r, s.dev.sec.handover = some h →
      Does (.handoverTimeout r) s fun w =>
        let v := (w.advance (h.since + 100000000)).pairReturn h.pair
        ((v.setSec { v.d.sec with handover := none }).wr Reg.SEC_IMG_BUSY 0).wr Reg.SEC_IMG_STATUS ((r.map BitVec.toNat).getD stFlagTimeout))

/-- R472, R475, R486: a slot that reaches LS without a gap, or is forced, takes its unit's next boundary; a sounding that starts takes its V-cycle as the
start, counts, and sets the next LS by the interval; one after LS + B_u also counts and is recorded as late, and one that starts beyond FTTI degrades the
device. -/
def Obligations.SoundingSchedule : Prop :=
  ∀ (s : State) (slot : Fin 90), Runs s →
    (s.rd Reg.SLOT_SSTATE slot.val = 2 → (s.w.snd slot.val).running = false →
      Does (.soundingDue slot) s fun w => (w.advance (w.rd Reg.SLOT_NEXT_LS_TB slot.val)).setSnd slot.val { w.snd slot.val with forced := true }) ∧
    (∀ req (n : BitVec 7), Writable s req 0xB00024 →
      (90 ≤ n.toNat → Does (.safForceSound req n) s fun w => w.log (unitOf req)) ∧
      (s.w.slotLive n.toNat = true → Does (.safForceSound req n) s fun w => w.setSnd n.toNat { w.snd n.toNat with forced := true })) ∧
    (s.rd Reg.SLOT_SSTATE slot.val = 2 → (s.w.snd slot.val).running = false → s.w.atBoundary (slotUnit slot.val) = true → s.dev.saf.nextProfile = none →
      s.dev.saf.newExpected = [] → (s.w.snd slot.val).forced = true ∨ s.rd Reg.SLOT_LAST_START_TB slot.val + s.w.slotInterval slot.val ≤ s.w.now →
      Does (.soundingStart slot) s fun w =>
        let u := slotUnit slot.val
        let prev := w.rd Reg.SLOT_LAST_START_TB slot.val
        let v := if prev + w.slotInterval slot.val + w.rd Reg.SLOT_BOUND_NS slot.val < w.now then
            (w.inc Reg.SAF_CNT_LATE).err u stSoundingLate (slot.val + 4 * 2 ^ 24) 0 (w.rd Reg.SLOT_LAST_SIGNATURE slot.val) else w
        let v := if prev + w.slotFtti slot.val * 1000000 - slotLength slot.val < w.now then v.degrade u stSoundingLate slot.val else v
        let v := v.setSnd slot.val { w.snd slot.val with
          running := true, forced := false, startTb := w.now, waiting := v.readyFor u, prev := prev, startV := v.d.clk.vcycle }
        let v := (v.wr Reg.SLOT_LAST_START_TB w.now slot.val).wr Reg.SLOT_NEXT_LS_TB (w.now + v.slotInterval slot.val) slot.val
        (v.inc Reg.SAF_CNT_SOUNDINGS).inc Reg.SAF_SLOT_CNT_SOUNDINGS slot.val)

/-- R474, R476: a running sounding's result area is reduced by CRC-32C and compared with EXPECTED. A pass resumes the unit, which the time under test does not
count for, one after a mismatch counting its watch down; a first mismatch is recorded, marks suspects and re-sounds the unit at once; one in watch retires it. A sounding still running at twice its
length is a mismatch. It rests on choices of the model: log entries 30 and 50. -/
def Obligations.SoundingResults : Prop :=
  ∀ (s : State) (slot : Fin 90) (u : Nat), Runs s → u = slotUnit slot.val → (s.w.snd slot.val).running = true →
    ∀ failed : Work → Nat → Work,
      (∀ w sig, failed w sig =
        let v := (((w.inc Reg.SAF_CNT_MISMATCH).inc Reg.SAF_SLOT_CNT_MISMATCH slot.val).err u stSoundingMismatch (slot.val + 2 ^ 24) 0 sig).markSuspects u
        if w.rd Reg.SLOT_WATCH_LEFT slot.val = 0 then
          let t := v.now
          let v := (v.wr Reg.SLOT_WATCH_LEFT 10 slot.val).wr Reg.SLOT_SSTATE (if v.rd Reg.SLOT_SSTATE slot.val = 1 then 1 else 3) slot.val
          let v := (v.setSnd slot.val { v.snd slot.val with running := true, again := true, startTb := t }).profileStart slot.val
          let v := (v.wr Reg.SLOT_LAST_START_TB t slot.val).wr Reg.SLOT_NEXT_LS_TB (t + v.slotInterval slot.val) slot.val
          (v.inc Reg.SAF_CNT_SOUNDINGS).inc Reg.SAF_SLOT_CNT_SOUNDINGS slot.val
        else ((v.heldOver u (v.d.clk.vcycle - (v.snd slot.val).startV)).retireSlot slot.val).safeRun) →
      (∀ area, Does (.soundingResult slot area) s fun w =>
        let sig := crc32c area
        let v := ((w.advance ((w.snd slot.val).startTb + slotLength slot.val)).soundWaits slot.val).wr Reg.SLOT_LAST_SIGNATURE sig slot.val
        if sig ≠ v.rd Reg.SLOT_EXPECTED slot.val then failed v sig
        else
          let x := v.snd slot.val
          let watch := v.rd Reg.SLOT_WATCH_LEFT slot.val
          let v := if x.again = true then (v.inc Reg.SAF_CNT_TRANSIENT).err u stOk (slot.val + 2 * 2 ^ 24) 0 sig else v
          let v := v.heldOver u (v.d.clk.vcycle - x.startV)
          let v := v.wr Reg.SLOT_WATCH_LEFT (watch - 1) slot.val
          let v := (v.wr Reg.SLOT_SSTATE (if watch ≤ 1 then 2 else 3) slot.val).wr Reg.SLOT_LAST_PASS_TB v.now slot.val
          let v := v.setSnd slot.val { x with running := false, again := false, waiting := [] }
          (v.setSaf { v.d.saf with touches := v.d.saf.touches.filter (fun e => e.unit != u) }).safeRun) ∧
      (∀ v sig, ((s.w.advance ((s.w.snd slot.val).startTb + 2 * slotLength slot.val)).soundWaits slot.val).free 32 = (v, sig) →
        Does (.soundingOverrun slot) s fun _ => failed v sig)

/-- R469, R471, R483, R484: the sounding set goes to the SOUNDING slab and its expected signatures to the slots; the start-time injection ends with its count
and either goes on to SAFE_RUN or degrades the device; in SAFE_RUN the pins toggle and the checker is refreshed, and without a refresh it expires; a run
held past its recovery bound is dropped. R467, R468: whatever cause degrades the device, from INIT or SAFE_RUN, the state reads 2, both pins are low, the
cause is recorded with its TB, and where the profile escalates a chip reset is asked for; a device already in SAFE_DEGRADED or DEBUG is left as it is. It
rests on choices of the model: log entries 31, 50 and 51. -/
def Obligations.SafetyStates : Prop :=
  (∀ (s : State), Runs s →
     (∀ set (expected : Vector (BitVec 32) 90) k, (List.range 36).find? (fun k => s.w.role k == 5) = some k → s.dev.saf.setReady = false →
       Does (.soundingSetReady set expected) s fun w =>
         let v := (w.store (0x4000000000 + k * 0x1000000) (set.take 0x600000)).upTo 90
           (fun w i => w.wr Reg.SLOT_EXPECTED (wd (expected.toList.map BitVec.toNat) i) i)
         v.setSaf { v.d.saf with setReady := true }) ∧
     (s.rd Reg.SAF_STATE = 0 → s.rd Reg.SAF_INJ_DONE ≠ 1 → ∀ n,
       (Does (.errorInjectionDone n none) s fun w =>
         let v := (w.wr Reg.SAF_INJ_PASSED n).wr Reg.SAF_INJ_DONE 1
         (v.setSaf { v.d.saf with injected := true }).safeRun) ∧
       (∀ u row, Does (.errorInjectionDone n (some (u, row))) s fun w =>
         (((w.wr Reg.SAF_INJ_PASSED n).wr Reg.SAF_INJ_DONE 1).wr Reg.SAF_INJ_FAIL_UNIT u).degrade u stSafeDegraded row)) ∧
     (s.rd Reg.SAF_STATE = 1 →
       (s.dev.saf.hbNext ≠ 0 → s.dev.saf.nextProfile = none → Does .heartbeatToggle s fun w =>
         let v := w.advance w.d.saf.hbNext
         let v := if v.atDue w.hbEnd = true then (v.inc Reg.SAF_CNT_NEAR_MISS).wr Reg.SAF_NEAR_MISS_TB v.now else v
         v.setSaf { v.d.saf with
           pin0 := !v.d.saf.pin0, pin1 := v.d.saf.pin0, hbNext := v.now + 1000 * v.rd Reg.SAF_HEARTBEAT_US, hbRefresh := v.now }) ∧
       (Does .heartbeatExpiry s fun w => ((w.advance w.hbEnd).wr Reg.SAF_HB_EXPIRED 1).degrade uSafety stSafeDegraded 0)) ∧
     (∀ r id, s.w.grun? id = some r → r.heldUntil ≠ 0 → Does (.recoveryBoundExpiry id) s fun w => (w.advance r.heldUntil).dropRun id)) ∧
  (∀ (w : Work) (unit status info : Nat), unit < 256 → status < 256 → info < 2 ^ 32 →
     (w.rd Reg.SAF_STATE = 2 ∨ w.rd Reg.SAF_STATE = 3 → w.degrade unit status info = w) ∧
     (w.rd Reg.SAF_STATE = 0 ∨ w.rd Reg.SAF_STATE = 1 →
       ∀ v, v = w.degrade unit status info → v.rd Reg.SAF_STATE = 2 ∧ v.rd Reg.SAF_CAUSE_UNIT = unit ∧ v.rd Reg.SAF_CAUSE_STATUS = status ∧
         v.rd Reg.SAF_CAUSE_INFO = info ∧ v.d.saf.pin0 = false ∧ v.d.saf.pin1 = false ∧ v.d.saf.stickyCause = some (unit, status, info) ∧
         v.d.saf.resetAsk = (if w.d.saf.escalate = true ∨ bitAt (w.rd Reg.PWR_OB 3) 4 = true then some 5 else w.d.saf.resetAsk)))

/-- R447, R449, R450: SEC_CC_GO with a command in readable memory for the OP it names. A command that fails steps 1 to 3 ends with that status; one whose trailer
is no signature of it under the key its slot names, with reserved fields or a later failure ends with that one and counts; one that passes them all starts to
burn the rows of its change, or, of a model key, takes effect at once: the key its ciphertext holds is loaded, and where it holds none the status is one of
those R12 gives the security core. R451, R452: when a change's record row reads back valid, 200 µs after each row of it, its data rows and its record are
burned into the OTP, the command no longer waits, and its status is OK. It rests on choices of the model: log entries 11, 32 and 49. -/
def Obligations.CornerstoneCommands : Prop :=
  (∀ (s : State) (req : Requester) (i : Instr) (op : Nat) (v : Work) (cmd : List Byte) (good : Bool), Runs s → Writable s req 0xC02010 →
     s.rd Reg.SEC_CC_BUSY ≠ 1 → s.rd Reg.SEC_CC_ADDR % 64 = 0 →
     (s.w.inDram (s.rd Reg.SEC_CC_ADDR) (s.rd Reg.SEC_CC_LEN) = true ∨ inQuarry (s.rd Reg.SEC_CC_ADDR) (s.rd Reg.SEC_CC_LEN) = true) →
     s.w.readAt uSecurity (s.rd Reg.SEC_CC_ADDR) (s.rd Reg.SEC_CC_LEN) = (v, stOk, cmd) → Work.ccOp (bytesWords (cmd.take 64)) = op →
     ((i = .enrollKey req ∧ op = 1) ∨ (i = .revokeKey req ∧ op = 2) ∨ (i = .rollbackSet req ∧ op = 3) ∨ (i = .obWrite req ∧ op = 4) ∨
       (i = .debugLock req ∧ op = 5) ∨ (i = .profileLock req ∧ op = 6) ∨ (i = .modelKeyLoad req ∧ op = 0x10) ∨ (i = .modelKeyClear req ∧ op = 0x11)) →
     good = v.signed (Work.ccSlot (bytesWords (cmd.take 64))) cmd →
     let h := bytesWords (cmd.take 64)
     let payload := (cmd.drop 64).take (Work.ccPayload op)
     (∀ st, v.ccEarly h (s.rd Reg.SEC_CC_LEN) (Work.sigAlg cmd) = some st → Does i s fun _ => v.wr Reg.SEC_CC_STATUS st) ∧
     (v.ccEarly h (s.rd Reg.SEC_CC_LEN) (Work.sigAlg cmd) = none → good = false →
       Does i s fun _ => ((v.inc Reg.SEC_CNT_VERIFY).inc Reg.SEC_CNT_VERIFY_FAIL).wr Reg.SEC_CC_STATUS stSigInvalid) ∧
     (v.ccEarly h (s.rd Reg.SEC_CC_LEN) (Work.sigAlg cmd) = none → good = true →
       let u := v.inc Reg.SEC_CNT_VERIFY
       (Work.ccReserved cmd = true → Does i s fun _ => u.wr Reg.SEC_CC_STATUS stDescReserved) ∧
       (∀ st, Work.ccReserved cmd = false → u.ccLate h payload = st → st ≠ stOk → Does i s fun _ => u.wr Reg.SEC_CC_STATUS st) ∧
       (Work.ccReserved cmd = false → u.ccLate h payload = stOk →
         (op < 0x10 → Does i s fun _ =>
           (u.wr Reg.SEC_CC_BUSY 1).setSec { u.d.sec with
             change := some ⟨u.now, op, Work.ccSlot h, (u.ccRows h payload).2, (u.ccRows h payload).1, (sha256 (cmd.take (cmd.length - 512))).take 12⟩ }) ∧
         (op = 0x11 → Does i s fun _ => (u.clearModelKeys (Work.ccArg h)).wr Reg.SEC_CC_STATUS stOk) ∧
         (op = 0x10 → (u.openStatus.2 = stDescFormat ∨ (0x80 ≤ u.openStatus.2 ∧ u.openStatus.2 ≤ 0x86)) ∧
           Does i s fun _ => match oaepKey (Config.encryptionKey u.s0.otp.serial) (payload.drop 4) with
             | some key => (u.loadModelKey (leNat (payload.take 4)) key).wr Reg.SEC_CC_STATUS stOk
             | none => u.openStatus.1.wr Reg.SEC_CC_STATUS u.openStatus.2)))) ∧
  (∀ (s : State) (c : Change) (v : Work), s.dev.pwr.refStopped = false → s.dev.sec.change = some c → Settled s →
     v = s.w.advance (c.since + 200000 * (c.rows.length + 1)) →
     ∃ t, exec .changeRecordBurned s = .next t ∧ t.dev.sec.change = none ∧ t.rd Reg.SEC_CC_BUSY = 0 ∧ t.rd Reg.SEC_CC_STATUS = stOk ∧
       (∀ row v, (row, v) ∈ c.rows → Nat.land (tget 0 t.otp.rows row) v = v) ∧
       Nat.land (tget 0 t.otp.rows (recordRow s.w.nextSeq)) (leNat (v.recordBytes c)) = leNat (v.recordBytes c) ∧
       (∀ row, row ∉ c.rows.map Prod.fst → row ≠ recordRow s.w.nextSeq → tget 0 t.otp.rows row = tget 0 s.otp.rows row) ∧ t.mem = s.mem)

/-- R456 to R458: every request is counted and answered: the version 1.2; CERT_CAP, CHAL_CAP and MEAS_CAP with messages of 4,096 bytes; the algorithms of R456;
the digest, or a portion, of the chain of slot 0; measurements, one or all; a challenge of slot 0 with a signature; and UnsupportedRequest for other slots
and requests. It rests on choices of the model: log entry 33. -/
def Obligations.SpdmAnswers : Prop :=
  ∀ (s : State), s.dev.pwr.refStopped = false →
    let answer := fun (a : SpdmAnswer) (w : Work) => (w.inc Reg.SEC_CNT_SPDM_REQ).setSec { (w.inc Reg.SEC_CNT_SPDM_REQ).d.sec with doe := a }
    let chain := certChain s.otp.serial
    Does .getVersion s (answer (.version 1 2)) ∧ Does .getCapabilities s (answer (.capabilities true true true 4096)) ∧
    Does .negotiateAlgorithms s (answer .algorithms) ∧ Does .getDigests s (answer (.digests (sha256 chain))) ∧
    Does .unsupportedRequest s (answer .unsupportedRequest) ∧
    (∀ slot offset len, slot ≠ 0 → Does (.getCertificate slot offset len) s (answer .unsupportedRequest)) ∧
    (∀ offset len : BitVec 16, offset.toNat ≤ chain.length →
      Does (.getCertificate 0 offset len) s
        (answer (.certificate ((chain.drop offset.toNat).take (min len.toNat 4096))
          (chain.length - offset.toNat - ((chain.drop offset.toNat).take (min len.toNat 4096)).length)))) ∧
    (∀ index nonce, index ≠ 0#8 → index.toNat ≤ 8 →
      Does (.getMeasurements 0 index false nonce) s (answer (.measurements 8 [(s.w.inc Reg.SEC_CNT_SPDM_REQ).measureBlock index.toNat] [] []))) ∧
    (∀ nonce, Does (.getMeasurements 0 0xFF false nonce) s
      (answer (.measurements 8 ((List.range 8).map (fun k => (s.w.inc Reg.SEC_CNT_SPDM_REQ).measureBlock (k + 1))) [] []))) ∧
    (∀ nonce, ∃ mine sig t, exec (.challenge 0 nonce) s = .next t ∧ t.dev.sec.doe = .challengeAuth (sha256 chain) mine sig) ∧
    (∀ slot nonce, slot ≠ 0#8 → Does (.challenge slot nonce) s (answer .unsupportedRequest))

/-- R460 to R462, R467: outside the closed policy a challenge is eight fresh words, and what an unlock does: every attempt discards the challenge and posts its
status; under the open policy it needs no token; one that succeeds sets DEBUG_UNLOCKED, clears the model keys and takes the safety manager to DEBUG with
both pins low; one that fails is counted. It rests on choices of the model: log entry 49. -/
def Obligations.DebugUnlocking : Prop :=
  ∀ (s : State) (req : Requester), Runs s → Writable s req 0xC03028 → s.rd Reg.SEC_CC_BUSY ≠ 1 →
    (s.w.debugPolicy = 2 → (Does (.debugChallenge req) s fun w => w.log (unitOf req)) ∧ (Does (.debugUnlock req) s fun w => w.log (unitOf req))) ∧
    (s.w.debugPolicy ≠ 2 → Does (.debugChallenge req) s fun w =>
      let v := w.upTo 8 (fun w k => (w.free 32).1.wr Reg.SEC_DBG_CHALLENGE (w.free 32).2 k)
      v.setSec { v.d.sec with challenge := true }) ∧
    (s.w.debugPolicy = 0 → Does (.debugUnlock req) s fun w =>
      let v := (w.upTo 8 (fun w k => w.wr Reg.SEC_DBG_CHALLENGE 0 k)).setSec { w.d.sec with challenge := false }
      let v := ((v.wr Reg.SEC_DBG_STATUS stOk).clearModelKeys 0xFF).wr Reg.SEC_DEBUG_UNLOCKED 1
      (v.wr Reg.SAF_STATE 3).setSaf { v.d.saf with pin0 := false, pin1 := false, hbNext := 0 }) ∧
    (∀ v bs u st, s.w.debugPolicy = 1 → s.rd Reg.SEC_DBG_TOKEN_ADDR % 64 = 0 → s.w.readAt uSecurity (s.rd Reg.SEC_DBG_TOKEN_ADDR) 576 = (v, stOk, bs) →
      v.tokenCheck bs = (u, st) →
      Does (.debugUnlock req) s fun _ =>
        let x := (u.upTo 8 (fun w k => w.wr Reg.SEC_DBG_CHALLENGE 0 k)).setSec { u.d.sec with challenge := false }
        let x := x.wr Reg.SEC_DBG_STATUS st
        if st = stOk then x.unlockDebug else x.inc Reg.SEC_CNT_DBG_FAIL)

/-- R494, R495, R499, R500: a mark is traced while TRACE_EN is 1; a claim of a free resource is granted to the writer, one of a held resource is denied and
names the holder, one of a never-claimable index is denied as the safety manager's, and any other index or class is refused; a release frees only the
writer's own run-time claim. It rests on choices of the model: log entry 68. -/
def Obligations.MarksAndClaims : Prop :=
  ∀ (s : State) (req : Requester), Runs s →
    (∀ v : BitVec 32, Writable s req 0xD00020 →
      Does (.cntTraceMark req v) s fun w =>
        if w.on Reg.CNT_TRACE_EN = false then w
        else if 256 ≤ w.d.trc.queue.length then w.inc Reg.CNT_TRACE_LOST
        else { w with d := { w.d with trc := ⟨w.d.trc.queue ++
          [[unitOf req + 0x2000 + 0x10000, low 32 w.d.trc.seq, low 32 w.now, low 32 (w.now / 2 ^ 32), v.toNat, 0, 0, 0]], low 32 (w.d.trc.seq + 1)⟩ } }) ∧
    (∀ (cls : BitVec 8) (idx gid : BitVec 16), Writable s req 0xF00010 →
      let c := cls.toNat; let i := idx.toNat; let u := unitOf req
      let size := if c = 1 then 32 else if c = 2 ∨ c = 3 then 16 else if c = 4 then 384 else 0
      let answer := fun (st holder : Nat) (w : Work) => w.setSec { w.d.sec with claims := tset (0, 0xFF) w.d.sec.claims u (st, holder) }
      ((c = 1 ∧ (i = 32 ∨ i = 33)) ∨ (c = 2 ∧ i = 16) →
        Does (.claim req cls idx gid) s (answer 0x51 0xB8) ∧ Does (.release req cls idx gid) s (answer 0x51 0xB8)) ∧
      (¬((c = 1 ∧ (i = 32 ∨ i = 33)) ∨ (c = 2 ∧ i = 16)) → size ≤ i →
        Does (.claim req cls idx gid) s (answer 0x11 0xFF) ∧ Does (.release req cls idx gid) s (answer 0x11 0xFF)) ∧
      (∀ fh fs fg : Fld, i < size → Work.holdFields c = (fh, fs, fg) →
        (s.rd fh i = 0xFF → Does (.claim req cls idx gid) s fun w => answer 0 u (((w.wr fh u i).wr fg gid.toNat i).wr fs 0 i)) ∧
        (s.rd fh i ≠ 0xFF → Does (.claim req cls idx gid) s (answer 0x51 (s.rd fh i))) ∧
        (s.rd fh i = u → s.rd fs i ≠ 1 →
          Does (.release req cls idx gid) s fun w => answer 0 0xFF (((w.wr fh 0xFF i).wr fg 0xFFFF i).wr fs 0 i)) ∧
        (s.rd fh i ≠ u ∨ s.rd fs i = 1 → Does (.release req cls idx gid) s (answer 0x51 (s.rd fh i)))))

/-- R43, R336, R417, R501, R504: a GPIO_OUT write changes the pins the writer holds and no other, and one that would change another is logged with its holder; a
changed input level is an edge for the timer its pin captures for, a wake source where the pin wakes at that level, and is offered to Mason where the pin maps
there; an enabled timer expires at its due TB, drives its output (to a level the spec leaves
open) and posts its event, a one-shot stopping and a periodic one due again a period later; an edge at a timer in capture mode that a pin captures for is
stamped with TB and posted. It rests on choices of the model: log entry 53. -/
def Obligations.PinsAndTimers : Prop :=
  ∀ (s : State), Runs s →
    (∀ (req : Requester) (v : BitVec 32), Writable s req 0xF02004 →
      let u := unitOf req
      let mine := fun p => s.rd Reg.HOLDG_HOLDER p = u
      ∃ new, (∀ p < 32, mine p → bitAt new p = bitAt v.toNat p) ∧ (∀ p < 32, ¬mine p → bitAt new p = bitAt (s.rd Reg.CLM_GPIO_OUT) p) ∧ new < 2 ^ 32 ∧
        ((∀ p < 32, mine p ∨ bitAt v.toNat p = bitAt (s.rd Reg.CLM_GPIO_OUT) p) → Does (.gpioOutWrite req v) s fun w => w.wr Reg.CLM_GPIO_OUT new) ∧
        (∀ p < 32, ¬mine p → bitAt v.toNat p ≠ bitAt (s.rd Reg.CLM_GPIO_OUT) p →
          (∀ q < p, mine q ∨ bitAt v.toNat q = bitAt (s.rd Reg.CLM_GPIO_OUT) q) →
          Does (.gpioOutWrite req v) s fun w => (w.wr Reg.CLM_GPIO_OUT new).err u 0x51 (s.rd Reg.HOLDG_HOLDER p))) ∧
    (∀ (pin : Fin 32) (level : Bool), 
      (bitAt s.dev.balls.gpio pin.val = level → Does (.gpioInputEdge pin level) s fun w => w) ∧
      (bitAt s.dev.balls.gpio pin.val ≠ level → Does (.gpioInputEdge pin level) s fun w =>
        let v := { w with d := { w.d with balls := { w.d.balls with gpio := bxor w.d.balls.gpio (2 ^ pin.val) } } }
        let v := match v.captureTimer pin.val with
          | some t => v.timerCapture t
          | none => v
        let v := if v.wakePin pin.val = true then v.wakeSource 3 else v
        if (v.region 4 0).any (fun e => bits e 7 0 == pin.val && (bits e 15 8 == 1 || bits e 15 8 == 5)) = true then
          v.offer (low 8 (ioSource 0)) 2 (low 12 (gpioChannel pin.val)) 1
        else v)) ∧
    (∀ (t : Fin 16) (v w : Work) (out due : Nat), s.rd Reg.TMR_ENABLE t.val = 1 → s.rd Reg.TMR_MODE t.val ≤ 1 →
      due = (if tget 0 s.dev.balls.next t.val = 0 then max (s.rd Reg.TMR_START_TB t.val) s.w.now else tget 0 s.dev.balls.next t.val - 1) →
      v = s.w.advance due → v.free 1 = (w, out) →
      Does (.timerExpiry t) s fun _ =>
        let b := w.d.balls
        let timers := if bitAt b.timers t.val = (out == 1) then b.timers else bxor b.timers (2 ^ t.val)
        if s.rd Reg.TMR_MODE t.val = 1 then
          let x := { w with d := { w.d with balls := { b with timers := timers, next := tset 0 b.next t.val (due + w.rd Reg.TMR_PERIOD_NS t.val + 1) } } }
          x.offer (low 8 (ioSource 1)) 2 (x.rd Reg.TMR_CHANNEL t.val) 1
        else
          let x := { w with d := { w.d with balls := { b with timers := timers, next := tdel b.next t.val } } }.wr Reg.TMR_ENABLE 0 t.val
          x.offer (low 8 (ioSource 1)) 2 (x.rd Reg.TMR_CHANNEL t.val) 1) ∧
    (∀ (t : Fin 16), s.rd Reg.TMR_ENABLE t.val = 1 → s.rd Reg.TMR_MODE t.val = 2 → s.w.captures t.val = true →
      Does (.timerCapture t) s fun w => (w.wr Reg.TMR_CAPTURE_TB w.now t.val).offer (low 8 (ioSource 1)) 2 (w.rd Reg.TMR_CHANNEL t.val) 1)

/-- R505, R506: BYPASS, IDCODE and SAMPLE/PRELOAD change the JTAG port alone; EXTEST, EXTEST_PULSE, EXTEST_TRAIN, CLAMP and HIGHZ hand every ball to the scan
and the links lose theirs; a TAP reset gives the balls back. Memory, the OTP and the register file stay as they are in all but the links of the second
group. It rests on choices of the model: log entry 56. -/
def Obligations.BoundaryScan : Prop :=
  ∀ (s : State),
    (∃ t, exec .bypass s = .next t ∧ t = { s with dev := { s.dev with tap := { s.dev.tap with ins := .bypass, dr := 0, held := false } } }) ∧
    (∃ t, exec .idcode s = .next t ∧ t = { s with dev := { s.dev with tap := { s.dev.tap with ins := .idcode, held := false, dr := t.dev.tap.dr } } } ∧
      t.dev.tap.dr % 2 = 1 ∧ t.dev.tap.dr / 2 % 2 ^ 11 = low 11 jtagMaker ∧ t.dev.tap.dr / 2 ^ 12 % 2 ^ 16 = low 16 s.otp.partNumber ∧
      t.dev.tap.dr / 2 ^ 28 = low 4 s.otp.stepping) ∧
    (∀ preload, ∃ t n v, exec (.samplePreload preload) s = .next t ∧
      t = { s with dev := { s.dev with tap := ⟨.samplePreload, v, preload, false⟩, fresh := n } }) ∧
    (∀ i ins, (i = .extest ∧ ins = .extest) ∨ (i = .extestPulse ∧ ins = .extestPulse) ∨ (i = .extestTrain ∧ ins = .extestTrain) ∨
        (i = .clamp ∧ ins = .clamp) ∨ (i = .highz ∧ ins = .highz) →
      ∃ t, exec i s = .next t ∧ t.dev.tap = { s.dev.tap with ins := ins, held := true } ∧ t.dev.hif.linkUp = false ∧ t.mem = s.mem ∧ t.otp = s.otp ∧
        (∀ p : Nat, p < 4 → s.rd Reg.DPORT_STATE p = Work.dpActive →
          t.rd Reg.DPORT_STATE p = if s.rd Reg.DPORT_ENABLE p = 1 then Work.dpTraining else Work.dpDown)) ∧
    (∃ t, exec .tapReset s = .next t ∧ t = { s with dev := { s.dev with tap := { s.dev.tap with ins := .reset, dr := 0, held := false } } })

/-- R7 to R9, R61, R119, R349, R364: an aligned register read of 4 or 8 bytes answers the reader with its value, and none of another size or alignment does;
unmasking a vector or the function sends what was pending; a hot-join request changes nothing; a delayed wake wakes the waiters of its flag whose delay
ends first. It rests on choices of the model: log entries 1 and 57. -/
def Obligations.ReadsMasksAndWakes : Prop :=
  ∀ (s : State), Runs s →
    (∀ (req : Requester) (off : BitVec 25) (n : Fin 9) (w : Work) (v : Nat), s.w.regRead (unitOf req) off.toNat n.val = (w, v) →
      Does (.registerRead req off n) s fun _ => w.setHif { w.d.hif with readData := v, readUr := false }) ∧
    (∀ (req : Requester) (off : BitVec 25) (n : Fin 9), (n.val ≠ 4 ∧ n.val ≠ 8) ∨ off.toNat % n.val ≠ 0 ∨ 0x1000000 ≤ off.toNat →
      Does (.registerRead req off n) s fun w =>
        let v := w.setLatch (unitOf req) (0, 0)
        v.setHif { v.d.hif with readData := 0, readUr := false }) ∧
    (∀ (v : Fin 2048) addr data, s.dev.hif.fnMasked = false → s.dev.hif.pba = [v.val] → s.dev.hif.d3hot = false →
      Does (.msixUnmask (.vector v addr data)) s fun w =>
        (w.setHif { w.d.hif with msix := tset MsixEnt.reset w.d.hif.msix v.val ⟨addr, low 32 data, false⟩, pba := [] }).put .host addr (leBytes 4 (low 32 data))) ∧
    (∀ (v : Nat) e, tget MsixEnt.reset s.dev.hif.msix v = e → e.masked = false → s.dev.hif.pba = [v] → s.dev.hif.d3hot = false →
      Does (.msixUnmask .function) s fun w => (w.setHif { w.d.hif with fnMasked := false, pba := [] }).put .host e.addr (leBytes 4 e.data)) ∧
    (∀ m, Does (.hotJoinRequest m) s fun w => w) ∧
    (∀ (f : Fin 16384) x, s.w.waits f.val = [x] → x.dueTb ≠ 0 →
      Does (.flagDelayWake f) s fun w => ((w.advance x.dueTb).setWaits f.val []).wake x)

/-- A step takes the command at the front of the queue and does what that command does with the rest of the queue; on an empty queue it changes nothing (the
model's own choice, log entry 6). Every command answers a next state and leaves the queue as it found it. -/
def Obligations.StepRunsTheFrontCommand : Prop :=
  (∀ (c : Instr) (rest : List Instr) (s : State), step { s with pending := c :: rest } = exec c { s with pending := rest }) ∧
  (∀ s : State, s.pending = [] → step s = .next s) ∧
  (∀ (i : Instr) (s : State), ∃ t, exec i s = .next t ∧ t.pending = s.pending)

/-- Reset values the register tables state (R82, R128, R300, R343, R368, R384, R404, R421, R437, R470, R487, R502 to R504), TB at 0 (R18), no command waiting,
and every memory and the OTP in canonical form. R423, R514, R515, R518: with no burn under way, power-on reset returns all state but the OTP, the input
levels and the TAP to reset and empties every memory; so does an always-on rail's fault. A supply rail's fault on a clocked device holds its AVSBus rail
and degrades it; a stopped reference clock is noted. It rests on choices of the model: log entry 3. -/
def Obligations.PowerOnAndResetState : Prop :=
  (let r := State.reset
   r.pending = [] ∧ r.dev.clk = ⟨0, 0⟩ ∧ Canonical r ∧
   (∀ c < 64, r.rd Reg.TS_SCRUB_EN c = 1 ∧ r.rd Reg.TS_SPARES_LEFT c = 0x4444444444444444 ∧ r.rd Reg.ASH_PC c = 0) ∧
   (∀ k < 36, r.rd Reg.SLAB_SPARES_LEFT k = 64 ∧ r.rd Reg.SLAB_ROLE k = 0) ∧ r.rd Reg.QRY_SCRUB_EN = 1 ∧ r.rd Reg.QRY_SCRUB_INTERVAL = 0x1000 ∧
   (∀ ch < 32, r.rd Reg.CH_IN_SERVICE ch = 1 ∧ r.rd Reg.CH_RATE_MTS ch = 8533) ∧ r.rd Reg.DDR_RESERVE_FREE = 1 ∧ r.rd Reg.DDR_DRIFT_LIMIT = 16 ∧
   (∀ p < 4, r.rd Reg.DPORT_STATE p = 0 ∧ r.rd Reg.DPORT_ENABLE p = 0 ∧ r.rd Reg.DPORT_NEIGHBOUR_ID p = 0xFFF) ∧
   (∀ w < 64, r.rd Reg.WIN_OPEN w = 0 ∧ r.rd Reg.WIN_DRAINED w = 1) ∧
   (∀ f < 64, r.rd Reg.FLAG_COUNT f = 0 ∧ r.rd Reg.FLAG_GENERATION f = 0) ∧
   (∀ p < 16, r.rd Reg.PORT_ENABLE p = 0 ∧ r.rd Reg.PORT_LOCKED p = 0) ∧ (∀ q < 64, r.rd Reg.Q_STATE q = 0 ∧ r.rd Reg.Q_SQ_TAIL q = 0) ∧
   (∀ p < 32, r.rd Reg.HOLDG_HOLDER p = 0xFF ∧ r.rd Reg.HOLDG_GRAPH_ID p = 0xFFFF) ∧ r.rd Reg.CNT_TRACE_EN = 0 ∧ r.rd Reg.CNT_TRACE_LOG2 = 8 ∧
   r.rd Reg.SAF_STATE = 0 ∧ r.rd Reg.RST_BOOT_STATE = 0 ∧ r.rd Reg.RST_WDT_EN = 0 ∧ r.rd Reg.PWR_TRIPPED = 0 ∧ r.rd Reg.PWR_DEVICE_STATE = 0 ∧
   r.rd Reg.SEC_DEBUG_UNLOCKED = 0 ∧ r.rd Reg.SEC_MKEY_VALID = 0) ∧
  (∀ (s : State), s.dev.sec.change = none →
     let fresh := fun (w : Work) => { w with
       d := { Dev.reset with fresh := w.d.fresh, balls := { Dev.reset.balls with gpio := w.d.balls.gpio }, tap := w.d.tap }
       mops := [.clear .dev 0 0x10000000000, .clear .course 0 0x10000000, .clear .ctl 0 0x10000000] ++ w.mops }
     exec .powerOnReset s = .next (s.run fresh) ∧
     (∀ ws, exec (.railFault .vddAo ws) s = .next (s.run fresh) ∧ exec (.railFault .vddio ws) s = .next (s.run fresh) ∧
       exec (.railFault .vdd1 ws) s = .next (s.run fresh)) ∧
     (∀ ws, s.dev.pwr.refStopped = false →
       exec (.railFault .vddA ws) s = .next (s.run fun w => w.avsHold 0 true) ∧ exec (.railFault .vddV ws) s = .next (s.run fun w => w.avsHold 1 true) ∧
       exec (.railFault .vddSram ws) s = .next (s.run fun w => w.avsHold 2 true)) ∧
     exec .refclkStop s = .next (s.run fun w => w.setPwr { w.d.pwr with refStopped := true }))

/-- R7. An aligned 8-byte read answers with both halves of one state. A 4-byte read of a 64-bit register's low half answers with it and latches the high half
for its requester. That requester's next read, if it is that register's high half, answers with the latched value and empties the latch; any other read by
it empties the latch and answers with the live value. Reads by other requesters neither use nor disturb it. -/
def Obligations.ReadLatch : Prop :=
  ∀ (s : State) (req : Requester) (off : BitVec 25), Runs s → Settled s → s.w.answers (unitOf req) off.toNat = true → off.toNat < 0x1000000 → off.toNat / 0x100000 ≠ 14 →
    let u := unitOf req
    let latch := fun (t : State) (u : Nat) => tget (0, 0) t.dev.latches u
    (off.toNat % 8 = 0 → ∃ t, exec (.registerRead req off 8) s = .next t ∧ t.dev.hif.readData = (s.w.readFields u off.toNat 8).2 ∧ latch t u = (0, 0)) ∧
    (off.toNat % 8 = 0 → Work.isWide off.toNat = true →
      ∃ t, exec (.registerRead req off 4) s = .next t ∧ t.dev.hif.readData = (s.w.readFields u off.toNat 8).2 % 2 ^ 32 ∧
        latch t u = (off.toNat + 4, (s.w.readFields u off.toNat 8).2 / 2 ^ 32)) ∧
    (off.toNat % 8 = 4 → latch s u = (off.toNat, (latch s u).2) →
      ∃ t, exec (.registerRead req off 4) s = .next t ∧ t.dev.hif.readData = (latch s u).2 ∧ latch t u = (0, 0)) ∧
    (off.toNat % 4 = 0 → (off.toNat % 8 = 0 → Work.isWide off.toNat = false) → (latch s u).1 ≠ off.toNat →
      ∃ t, exec (.registerRead req off 4) s = .next t ∧ t.dev.hif.readData = (s.w.readFields u off.toNat 4).2 ∧ latch t u = (0, 0)) ∧
    (∀ (other : Requester) (n : Fin 9) t, other ≠ req → exec (.registerRead req off n) s = .next t → latch t (unitOf other) = latch s (unitOf other))

/-- R454. The store holds up to 16 keys of 32 bytes. MODEL_KEY_LOAD with a command that passes the checks of R450 replaces entry KEY_ID with the key its ciphertext
holds, sets its bit of SEC_MKEY_VALID and leaves the other entries and bits, and changes no entry where the ciphertext holds no key; MODEL_KEY_CLEAR empties one entry, or all, and unloads nothing; every chip reset and every debug
unlock clears the store. -/
def Obligations.ModelKeyStore : Prop :=
  ∀ (s : State) (req : Requester), Runs s → Settled s →
    let key := fun (t : State) (id : Nat) => tget [] t.dev.sec.mkeys id
    (∀ (op : Nat) (v : Work) (cmd : List Byte), Writable s req 0xC02010 → s.rd Reg.SEC_CC_BUSY ≠ 1 → s.rd Reg.SEC_CC_ADDR % 64 = 0 →
      s.w.inDram (s.rd Reg.SEC_CC_ADDR) (s.rd Reg.SEC_CC_LEN) = true → s.w.readAt uSecurity (s.rd Reg.SEC_CC_ADDR) (s.rd Reg.SEC_CC_LEN) = (v, stOk, cmd) →
      Work.ccOp (bytesWords (cmd.take 64)) = op → v.ccEarly (bytesWords (cmd.take 64)) (s.rd Reg.SEC_CC_LEN) (Work.sigAlg cmd) = none →
      v.signed (Work.ccSlot (bytesWords (cmd.take 64))) cmd = true → Work.ccReserved cmd = false →
      (v.inc Reg.SEC_CNT_VERIFY).ccLate (bytesWords (cmd.take 64)) ((cmd.drop 64).take (Work.ccPayload op)) = stOk →
      (op = 0x10 → ∀ id : Nat, id = leNat ((cmd.drop 64).take 4) →
        ∃ t, exec (.modelKeyLoad req) s = .next t ∧ id < 16 ∧ t.dev.ldr = v.d.ldr ∧
          (∀ j < 16, j ≠ id → key t j = tget [] v.d.sec.mkeys j ∧ bitAt (t.rd Reg.SEC_MKEY_VALID) j = bitAt (v.rd Reg.SEC_MKEY_VALID) j) ∧
          match oaepKey (Config.encryptionKey s.otp.serial) (((cmd.drop 64).take (Work.ccPayload op)).drop 4) with
          | some k => k.length = 32 ∧ key t id = k ∧ bitAt (t.rd Reg.SEC_MKEY_VALID) id = true ∧ t.rd Reg.SEC_CC_STATUS = stOk
          | none => t.rd Reg.SEC_CC_STATUS ≠ stOk ∧ key t id = tget [] v.d.sec.mkeys id ∧
              bitAt (t.rd Reg.SEC_MKEY_VALID) id = bitAt (v.rd Reg.SEC_MKEY_VALID) id) ∧
      (op = 0x11 → ∃ t, exec (.modelKeyClear req) s = .next t ∧ t.rd Reg.SEC_CC_STATUS = stOk ∧ t.dev.ldr = v.d.ldr ∧
        ∀ j < 16, (Work.ccArg (bytesWords (cmd.take 64)) = 0xFF ∨ Work.ccArg (bytesWords (cmd.take 64)) = j →
            key t j = [] ∧ bitAt (t.rd Reg.SEC_MKEY_VALID) j = false) ∧
          (Work.ccArg (bytesWords (cmd.take 64)) ≠ 0xFF → Work.ccArg (bytesWords (cmd.take 64)) ≠ j →
            key t j = tget [] v.d.sec.mkeys j ∧ bitAt (t.rd Reg.SEC_MKEY_VALID) j = bitAt (v.rd Reg.SEC_MKEY_VALID) j))) ∧
    (s.dev.sec.boot ≠ .pll → ∀ i, (i = .perstN ∨ (i = .chipReset ∧ (s.dev.saf.resetAsk ≠ none ∨ s.dev.sec.resetAt ≠ none)) ∨
        (i = .watchdogExpiry ∧ s.rd Reg.RST_WDT_EN = 1)) →
      ∃ t, exec i s = .next t ∧ t.dev.sec.mkeys = [] ∧ t.rd Reg.SEC_MKEY_VALID = 0) ∧
    (∃ t, exec .powerOnReset s = .next t ∧ t.dev.sec.mkeys = [] ∧ t.rd Reg.SEC_MKEY_VALID = 0) ∧
    (Writable s req 0xC03028 → s.rd Reg.SEC_CC_BUSY ≠ 1 →
      (s.w.debugPolicy = 0 ∨ (s.w.debugPolicy = 1 ∧ s.rd Reg.SEC_DBG_TOKEN_ADDR % 64 = 0 ∧ ∃ v bs u,
        s.w.readAt uSecurity (s.rd Reg.SEC_DBG_TOKEN_ADDR) 576 = (v, stOk, bs) ∧ v.tokenCheck bs = (u, stOk))) →
      ∃ t, exec (.debugUnlock req) s = .next t ∧ t.dev.sec.mkeys = [] ∧ t.rd Reg.SEC_MKEY_VALID = 0)

/-- Every step keeps the canonical form of every memory and of the OTP rows, so that equal contents are equal data. It rests on choices of the model: log entry
3. -/
def Obligations.CanonicalMemoriesKept : Prop :=
  ∀ s t : State, Canonical s → step s = .next t → Canonical t

/-- R444, R446, R451: the OTP only ever gains bits, whatever the command: no step clears a bit of any row or changes the manufacturing record, so the
anti-rollback value never falls and a key slot one of whose rows holds a bit is never EMPTY again. -/
def Obligations.OtpOnlyGains : Prop :=
  ∀ s t : State, step s = .next t →
    (∀ row, Nat.land (tget 0 s.otp.rows row) (tget 0 t.otp.rows row) = tget 0 s.otp.rows row) ∧
    { t.otp with rows := s.otp.rows } = s.otp ∧
    s.w.rollbackCounter ≤ t.w.rollbackCounter ∧
    (∀ k i, i < 13 → s.w.otpRow (slotModRow k i) ≠ 0 → t.w.slotState k ≠ 0)

/-- R25, R119, R126, R352, R366, R371, R501: what commands that only write registers leave unchanged: every other register field, memory, the OTP, the queue of
commands and all state that is no register, but the time from which a domain at work would be idle (R412). -/
def Obligations.RegisterFrames : Prop :=
  ∀ (s t : State) (i : Instr) (ks : List Nat), Runs s → Settled s → exec i s = .next t →
    ((∃ m, i = .i3cIbi m ∧ ks = [Reg.ING_I3C_CNT_IBI.key m.val 0]) ∨
     (∃ p vc, i = .genericShortPacket p vc ∧ s.w.portLive p.val = true ∧ ks = [Reg.ING_PORT_CNT_PACKETS.key p.val 0, Reg.ING_PORT_CNT_SHORT_OTHER.key p.val 0]) ∨
     (∃ q v, i = .submissionDoorbell q v ∧ s.rd Reg.Q_STATE q.val = 1 ∧ low 16 v.toNat < 2 ^ (s.w.queue q.val).sqLog2 ∧ ks = [Reg.Q_SQ_TAIL.key q.val 0]) ∨
     (∃ q v, i = .completionDoorbell q v ∧ s.rd Reg.QE_Q_STALL_TB q.val = 0 ∧ s.w.dbDead q.val = false ∧ low 16 v.toNat < 2 ^ (s.w.queue q.val).cqLog2 ∧
       (low 16 v.toNat + 2 ^ (s.w.queue q.val).cqLog2 - s.rd Reg.Q_CQ_HEAD q.val) % 2 ^ (s.w.queue q.val).cqLog2 ≤ s.w.cqUsed q.val ∧
       ks = [Reg.Q_CQ_HEAD.key q.val 0]) ∨
     (∃ req q, i = .queueResume req q ∧ Writable s req (0x210004 + 64 * q.val) ∧ s.rd Reg.Q_STATE q.val = 2 ∧
       ks = [Reg.Q_STATE.key q.val 0, Reg.QE_Q_STALL_TB.key q.val 0]) ∨
     (∃ req c v, i = .replayTailWrite req c v ∧ Writable s req (0x40400C + 0x40 * c.val) ∧ ks = [Reg.ING_RPL_TAIL.key c.val 0]) ∨
     (∃ req v, i = .gpioOutWrite req v ∧ Writable s req 0xF02004 ∧ (∀ p : Nat, p < 32 → s.rd Reg.HOLDG_HOLDER p = unitOf req) ∧ ks = [Reg.CLM_GPIO_OUT.key 0 0]) ∨
     (∃ req lo hi, i = .hostIfNegotiate req lo hi ∧ Writable s req 0x200008 ∧ lo = 0x10100 ∧ hi = 0x10100 ∧
       ks = [Reg.QE_MIN_MINOR.key 0 0, Reg.QE_MIN_MAJOR.key 0 0, Reg.QE_MIN_GEN.key 0 0, Reg.QE_MAX_MINOR.key 0 0, Reg.QE_MAX_MAJOR.key 0 0, Reg.QE_MAX_GEN.key 0 0,
         Reg.QE_ACTIVE_MINOR.key 0 0, Reg.QE_ACTIVE_MAJOR.key 0 0, Reg.QE_ACTIVE_GEN.key 0 0, Reg.QE_ACTIVE_VALID.key 0 0, Reg.QE_ACTIVE_MISMATCH.key 0 0])) →
    OnlyRegs ks s t

/-- R113, R334, R349, R379, R408, R417, R418, R504: what commands leave of memory: those that store nothing leave every byte of every memory, the OTP and the
queue as they were; a CREATE writes its thread's context frame and nothing else; a BAR2 write stores its bytes at the address its aperture gives, in the one
tile store or memory it lies in, and no byte outside what each tile store it spans holds of it (R20, R23). -/
def Obligations.MemoryFrames : Prop :=
  ∀ (s t : State) (i : Instr), Runs s → Settled s → exec i s = .next t →
    ((i ∈ [.d3hotEntry, .linkL1Entry, .ptmRequest, .msnTick, .delayExpiry, .trackingSettled, .heartbeatToggle] ∨ (∃ ch b, i = .refresh ch b) ∨
        (∃ m, i = .hotJoinRequest m) ∨ (∃ d, i = .slewDone d) ∨ (∃ n, i = .timerCapture n) ∨ (∃ n, i = .timerExpiry n) ∨ (∃ n l, i = .gpioInputEdge n l) ∨
        (∃ n, i = .fsyncPulseEnd n) ∨ (∃ p, i = .lockFail p)) → MemSame s t) ∧
    (∀ p a, i = .create p a → ∀ n, s.w.freeTid = some n →
      ∀ x, (x < Work.frameAddr n ∨ Work.frameAddr n + 1024 ≤ x) → t.mem.byte .ctl x = s.mem.byte .ctl x) ∧
    (∀ (off : BitVec 40) bs a, i = .bar2Write off bs false → bs ≠ [] → off.toNat + bs.length ≤ 2 ^ s.dev.hif.bar2Log2 →
      a = s.w.bar2Addr off.toNat → s.w.refusal? uHost a bs.length true = none → inHostWin a 1 = false →
      (∀ x, (∀ p ∈ Work.pieces a bs.length, x < s.w.storage p.1 ∨ s.w.storage p.1 + p.2 ≤ x) → t.mem.byte .dev x = s.mem.byte .dev x) ∧
      (Work.pieces a bs.length = [(a, bs.length)] → ∀ k < bs.length, t.mem.byte .dev (s.w.storage a + k) = bs.getD k 0#8))
end

