-- ==== Sys2Proof/Laws/Table.lean ====
section
/-! SUPPORT. Sparse tables: reading after writing, and the canonical form. -/

namespace Sys2Proof.Machine

variable {α : Type}

@[simp] theorem tget_tdel_self (d : α) (t : Tbl α) (a : Nat) : tget d (tdel t a) a = d := by
  induction t with
  | nil => rfl
  | cons e r ih =>
    obtain ⟨k, v⟩ := e
    by_cases h : k = a <;> simp [tdel, tget, h, ih]

theorem tget_tdel_ne (d : α) (t : Tbl α) {a b : Nat} (h : b ≠ a) : tget d (tdel t a) b = tget d t b := by
  induction t with
  | nil => rfl
  | cons e r ih =>
    obtain ⟨k, v⟩ := e
    by_cases hk : k = a
    · have : k ≠ b := fun e => h (e ▸ hk)
      simp [tdel, tget, hk, ih, Ne.symm h]
    · simp [tdel, tget, hk, ih]

@[simp] theorem tget_tins_self (d : α) (t : Tbl α) (a : Nat) (x : α) : tget d (tins t a x) a = x := by
  induction t with
  | nil => simp [tins, tget]
  | cons e r ih =>
    obtain ⟨k, v⟩ := e
    unfold tins
    split
    · simp [tget]
    · split
      · simp [tget]
      · rename_i h1 h2; simp [tget, h2, ih]

theorem tget_tins_ne (d : α) (t : Tbl α) {a b : Nat} (x : α) (h : b ≠ a) : tget d (tins t a x) b = tget d t b := by
  induction t with
  | nil => simp [tins, tget, Ne.symm h]
  | cons e r ih =>
    obtain ⟨k, v⟩ := e
    unfold tins
    split
    · simp [tget, Ne.symm h]
    · split
      · rename_i h1 h2; subst h2; simp [tget, Ne.symm h]
      · simp [tget, ih]

variable [DecidableEq α]

/-- Reading back what was written. -/
@[simp] theorem tget_tset_self (d : α) (t : Tbl α) (a : Nat) (x : α) : tget d (tset d t a x) a = x := by
  unfold tset; split
  · simp_all
  · simp

/-- Every other key keeps its value. -/
theorem tget_tset_ne (d : α) {e : α} (t : Tbl α) {a b : Nat} (x : α) (h : b ≠ a) : tget d (tset e t a x) b = tget d t b := by
  unfold tset; split
  · exact tget_tdel_ne d t h
  · exact tget_tins_ne d t x h

omit [DecidableEq α] in
/-- What holds of every entry of a table holds of the value a listed key reads. -/
theorem tget_mem_of {t : Tbl α} {P : α → Prop} (d : α) (h : ∀ e ∈ t, P e.2) (a : Nat) (ha : ∃ e ∈ t, e.1 = a) : P (tget d t a) := by
  induction t with
  | nil => obtain ⟨e, he, _⟩ := ha; cases he
  | cons e t ih =>
    obtain ⟨k, v⟩ := e
    simp only [tget]
    split
    · exact h (k, v) (by simp)
    · refine ih (fun e he => h e (by simp [he])) ?_
      obtain ⟨e, he, rfl⟩ := ha
      rcases List.mem_cons.mp he with rfl | he
      · simp at *
      · exact ⟨e, he, rfl⟩

omit [DecidableEq α] in
theorem mem_tdel {t : Tbl α} {a : Nat} {e : Nat × α} (h : e ∈ tdel t a) : e ∈ t := by
  induction t with
  | nil => simp [tdel] at h
  | cons f r ih =>
    obtain ⟨k, v⟩ := f
    unfold tdel at h; split at h
    · exact List.mem_cons_of_mem _ (ih h)
    · rcases List.mem_cons.1 h with rfl | h
      · exact List.mem_cons_self
      · exact List.mem_cons_of_mem _ (ih h)

omit [DecidableEq α] in
theorem mem_tins {t : Tbl α} {a : Nat} {x : α} {e : Nat × α} (h : e ∈ tins t a x) : e = (a, x) ∨ e ∈ t := by
  induction t with
  | nil => simpa [tins] using h
  | cons f r ih =>
    obtain ⟨k, v⟩ := f
    unfold tins at h; split at h
    · rcases List.mem_cons.1 h with rfl | h
      · exact .inl rfl
      · exact .inr h
    · split at h
      · rcases List.mem_cons.1 h with rfl | h
        · exact .inl rfl
        · exact .inr (List.mem_cons_of_mem _ h)
      · rcases List.mem_cons.1 h with rfl | h
        · exact .inr List.mem_cons_self
        · rcases ih h with rfl | h
          · exact .inl rfl
          · exact .inr (List.mem_cons_of_mem _ h)

theorem twf_cons {d : α} {k : Nat} {v : α} {r : Tbl α} :
    twf d ((k, v) :: r) = true ↔ v ≠ d ∧ (∀ e ∈ r, k < e.1) ∧ twf d r = true := by
  simp [twf, and_assoc]

theorem twf_tdel {d : α} {t : Tbl α} {a : Nat} (h : twf d t = true) : twf d (tdel t a) = true := by
  induction t with
  | nil => rfl
  | cons f r ih =>
    obtain ⟨k, v⟩ := f
    obtain ⟨h1, h2, h3⟩ := twf_cons.1 h
    unfold tdel; split
    · exact ih h3
    · exact twf_cons.2 ⟨h1, fun e he => h2 e (mem_tdel he), ih h3⟩

theorem twf_tins {d : α} {t : Tbl α} {a : Nat} {x : α} (hx : x ≠ d) (h : twf d t = true) : twf d (tins t a x) = true := by
  induction t with
  | nil => simp [tins, twf, hx]
  | cons f r ih =>
    obtain ⟨k, v⟩ := f
    obtain ⟨h1, h2, h3⟩ := twf_cons.1 h
    unfold tins; split
    · rename_i hk
      refine twf_cons.2 ⟨hx, ?_, h⟩
      intro e he
      rcases List.mem_cons.1 he with rfl | he
      · exact hk
      · exact lt_trans hk (h2 e he)
    · split
      · rename_i hk; subst hk; exact twf_cons.2 ⟨hx, h2, h3⟩
      · rename_i h4 h5
        refine twf_cons.2 ⟨h1, ?_, ih h3⟩
        intro e he
        rcases mem_tins he with rfl | he
        · simp only; omega
        · exact h2 e he

/-- A write keeps the canonical form. -/
theorem twf_tset {d : α} {t : Tbl α} {a : Nat} {x : α} (h : twf d t = true) : twf d (tset d t a x) = true := by
  unfold tset; split
  · exact twf_tdel h
  · rename_i hx; exact twf_tins hx h

/-- Dropping entries keeps the canonical form. -/
theorem twf_filter {d : α} {t : Tbl α} (p : Nat × α → Bool) (h : twf d t = true) : twf d (t.filter p) = true := by
  induction t with
  | nil => rfl
  | cons f r ih =>
    obtain ⟨k, v⟩ := f
    obtain ⟨h1, h2, h3⟩ := twf_cons.1 h
    by_cases hp : p (k, v)
    · simp only [List.filter_cons, hp, if_true]
      exact twf_cons.2 ⟨h1, fun e he => h2 e (List.mem_of_mem_filter he), ih h3⟩
    · simp only [List.filter_cons, hp]
      exact ih h3

end Sys2Proof.Machine
end

