-- ==== Sys2Proof/Laws/Memory.lean ====
section
/-! SUPPORT. Memories: every change keeps the canonical form, reading after storing, and burned OTP bits stay burned. -/

namespace Sys2Proof.Machine

theorem twf_putCells {c : List Host.Cell} {a : Nat} {bs : List Byte} (h : twf 0#8 c = true) : twf 0#8 (putCells c a bs) = true := by
  induction bs generalizing c a with
  | nil => simpa [putCells] using h
  | cons b bs ih => exact ih (twf_tset h)

/-- What the canonical form of the memories says, part by part. -/
theorem MemState.wf_iff (m : MemState) : m.wf = true ↔
    twf 0#8 m.dev = true ∧ twf 0#8 m.host = true ∧ twf 0#8 m.course = true ∧ twf 0#8 m.ctl = true ∧ twf 0#8 m.nor = true ∧ twf false m.poison = true := by
  simp [MemState.wf, and_assoc]

theorem MemState.wf_cells {m : MemState} (h : m.wf = true) (sp : Space) : twf 0#8 (m.cells sp) = true := by
  obtain ⟨h1, h2, h3, h4, h5, h6⟩ := m.wf_iff.1 h
  cases sp <;> assumption

theorem MemState.wf_setCells {m : MemState} (h : m.wf = true) (sp : Space) {c : List Host.Cell} (hc : twf 0#8 c = true) : (m.setCells sp c).wf = true := by
  obtain ⟨h1, h2, h3, h4, h5, h6⟩ := m.wf_iff.1 h
  cases sp <;> exact (MemState.wf_iff _).2 (by simp_all [MemState.setCells])

theorem MemState.wf_poison {m : MemState} (h : m.wf = true) {p : List (Nat × Bool)} (hp : twf false p = true) : ({ m with poison := p } : MemState).wf = true := by
  obtain ⟨h1, h2, h3, h4, h5, h6⟩ := m.wf_iff.1 h
  exact (MemState.wf_iff _).2 (by simp_all)

theorem MemState.setCells_poison (m : MemState) (sp : Space) (c : List Host.Cell) : (m.setCells sp c).poison = m.poison := by
  cases sp <;> rfl

/-- One change of memory keeps the canonical form. -/
theorem MemState.wf_apply {m : MemState} (h : m.wf = true) (o : MemOp) : (m.apply o).wf = true := by
  cases o with
  | put sp a bs => exact MemState.wf_setCells h sp (twf_putCells (MemState.wf_cells h sp))
  | clear sp lo hi =>
    have h' := MemState.wf_setCells h sp (twf_filter (fun c => decide (c.1 < lo) || decide (hi ≤ c.1)) (MemState.wf_cells h sp))
    simp only [MemState.apply]
    split
    · exact MemState.wf_poison h' (twf_filter _ ((MemState.wf_iff _).1 h').2.2.2.2.2)
    · exact h'
  | poison a on => exact MemState.wf_poison h (twf_tset ((MemState.wf_iff _).1 h).2.2.2.2.2)

/-- Any changes of memory keep the canonical form. -/
theorem MemState.wf_applyAll {m : MemState} (h : m.wf = true) (os : List MemOp) : (m.applyAll os).wf = true := by
  induction os generalizing m with
  | nil => exact h
  | cons o os ih => exact ih (MemState.wf_apply h o)

/-- A stored byte is read back, or the byte that stood there where none was stored. -/
theorem tget_putCells (c : List Host.Cell) (a : Nat) (bs : List Byte) (x : Nat) :
    tget 0#8 (putCells c a bs) x = if a ≤ x ∧ x < a + bs.length then bs.getD (x - a) 0#8 else tget 0#8 c x := by
  induction bs generalizing c a with
  | nil => simp [putCells]
  | cons b bs ih =>
    simp only [putCells, ih, List.length_cons]
    by_cases h : x = a
    · subst h; simp
    · by_cases h1 : a + 1 ≤ x ∧ x < a + 1 + bs.length
      · rw [if_pos h1, if_pos (by omega)]
        obtain ⟨k, rfl⟩ : ∃ k, x = a + 1 + k := ⟨x - (a + 1), by omega⟩
        have e1 : a + 1 + k - (a + 1) = k := by omega
        have e2 : a + 1 + k - a = k + 1 := by omega
        simp [e1, e2]
      · rw [if_neg h1, if_neg (by omega), tget_tset_ne _ _ _ h]

/-- Bytes that a memory holds as they were stored are read back as they are. -/
theorem Work.bytes_stored (w : Work) (sp : Space) (c : List Host.Cell) (a : Nat) (bs : List Byte) (hm : w.mops = [])
    (hc : w.s0.mem.cells sp = putCells c a bs) : w.bytes sp a bs.length = bs := by
  have key : ∀ n k, k + n = bs.length → w.bytes sp (a + k) n = bs.drop k := by
    intro n
    induction n with
    | zero => intro k h; simp [Work.bytes, List.drop_eq_nil_of_le (show bs.length ≤ k by omega)]
    | succ n ih =>
      intro k h
      have hb : w.byte sp (a + k) = bs.getD k 0#8 := by
        simp only [Work.byte, hm, List.findSome?_nil, MemState.byte, hc, tget_putCells]
        rw [if_pos (by omega)]
        simp
      have hk : k < bs.length := by omega
      rw [Work.bytes, hb, Nat.add_assoc, ih (k + 1) (by omega), List.drop_eq_getElem_cons hk]
      simp [hk]
  simpa using key bs.length 0 (by omega)

/-- Counting a transfer's bytes changes counters only. -/
theorem Work.countBytes_mem (w : Work) (u a n : Nat) (write : Bool) :
    (w.countBytes u a n write).mops = w.mops ∧ (w.countBytes u a n write).s0 = w.s0 := by
  have go : ∀ {α : Type} (l : List α) (f : Work → α → Work), (∀ v k, (f v k).mops = v.mops ∧ (f v k).s0 = v.s0) →
      ∀ v : Work, (l.foldl f v).mops = v.mops ∧ (l.foldl f v).s0 = v.s0 := by
    intro α l f hf
    induction l with
    | nil => exact fun v => ⟨rfl, rfl⟩
    | cons k l ih => exact fun v => ⟨(ih (f v k)).1.trans (hf v k).1, (ih (f v k)).2.trans (hf v k).2⟩
  unfold Work.countBytes
  split
  · exact ⟨rfl, rfl⟩
  · split
    · apply go; intros; exact ⟨rfl, rfl⟩
    · split
      · apply go; intros; exact ⟨rfl, rfl⟩
      · split
        · apply go
          intros
          dsimp only
          split <;> exact ⟨rfl, rfl⟩
        · exact ⟨rfl, rfl⟩

/-- A read of device memory that nothing refuses and no poison meets answers with the bytes as they were stored. -/
theorem Work.readAt_stored (w : Work) (u : Nat) (c : List Host.Cell) (a : Nat) (bs : List Byte) (hr : w.refusal? u a bs.length false = none)
    (hp : (w.countBytes u a bs.length false).meetsPoison a bs.length = false) (hh : inHostWin a 1 = false) (hs : Work.pieces a bs.length = [(a, bs.length)])
    (hst : (w.countBytes u a bs.length false).storage a = a) (hm : w.mops = []) (hc : w.s0.mem.dev = putCells c a bs) :
    (w.readAt u a bs.length).2 = (Config.stOk, bs) := by
  have hm' : (w.countBytes u a bs.length false).mops = [] := by rw [(w.countBytes_mem ..).1, hm]
  have hc' : (w.countBytes u a bs.length false).s0.mem.cells .dev = putCells c a bs := by rw [(w.countBytes_mem ..).2]; exact hc
  simp only [Work.readAt, hr, hp, Work.fetch, hh, hs, hst, List.flatMap_cons, List.flatMap_nil, List.append_nil]
  simp [Work.bytes_stored _ .dev c a bs hm' hc']

/-! ### One-time-programmable rows -/

/-- Burning bits only sets bits. -/
theorem Otp.burnAll_keeps (o : Otp) (bs : List (Nat × Nat)) (row : Nat) :
    Nat.land (tget 0 o.rows row) (tget 0 (o.burnAll bs).rows row) = tget 0 o.rows row := by
  induction bs generalizing o with
  | nil => exact Nat.and_self _
  | cons e bs ih =>
    obtain ⟨r, b⟩ := e
    have h := ih { o with rows := tset 0 o.rows r (Nat.lor (tget 0 o.rows r) b) }
    have k : Nat.land (tget 0 o.rows row) (tget 0 (tset 0 o.rows r (Nat.lor (tget 0 o.rows r) b)) row) = tget 0 o.rows row := by
      by_cases e : row = r
      · subst e
        rw [tget_tset_self]
        apply Nat.eq_of_testBit_eq
        intro i
        change (tget 0 o.rows row &&& (tget 0 o.rows row ||| b)).testBit i = _
        simp only [Nat.testBit_and, Nat.testBit_or]
        cases (tget 0 o.rows row).testBit i <;> simp
      · rw [tget_tset_ne _ _ _ e]; exact Nat.and_self _
    simp only [Otp.burnAll]
    generalize tget 0 (tset 0 o.rows r (Nat.lor (tget 0 o.rows r) b)) row = y at h k
    generalize tget 0 (Otp.burnAll _ bs).rows row = z at h ⊢
    apply Nat.eq_of_testBit_eq
    intro i
    have h' := congrArg (fun v => Nat.testBit v i) h
    have k' := congrArg (fun v => Nat.testBit v i) k
    change (y &&& z).testBit i = y.testBit i at h'
    change (tget 0 o.rows row &&& y).testBit i = _ at k'
    change (tget 0 o.rows row &&& z).testBit i = _
    simp only [Nat.testBit_and] at *
    revert h' k'
    cases (tget 0 o.rows row).testBit i <;> cases y.testBit i <;> cases z.testBit i <;> simp

/-- Burning keeps the rows' canonical form. -/
theorem Otp.burnAll_twf {o : Otp} (h : twf 0 o.rows = true) (bs : List (Nat × Nat)) : twf 0 (o.burnAll bs).rows = true := by
  induction bs generalizing o with
  | nil => exact h
  | cons e bs ih => exact ih (o := { o with rows := _ }) (twf_tset h)

/-- Burning leaves the manufacturing record alone. -/
theorem Otp.burnAll_record (o : Otp) (bs : List (Nat × Nat)) : { o.burnAll bs with rows := o.rows } = o := by
  induction bs generalizing o with
  | nil => rfl
  | cons e bs ih =>
    have h := ih { o with rows := tset 0 o.rows e.1 (Nat.lor (tget 0 o.rows e.1) e.2) }
    obtain ⟨r, b⟩ := e
    simp only [Otp.burnAll]
    have h2 := congrArg (fun x : Otp => ({ x with rows := o.rows } : Otp)) h
    exact h2

end Sys2Proof.Machine
end

