-- ==== Sys2Proof/Laws/Commit.lean ====
section
/-! SUPPORT. What any command can do to the state: every command runs as a change of a working copy, and the one commit keeps the queue, the canonical
forms and the burned OTP bits. -/

namespace Sys2Proof.Machine

@[simp] theorem State.run_pending (s : State) (f : Work → Work) : (s.run f).pending = s.pending := rfl
@[simp] theorem State.run_dev (s : State) (f : Work → Work) : (s.run f).dev = (f (Work.start s)).d := rfl
@[simp] theorem State.run_mem (s : State) (f : Work → Work) : (s.run f).mem = s.mem.applyAll (f (Work.start s)).mops.reverse := rfl
@[simp] theorem State.run_otp (s : State) (f : Work → Work) : (s.run f).otp = s.otp.burnAll (f (Work.start s)).burns.reverse := rfl

/-- Everything a command does is the effect of a change of the working copy. -/
theorem exec_run (i : Instr) (s : State) : ∃ f : Work → Work, exec i s = .next (s.run f) := by
  cases i <;> exact ⟨_, rfl⟩

/-- A command always answers a next state, and what that is: an effect on a working copy, committed. -/
theorem exec_next {i : Instr} {s t : State} (h : exec i s = .next t) : ∃ f : Work → Work, t = s.run f := by
  obtain ⟨f, e⟩ := exec_run i s
  rw [e] at h
  cases h
  exact ⟨f, rfl⟩

/-- A step idles on an empty queue; otherwise the queue loses its front and the rest is an effect on a working copy. -/
theorem step_next {s t : State} (h : step s = .next t) :
    (s.pending = [] ∧ t = s) ∨ ∃ c rest f, s.pending = c :: rest ∧ t = ({ s with pending := rest } : State).run f := by
  unfold step at h
  split at h
  · rename_i e; cases h; exact .inl ⟨e, rfl⟩
  · rename_i c rest e
    obtain ⟨f, hf⟩ := exec_next h
    exact .inr ⟨c, rest, f, e, hf⟩

end Sys2Proof.Machine
end

