-- ==== Sys2Proof/Laws/State.lean ====
section
/-! SUPPORT. What each update of the working copy changes and what it leaves: one lemma per field per update. -/

namespace Sys2Proof.Machine.Work

variable (w : Work)

@[simp] theorem wr_s0 (f : Fld) (v i j : Nat) : (w.wr f v i j).s0 = w.s0 := rfl
@[simp] theorem wr_mops (f : Fld) (v i j : Nat) : (w.wr f v i j).mops = w.mops := rfl
@[simp] theorem wr_burns (f : Fld) (v i j : Nat) : (w.wr f v i j).burns = w.burns := rfl
@[simp] theorem wr_clk (f : Fld) (v i j : Nat) : (w.wr f v i j).d.clk = w.d.clk := rfl
@[simp] theorem wr_locked1 (f : Fld) (v i j : Nat) : (w.wr f v i j).d.locked1 = w.d.locked1 := rfl
@[simp] theorem wr_latches (f : Fld) (v i j : Nat) : (w.wr f v i j).d.latches = w.d.latches := rfl
@[simp] theorem wr_cores (f : Fld) (v i j : Nat) : (w.wr f v i j).d.cores = w.d.cores := rfl
@[simp] theorem wr_retired (f : Fld) (v i j : Nat) : (w.wr f v i j).d.retired = w.d.retired := rfl
@[simp] theorem wr_errHeld (f : Fld) (v i j : Nat) : (w.wr f v i j).d.errHeld = w.d.errHeld := rfl
@[simp] theorem wr_fresh (f : Fld) (v i j : Nat) : (w.wr f v i j).d.fresh = w.d.fresh := rfl
@[simp] theorem wr_tst (f : Fld) (v i j : Nat) : (w.wr f v i j).d.tst = w.d.tst := rfl
@[simp] theorem wr_ldr (f : Fld) (v i j : Nat) : (w.wr f v i j).d.ldr = w.d.ldr := rfl
@[simp] theorem wr_ks (f : Fld) (v i j : Nat) : (w.wr f v i j).d.ks = w.d.ks := rfl
@[simp] theorem wr_hif (f : Fld) (v i j : Nat) : (w.wr f v i j).d.hif = w.d.hif := rfl
@[simp] theorem wr_trc (f : Fld) (v i j : Nat) : (w.wr f v i j).d.trc = w.d.trc := rfl
@[simp] theorem wr_msn (f : Fld) (v i j : Nat) : (w.wr f v i j).d.msn = w.d.msn := rfl
@[simp] theorem wr_saf (f : Fld) (v i j : Nat) : (w.wr f v i j).d.saf = w.d.saf := rfl
@[simp] theorem wr_ing (f : Fld) (v i j : Nat) : (w.wr f v i j).d.ing = w.d.ing := rfl
@[simp] theorem wr_eng (f : Fld) (v i j : Nat) : (w.wr f v i j).d.eng = w.d.eng := rfl
@[simp] theorem wr_isp (f : Fld) (v i j : Nat) : (w.wr f v i j).d.isp = w.d.isp := rfl
@[simp] theorem wr_ash (f : Fld) (v i j : Nat) : (w.wr f v i j).d.ash = w.d.ash := rfl
@[simp] theorem wr_ecc (f : Fld) (v i j : Nat) : (w.wr f v i j).d.ecc = w.d.ecc := rfl
@[simp] theorem wr_ddr (f : Fld) (v i j : Nat) : (w.wr f v i j).d.ddr = w.d.ddr := rfl
@[simp] theorem wr_cpy (f : Fld) (v i j : Nat) : (w.wr f v i j).d.cpy = w.d.cpy := rfl
@[simp] theorem wr_drv (f : Fld) (v i j : Nat) : (w.wr f v i j).d.drv = w.d.drv := rfl
@[simp] theorem wr_pwr (f : Fld) (v i j : Nat) : (w.wr f v i j).d.pwr = w.d.pwr := rfl
@[simp] theorem wr_sec (f : Fld) (v i j : Nat) : (w.wr f v i j).d.sec = w.d.sec := rfl
@[simp] theorem wr_tap (f : Fld) (v i j : Nat) : (w.wr f v i j).d.tap = w.d.tap := rfl
@[simp] theorem wr_balls (f : Fld) (v i j : Nat) : (w.wr f v i j).d.balls = w.d.balls := rfl
@[simp] theorem wr_ring (f : Fld) (v i j : Nat) : (w.wr f v i j).d.ring = w.d.ring := rfl

@[simp] theorem setLdr_s0 (x : Loader) : (w.setLdr x).s0 = w.s0 := rfl
@[simp] theorem setLdr_mops (x : Loader) : (w.setLdr x).mops = w.mops := rfl
@[simp] theorem setLdr_burns (x : Loader) : (w.setLdr x).burns = w.burns := rfl
@[simp] theorem setLdr_clk (x : Loader) : (w.setLdr x).d.clk = w.d.clk := rfl
@[simp] theorem setLdr_regs (x : Loader) : (w.setLdr x).d.regs = w.d.regs := rfl
@[simp] theorem setLdr_locked1 (x : Loader) : (w.setLdr x).d.locked1 = w.d.locked1 := rfl
@[simp] theorem setLdr_latches (x : Loader) : (w.setLdr x).d.latches = w.d.latches := rfl
@[simp] theorem setLdr_cores (x : Loader) : (w.setLdr x).d.cores = w.d.cores := rfl
@[simp] theorem setLdr_retired (x : Loader) : (w.setLdr x).d.retired = w.d.retired := rfl
@[simp] theorem setLdr_errHeld (x : Loader) : (w.setLdr x).d.errHeld = w.d.errHeld := rfl
@[simp] theorem setLdr_fresh (x : Loader) : (w.setLdr x).d.fresh = w.d.fresh := rfl
@[simp] theorem setLdr_tst (x : Loader) : (w.setLdr x).d.tst = w.d.tst := rfl
@[simp] theorem setLdr_ldr (x : Loader) : (w.setLdr x).d.ldr = x := rfl
@[simp] theorem setLdr_ks (x : Loader) : (w.setLdr x).d.ks = w.d.ks := rfl
@[simp] theorem setLdr_hif (x : Loader) : (w.setLdr x).d.hif = w.d.hif := rfl
@[simp] theorem setLdr_trc (x : Loader) : (w.setLdr x).d.trc = w.d.trc := rfl
@[simp] theorem setLdr_msn (x : Loader) : (w.setLdr x).d.msn = w.d.msn := rfl
@[simp] theorem setLdr_saf (x : Loader) : (w.setLdr x).d.saf = w.d.saf := rfl
@[simp] theorem setLdr_ing (x : Loader) : (w.setLdr x).d.ing = w.d.ing := rfl
@[simp] theorem setLdr_eng (x : Loader) : (w.setLdr x).d.eng = w.d.eng := rfl
@[simp] theorem setLdr_isp (x : Loader) : (w.setLdr x).d.isp = w.d.isp := rfl
@[simp] theorem setLdr_ash (x : Loader) : (w.setLdr x).d.ash = w.d.ash := rfl
@[simp] theorem setLdr_ecc (x : Loader) : (w.setLdr x).d.ecc = w.d.ecc := rfl
@[simp] theorem setLdr_ddr (x : Loader) : (w.setLdr x).d.ddr = w.d.ddr := rfl
@[simp] theorem setLdr_cpy (x : Loader) : (w.setLdr x).d.cpy = w.d.cpy := rfl
@[simp] theorem setLdr_drv (x : Loader) : (w.setLdr x).d.drv = w.d.drv := rfl
@[simp] theorem setLdr_pwr (x : Loader) : (w.setLdr x).d.pwr = w.d.pwr := rfl
@[simp] theorem setLdr_sec (x : Loader) : (w.setLdr x).d.sec = w.d.sec := rfl
@[simp] theorem setLdr_tap (x : Loader) : (w.setLdr x).d.tap = w.d.tap := rfl
@[simp] theorem setLdr_balls (x : Loader) : (w.setLdr x).d.balls = w.d.balls := rfl
@[simp] theorem setLdr_ring (x : Loader) : (w.setLdr x).d.ring = w.d.ring := rfl
@[simp] theorem setLdr_rd (x : Loader) (f : Fld) (i j : Nat) : (w.setLdr x).rd f i j = w.rd f i j := rfl

@[simp] theorem setKs_s0 (x : Keystone) : (w.setKs x).s0 = w.s0 := rfl
@[simp] theorem setKs_mops (x : Keystone) : (w.setKs x).mops = w.mops := rfl
@[simp] theorem setKs_burns (x : Keystone) : (w.setKs x).burns = w.burns := rfl
@[simp] theorem setKs_clk (x : Keystone) : (w.setKs x).d.clk = w.d.clk := rfl
@[simp] theorem setKs_regs (x : Keystone) : (w.setKs x).d.regs = w.d.regs := rfl
@[simp] theorem setKs_locked1 (x : Keystone) : (w.setKs x).d.locked1 = w.d.locked1 := rfl
@[simp] theorem setKs_latches (x : Keystone) : (w.setKs x).d.latches = w.d.latches := rfl
@[simp] theorem setKs_cores (x : Keystone) : (w.setKs x).d.cores = w.d.cores := rfl
@[simp] theorem setKs_retired (x : Keystone) : (w.setKs x).d.retired = w.d.retired := rfl
@[simp] theorem setKs_errHeld (x : Keystone) : (w.setKs x).d.errHeld = w.d.errHeld := rfl
@[simp] theorem setKs_fresh (x : Keystone) : (w.setKs x).d.fresh = w.d.fresh := rfl
@[simp] theorem setKs_tst (x : Keystone) : (w.setKs x).d.tst = w.d.tst := rfl
@[simp] theorem setKs_ldr (x : Keystone) : (w.setKs x).d.ldr = w.d.ldr := rfl
@[simp] theorem setKs_ks (x : Keystone) : (w.setKs x).d.ks = x := rfl
@[simp] theorem setKs_hif (x : Keystone) : (w.setKs x).d.hif = w.d.hif := rfl
@[simp] theorem setKs_trc (x : Keystone) : (w.setKs x).d.trc = w.d.trc := rfl
@[simp] theorem setKs_msn (x : Keystone) : (w.setKs x).d.msn = w.d.msn := rfl
@[simp] theorem setKs_saf (x : Keystone) : (w.setKs x).d.saf = w.d.saf := rfl
@[simp] theorem setKs_ing (x : Keystone) : (w.setKs x).d.ing = w.d.ing := rfl
@[simp] theorem setKs_eng (x : Keystone) : (w.setKs x).d.eng = w.d.eng := rfl
@[simp] theorem setKs_isp (x : Keystone) : (w.setKs x).d.isp = w.d.isp := rfl
@[simp] theorem setKs_ash (x : Keystone) : (w.setKs x).d.ash = w.d.ash := rfl
@[simp] theorem setKs_ecc (x : Keystone) : (w.setKs x).d.ecc = w.d.ecc := rfl
@[simp] theorem setKs_ddr (x : Keystone) : (w.setKs x).d.ddr = w.d.ddr := rfl
@[simp] theorem setKs_cpy (x : Keystone) : (w.setKs x).d.cpy = w.d.cpy := rfl
@[simp] theorem setKs_drv (x : Keystone) : (w.setKs x).d.drv = w.d.drv := rfl
@[simp] theorem setKs_pwr (x : Keystone) : (w.setKs x).d.pwr = w.d.pwr := rfl
@[simp] theorem setKs_sec (x : Keystone) : (w.setKs x).d.sec = w.d.sec := rfl
@[simp] theorem setKs_tap (x : Keystone) : (w.setKs x).d.tap = w.d.tap := rfl
@[simp] theorem setKs_balls (x : Keystone) : (w.setKs x).d.balls = w.d.balls := rfl
@[simp] theorem setKs_ring (x : Keystone) : (w.setKs x).d.ring = w.d.ring := rfl
@[simp] theorem setKs_rd (x : Keystone) (f : Fld) (i j : Nat) : (w.setKs x).rd f i j = w.rd f i j := rfl

@[simp] theorem setHif_s0 (x : HostIf) : (w.setHif x).s0 = w.s0 := rfl
@[simp] theorem setHif_mops (x : HostIf) : (w.setHif x).mops = w.mops := rfl
@[simp] theorem setHif_burns (x : HostIf) : (w.setHif x).burns = w.burns := rfl
@[simp] theorem setHif_clk (x : HostIf) : (w.setHif x).d.clk = w.d.clk := rfl
@[simp] theorem setHif_regs (x : HostIf) : (w.setHif x).d.regs = w.d.regs := rfl
@[simp] theorem setHif_locked1 (x : HostIf) : (w.setHif x).d.locked1 = w.d.locked1 := rfl
@[simp] theorem setHif_latches (x : HostIf) : (w.setHif x).d.latches = w.d.latches := rfl
@[simp] theorem setHif_cores (x : HostIf) : (w.setHif x).d.cores = w.d.cores := rfl
@[simp] theorem setHif_retired (x : HostIf) : (w.setHif x).d.retired = w.d.retired := rfl
@[simp] theorem setHif_errHeld (x : HostIf) : (w.setHif x).d.errHeld = w.d.errHeld := rfl
@[simp] theorem setHif_fresh (x : HostIf) : (w.setHif x).d.fresh = w.d.fresh := rfl
@[simp] theorem setHif_tst (x : HostIf) : (w.setHif x).d.tst = w.d.tst := rfl
@[simp] theorem setHif_ldr (x : HostIf) : (w.setHif x).d.ldr = w.d.ldr := rfl
@[simp] theorem setHif_ks (x : HostIf) : (w.setHif x).d.ks = w.d.ks := rfl
@[simp] theorem setHif_hif (x : HostIf) : (w.setHif x).d.hif = x := rfl
@[simp] theorem setHif_trc (x : HostIf) : (w.setHif x).d.trc = w.d.trc := rfl
@[simp] theorem setHif_msn (x : HostIf) : (w.setHif x).d.msn = w.d.msn := rfl
@[simp] theorem setHif_saf (x : HostIf) : (w.setHif x).d.saf = w.d.saf := rfl
@[simp] theorem setHif_ing (x : HostIf) : (w.setHif x).d.ing = w.d.ing := rfl
@[simp] theorem setHif_eng (x : HostIf) : (w.setHif x).d.eng = w.d.eng := rfl
@[simp] theorem setHif_isp (x : HostIf) : (w.setHif x).d.isp = w.d.isp := rfl
@[simp] theorem setHif_ash (x : HostIf) : (w.setHif x).d.ash = w.d.ash := rfl
@[simp] theorem setHif_ecc (x : HostIf) : (w.setHif x).d.ecc = w.d.ecc := rfl
@[simp] theorem setHif_ddr (x : HostIf) : (w.setHif x).d.ddr = w.d.ddr := rfl
@[simp] theorem setHif_cpy (x : HostIf) : (w.setHif x).d.cpy = w.d.cpy := rfl
@[simp] theorem setHif_drv (x : HostIf) : (w.setHif x).d.drv = w.d.drv := rfl
@[simp] theorem setHif_pwr (x : HostIf) : (w.setHif x).d.pwr = w.d.pwr := rfl
@[simp] theorem setHif_sec (x : HostIf) : (w.setHif x).d.sec = w.d.sec := rfl
@[simp] theorem setHif_tap (x : HostIf) : (w.setHif x).d.tap = w.d.tap := rfl
@[simp] theorem setHif_balls (x : HostIf) : (w.setHif x).d.balls = w.d.balls := rfl
@[simp] theorem setHif_ring (x : HostIf) : (w.setHif x).d.ring = w.d.ring := rfl
@[simp] theorem setHif_rd (x : HostIf) (f : Fld) (i j : Nat) : (w.setHif x).rd f i j = w.rd f i j := rfl

@[simp] theorem setMsn_s0 (x : Mason) : (w.setMsn x).s0 = w.s0 := rfl
@[simp] theorem setMsn_mops (x : Mason) : (w.setMsn x).mops = w.mops := rfl
@[simp] theorem setMsn_burns (x : Mason) : (w.setMsn x).burns = w.burns := rfl
@[simp] theorem setMsn_clk (x : Mason) : (w.setMsn x).d.clk = w.d.clk := rfl
@[simp] theorem setMsn_regs (x : Mason) : (w.setMsn x).d.regs = w.d.regs := rfl
@[simp] theorem setMsn_locked1 (x : Mason) : (w.setMsn x).d.locked1 = w.d.locked1 := rfl
@[simp] theorem setMsn_latches (x : Mason) : (w.setMsn x).d.latches = w.d.latches := rfl
@[simp] theorem setMsn_cores (x : Mason) : (w.setMsn x).d.cores = w.d.cores := rfl
@[simp] theorem setMsn_retired (x : Mason) : (w.setMsn x).d.retired = w.d.retired := rfl
@[simp] theorem setMsn_errHeld (x : Mason) : (w.setMsn x).d.errHeld = w.d.errHeld := rfl
@[simp] theorem setMsn_fresh (x : Mason) : (w.setMsn x).d.fresh = w.d.fresh := rfl
@[simp] theorem setMsn_tst (x : Mason) : (w.setMsn x).d.tst = w.d.tst := rfl
@[simp] theorem setMsn_ldr (x : Mason) : (w.setMsn x).d.ldr = w.d.ldr := rfl
@[simp] theorem setMsn_ks (x : Mason) : (w.setMsn x).d.ks = w.d.ks := rfl
@[simp] theorem setMsn_hif (x : Mason) : (w.setMsn x).d.hif = w.d.hif := rfl
@[simp] theorem setMsn_trc (x : Mason) : (w.setMsn x).d.trc = w.d.trc := rfl
@[simp] theorem setMsn_msn (x : Mason) : (w.setMsn x).d.msn = x := rfl
@[simp] theorem setMsn_saf (x : Mason) : (w.setMsn x).d.saf = w.d.saf := rfl
@[simp] theorem setMsn_ing (x : Mason) : (w.setMsn x).d.ing = w.d.ing := rfl
@[simp] theorem setMsn_eng (x : Mason) : (w.setMsn x).d.eng = w.d.eng := rfl
@[simp] theorem setMsn_isp (x : Mason) : (w.setMsn x).d.isp = w.d.isp := rfl
@[simp] theorem setMsn_ash (x : Mason) : (w.setMsn x).d.ash = w.d.ash := rfl
@[simp] theorem setMsn_ecc (x : Mason) : (w.setMsn x).d.ecc = w.d.ecc := rfl
@[simp] theorem setMsn_ddr (x : Mason) : (w.setMsn x).d.ddr = w.d.ddr := rfl
@[simp] theorem setMsn_cpy (x : Mason) : (w.setMsn x).d.cpy = w.d.cpy := rfl
@[simp] theorem setMsn_drv (x : Mason) : (w.setMsn x).d.drv = w.d.drv := rfl
@[simp] theorem setMsn_pwr (x : Mason) : (w.setMsn x).d.pwr = w.d.pwr := rfl
@[simp] theorem setMsn_sec (x : Mason) : (w.setMsn x).d.sec = w.d.sec := rfl
@[simp] theorem setMsn_tap (x : Mason) : (w.setMsn x).d.tap = w.d.tap := rfl
@[simp] theorem setMsn_balls (x : Mason) : (w.setMsn x).d.balls = w.d.balls := rfl
@[simp] theorem setMsn_ring (x : Mason) : (w.setMsn x).d.ring = w.d.ring := rfl
@[simp] theorem setMsn_rd (x : Mason) (f : Fld) (i j : Nat) : (w.setMsn x).rd f i j = w.rd f i j := rfl

@[simp] theorem setSaf_s0 (x : Safety) : (w.setSaf x).s0 = w.s0 := rfl
@[simp] theorem setSaf_mops (x : Safety) : (w.setSaf x).mops = w.mops := rfl
@[simp] theorem setSaf_burns (x : Safety) : (w.setSaf x).burns = w.burns := rfl
@[simp] theorem setSaf_clk (x : Safety) : (w.setSaf x).d.clk = w.d.clk := rfl
@[simp] theorem setSaf_regs (x : Safety) : (w.setSaf x).d.regs = w.d.regs := rfl
@[simp] theorem setSaf_locked1 (x : Safety) : (w.setSaf x).d.locked1 = w.d.locked1 := rfl
@[simp] theorem setSaf_latches (x : Safety) : (w.setSaf x).d.latches = w.d.latches := rfl
@[simp] theorem setSaf_cores (x : Safety) : (w.setSaf x).d.cores = w.d.cores := rfl
@[simp] theorem setSaf_retired (x : Safety) : (w.setSaf x).d.retired = w.d.retired := rfl
@[simp] theorem setSaf_errHeld (x : Safety) : (w.setSaf x).d.errHeld = w.d.errHeld := rfl
@[simp] theorem setSaf_fresh (x : Safety) : (w.setSaf x).d.fresh = w.d.fresh := rfl
@[simp] theorem setSaf_tst (x : Safety) : (w.setSaf x).d.tst = w.d.tst := rfl
@[simp] theorem setSaf_ldr (x : Safety) : (w.setSaf x).d.ldr = w.d.ldr := rfl
@[simp] theorem setSaf_ks (x : Safety) : (w.setSaf x).d.ks = w.d.ks := rfl
@[simp] theorem setSaf_hif (x : Safety) : (w.setSaf x).d.hif = w.d.hif := rfl
@[simp] theorem setSaf_trc (x : Safety) : (w.setSaf x).d.trc = w.d.trc := rfl
@[simp] theorem setSaf_msn (x : Safety) : (w.setSaf x).d.msn = w.d.msn := rfl
@[simp] theorem setSaf_saf (x : Safety) : (w.setSaf x).d.saf = x := rfl
@[simp] theorem setSaf_ing (x : Safety) : (w.setSaf x).d.ing = w.d.ing := rfl
@[simp] theorem setSaf_eng (x : Safety) : (w.setSaf x).d.eng = w.d.eng := rfl
@[simp] theorem setSaf_isp (x : Safety) : (w.setSaf x).d.isp = w.d.isp := rfl
@[simp] theorem setSaf_ash (x : Safety) : (w.setSaf x).d.ash = w.d.ash := rfl
@[simp] theorem setSaf_ecc (x : Safety) : (w.setSaf x).d.ecc = w.d.ecc := rfl
@[simp] theorem setSaf_ddr (x : Safety) : (w.setSaf x).d.ddr = w.d.ddr := rfl
@[simp] theorem setSaf_cpy (x : Safety) : (w.setSaf x).d.cpy = w.d.cpy := rfl
@[simp] theorem setSaf_drv (x : Safety) : (w.setSaf x).d.drv = w.d.drv := rfl
@[simp] theorem setSaf_pwr (x : Safety) : (w.setSaf x).d.pwr = w.d.pwr := rfl
@[simp] theorem setSaf_sec (x : Safety) : (w.setSaf x).d.sec = w.d.sec := rfl
@[simp] theorem setSaf_tap (x : Safety) : (w.setSaf x).d.tap = w.d.tap := rfl
@[simp] theorem setSaf_balls (x : Safety) : (w.setSaf x).d.balls = w.d.balls := rfl
@[simp] theorem setSaf_ring (x : Safety) : (w.setSaf x).d.ring = w.d.ring := rfl
@[simp] theorem setSaf_rd (x : Safety) (f : Fld) (i j : Nat) : (w.setSaf x).rd f i j = w.rd f i j := rfl

@[simp] theorem setPwr_s0 (x : Power) : (w.setPwr x).s0 = w.s0 := rfl
@[simp] theorem setPwr_mops (x : Power) : (w.setPwr x).mops = w.mops := rfl
@[simp] theorem setPwr_burns (x : Power) : (w.setPwr x).burns = w.burns := rfl
@[simp] theorem setPwr_clk (x : Power) : (w.setPwr x).d.clk = w.d.clk := rfl
@[simp] theorem setPwr_regs (x : Power) : (w.setPwr x).d.regs = w.d.regs := rfl
@[simp] theorem setPwr_locked1 (x : Power) : (w.setPwr x).d.locked1 = w.d.locked1 := rfl
@[simp] theorem setPwr_latches (x : Power) : (w.setPwr x).d.latches = w.d.latches := rfl
@[simp] theorem setPwr_cores (x : Power) : (w.setPwr x).d.cores = w.d.cores := rfl
@[simp] theorem setPwr_retired (x : Power) : (w.setPwr x).d.retired = w.d.retired := rfl
@[simp] theorem setPwr_errHeld (x : Power) : (w.setPwr x).d.errHeld = w.d.errHeld := rfl
@[simp] theorem setPwr_fresh (x : Power) : (w.setPwr x).d.fresh = w.d.fresh := rfl
@[simp] theorem setPwr_tst (x : Power) : (w.setPwr x).d.tst = w.d.tst := rfl
@[simp] theorem setPwr_ldr (x : Power) : (w.setPwr x).d.ldr = w.d.ldr := rfl
@[simp] theorem setPwr_ks (x : Power) : (w.setPwr x).d.ks = w.d.ks := rfl
@[simp] theorem setPwr_hif (x : Power) : (w.setPwr x).d.hif = w.d.hif := rfl
@[simp] theorem setPwr_trc (x : Power) : (w.setPwr x).d.trc = w.d.trc := rfl
@[simp] theorem setPwr_msn (x : Power) : (w.setPwr x).d.msn = w.d.msn := rfl
@[simp] theorem setPwr_saf (x : Power) : (w.setPwr x).d.saf = w.d.saf := rfl
@[simp] theorem setPwr_ing (x : Power) : (w.setPwr x).d.ing = w.d.ing := rfl
@[simp] theorem setPwr_eng (x : Power) : (w.setPwr x).d.eng = w.d.eng := rfl
@[simp] theorem setPwr_isp (x : Power) : (w.setPwr x).d.isp = w.d.isp := rfl
@[simp] theorem setPwr_ash (x : Power) : (w.setPwr x).d.ash = w.d.ash := rfl
@[simp] theorem setPwr_ecc (x : Power) : (w.setPwr x).d.ecc = w.d.ecc := rfl
@[simp] theorem setPwr_ddr (x : Power) : (w.setPwr x).d.ddr = w.d.ddr := rfl
@[simp] theorem setPwr_cpy (x : Power) : (w.setPwr x).d.cpy = w.d.cpy := rfl
@[simp] theorem setPwr_drv (x : Power) : (w.setPwr x).d.drv = w.d.drv := rfl
@[simp] theorem setPwr_pwr (x : Power) : (w.setPwr x).d.pwr = x := rfl
@[simp] theorem setPwr_sec (x : Power) : (w.setPwr x).d.sec = w.d.sec := rfl
@[simp] theorem setPwr_tap (x : Power) : (w.setPwr x).d.tap = w.d.tap := rfl
@[simp] theorem setPwr_balls (x : Power) : (w.setPwr x).d.balls = w.d.balls := rfl
@[simp] theorem setPwr_ring (x : Power) : (w.setPwr x).d.ring = w.d.ring := rfl
@[simp] theorem setPwr_rd (x : Power) (f : Fld) (i j : Nat) : (w.setPwr x).rd f i j = w.rd f i j := rfl

@[simp] theorem setDrv_s0 (x : Dravig) : (w.setDrv x).s0 = w.s0 := rfl
@[simp] theorem setDrv_mops (x : Dravig) : (w.setDrv x).mops = w.mops := rfl
@[simp] theorem setDrv_burns (x : Dravig) : (w.setDrv x).burns = w.burns := rfl
@[simp] theorem setDrv_clk (x : Dravig) : (w.setDrv x).d.clk = w.d.clk := rfl
@[simp] theorem setDrv_regs (x : Dravig) : (w.setDrv x).d.regs = w.d.regs := rfl
@[simp] theorem setDrv_locked1 (x : Dravig) : (w.setDrv x).d.locked1 = w.d.locked1 := rfl
@[simp] theorem setDrv_latches (x : Dravig) : (w.setDrv x).d.latches = w.d.latches := rfl
@[simp] theorem setDrv_cores (x : Dravig) : (w.setDrv x).d.cores = w.d.cores := rfl
@[simp] theorem setDrv_retired (x : Dravig) : (w.setDrv x).d.retired = w.d.retired := rfl
@[simp] theorem setDrv_errHeld (x : Dravig) : (w.setDrv x).d.errHeld = w.d.errHeld := rfl
@[simp] theorem setDrv_fresh (x : Dravig) : (w.setDrv x).d.fresh = w.d.fresh := rfl
@[simp] theorem setDrv_tst (x : Dravig) : (w.setDrv x).d.tst = w.d.tst := rfl
@[simp] theorem setDrv_ldr (x : Dravig) : (w.setDrv x).d.ldr = w.d.ldr := rfl
@[simp] theorem setDrv_ks (x : Dravig) : (w.setDrv x).d.ks = w.d.ks := rfl
@[simp] theorem setDrv_hif (x : Dravig) : (w.setDrv x).d.hif = w.d.hif := rfl
@[simp] theorem setDrv_trc (x : Dravig) : (w.setDrv x).d.trc = w.d.trc := rfl
@[simp] theorem setDrv_msn (x : Dravig) : (w.setDrv x).d.msn = w.d.msn := rfl
@[simp] theorem setDrv_saf (x : Dravig) : (w.setDrv x).d.saf = w.d.saf := rfl
@[simp] theorem setDrv_ing (x : Dravig) : (w.setDrv x).d.ing = w.d.ing := rfl
@[simp] theorem setDrv_eng (x : Dravig) : (w.setDrv x).d.eng = w.d.eng := rfl
@[simp] theorem setDrv_isp (x : Dravig) : (w.setDrv x).d.isp = w.d.isp := rfl
@[simp] theorem setDrv_ash (x : Dravig) : (w.setDrv x).d.ash = w.d.ash := rfl
@[simp] theorem setDrv_ecc (x : Dravig) : (w.setDrv x).d.ecc = w.d.ecc := rfl
@[simp] theorem setDrv_ddr (x : Dravig) : (w.setDrv x).d.ddr = w.d.ddr := rfl
@[simp] theorem setDrv_cpy (x : Dravig) : (w.setDrv x).d.cpy = w.d.cpy := rfl
@[simp] theorem setDrv_drv (x : Dravig) : (w.setDrv x).d.drv = x := rfl
@[simp] theorem setDrv_pwr (x : Dravig) : (w.setDrv x).d.pwr = w.d.pwr := rfl
@[simp] theorem setDrv_sec (x : Dravig) : (w.setDrv x).d.sec = w.d.sec := rfl
@[simp] theorem setDrv_tap (x : Dravig) : (w.setDrv x).d.tap = w.d.tap := rfl
@[simp] theorem setDrv_balls (x : Dravig) : (w.setDrv x).d.balls = w.d.balls := rfl
@[simp] theorem setDrv_ring (x : Dravig) : (w.setDrv x).d.ring = w.d.ring := rfl
@[simp] theorem setDrv_rd (x : Dravig) (f : Fld) (i j : Nat) : (w.setDrv x).rd f i j = w.rd f i j := rfl

@[simp] theorem setSec_s0 (x : Sec) : (w.setSec x).s0 = w.s0 := rfl
@[simp] theorem setSec_mops (x : Sec) : (w.setSec x).mops = w.mops := rfl
@[simp] theorem setSec_burns (x : Sec) : (w.setSec x).burns = w.burns := rfl
@[simp] theorem setSec_clk (x : Sec) : (w.setSec x).d.clk = w.d.clk := rfl
@[simp] theorem setSec_regs (x : Sec) : (w.setSec x).d.regs = w.d.regs := rfl
@[simp] theorem setSec_locked1 (x : Sec) : (w.setSec x).d.locked1 = w.d.locked1 := rfl
@[simp] theorem setSec_latches (x : Sec) : (w.setSec x).d.latches = w.d.latches := rfl
@[simp] theorem setSec_cores (x : Sec) : (w.setSec x).d.cores = w.d.cores := rfl
@[simp] theorem setSec_retired (x : Sec) : (w.setSec x).d.retired = w.d.retired := rfl
@[simp] theorem setSec_errHeld (x : Sec) : (w.setSec x).d.errHeld = w.d.errHeld := rfl
@[simp] theorem setSec_fresh (x : Sec) : (w.setSec x).d.fresh = w.d.fresh := rfl
@[simp] theorem setSec_tst (x : Sec) : (w.setSec x).d.tst = w.d.tst := rfl
@[simp] theorem setSec_ldr (x : Sec) : (w.setSec x).d.ldr = w.d.ldr := rfl
@[simp] theorem setSec_ks (x : Sec) : (w.setSec x).d.ks = w.d.ks := rfl
@[simp] theorem setSec_hif (x : Sec) : (w.setSec x).d.hif = w.d.hif := rfl
@[simp] theorem setSec_trc (x : Sec) : (w.setSec x).d.trc = w.d.trc := rfl
@[simp] theorem setSec_msn (x : Sec) : (w.setSec x).d.msn = w.d.msn := rfl
@[simp] theorem setSec_saf (x : Sec) : (w.setSec x).d.saf = w.d.saf := rfl
@[simp] theorem setSec_ing (x : Sec) : (w.setSec x).d.ing = w.d.ing := rfl
@[simp] theorem setSec_eng (x : Sec) : (w.setSec x).d.eng = w.d.eng := rfl
@[simp] theorem setSec_isp (x : Sec) : (w.setSec x).d.isp = w.d.isp := rfl
@[simp] theorem setSec_ash (x : Sec) : (w.setSec x).d.ash = w.d.ash := rfl
@[simp] theorem setSec_ecc (x : Sec) : (w.setSec x).d.ecc = w.d.ecc := rfl
@[simp] theorem setSec_ddr (x : Sec) : (w.setSec x).d.ddr = w.d.ddr := rfl
@[simp] theorem setSec_cpy (x : Sec) : (w.setSec x).d.cpy = w.d.cpy := rfl
@[simp] theorem setSec_drv (x : Sec) : (w.setSec x).d.drv = w.d.drv := rfl
@[simp] theorem setSec_pwr (x : Sec) : (w.setSec x).d.pwr = w.d.pwr := rfl
@[simp] theorem setSec_sec (x : Sec) : (w.setSec x).d.sec = x := rfl
@[simp] theorem setSec_tap (x : Sec) : (w.setSec x).d.tap = w.d.tap := rfl
@[simp] theorem setSec_balls (x : Sec) : (w.setSec x).d.balls = w.d.balls := rfl
@[simp] theorem setSec_ring (x : Sec) : (w.setSec x).d.ring = w.d.ring := rfl
@[simp] theorem setSec_rd (x : Sec) (f : Fld) (i j : Nat) : (w.setSec x).rd f i j = w.rd f i j := rfl

@[simp] theorem setDdr_s0 (x : Ddr) : (w.setDdr x).s0 = w.s0 := rfl
@[simp] theorem setDdr_mops (x : Ddr) : (w.setDdr x).mops = w.mops := rfl
@[simp] theorem setDdr_burns (x : Ddr) : (w.setDdr x).burns = w.burns := rfl
@[simp] theorem setDdr_clk (x : Ddr) : (w.setDdr x).d.clk = w.d.clk := rfl
@[simp] theorem setDdr_regs (x : Ddr) : (w.setDdr x).d.regs = w.d.regs := rfl
@[simp] theorem setDdr_locked1 (x : Ddr) : (w.setDdr x).d.locked1 = w.d.locked1 := rfl
@[simp] theorem setDdr_latches (x : Ddr) : (w.setDdr x).d.latches = w.d.latches := rfl
@[simp] theorem setDdr_cores (x : Ddr) : (w.setDdr x).d.cores = w.d.cores := rfl
@[simp] theorem setDdr_retired (x : Ddr) : (w.setDdr x).d.retired = w.d.retired := rfl
@[simp] theorem setDdr_errHeld (x : Ddr) : (w.setDdr x).d.errHeld = w.d.errHeld := rfl
@[simp] theorem setDdr_fresh (x : Ddr) : (w.setDdr x).d.fresh = w.d.fresh := rfl
@[simp] theorem setDdr_tst (x : Ddr) : (w.setDdr x).d.tst = w.d.tst := rfl
@[simp] theorem setDdr_ldr (x : Ddr) : (w.setDdr x).d.ldr = w.d.ldr := rfl
@[simp] theorem setDdr_ks (x : Ddr) : (w.setDdr x).d.ks = w.d.ks := rfl
@[simp] theorem setDdr_hif (x : Ddr) : (w.setDdr x).d.hif = w.d.hif := rfl
@[simp] theorem setDdr_trc (x : Ddr) : (w.setDdr x).d.trc = w.d.trc := rfl
@[simp] theorem setDdr_msn (x : Ddr) : (w.setDdr x).d.msn = w.d.msn := rfl
@[simp] theorem setDdr_saf (x : Ddr) : (w.setDdr x).d.saf = w.d.saf := rfl
@[simp] theorem setDdr_ing (x : Ddr) : (w.setDdr x).d.ing = w.d.ing := rfl
@[simp] theorem setDdr_eng (x : Ddr) : (w.setDdr x).d.eng = w.d.eng := rfl
@[simp] theorem setDdr_isp (x : Ddr) : (w.setDdr x).d.isp = w.d.isp := rfl
@[simp] theorem setDdr_ash (x : Ddr) : (w.setDdr x).d.ash = w.d.ash := rfl
@[simp] theorem setDdr_ecc (x : Ddr) : (w.setDdr x).d.ecc = w.d.ecc := rfl
@[simp] theorem setDdr_ddr (x : Ddr) : (w.setDdr x).d.ddr = x := rfl
@[simp] theorem setDdr_cpy (x : Ddr) : (w.setDdr x).d.cpy = w.d.cpy := rfl
@[simp] theorem setDdr_drv (x : Ddr) : (w.setDdr x).d.drv = w.d.drv := rfl
@[simp] theorem setDdr_pwr (x : Ddr) : (w.setDdr x).d.pwr = w.d.pwr := rfl
@[simp] theorem setDdr_sec (x : Ddr) : (w.setDdr x).d.sec = w.d.sec := rfl
@[simp] theorem setDdr_tap (x : Ddr) : (w.setDdr x).d.tap = w.d.tap := rfl
@[simp] theorem setDdr_balls (x : Ddr) : (w.setDdr x).d.balls = w.d.balls := rfl
@[simp] theorem setDdr_ring (x : Ddr) : (w.setDdr x).d.ring = w.d.ring := rfl
@[simp] theorem setDdr_rd (x : Ddr) (f : Fld) (i j : Nat) : (w.setDdr x).rd f i j = w.rd f i j := rfl

@[simp] theorem setIng_s0 (x : Ingress) : (w.setIng x).s0 = w.s0 := rfl
@[simp] theorem setIng_mops (x : Ingress) : (w.setIng x).mops = w.mops := rfl
@[simp] theorem setIng_burns (x : Ingress) : (w.setIng x).burns = w.burns := rfl
@[simp] theorem setIng_clk (x : Ingress) : (w.setIng x).d.clk = w.d.clk := rfl
@[simp] theorem setIng_regs (x : Ingress) : (w.setIng x).d.regs = w.d.regs := rfl
@[simp] theorem setIng_locked1 (x : Ingress) : (w.setIng x).d.locked1 = w.d.locked1 := rfl
@[simp] theorem setIng_latches (x : Ingress) : (w.setIng x).d.latches = w.d.latches := rfl
@[simp] theorem setIng_cores (x : Ingress) : (w.setIng x).d.cores = w.d.cores := rfl
@[simp] theorem setIng_retired (x : Ingress) : (w.setIng x).d.retired = w.d.retired := rfl
@[simp] theorem setIng_errHeld (x : Ingress) : (w.setIng x).d.errHeld = w.d.errHeld := rfl
@[simp] theorem setIng_fresh (x : Ingress) : (w.setIng x).d.fresh = w.d.fresh := rfl
@[simp] theorem setIng_tst (x : Ingress) : (w.setIng x).d.tst = w.d.tst := rfl
@[simp] theorem setIng_ldr (x : Ingress) : (w.setIng x).d.ldr = w.d.ldr := rfl
@[simp] theorem setIng_ks (x : Ingress) : (w.setIng x).d.ks = w.d.ks := rfl
@[simp] theorem setIng_hif (x : Ingress) : (w.setIng x).d.hif = w.d.hif := rfl
@[simp] theorem setIng_trc (x : Ingress) : (w.setIng x).d.trc = w.d.trc := rfl
@[simp] theorem setIng_msn (x : Ingress) : (w.setIng x).d.msn = w.d.msn := rfl
@[simp] theorem setIng_saf (x : Ingress) : (w.setIng x).d.saf = w.d.saf := rfl
@[simp] theorem setIng_ing (x : Ingress) : (w.setIng x).d.ing = x := rfl
@[simp] theorem setIng_eng (x : Ingress) : (w.setIng x).d.eng = w.d.eng := rfl
@[simp] theorem setIng_isp (x : Ingress) : (w.setIng x).d.isp = w.d.isp := rfl
@[simp] theorem setIng_ash (x : Ingress) : (w.setIng x).d.ash = w.d.ash := rfl
@[simp] theorem setIng_ecc (x : Ingress) : (w.setIng x).d.ecc = w.d.ecc := rfl
@[simp] theorem setIng_ddr (x : Ingress) : (w.setIng x).d.ddr = w.d.ddr := rfl
@[simp] theorem setIng_cpy (x : Ingress) : (w.setIng x).d.cpy = w.d.cpy := rfl
@[simp] theorem setIng_drv (x : Ingress) : (w.setIng x).d.drv = w.d.drv := rfl
@[simp] theorem setIng_pwr (x : Ingress) : (w.setIng x).d.pwr = w.d.pwr := rfl
@[simp] theorem setIng_sec (x : Ingress) : (w.setIng x).d.sec = w.d.sec := rfl
@[simp] theorem setIng_tap (x : Ingress) : (w.setIng x).d.tap = w.d.tap := rfl
@[simp] theorem setIng_balls (x : Ingress) : (w.setIng x).d.balls = w.d.balls := rfl
@[simp] theorem setIng_ring (x : Ingress) : (w.setIng x).d.ring = w.d.ring := rfl
@[simp] theorem setIng_rd (x : Ingress) (f : Fld) (i j : Nat) : (w.setIng x).rd f i j = w.rd f i j := rfl

@[simp] theorem put_s0 (sp : Space) (a : Nat) (bs : List Byte) : (w.put sp a bs).s0 = w.s0 := by unfold put; split <;> rfl
@[simp] theorem put_burns (sp : Space) (a : Nat) (bs : List Byte) : (w.put sp a bs).burns = w.burns := by unfold put; split <;> rfl
@[simp] theorem put_d (sp : Space) (a : Nat) (bs : List Byte) : (w.put sp a bs).d = w.d := by unfold put; split <;> rfl
@[simp] theorem setPoison_s0 (a : Nat) (on_ : Bool) : (w.setPoison a on_).s0 = w.s0 := rfl
@[simp] theorem setPoison_burns (a : Nat) (on_ : Bool) : (w.setPoison a on_).burns = w.burns := rfl
@[simp] theorem setPoison_d (a : Nat) (on_ : Bool) : (w.setPoison a on_).d = w.d := rfl
@[simp] theorem burn_s0 (row v : Nat) : (w.burn row v).s0 = w.s0 := rfl
@[simp] theorem burn_mops (row v : Nat) : (w.burn row v).mops = w.mops := rfl
@[simp] theorem burn_d (row v : Nat) : (w.burn row v).d = w.d := rfl

/-! ### One entry of a table -/

@[simp] theorem setQueue_queue (q : Nat) (x : Queue) : (w.setQueue q x).queue q = x := tget_tset_self _ _ _ _
@[simp] theorem setQueue_rd (q : Nat) (x : Queue) (f : Fld) (i j : Nat) : (w.setQueue q x).rd f i j = w.rd f i j := rfl
theorem setQueue_queue_ne {p q : Nat} (x : Queue) (h : p ≠ q) : (w.setQueue q x).queue p = w.queue p := tget_tset_ne _ _ _ h
@[simp] theorem setDport_dport (p : Nat) (x : DPort) : (w.setDport p x).dport p = x := tget_tset_self _ _ _ _
@[simp] theorem setDport_rd (p : Nat) (x : DPort) (f : Fld) (i j : Nat) : (w.setDport p x).rd f i j = w.rd f i j := rfl
@[simp] theorem setDom_dom (d : Nat) (x : DomSt) : (w.setDom d x).dom d = x := tget_tset_self _ _ _ _
theorem setDom_dom_ne {d e : Nat} (x : DomSt) (h : e ≠ d) : (w.setDom d x).dom e = w.dom e := tget_tset_ne _ _ _ h
@[simp] theorem setDom_rd (d : Nat) (x : DomSt) (f : Fld) (i j : Nat) : (w.setDom d x).rd f i j = w.rd f i j := rfl
@[simp] theorem setCore_core (c : Nat) (k : CoreSt) : (w.setCore c k).core c = k := tget_tset_self _ _ _ _
@[simp] theorem setCore_rd (c : Nat) (k : CoreSt) (f : Fld) (i j : Nat) : (w.setCore c k).rd f i j = w.rd f i j := rfl
@[simp] theorem setCtxIn_ctxIn (c : Nat) (x : CtxIn) : (w.setCtxIn c x).ctxIn c = x := tget_tset_self _ _ _ _
@[simp] theorem setCtxIn_rd (c : Nat) (x : CtxIn) (f : Fld) (i j : Nat) : (w.setCtxIn c x).rd f i j = w.rd f i j := rfl
@[simp] theorem setSnd_rd (s : Nat) (x : Sounding) (f : Fld) (i j : Nat) : (w.setSnd s x).rd f i j = w.rd f i j := rfl

/-! ### Registers -/

/-- A field copy reads back what was written, cut to its width. -/
@[simp] theorem rd_wr_self (f : Fld) (v i j : Nat) : (w.wr f v i j).rd f i j = low f.wid v := by simp [rd, wr]

/-- A write leaves every other field copy alone. -/
theorem rd_wr_ne {f g : Fld} {v i j k l : Nat} (h : g.key k l ≠ f.key i j) : (w.wr f v i j).rd g k l = w.rd g k l := by
  exact tget_tset_ne _ _ _ h

/-- Counting an event reads back one more, modulo the width. -/
@[simp] theorem rd_inc_self (f : Fld) (i j : Nat) : (w.inc f i j).rd f i j = low f.wid (w.rd f i j + 1) := by simp [inc, add]

theorem inc_wr (f : Fld) (i j : Nat) : w.inc f i j = w.wr f (w.rd f i j + 1) i j := rfl

/-- With no instance, no open context, no retirement asked for and no trace record accepted, a command's end only restarts idle timers. -/
theorem settle_quiet (h0 : w.d.ks.runs = []) (h1 : w.d.ing.ctxs = []) (h2 : w.d.saf.retireAsk = []) (h3 : w.d.trc.queue = []) :
    w.settle = w.idleTimers := by
  simp [settle, settleEmits, h0, expirePartners, h1, retireAsked, h2, traceDrain, h3]

/-- A command of a clocked domain, on a device that runs, has its own effect. -/
theorem whileClocked_run {w : Work} (f : Work → Work) (h1 : w.on Reg.PWR_TRIPPED = false) (h2 : w.d.pwr.refStopped = false) :
    w.whileClocked f = (f w).settle := by
  simp [whileClocked, whileOn, h1, h2]

/-- A command of domains 0 and 12, while REFCLK25 runs, has its own effect. -/
theorem whileOn_run {w : Work} (f : Work → Work) (h2 : w.d.pwr.refStopped = false) : w.whileOn f = (f w).settle := by
  simp [whileOn, h2]

end Sys2Proof.Machine.Work
end

