-- ==== Sys2Proof/Laws/Effects.lean ====
section
/-! SUPPORT. How a command on a running device comes down to its own effect, and the frame of a chain of register writes. -/

namespace Sys2Proof.Machine

@[simp] theorem start_d (s : State) : (Work.start s).d = s.dev := rfl

/-- A query of a state's register field is one of the working copy that starts from it. -/
@[simp] theorem rd_eq (s : State) (f : Fld) (i j : Nat) : s.rd f i j = (Work.start s).rd f i j := rfl

theorem Runs.tripped {s : State} (h : Runs s) : (Work.start s).on Reg.PWR_TRIPPED = false := by
  simpa [Work.on, State.rd] using h.2

theorem Runs.refStopped {s : State} (h : Runs s) : (Work.start s).d.pwr.refStopped = false := h.1

/-- A fold whose every step leaves its value leaves it. -/
theorem foldl_fixed {α β : Type} {f : β → α → β} {b : β} {l : List α} (h : ∀ a ∈ l, f b a = b) : l.foldl f b = b := by
  induction l with
  | nil => rfl
  | cons a l ih => rw [List.foldl_cons, h a (by simp), ih fun x hx => h x (by simp [hx])]

/-- Two effects that agree on the working copy give one state. -/
theorem State.run_congr {s : State} {f g : Work → Work} (h : f (Work.start s) = g (Work.start s)) : s.run f = s.run g := by
  simp only [State.run, h]

/-- On a running device a command of any domain has its own effect, with what its end leaves to do. -/
theorem State.act_runs {s : State} (h : Runs s) (f : Work → Work) : s.act f = s.run fun w => (f w).settle :=
  State.run_congr (by simp only [Work.whileClocked, Work.whileOn, h.tripped, h.refStopped]; rfl)

theorem State.actOn_runs {s : State} (h : s.dev.pwr.refStopped = false) (f : Work → Work) : s.actOn f = s.run fun w => (f w).settle :=
  State.run_congr (by
    have h' : (Work.start s).d.pwr.refStopped = false := h
    simp only [Work.whileOn, h']; rfl)

/-- A command given by act does what its effect comes down to. -/
theorem does_act {i : Instr} {s : State} {f g : Work → Work} (h : Runs s) (e : exec i s = .next (s.act f))
    (k : f (Work.start s) = g (Work.start s)) : Does i s g := by
  rw [Does, e, State.act_runs h]
  exact congrArg Host.Outcome.next (State.run_congr (by simp only [k]))

/-- The same for a command of domains 0 and 12. -/
theorem does_actOn {i : Instr} {s : State} {f g : Work → Work} (h : s.dev.pwr.refStopped = false) (e : exec i s = .next (s.actOn f))
    (k : f (Work.start s) = g (Work.start s)) : Does i s g := by
  rw [Does, e, State.actOn_runs h]
  exact congrArg Host.Outcome.next (State.run_congr (by simp only [k]))

/-- One register write changes only that field copy. -/
theorem onlyRegs_wr (s : State) (f : Fld) (v i j : Nat) : OnlyRegs [f.key i j] s (s.run fun w => w.wr f v i j) :=
  ⟨rfl, fun _ => rfl, fun g k l h => Work.rd_wr_ne (Work.start s) (by simpa using h)⟩

/-- Committing no change gives the state back. -/
@[simp] theorem State.run_self (s : State) : s.run (fun w => w) = s := by cases s; rfl

/-- Nothing changed is within any frame. -/
theorem onlyRegs_self (ks : List Nat) (s : State) : OnlyRegs ks s (s.run fun w => w) := by
  rw [State.run_self]; exact ⟨rfl, fun _ => rfl, fun _ _ _ _ => rfl⟩

/-- Two register writes change only their two field copies. -/
theorem onlyRegs_wr_wr (s : State) (f g : Fld) (v u i j k l : Nat) :
    OnlyRegs [f.key i j, g.key k l] s (s.run fun w => (w.wr f v i j).wr g u k l) := by
  refine ⟨rfl, fun _ => rfl, fun h a b hk => ?_⟩
  simp only [List.mem_cons, not_or, List.not_mem_nil, not_false_eq_true, and_true] at hk
  show ((State.w s |>.wr f v i j).wr g u k l).rd h a b = _
  rw [Work.rd_wr_ne _ hk.2, Work.rd_wr_ne _ hk.1]; rfl

/-- A frame over fewer registers is one over more. -/
theorem OnlyRegs.mono {ks ls : List Nat} {s t : State} (h : OnlyRegs ks s t) (e : ∀ k ∈ ks, k ∈ ls) : OnlyRegs ls s t :=
  ⟨h.1, h.2.1, fun f i j n => h.2.2 f i j fun m => n (e _ m)⟩

/-- What a command's end leaves to do on a settled device: the idle timers of domains at work restart, and nothing else happens. -/
theorem Work.settle_settled {w : Work} (h1 : w.d.saf.retireAsk = []) (h2 : w.d.trc.queue = [])
    (h3 : ∀ r ∈ w.d.ks.runs, ∀ n ∈ r.handed,
      r.emitted.contains n = true ∨ w.d.hif.queues.any (fun q => q.2.buf.any (fun e => e.owner == some (r.id, n))) = true)
    (h4 : ∀ e ∈ w.d.ing.ctxs, e.2.loose = [] ∧ ∀ f ∈ e.2.frame, f.run ≠ 0 ∨ f.discard = true) :
    w.settle = w.idleTimers := by
  have e1 : w.settleEmits = w := by
    refine foldl_fixed fun r hr => ?_
    rw [List.filter_eq_nil_iff.mpr (fun n hn => ?_)]
    · rfl
    · rcases h3 r hr n hn with h | h <;> simp only [h] <;> simp
  have e2 : w.expirePartners = w := by
    refine foldl_fixed fun c hc => ?_
    have hm : (w.ctxIn c).loose = [] ∧ ∀ f ∈ (w.ctxIn c).frame, f.run ≠ 0 ∨ f.discard = true := by
      obtain ⟨e, he, rfl⟩ := List.mem_map.mp hc
      exact tget_mem_of (P := fun x => x.loose = [] ∧ ∀ f ∈ x.frame, f.run ≠ 0 ∨ f.discard = true) _ h4 e.1 ⟨e, he, rfl⟩
    simp only [hm.1, List.foldl_nil]
    split
    · rename_i f hf
      rw [if_pos]
      rcases hm.2 f hf with h | h
      · exact .inl h
      · exact .inr (.inl h)
    · rfl
  simp only [Work.settle, e1, e2, Work.retireAsked, h1, Work.traceDrain, h2]

/-- The idle timers change nothing but the time from which a domain at work would be idle. -/
theorem Work.idleTimers_frame (w : Work) :
    w.idleTimers = { w with d := { w.d with pwr := { w.d.pwr with doms := w.idleTimers.d.pwr.doms } } } ∧
      ∀ d, w.idleTimers.dom d = { w.dom d with idleFrom := (w.idleTimers.dom d).idleFrom } := by
  unfold Work.idleTimers
  induction (List.range 15).drop 1 generalizing w with
  | nil => exact ⟨rfl, fun _ => rfl⟩
  | cons d l ih =>
    rw [List.foldl_cons]
    split
    · exact ih w
    · obtain ⟨h1, h2⟩ := ih (w.setDom d { w.dom d with idleFrom := w.now })
      refine ⟨h1, fun e => (h2 e).trans ?_⟩
      by_cases he : e = d
      · subst he; rw [Work.setDom_dom]
      · rw [Work.setDom_dom_ne w _ he]

/-- A command that on a settled device changes registers alone is within the frame of the registers it changes. -/
theorem onlyRegs_settle {s : State} {ks : List Nat} {g : Work → Work} (hs : Settled s)
    (h : g (Work.start s) = { Work.start s with d := { s.dev with regs := (g (Work.start s)).d.regs } })
    (hr : ∀ (f : Fld) (i j : Nat), f.key i j ∉ ks → (g (Work.start s)).rd f i j = s.rd f i j) : OnlyRegs ks s (s.run fun w => (g w).settle) := by
  obtain ⟨h1, h2, h3, h4⟩ := hs
  show OnlyRegs ks s (s.commit (g (Work.start s)).settle)
  generalize g (Work.start s) = w at h hr ⊢
  obtain ⟨r, rfl⟩ : ∃ r, w = { Work.start s with d := { s.dev with regs := r } } := ⟨_, h⟩
  obtain ⟨f1, f2⟩ := Work.idleTimers_frame { Work.start s with d := { s.dev with regs := r } }
  rw [Work.settle_settled (w := { Work.start s with d := { s.dev with regs := r } }) h1 h2 h3 h4]
  generalize Work.idleTimers { Work.start s with d := { s.dev with regs := r } } = v at f1 f2 ⊢
  obtain ⟨ds, rfl⟩ : ∃ ds, v = { Work.start s with d := { s.dev with regs := r, pwr := { s.dev.pwr with doms := ds } } } := ⟨_, f1⟩
  exact ⟨rfl, f2, hr⟩

/-- A write by a requester that may write there reaches the register. -/
theorem asWriter_writable {s : State} {req : Requester} {off : Nat} (h : Writable s req off) (f : Work → Work) :
    (Work.start s).asWriter (unitOf req) off f = f (Work.start s) := by
  obtain ⟨h1, h2, h3⟩ := h
  simp only [State.w] at h1 h3
  simp [Work.asWriter, h1, h2, h3]

end Sys2Proof.Machine
end

