-- ==== Sys2Proof/Laws/Jobs.lean ====
section
/-! SUPPORT. A job given to an idle queue starts at once: what its submission then comes down to. -/

namespace Sys2Proof.Machine

open Config Work

/-- A submission whose job starts at once is its entry's place in the queue's buffer and the job's own start. -/
theorem submit_starts {s : State} {h : JobHead} {op : Nat} {pl : List Nat} (H : JobStarts s h op pl) :
    (start s).submit h op pl = (startEntry (start s) h op pl).startJob (jobRef h op) ((start s).entryWords16 h op pl) := by
  obtain ⟨_, h1, h2, h3, h4, h5, h6⟩ := H
  simp only [State.w, rd_eq] at *
  have hq : ∀ (w : Work) (x : Queue), (w.setQueue h.q x).queue h.q = x := fun w x => tget_tset_self _ _ _ _
  simp only [submit]
  rw [if_neg (by rw [h1, h2]; simp)]
  simp only [h4, if_true, h2, List.nil_append]
  have hw : ∀ x, ((start s).setQueue h.q x).rd Reg.Q_STATE h.q = (start s).rd Reg.Q_STATE h.q := fun _ => rfl
  generalize he : checkedEntry (start s) h op pl = e
  have he' : (⟨false, ⟨h.q, low 32 h.tag, op, h.noIrq⟩, (start s).entryWords16 h op pl, (start s).rd Reg.Q_SQ_HEAD h.q, .checked, stOk, 0, false, false, none, false⟩ : BufEnt) = e := by
    rw [← he]; rfl
  have e1 : e.emit = false := by rw [← he]; rfl
  have e2 : e.st = .checked := by rw [← he]; rfl
  have e3 : e.job = jobRef h op := by rw [← he]; rfl
  have e4 : e.words = (start s).entryWords16 h op pl := by rw [← he]; rfl
  have e5 : e.job.op = op := by rw [e3]; rfl
  simp only [he']
  have ef : ∀ x, ((start s).setQueue h.q x).d.hif.fences = s.dev.hif.fences := fun _ => rfl
  have ea : ((start s).setQueue h.q { (start s).queue h.q with buf := [e] }).accepts h.q 0 e = true := by
    unfold accepts
    rw [e5]
    split
    · exact h5 rfl
    · have := h6 (Or.inl rfl); show (s.dev.ldr.run.isNone && s.dev.ldr.queue.isEmpty) = true; simp [this]
    · have := h6 (Or.inr rfl); show (s.dev.ldr.run.isNone && s.dev.ldr.queue.isEmpty) = true; simp [this]
    · simp
    · rfl
  have hn : ((start s).setQueue h.q { (start s).queue h.q with buf := [e] }).nextJob h.q = some (0, e) := by
    unfold nextJob
    rw [ef, h3, hq]
    simp [e1, e2]
  unfold jobStart
  rw [if_neg (by rw [hw]; exact not_not.mpr h1), hn]
  simp [ea, hq, e3, e4, startEntry, he]

end Sys2Proof.Machine
end

