-- ==== Sys2Proof/WellFormed.lean ====
section
/-! DEFINITION. Well-formed commands: every operand within the bits its field or packet gives it. -/

namespace Sys2Proof

/-- A queue ID and a JOB_TAG in range (R346, R353). -/
def JobHead.wf (h : JobHead) : Bool := decide (h.q < 8192) && decide (h.tag < 2 ^ 32)

/-- Device IDs of 12 bits and a PSEQ of 16 (R389). -/
def DrvHead.wf (h : DrvHead) : Bool := decide (h.dest < 4096) && decide (h.src < 4096) && decide (h.pseq < 65536)

/-- The fields of a Mason command in their widths (R333). -/
def MsnCmd.wf (a : MsnCmd) : Bool := decide (a.target < 65536) && decide (a.prio < 64) && decide (a.affinity < 16) && decide (a.rsv < 2 ^ 32) && decide (a.arg < 2 ^ 64)

/-- A packet's number, data type and word count in range (R105). -/
def CsiPacket.wf : CsiPacket → Bool
  | .frameStart n => decide (n < 65536)
  | .frameEnd n => decide (n < 65536)
  | .lineStart n => decide (n < 65536)
  | .lineEnd n => decide (n < 65536)
  | .generic => true
  | .long dt payload _ => decide (0x10 ≤ dt) && decide (dt < 64) && decide (payload.length < 65536)

/-- Is the command well formed? -/
def Instr.wf : Instr → Bool
  | .registerWrite _ _ n data => decide (1 ≤ n.val) && decide (data.toNat < 2 ^ (8 * n.val))
  | .bitstreamRegion h _ _ => h.wf
  | .bitstreamStaged _ => true
  | .signatureVerified => true
  | .modelImageChecked _ => true
  | .modelLoad h _ => h.wf
  | .graphRunBind h _ _ => h.wf
  | .graphRunTrigger h _ _ => h.wf
  | .graphRunUnbind h _ _ => h.wf
  | .frameStartPacket _ _ _ => true
  | .instantiate => true
  | .instantiationDone => true
  | .longPacket _ _ dt payload _ => decide (0x10 ≤ dt.val) && decide (payload.length < 65536)
  | .lineStartPacket _ _ _ _ => true
  | .frameEndPacket _ _ _ => true
  | .genericShortPacket _ _ => true
  | .headerEcc _ fix => (match fix with
    | .discarded => true
    | .corrected _ k => k.wf)
  | .eofTimeout _ => true
  | .portEnable _ _ => true
  | .portDisable _ _ => true
  | .portLocked _ _ => true
  | .lockFail _ => true
  | .paramSet h _ => h.wf
  | .replayTailWrite _ _ _ => true
  | .replayDescriptorFetch _ => true
  | .replayFrameStart _ => true
  | .replayLineDue _ _ => true
  | .ingI3cCmd _ _ _ => true
  | .i3cTransferDone _ _ data => decide (data.length ≤ 256)
  | .i3cIbi _ => true
  | .ingI3cRdata _ _ => true
  | .fsyncEdge _ => true
  | .fsyncPulseEnd _ => true
  | .ksFlagSignal _ _ _ _ => true
  | .flagSignalApply _ _ _ => true
  | .nodeDispatch _ => true
  | .nodeComplete _ _ => true
  | .waitTimeout _ _ => true
  | .timeoutFillDone _ _ => true
  | .ledgerPoint _ => true
  | .hostEmitPost _ _ => true
  | .instanceComplete _ => true
  | .sealZeroDone _ => true
  | .plumbTileRowReduced _ => true
  | .plumbSelectionDone _ => true
  | .gatedTileLaunch _ _ => true
  | .seamOutputDone _ => true
  | .ispStripeStart _ => true
  | .ispStripeEnd _ _ _ => true
  | .stereoLevelDone _ => true
  | .stereoTileRowDone _ => true
  | .stereoRefineDone _ => true
  | .stereoGatedTileDone _ => true
  | .flowLevelDone _ => true
  | .flowTileRowDone _ => true
  | .flowRefineDone _ => true
  | .flowGatedTileDone _ => true
  | .featurePhaseDone _ => true
  | .pyramidLevelPublished _ => true
  | .warpTileDone _ => true
  | .warpBlockFetched _ => true
  | .taskLaunch _ => true
  | .launchCopyDone _ => true
  | .tileOpComplete _ _ _ => true
  | .matmul _ => true
  | .convolve _ => true
  | .accLoad _ => true
  | .accStore _ => true
  | .accZero _ => true
  | .vadd _ => true
  | .vsub _ => true
  | .vmul _ => true
  | .vmac _ => true
  | .vmax _ => true
  | .vmin _ => true
  | .vabs _ => true
  | .vcvt _ => true
  | .vlut _ => true
  | .vexp _ => true
  | .vrcp _ => true
  | .vrsqrt _ => true
  | .vredsum _ => true
  | .vredmax _ => true
  | .vsmx _ => true
  | .vnorm _ => true
  | .vstat _ => true
  | .load _ _ => true
  | .store _ => true
  | .loadBcast _ => true
  | .broadcastTransferStart _ => true
  | .rdstride _ => true
  | .rdtrans _ => true
  | .remoteWrite _ => true
  | .remoteRead _ => true
  | .waitFlag _ => true
  | .signalFlag _ => true
  | .fence _ => true
  | .tileLoop _ => true
  | .endloop _ => true
  | .branch _ => true
  | .tileEnd _ => true
  | .nop _ => true
  | .setRound _ => true
  | .setScale _ => true
  | .setSparse _ => true
  | .setLut _ => true
  | .waitLimitExpiry _ => true
  | .patrolScrub _ fixed _ => decide (fixed < 2 ^ 32)
  | .copyJob h count _ => h.wf && decide (1 ≤ count.val)
  | .copyChainStart _ => true
  | .copyChainComplete _ => true
  | .msnEventAccept => true
  | .msnEventRemove => true
  | .threadReady _ => true
  | .create _ a => a.wf
  | .exit _ a => a.wf
  | .yield _ a => a.wf
  | .wait _ a => a.wf
  | .sleepUntil _ a => a.wf
  | .signal _ a => a.wf
  | .setPrio _ a => a.wf
  | .setAffinity _ a => a.wf
  | .suspend _ a => a.wf
  | .resume _ a => a.wf
  | .bind _ a => a.wf
  | .msnWaitFlag _ a => a.wf
  | .kill _ a => a.wf
  | .prefetchLoadDone _ _ => true
  | .contextSaveDone _ => true
  | .msnTick => true
  | .delayExpiry => true
  | .quantumExpiry _ => true
  | .pairDrain _ _ => true
  | .pairReturn _ _ => true
  | .lockstepMismatch _ => true
  | .ksMsnHostSignal _ _ _ => true
  | .submissionDoorbell _ _ => true
  | .completionDoorbell _ _ => true
  | .fetchGrant => true
  | .entryFetched _ _ => true
  | .jobStart _ => true
  | .completionPost _ => true
  | .cqStallTimeout _ => true
  | .queueResume _ _ => true
  | .createQueue h _ => h.wf
  | .deleteQueue h _ => h.wf
  | .deleteQueueDone _ => true
  | .fenceSignal h _ _ => h.wf
  | .fenceWait h _ _ _ => h.wf
  | .fenceWaitTimeout _ => true
  | .qeFenceWrite _ _ _ => true
  | .hostIfNegotiate _ _ _ => true
  | .aqEnable _ _ => true
  | .bar2Read _ n => decide (1 ≤ n.toNat)
  | .bar2Write _ data _ => decide (1 ≤ data.length) && decide (data.length ≤ 4096)
  | .malformedTlp _ _ => true
  | .completionTimeout _ => true
  | .ptmRequest => true
  | .ptmResponse _ => true
  | .errRingBaseWrite _ _ => true
  | .attest h _ _ _ => h.wf
  | .otpRecordRead h _ _ _ => h.wf
  | .counterSnap h _ _ => h.wf
  | .snapCapture _ => true
  | .snapComplete _ => true
  | .unitReset _ job => (match job with
    | some h => h.wf
    | none => true)
  | .unitResetRelease _ => true
  | .hotReset => true
  | .flr => true
  | .d3hotEntry => true
  | .d0Return => true
  | .mr4Poll _ _ _ => true
  | .refresh _ _ => true
  | .dqsTracking _ drift => decide (drift < 65536)
  | .retrainIntervalExpiry _ => true
  | .retrainNow _ _ => true
  | .evacuationStart => true
  | .evacStripeSwitch => true
  | .channelTrainingDone => true
  | .drvPortEnable _ _ => true
  | .linkTrainingStepDone _ lanes _ => decide (lanes ≤ 8)
  | .linkDown _ => true
  | .flitReceive _ flit => flit.length == 256
  | .replayTimeout _ => true
  | .windowWrite _ h _ generation tag offset payload => h.wf && decide (generation < 65536) && decide (tag < 65536) && decide (offset < 2 ^ 32) && decide (payload.length ≤ 256)
  | .windowRead _ h _ generation tag offset length => h.wf && decide (generation < 65536) && decide (tag < 65536) && decide (offset < 2 ^ 32) && decide (length ≤ 256)
  | .readData _ h tag payload => h.wf && decide (tag < 65536) && decide (payload.length ≤ 256)
  | .flagSignal _ h _ generation tag increment => h.wf && decide (generation < 65536) && decide (tag < 65536) && decide (increment < 2 ^ 32)
  | .answer _ h tag status _ => h.wf && decide (tag < 65536) && decide (status < 256)
  | .answerTimeout _ => true
  | .hello _ id x y port _ => decide (id < 4096) && decide (x < 32) && decide (y < 32) && decide (port < 4)
  | .genNotice _ h n => h.wf && (match n with
    | .window win gen _ => decide (win < 64) && decide (gen < 65536)
    | .flag f gen => decide (f < 16384) && decide (gen < 65536))
  | .resync _ h _ => h.wf
  | .message _ h payload => h.wf && decide (payload.length ≤ 256)
  | .timeSync _ _ _ _ _ => true
  | .timeSyncSend => true
  | .badPacket _ _ => true
  | .windowOpen _ _ => true
  | .windowClose _ _ => true
  | .windowDrained _ => true
  | .wakeOrderedSet _ => true
  | .levelRequest _ _ => true
  | .avsFrameDone _ reply => (match reply with
    | .voltage mv => decide (mv < 65536)
    | .current da => decide (da < 65536)
    | .status word _ => decide (word < 65536)
    | _ => true)
  | .avsRetry _ => true
  | .slewDone _ => true
  | .powerSample _ => true
  | .thermalSample sensors => sensors.toList.all (fun x => decide (-2048 ≤ x.1) && decide (x.1 < 2048))
  | .throttleTick => true
  | .throttleRelaxTick => true
  | .domainIdleExpiry _ _ => true
  | .domainDrained _ => true
  | .drainTimeout _ _ => true
  | .domainS2Entered _ => true
  | .domainWake _ => true
  | .domainWakeDone _ => true
  | .s3Entry => true
  | .s3EntryDone => true
  | .wakeSource _ => true
  | .tbAlarm => true
  | .s3ExitDone => true
  | .powerOnReset => true
  | .perstN => true
  | .railFault _ words => words.all (fun a => a.toNat % 8 == 0)
  | .refclkStop => true
  | .pwrWdtKick _ => true
  | .watchdogExpiry => true
  | .chipResetRequest _ _ _ => true
  | .chipReset => true
  | .pllLock => true
  | .errorInjectionDone passed fail => decide (passed < 2 ^ 32) && (match fail with
    | some (u, row) => decide (u < 256) && decide (row < 256)
    | none => true)
  | .pcieLinkUp => true
  | .lpddrTrainingDone failed => failed.all (fun ch => decide (ch < 32))
  | .firmwareFetched _ => true
  | .firmwareVerified => true
  | .bootBitstreamFetched _ => true
  | .imgBoot _ => true
  | .stageUpdate _ => true
  | .handOver _ => true
  | .pairHandoverDone => true
  | .handoverTimeout _ => true
  | .programNor _ => true
  | .enrollKey _ => true
  | .revokeKey _ => true
  | .rollbackSet _ => true
  | .obWrite _ => true
  | .debugLock _ => true
  | .profileLock _ => true
  | .modelKeyLoad _ => true
  | .modelKeyClear _ => true
  | .changeRecordBurned => true
  | .getVersion => true
  | .getCapabilities => true
  | .negotiateAlgorithms => true
  | .getDigests => true
  | .getCertificate _ _ _ => true
  | .challenge _ _ => true
  | .getMeasurements _ _ _ _ => true
  | .unsupportedRequest => true
  | .debugChallenge _ => true
  | .debugUnlock _ => true
  | .soundingDue _ => true
  | .soundingStart _ => true
  | .soundingResult _ _ => true
  | .soundingOverrun _ => true
  | .safForceSound _ _ => true
  | .soundingSetReady set _ => decide (set.length ≤ 0x600000)
  | .pairRetestDone _ _ => true
  | .heartbeatToggle => true
  | .heartbeatExpiry => true
  | .recoveryBoundExpiry _ => true
  | .cntTraceMark _ _ => true
  | .claim _ _ _ _ => true
  | .release _ _ _ _ => true
  | .gpioOutWrite _ _ => true
  | .timerExpiry _ => true
  | .timerCapture _ => true
  | .bypass => true
  | .idcode => true
  | .samplePreload _ => true
  | .extest => true
  | .extestPulse => true
  | .extestTrain => true
  | .clamp => true
  | .highz => true
  | .tapReset => true
  | .registerRead _ _ n => decide (1 ≤ n.val)
  | .msixUnmask t => (match t with
    | .vector _ addr data => decide (addr < 2 ^ 64) && decide (data < 2 ^ 32)
    | .function => true)
  | .gpioInputEdge _ _ => true
  | .hotJoinRequest _ => true
  | .instructionBufferRefilled _ => true
  | .trackingSettled => true
  | .cumulativeOkAnswer _ => true
  | .neighbourSleep _ => true
  | .linkL1Entry => true
  | .pllLockLoss => true
  | .flagDelayWake _ => true

end Sys2Proof
end

