-- ==== Sys2Proof/Tests/Slice0.lean ====
section
/-! SUPPORT. Tests: ill-formed commands that the checks refuse, figures of the spec's worked examples, and the witnesses of the statements' hypotheses. -/

set_option Elab.async false

open Sys2Proof Sys2Proof.Machine Sys2Proof.Machine.Work Sys2Proof.Config

/-! ### Ill-formed commands -/

/-- Heads of jobs with a queue ID or a JOB_TAG out of range. -/
def illHeads : List JobHead := [⟨8192, 0, false⟩, ⟨0, 2 ^ 32, false⟩]

theorem test_ill_jobs : illHeads.all (fun h => [Instr.bitstreamRegion h 0 0, .modelLoad h 0, .graphRunBind h 0 0, .graphRunTrigger h 0 0, .graphRunUnbind h 0 0,
    .paramSet h (Vector.replicate 8 0), .copyJob h 1 0, .createQueue h (Vector.replicate 12 0), .deleteQueue h 0, .fenceSignal h 0 0, .fenceWait h 0 0 0,
    .attest h 0 0 0, .otpRecordRead h 0 0 0, .counterSnap h 0 0, .unitReset 0 (some h)].all (fun i => !i.wf)) = true := by decide

theorem test_ill_copy_count : (Instr.copyJob ⟨0, 0, false⟩ 0 0).wf = false := by decide

/-- Mason commands with each field out of its width. -/
def illCmds : List MsnCmd := [⟨65536, 0, 0, false, 0, 0⟩, ⟨0, 64, 0, false, 0, 0⟩, ⟨0, 0, 16, false, 0, 0⟩, ⟨0, 0, 0, false, 2 ^ 32, 0⟩, ⟨0, 0, 0, false, 0, 2 ^ 64⟩]

theorem test_ill_mason : illCmds.all (fun a => [Instr.create 0 a, .exit 0 a, .yield 0 a, .wait 0 a, .sleepUntil 0 a, .signal 0 a, .setPrio 0 a, .setAffinity 0 a,
    .suspend 0 a, .resume 0 a, .bind 0 a, .msnWaitFlag 0 a, .kill 0 a].all (fun i => !i.wf)) = true := by decide

/-- Packet heads with each field out of its width. -/
def illPackets : List DrvHead := [⟨4096, 0, 0⟩, ⟨0, 4096, 0⟩, ⟨0, 0, 65536⟩]

theorem test_ill_packet_heads : illPackets.all (fun h => [Instr.windowWrite 0 h 0 0 0 0 [], .windowRead 0 h 0 0 0 0 0, .readData 0 h 0 [], .flagSignal 0 h 0 0 0 0,
    .answer 0 h 0 0 false, .genNotice 0 h (.flag 0 0), .resync 0 h 0, .message 0 h []].all (fun i => !i.wf)) = true := by decide

theorem test_ill_packets : [Instr.windowWrite 0 ⟨0, 0, 0⟩ 0 65536 0 0 [], .windowWrite 0 ⟨0, 0, 0⟩ 0 0 65536 0 [], .windowWrite 0 ⟨0, 0, 0⟩ 0 0 0 (2 ^ 32) [],
    .windowWrite 0 ⟨0, 0, 0⟩ 0 0 0 0 (List.replicate 257 0#8), .windowRead 0 ⟨0, 0, 0⟩ 0 65536 0 0 0, .windowRead 0 ⟨0, 0, 0⟩ 0 0 65536 0 0,
    .windowRead 0 ⟨0, 0, 0⟩ 0 0 0 (2 ^ 32) 0, .windowRead 0 ⟨0, 0, 0⟩ 0 0 0 0 257, .readData 0 ⟨0, 0, 0⟩ 65536 [], .readData 0 ⟨0, 0, 0⟩ 0 (List.replicate 257 0#8),
    .flagSignal 0 ⟨0, 0, 0⟩ 0 65536 0 0, .flagSignal 0 ⟨0, 0, 0⟩ 0 0 65536 0, .flagSignal 0 ⟨0, 0, 0⟩ 0 0 0 (2 ^ 32), .answer 0 ⟨0, 0, 0⟩ 65536 0 false,
    .answer 0 ⟨0, 0, 0⟩ 0 256 false, .hello 0 4096 0 0 0 false, .hello 0 0 32 0 0 false, .hello 0 0 0 32 0 false, .hello 0 0 0 0 4 false,
    .genNotice 0 ⟨0, 0, 0⟩ (.window 64 0 false), .genNotice 0 ⟨0, 0, 0⟩ (.window 0 65536 false), .genNotice 0 ⟨0, 0, 0⟩ (.flag 16384 0),
    .genNotice 0 ⟨0, 0, 0⟩ (.flag 0 65536), .message 0 ⟨0, 0, 0⟩ (List.replicate 257 0#8), .flitReceive 0 (List.replicate 255 0#8),
    .linkTrainingStepDone 0 9 false].all (fun i => !i.wf) = true := by decide +kernel

theorem test_ill_sensor_packets : [Instr.longPacket 0 0 0x0F [] true, .headerEcc 0 (.corrected 0 (.frameStart 65536)), .headerEcc 0 (.corrected 0 (.frameEnd 65536)),
    .headerEcc 0 (.corrected 0 (.lineStart 65536)), .headerEcc 0 (.corrected 0 (.lineEnd 65536)), .headerEcc 0 (.corrected 0 (.long 0x0F [] true)),
    .headerEcc 0 (.corrected 0 (.long 64 [] true)), .i3cTransferDone 0 true (List.replicate 257 0#8)].all (fun i => !i.wf) = true := by decide +kernel

theorem test_ill_payload (bs : List Byte) (h : 65536 ≤ bs.length) : (Instr.longPacket 0 0 0x10 bs true).wf = false ∧
    (Instr.headerEcc 0 (.corrected 0 (.long 0x10 bs true))).wf = false := by
  simp only [Instr.wf, CsiPacket.wf]
  constructor <;> simp <;> omega

theorem test_ill_lengths (bs : List Byte) (h : 2 ^ 32 ≤ bs.length) : (Instr.soundingSetReady bs (Vector.replicate 90 0)).wf = false := by
  simp only [Instr.wf, decide_eq_false_iff_not]
  omega

theorem test_ill_accesses : [Instr.registerWrite .host 0 0 0, .registerWrite .host 0 4 0x100000000, .registerRead .host 0 0, .bar2Read 0 0, .bar2Write 0 [] false,
    .bar2Write 0 (List.replicate 4097 0#8) false, .msixUnmask (.vector 0 (2 ^ 64) 0), .msixUnmask (.vector 0 0 (2 ^ 32))].all (fun i => !i.wf) = true := by decide +kernel

theorem test_ill_samples : [Instr.patrolScrub 0 (2 ^ 32) [], .dqsTracking 0 65536, .avsFrameDone 0 (.voltage 65536), .avsFrameDone 0 (.current 65536),
    .avsFrameDone 0 (.status 65536 false), .thermalSample (Vector.replicate 48 (2048, false)), .thermalSample (Vector.replicate 48 (-2049, false)),
    .railFault .vdd2h [1], .errorInjectionDone (2 ^ 32) none, .errorInjectionDone 0 (some (256, 0)), .errorInjectionDone 0 (some (0, 256)),
    .lpddrTrainingDone [32]].all (fun i => !i.wf) = true := by decide

/-! ### Figures of the spec's worked examples -/

/-- Locating logical core 37: physical 39, its store's physical alias, and the one it has once 0x27 is retired to the spare 0x32. -/
theorem test_core_37 : resetCores.getD 37 0 = 0x27 ∧ State.reset.w.storage 0x4101280000 = 0x4201380000 ∧
    (State.reset.run fun w => { w with d := { w.d with cores := w.d.cores.set 37 0x32 } }).w.storage 0x4101280000 = 0x4201900000 := by decide +kernel

/-- The logical window of core 37 lies at 0x69_4000 (R258). -/
theorem test_core_window : (Reg.ASH_PC.off + Reg.ASH_PC.s1 * 37) / 0x4000 * 0x4000 = 0x694000 := by decide

/-- TB from the V-cycle count: 828 V-cycles are 752 ns (worked example of the snapshot). -/
theorem test_tb_of_vcycles : (State.reset.w.cycles 828).now = 752 := by decide +kernel

/-- A claim of a pin grants it to the writer, and the same claim by another is then denied with the holder named (R500). -/
theorem test_claim_then_denied :
    let s := State.reset.run fun w => w.claim 0x7A 1 5 7 false
    s.rd Reg.HOLDG_HOLDER 5 = 0x7A ∧ tget (0, 0xFF) ((s.w.claim 0xC0 1 5 9 false).d.sec.claims) 0xC0 = (0x51, 0x7A) := by decide +kernel

/-- SAFE_FAULT_N is never claimable (R499). -/
theorem test_claim_fault_pin : tget (0, 0xFF) ((State.reset.w.claim 0xC0 1 33 9 false).d.sec.claims) 0xC0 = (0x51, 0xB8) := by decide +kernel

/-- No row of the table has bits (DESIGN CHOICE, log entry 37). -/
theorem test_no_table_words : decodeTableWord 32 0 = none ∧ (State.reset.withFetchWord 32 0).pending = [] := by decide +kernel

/-! ### Witnesses of the statements' hypotheses -/

/-- The state after reset with an effect applied to it. -/
def fromReset (f : Work → Work) : State := State.reset.run f

/-- A frame with nothing in it, for witnesses to fill. -/
def blankFrame : OpenFrame := ⟨0, 0, 0, false, 0, 0, 0, false, 0, 0, 0, 0, 0, 0, 0, 0, [], none, none, 0, 0, 0, 0, 0, []⟩

/-- A region record of a type and instance, for witnesses to place. -/
def blankRegion (typ idx : Nat) (words : List Nat) : Region := ⟨typ, idx, 1, 0, 4 * words.length, words⟩

/-- A graph in flight with no nodes, for witnesses to fill. -/
def blankRun : GRun := ⟨1, 0, 0, 0, 0, 0xFF, 0, none, .queued, 0, [], [], [], [], 0, 0, 0, 0, false, false, false, false, 0, 0, 0, 0, false, false, [], [], 0⟩

/-- A resident graph of one node without edges: its type, UNIT, deadline and wait timeout, core set and two parameter words. -/
def oneNode (typ unit deadline timeout cores p0 p1 : Nat) : GVer :=
  ⟨0, 1, 7, [1, 1, 0, 0, 0, 0, 0, 0, typ, deadline, timeout, unit + 0x10000, cores, 0, 0, 0, p0, p1], [0, 0], 0, true⟩

/-- One run of such a graph, with its node as given. -/
def oneRun (x : NodeRun) : GRun := { blankRun with seq := 7, phase := .running, nodes := [x] }

/-- The state with one such graph in flight. -/
def graphState (g : GVer) (x : NodeRun) : State := fromReset fun w =>
  let w := w.setLdr { w.d.ldr with graphs := [g] }
  let w := (((w.wr Reg.SLOT_SSTATE 2 0).wr Reg.SLOT_SSTATE 2 67).wr Reg.SLOT_SSTATE 2 71).wr Reg.SLOT_SSTATE 2 85
  w.setKs { w.d.ks with runs := [oneRun x] }

/-- A resident graph of one node without edges of a type on a unit, with parameter words. -/
def nodeWith (typ unit : Nat) (p : List Nat) : GVer :=
  ⟨0, 1, 7, [1, 1, 0, 0, 0, 0, 0, 0, typ, 0, 0, unit + (p.length / 2) * 0x10000, 1, 0, 0, 0] ++ p, [0, 0], 0, true⟩

/-- A resident graph of a list's producer and a gated node that takes the list at port 0; the list lies at address 0x1000. -/
def gatedWith (typ unit : Nat) (p : List Nat) : GVer :=
  ⟨0, 1, 7, [0x10002, 1, 0, 0, 0, 0, 0, 0, 9, 0, 0, 0x74 + 6 * 0x10000, 0, 0, 0, 0, typ + 0x4000, 0, 0, unit + ((p.length + 2) / 2) * 0x10000, 1, 0, 48, 0,
    0x10000, 2, 0, 0, 0, 0, 0, 0, 0, 0, 0, 0, 0x1000, 0, 0, 0] ++ [0, 0] ++ p, [1, 0, 1, 0], 0, true⟩

/-- A resident graph of two nodes, the second fed at port 0 by port 0 of the first, over a FRAME edge. -/
def feeding (ta ua : Nat) (pa : List Nat) (tb ub : Nat) (pb : List Nat) : GVer :=
  ⟨0, 1, 7, [0x10002, 1, 0, 0, 0, 0, 0, 0, ta, 0, 0, ua + (pa.length / 2) * 0x10000, 1, 0, 0, 0, tb, 0, 0, ub + (pb.length / 2) * 0x10000, 1, 0, 4 * pa.length, 0,
    0x10000, 2, 0, 0] ++ pa ++ pb, [1, 0, 1, 0], 0, true⟩

/-- An engine at work on a node of the graph's run. -/
def engineState (g : GVer) (n u : Nat) (x : EngRun) : State := (graphState g NodeRun.fresh).run fun w =>
  let w := w.setKs { w.d.ks with runs := [{ blankRun with seq := 7, phase := .running, nodes := [{ NodeRun.fresh with st := .running }, { NodeRun.fresh with st := .running }] }] }
  ((w.store 0x1008 (leBytes 4 2)).setEng u { x with run := 1, node := n })

/-- That run. -/
def engineRun : GRun := { blankRun with seq := 7, phase := .running, nodes := [{ NodeRun.fresh with st := .running }, { NodeRun.fresh with st := .running }] }

/-- Pair 0 in service, running thread 5; thread 6 READY in its slot, thread 7 WAITING on channel 4095, thread 8 SUSPENDED; an event of each kind is about. -/
def masonState : State := fromReset fun w =>
  let w := ((w.wr Reg.PAIR_CUR_TID 5 0).wr Reg.PAIR_IN_SERVICE 1 0).wr Reg.PAIR_SLOT_TID 6 0
  let w := (w.setThread 5 { Thread.none with st := .running, prio := 3, affinity := 3 }).setThread 6 { Thread.none with st := .ready, prio := 3, affinity := 1 }
  let w := (w.setThread 7 { Thread.none with st := .waiting, waitCh := 4095, affinity := 2 }).setThread 8 { Thread.none with st := .suspended, affinity := 2 }
  let w := (w.setChan 4095 (2, 5)).wr Reg.THR_QUANTUM_US 10 5
  let w := w.setPair 1 { w.pair 1 with saving := some (9, .sleeping) }
  w.setMsn { w.d.msn with
    waking := [6], offers := [⟨4095, uHost, 4, 1, 0, 0⟩], evq := [⟨0, uHost, 4, 0xFFFF, 0, 0⟩], expired := [7] }

theorem wit_MasonCallerCommands : Runs masonState ∧ masonState.w.freeTid = some 0 ∧ masonState.w.curTid 0 = some 5 ∧
    masonState.w.chan 4095 = (2, 5) ∧ masonState.w.chan 0 = (0, 0xFFFF) ∧ 63 > masonState.rd Reg.MSN_OWNER_MAX_PRIO ∧
    0 ≤ masonState.rd Reg.MSN_OWNER_MAX_PRIO ∧ masonState.w.ownerThreads < masonState.rd Reg.MSN_OWNER_QUOTA := by decide +kernel

theorem wit_MasonNamedCommands : Runs masonState ∧ (let a : MsnCmd := ⟨6, 47, 1, false, 0, 0⟩; masonState.w.liveCheck a 6 = stOk ∧ masonState.w.nameCheck a 6 = stOk ∧
    masonState.w.liveCheck a 8 = stOk) ∧ masonState.w.curTid 0 ≠ some 6 ∧ (masonState.w.thread 6).st = .ready ∧
    (masonState.w.thread 8).st = .suspended ∧ masonState.dev.msn.waking.contains 8 = false := by decide +kernel

theorem wit_MasonEvents : Runs masonState ∧ masonState.dev.msn.offers = [⟨4095, uHost, 4, 1, 0, 0⟩] ∧ masonState.dev.msn.evq = [⟨0, uHost, 4, 0xFFFF, 0, 0⟩] ∧
    (masonState.w.chan 0).1 + 0xFFFF ≤ 0xFFFF ∧ masonState.dev.msn.waking.contains 6 = true ∧ masonState.rd Reg.PAIR_SLOT_TID 0 = 6 ∧ masonState.rd Reg.PAIR_SLOT_LOADED 0 ≠ 1 ∧
    (masonState.w.thread 6).prio ≤ (masonState.w.thread 5).prio ∧ (masonState.w.pair 1).saving = some (9, .sleeping) ∧ masonState.dev.msn.expired = [7] ∧
    masonState.rd Reg.THR_QUANTUM_US 5 ≠ 0 ∧ (masonState.w.thread 6).prio = (masonState.w.thread 5).prio ∧ masonState.rd Reg.PAIR_DRAIN 0 ≠ 1 ∧
    Writable masonState (.pair 0) 0x390000 ∧ Writable masonState (.pair 3) 0x393000 ∧ Writable masonState .host 0x380028 := by decide +kernel

theorem wit_MasonEvents_prefetch :
    (∃ s : State, Runs s ∧ s.rd Reg.PAIR_SLOT_TID 0 = 6 ∧ s.rd Reg.PAIR_SLOT_LOADED 0 ≠ 1 ∧ s.w.curTid 0 = some 5 ∧ (s.w.thread 5).prio < (s.w.thread 6).prio) ∧
    (∃ s : State, Runs s ∧ s.rd Reg.PAIR_SLOT_TID 0 = 6 ∧ s.rd Reg.PAIR_SLOT_LOADED 0 ≠ 1 ∧ s.w.curTid 0 = none ∧ (s.w.pair 0).saving = none ∧
      Writable s (.pair 0) 0x390000 ∧ s.rd Reg.PAIR_DRAIN 0 ≠ 1) :=
  ⟨⟨masonState.run fun w => w.setThread 6 { w.thread 6 with prio := 4 }, by decide +kernel⟩,
    masonState.run fun w => w.wr Reg.PAIR_CUR_TID 0xFFFF 0, by decide +kernel⟩

theorem wit_PairLockstepAndRetest : Runs masonState ∧ masonState.rd Reg.PAIR_IN_SERVICE 0 = 1 ∧ masonState.w.curTid 0 = some 5 ∧
    (masonState.w.pair 0).returnTb = 0 ∧ 0 < masonState.dev.msn.pairs.length ∧
    (∃ s : State, Runs s ∧ (s.w.pair 3).retesting = true) :=
  ⟨by decide +kernel, by decide +kernel, by decide +kernel, by decide +kernel, by decide +kernel,
    fromReset fun w => w.setPair 3 { w.pair 3 with retesting := true }, by decide +kernel⟩

/-- Port 0 locked; context 0 fed by its virtual channel 0 with RAW12 (0x2C), 64 × 4 pixels, a frame open on it. -/
def frameState : State := fromReset fun w =>
  let w := ((((w.wr Reg.PORT_ENABLE 1 0).wr Reg.PORT_LOCKED 1 0).wr Reg.PORT_LINE_NUM_EN 1 0).wr Reg.CTX_WIDTH 64 0).wr Reg.CTX_HEIGHT 4 0
  let w := w.setLdr { w.d.ldr with regions := [blankRegion 3 0 [1 + 0x2C * 0x1000000]] }
  w.setCtxIn 0 { CtxIn.none with frame := some { blankFrame with height := 4 } }

theorem wit_SensorPackets : Runs frameState ∧ frameState.w.portLive 0 = true ∧ frameState.w.ctxsOf 0 31 = [] ∧ 
    tget [] frameState.dev.ldr.mapOld 0 = [] ∧ frameState.w.ctxsOf 0 0 = [0] ∧ frameState.rd Reg.CTX_WIDTH 0 ≠ 0 ∧ frameState.rd Reg.CTX_HEIGHT 0 ≠ 0 ∧
    bits (wd (frameState.w.mapFor 0 0) 0) 29 24 = 0x2C ∧ (frameState.w.ctxIn 0).frame.isSome = true ∧ frameState.rd Reg.PORT_LINE_NUM_EN 0 = 1 ∧
    (frameState.w.ctxIn (tget 64 frameState.dev.ing.lastCtx 0)).frame = none ∧ frameState.rd Reg.PWR_DEVICE_STATE < 2 := by decide +kernel

theorem wit_EndOfFrameTimeout : Runs frameState ∧ (frameState.w.ctxIn 0).frame = some { blankFrame with height := 4 } ∧ blankFrame.slots.length < 4 ∧
    bitAt blankFrame.bits 2 = false := by decide +kernel

theorem wit_GraphInstantiation : (∃ s : State, Runs s ∧ s.dev.ks.runs.any (fun x => decide (x.phase = .creating)) = false ∧
      s.w.firstQueued = some blankRun) ∧
    (∃ s : State, Runs s ∧ s.dev.ks.runs.find? (fun x => decide (x.phase = .creating)) = some { blankRun with phase := .creating } ∧
      (s.w.version 0).nodeCount = 0) :=
  ⟨⟨fromReset fun w => w.setKs { w.d.ks with runs := [blankRun] }, by decide +kernel⟩,
    fromReset fun w => w.setKs { w.d.ks with runs := [{ blankRun with phase := .creating }] }, by decide +kernel⟩

theorem wit_PortReceiver : Runs State.reset ∧ Writable State.reset .host 0x401F00 ∧ State.reset.rd Reg.PORT_ENABLE 15 ≠ 1 ∧
    (∃ s : State, Runs s ∧ s.rd Reg.PORT_ENABLE 15 = 1 ∧ s.dev.ing.shut.contains 15 = false ∧ tget 0 s.dev.ing.locking 15 ≠ 0 ∧
      s.rd Reg.PORT_LOCKED 15 ≠ 1) :=
  ⟨by decide +kernel, by decide +kernel, by decide +kernel, fromReset fun w => ((w.wr Reg.PORT_RATE 1500 15).portEnable 15), by decide +kernel⟩

/-- Context 0 enabled for replay with one descriptor of a frame of 4 lines handed over; the first of its lines is due on context 1. -/
def replayState : State := fromReset fun w =>
  let w := w.setLdr { w.d.ldr with regions := [blankRegion 3 0 [3 + 0x2C * 0x1000000, 0, 0, 0, 3 + 0x2C * 0x1000000]] }
  let w := w.put .dev 0 ([1, 1, 0, 0, 64, 0x10040].flatMap (leBytes 4))
  let w := (((w.wr Reg.ING_RPL_RING_SIZE 64 0).wr Reg.ING_RPL_TAIL 1 0).wr Reg.CTX_WIDTH 64 0).wr Reg.CTX_HEIGHT 4 0
  (w.setCtxIn 1 { CtxIn.none with replay := some ⟨[0, 0, 0, 0, 0, 0x40000], 1000, true, 0⟩ }).setCtxIn 2
    { CtxIn.none with replay := some ⟨[0, 0, 0, 0, 0, 0x40000], 1000, false, 0⟩ }

theorem wit_Replay : Runs replayState ∧ Writable replayState .host 0x404FCC ∧ replayState.w.replayCtx 0 = true ∧
    replayState.rd Reg.ING_RPL_HEAD 0 ≠ replayState.rd Reg.ING_RPL_TAIL 0 ∧ (replayState.w.ctxIn 0).replay = none ∧
    (let g := replayState.w.readAt uKeystone (replayState.rd Reg.ING_RPL_RING_BASE 0 + 64 * replayState.rd Reg.ING_RPL_HEAD 0) 64;
      g.2.1 = stOk ∧ g.1.replayCheck 0 (bytesWords g.2.2) = stOk ∧ wd64 (bytesWords g.2.2) 6 = 0) ∧
    (let s := replayState.run fun w => w.wr Reg.ING_RPL_RING_BASE (2 ^ 63) 0;
      Runs s ∧ s.w.replayCtx 0 = true ∧ s.rd Reg.ING_RPL_HEAD 0 ≠ s.rd Reg.ING_RPL_TAIL 0 ∧ (s.w.ctxIn 0).replay = none ∧
        (s.w.readAt uKeystone (s.rd Reg.ING_RPL_RING_BASE 0 + 64 * s.rd Reg.ING_RPL_HEAD 0) 64).2.1 ≠ stOk) ∧
    (replayState.w.ctxIn 2).replay.isSome = true ∧ (replayState.w.ctxIn 1).replay.isSome = true ∧ 0 + 1 < bits 0x40000 31 16 := by decide +kernel

theorem wit_Replay_start :
    (∃ s : State, ∃ r : Replay, Runs s ∧ (s.w.ctxIn 63).replay = some r ∧ r.started = false ∧ r.sofTb = 0 ∧ (s.w.ctxIn 63).frame = none) ∧
    (∃ r : Replay, (replayState.w.ctxIn 2).replay = some r ∧ r.started = false ∧ r.sofTb ≠ 0) :=
  ⟨⟨fromReset fun w => w.setCtxIn 63 { CtxIn.none with replay := some ⟨[0, 0, 0, 0, 0, 0x40000], 0, false, 0⟩ },
    ⟨[0, 0, 0, 0, 0, 0x40000], 0, false, 0⟩, by decide +kernel⟩, ⟨[0, 0, 0, 0, 0, 0x40000], 1000, false, 0⟩, by decide +kernel⟩

theorem wit_I3cMaster : Runs State.reset ∧ Writable State.reset .host 0x4055C8 ∧ (State.reset.w.i3c 7).fifo.length < 64 ∧
    State.reset.w.answers uHost 0x4055E0 = true ∧
    (∃ s : State, Runs s ∧ (s.w.i3c 7).lists = [] ∧ (s.w.i3c 7).fifo = [0x800] ∧ s.rd Reg.I3C_ENABLE 7 = 1) :=
  ⟨by decide +kernel, by decide +kernel, by decide +kernel, by decide +kernel,
    fromReset fun w => (w.wr Reg.I3C_ENABLE 1 7).setI3c 7 { I3c.none with fifo := [0x800] }, by decide +kernel⟩

theorem wit_I3cMaster_list : (∃ s : State, Runs s ∧ s.rd Reg.I3C_ENABLE 7 = 1 ∧ (s.w.i3c 7).lists = [(0x78, [0x100])] ∧ (s.w.i3c 7).direct = false) ∧
    1 ≤ bits 0x400 10 8 ∧ bits 0x400 10 8 ≤ 4 :=
  ⟨⟨fromReset fun w => (w.wr Reg.I3C_ENABLE 1 7).setI3c 7 { I3c.none with lists := [(0x78, [0x100])] }, by decide +kernel⟩, by decide, by decide⟩

theorem wit_FrameSync : ∃ s : State, s.dev.pwr.refStopped = false ∧ s.rd Reg.SYNC_ENABLE 15 = 1 ∧ (s.w.fsync 15).active = true :=
  ⟨fromReset fun w => (w.wr Reg.SYNC_ENABLE 1 15).setFsync 15 ⟨true, 0, 2000⟩, by decide +kernel⟩

theorem wit_FlagSignals : Runs State.reset ∧ Writable State.reset .host (0x340008 + 16 * 16383) ∧
    (∃ s : State, Runs s ∧ s.dev.ks.poisoned.contains 16383 = false ∧
      ((((s.dev.ks.signals.filter (fun x => x.flag == 16383)).take 1).filter (fun x => x.gen == s.rd Reg.FLAG_GENERATION 16383)).map Sig.inc).sum ≠ 0) :=
  ⟨by decide +kernel, by decide +kernel, fromReset fun w => w.signal 16383 1 0, by decide +kernel⟩

theorem wit_FlagPoison : ∃ s : State, Runs s ∧ s.dev.ks.poisoned.contains 16383 = true :=
  ⟨fromReset fun w => w.poisonFlag 16383, by decide +kernel⟩

theorem wit_NodeDispatch :
    (∃ s : State, Runs s ∧ unitKind 0x53 = 3 ∧ s.w.unitFree 0x53 = true ∧ s.w.pickFirst (s.w.engineCands 0x53) = some (oneRun NodeRun.fresh, 0)) ∧
    (∃ s : State, Runs s ∧ s.w.neuralPick 0 = some (oneRun NodeRun.fresh, 0) ∧
      (setBits 64 ((s.w.version 7).coreSet 0)).all (fun c => decide (s.dev.cores.getD c 0xFF ≤ 67) && !s.w.soundingOn (s.dev.cores.getD c 0xFF)) = true) ∧
    (∃ s : State, Runs s ∧ s.w.pickFirst (s.w.readyNodes [1, 0xC, 0xE]) = some (oneRun NodeRun.fresh, 0)) :=
  ⟨⟨graphState (oneNode 3 0x53 0 0 0 0 0) NodeRun.fresh, by decide +kernel⟩,
    ⟨(graphState (oneNode 8 0xFF 0 0 1 0 0) NodeRun.fresh).run fun w => { w with d := { w.d with cores := [0] } }, by decide +kernel⟩,
    graphState (oneNode 0xE 0xFF 0 0 0 0 0) NodeRun.fresh, by decide +kernel⟩

theorem wit_NodeDispatch_others :
    (∃ s : State, Runs s ∧ s.w.inService 0x53 = false ∧ s.w.partner 0x53 = none ∧ s.w.pickFirst (s.w.readyNodes [unitKind 0x53]) = some (oneRun NodeRun.fresh, 0)) ∧
    (let s := graphState (oneNode 2 0 0 0 0 0 0) NodeRun.fresh
    Runs s ∧ s.w.pickFirst ((s.w.readyNodes [2]).filter (fun c => (nodeRun c.1 c.2).tile == 0)) = some (oneRun NodeRun.fresh, 0) ∧
      (kindUnits 2).all (fun k => !s.w.inService k) = false ∧ s.w.ispShort (oneRun NodeRun.fresh) (Work.ispContext (s.w.version 7) 0) = true) ∧
    (let s := (graphState (oneNode 2 0 0 0 0 0 0) NodeRun.fresh).run fun w => w.wr Reg.ISP_STATE_STRIDE 0x80000
    Runs s ∧ s.w.pickFirst ((s.w.readyNodes [2]).filter (fun c => (nodeRun c.1 c.2).tile == 0)) = some (oneRun NodeRun.fresh, 0) ∧
      (kindUnits 2).all (fun k => !s.w.inService k) = false ∧ s.w.ispShort (oneRun NodeRun.fresh) (Work.ispContext (s.w.version 7) 0) = false) ∧
    (∃ s : State, Runs s ∧ s.w.pickFirst ((s.w.readyNodes [0xD]).filter (fun c =>
      s.w.sendReady ((s.w.version c.1.seq).params c.2) && uDravig (s.w.sendPort ((s.w.version c.1.seq).params c.2) c.1.slot) == 0x81)) = some (oneRun NodeRun.fresh, 0)) :=
  ⟨⟨(graphState (oneNode 3 0x53 0 0 0 0 0) NodeRun.fresh).run fun w => { w with d := { w.d with retired := [0x50, 0x51, 0x52, 0x53] } }, by decide +kernel⟩,
    by decide +kernel, by decide +kernel, graphState (oneNode 0xD 0xFF 0 0 0 0 0) NodeRun.fresh, by decide +kernel⟩

theorem wit_NodeEnds :
    (∃ s : State, Runs s ∧ s.w.grun? 1 = some (oneRun { NodeRun.fresh with st := .running, finished := true }) ∧
      s.w.nodeFinished (oneRun { NodeRun.fresh with st := .running, finished := true }) 0 = true) ∧
    (∃ s : State, Runs s ∧ s.w.grun? 1 = some (oneRun NodeRun.fresh) ∧ s.w.nodeReady (oneRun NodeRun.fresh) 0 = false ∧ (s.w.version 7).node 0 2 ≠ 0 ∧
      neverWaits (s.w.version 7) 0 = false) ∧
    (∃ s : State, Runs s ∧ s.w.grun? 1 = some (oneRun { NodeRun.fresh with st := .cut, fillOwed := true, filled := true })) :=
  ⟨⟨graphState (oneNode 3 0x53 0 0 0 0 0) { NodeRun.fresh with st := .running, finished := true }, by decide +kernel⟩,
    ⟨graphState ⟨0, 1, 7, [0x10001, 1, 0, 0, 0, 0, 0, 0, 3, 0, 1000, 0x53, 0, 0, 0, 0, 0, 0, 0, 0], [1, 0, 1, 0], 0, true⟩ NodeRun.fresh, by decide +kernel⟩,
    graphState (oneNode 3 0x53 0 0 0 0 0) { NodeRun.fresh with st := .cut, fillOwed := true, filled := true }, by decide +kernel⟩

/-- A run of a graph of two whose first node is at work. -/
def timeoutRun (x : NodeRun) : GRun := { blankRun with seq := 7, phase := .running, nodes := [{ NodeRun.fresh with st := .running }, x] }

/-- Such a graph in flight, its second node with a wait timeout of 1 µs and its first flag's TARGET 4. -/
def timeoutState (g : GVer) (x : NodeRun) : State := (graphState { g with graph := g.graph.set 18 1000 } NodeRun.fresh).run fun w =>
  ((w.store 0x1008 (leBytes 4 2)).wr Reg.FLAG_TARGET 4 0).setKs { w.d.ks with runs := [timeoutRun x] }

/-- A node at work. -/
def atWork : NodeRun := { NodeRun.fresh with st := .running }

/-- A STEREO node fed by a pyramid, over an edge of a KIND. -/
def fedBy (kind : Nat) : GVer :=
  let g := feeding 3 0x50 [0, 0, 0x400040, 0] 5 0x58 [0, 0, 0x400040, 0]
  { g with graph := g.graph.set 25 kind }

theorem wit_NodeTimeouts :
    (let s := timeoutState (fedBy 2) NodeRun.fresh
    Runs s ∧ s.w.grun? 1 = some (timeoutRun NodeRun.fresh) ∧ (s.w.version 7).node 1 2 ≠ 0 ∧ neverWaits (s.w.version 7) 1 = false ∧
      s.w.inputsReady (timeoutRun NodeRun.fresh) 1 = false) ∧
    (let s := timeoutState (fedBy 0) atWork
    Runs s ∧ s.w.grun? 1 = some (timeoutRun atWork) ∧ (s.w.version 7).node 1 2 ≠ 0 ∧ (s.w.version 7).gated 1 = false ∧ neverWaits (s.w.version 7) 1 = false ∧
      s.w.starved (timeoutRun atWork) 1 = true) ∧
    (let s := timeoutState (gatedWith 5 0x58 [0, 0, 0x400040, 0]) atWork
    Runs s ∧ s.w.grun? 1 = some (timeoutRun atWork) ∧ (s.w.version 7).node 1 2 ≠ 0 ∧ (s.w.version 7).gated 1 = true ∧ atWork.cutAsked = false ∧
      launchedTiles (s.w.version 7) 1 atWork < s.w.listCount (s.w.inputList (timeoutRun atWork) 1 (listPort (s.w.version 7) 1))) := by decide +kernel

/-- A run whose one node is done and whose ledger entries are written, answering job 9 of queue 0. -/
def doneRun : GRun := { blankRun with seq := 7, phase := .running, nodes := [{ NodeRun.fresh with st := .done }], ledgered := true, trigger := some ⟨0, 9, 1, false⟩ }

theorem wit_GraphEnds :
    (∃ s : State, Runs s ∧ s.w.grun? 1 = some (oneRun { NodeRun.fresh with st := .done }) ∧ s.w.atLedgerPoint (oneRun { NodeRun.fresh with st := .done }) = true ∧
      s.rd Reg.KS_LEDGER_BASE ≠ 0 ∧ s.dev.ks.holds.any (fun h => h.run == 1) = false) ∧
    (∃ s : State, Runs s ∧ s.w.grun? 1 = some (oneRun { NodeRun.fresh with st := .running }) ∧ (s.w.version 7).typ 0 = 0x0C ∧
      s.w.emitBlocked (oneRun { NodeRun.fresh with st := .running }) 0 = false ∧ (s.w.version 7).ledgerEn 0 = false ∧
      bits (wd ((s.w.version 7).params 0) 0) 15 0 ≠ 0xFFFF) ∧
    (∃ s : State, Runs s ∧ s.w.grun? 1 = some doneRun ∧ s.w.runComplete doneRun = true ∧ s.rd Reg.KS_TRACE_EN ≠ 1) :=
  ⟨⟨(graphState (oneNode 3 0x53 0 0 0 0 0) { NodeRun.fresh with st := .done }).run fun w => w.wr Reg.KS_LEDGER_BASE 0x1000, by decide +kernel⟩,
    ⟨graphState (oneNode 0xC 0xFF 0 0 0 1 0) { NodeRun.fresh with st := .running }, by decide +kernel⟩,
    (graphState (oneNode 3 0x53 0 0 0 0 0) NodeRun.fresh).run fun w => w.setKs { w.d.ks with runs := [doneRun] }, by decide +kernel⟩

theorem wit_GraphEnds_emit :
    (let s := (graphState (oneNode 0xC 0xFF 0 0 0 1 0) atWork).run fun w => w.wr Reg.Q_STATE 1 1
    Runs s ∧ s.w.grun? 1 = some (oneRun atWork) ∧ (s.w.version 7).typ 0 = 0x0C ∧ s.w.emitBlocked (oneRun atWork) 0 = false ∧ (s.w.version 7).ledgerEn 0 = false ∧
      bits (wd ((s.w.version 7).params 0) 0) 15 0 = 1 ∧ s.rd Reg.Q_STATE 1 = 1 ∧ (s.w.queue 1).buf.length < 256) ∧
    (let s := graphState (oneNode 0xC 0xFF 0 0 0 0xFFFF 0) atWork
    Runs s ∧ s.w.grun? 1 = some (oneRun atWork) ∧ (s.w.version 7).typ 0 = 0x0C ∧ s.w.emitBlocked (oneRun atWork) 0 = false ∧ (s.w.version 7).ledgerEn 0 = false ∧
      bits (wd ((s.w.version 7).params 0) 0) 15 0 = 0xFFFF ∧ s.rd Reg.Q_STATE 0xFFFF ≠ 1) ∧
    (oneRun { NodeRun.fresh with st := .done }).entered = false ∧ (oneRun { NodeRun.fresh with st := .done }).heldUntil = 0 ∧
    (oneRun { NodeRun.fresh with st := .done }).trigger = none := by decide +kernel

theorem wit_SealZeroed : ∃ s : State, Runs s ∧ s.dev.ldr.zeroing.contains 35 = true :=
  ⟨fromReset fun w => w.setLdr { w.d.ldr with zeroing := [35] }, by decide +kernel⟩

/-- A NEURAL graph of one node on core 0, with a program of 4 operations in its QUARRY segment and no operand descriptors, and a TILE segment of 4 KiB. -/
def taskGraph : GVer :=
  ⟨0, 1, 7, [1, 1, 0, 0, 0, 0, 0, 0, 8, 0, 0, 0xFF + 13 * 0x10000, 1, 0, 0, 0,
    0, 4 * 0x10000, 0, 0, 0, 0, 1000, 0, 0x1000, 0, 0x4000000000 % 2 ^ 32, 0x40, 0x1000, 0, 0, 0, 0, 0, 0, 0, 0, 0, 0, 0, 0, 0], [1, 0, 1, 0], 0, true⟩

/-- Core 0 at the issue of an operation, in a loop of level 0 that ends at its PC. -/
def taskState (ws : List Nat) : State := (graphState taskGraph { NodeRun.fresh with st := .running, cores := 1 }).run fun w =>
  let w := w.wr Reg.ASH_PC 1 0
  ({ w with d := { w.d with cores := [0] } }).setCore 0
    { CoreSt.idle with phase := .running, run := 1, members := [0], ibase := 1, ibuf := ws, loops := [⟨0, 0, 1, 5⟩] }

/-- The operands none of which is used. -/
abbrev noUse : List Use := [Use.no, Use.no, Use.no, Use.no]

abbrev noOpnd : List (Option Opnd) := [none, none, none, none]

theorem wit_UnitOperations : Issues (taskState [0x05, 0x3FFFFFFF, 0x3FF, 0]) 0 0x05 [0x05, 0x3FFFFFFF, 0x3FF, 0] noUse noOpnd ∧
    UnitAccepts (taskState [0x05, 0x3FFFFFFF, 0x3FF, 0]) 0 [0x05, 0x3FFFFFFF, 0x3FF, 0] noUse noOpnd := by decide +kernel

theorem wit_FlagOperations :
    (∃ s : State, Issues s 0 0x60 [0x60, 0x3FFFFFFF, 0x3FF, 1] noUse noOpnd ∧ (s.w.core 0).stall = none ∧ s.w.grun? (s.w.core 0).run = some (oneRun { NodeRun.fresh with st := .running, cores := 1 }) ∧
      s.dev.ks.poisoned.contains 0 = false ∧ s.rd Reg.FLAG_COUNT 0 < 1) ∧
    (∃ s : State, Issues s 0 0x60 [0x60, 0x3FFFFFFF, 0x3FF, 1] noUse noOpnd ∧ (s.w.core 0).stall = none ∧ s.dev.ks.poisoned.contains 0 = false ∧
      1 ≤ s.rd Reg.FLAG_COUNT 0) ∧
    (∃ s : State, Issues s 0 0x61 [0x61, 0x3FFFFFFF, 0x3FF, 1] noUse noOpnd ∧ (s.w.core 0).queue = [] ∧ (s.w.core 0).suppress ≤ (s.w.core 0).signals ∧
      (s.dev.ks.signals.filter (fun x => x.flag % 16 == s.w.flagOf (oneRun { NodeRun.fresh with st := .running, cores := 1 }) 0 % 16)).length < 64) ∧
    Issues (taskState [0x62, 0x3FFFFFFF, 0x3FF, 0]) 0 0x62 [0x62, 0x3FFFFFFF, 0x3FF, 0] noUse noOpnd ∧
    Issues (taskState [0x83, 0x3FFFFFFF, 0x3FF, 0]) 0 0x83 [0x83, 0x3FFFFFFF, 0x3FF, 0] noUse noOpnd ∧
    ((taskState [0x83, 0x3FFFFFFF, 0x3FF, 0]).w.core 0).queue = [] :=
  ⟨⟨taskState [0x60, 0x3FFFFFFF, 0x3FF, 1], by decide +kernel⟩,
    ⟨(taskState [0x60, 0x3FFFFFFF, 0x3FF, 1]).run fun w => w.wr Reg.FLAG_COUNT 1 0, by decide +kernel⟩,
    ⟨taskState [0x61, 0x3FFFFFFF, 0x3FF, 1], by decide +kernel⟩, by decide +kernel, by decide +kernel, by decide +kernel⟩

theorem wit_LoopOperations :
    Issues (taskState [0x180, 0x3FFFFFFF, 0x7FF, 0xFFFFFF]) 0 0x80 [0x180, 0x3FFFFFFF, 0x7FF, 0xFFFFFF] noUse noOpnd ∧
    Issues (taskState [0x81, 0x3FFFFFFF, 0x3FF, 0]) 0 0x81 [0x81, 0x3FFFFFFF, 0x3FF, 0] noUse noOpnd ∧
    ((taskState [0x81, 0x3FFFFFFF, 0x3FF, 0]).w.core 0).loops = [⟨0, 0, 1, 5⟩] ∧
    (∃ s : State, Issues s 0 0x82 [0x10C82, 0x3FFFFFFF, 0x3FF, 5] noUse noOpnd) ∧
    Issues (taskState [0x84, 0x3FFFFFFF, 0x3FF, 0]) 0 0x84 [0x84, 0x3FFFFFFF, 0x3FF, 0] noUse noOpnd :=
  ⟨by decide +kernel, by decide +kernel, by decide +kernel,
    ⟨(taskState [0x10C82, 0x3FFFFFFF, 0x3FF, 5]).run fun w => w.setCore 0 { w.core 0 with loops := [⟨0, 0, 3, 5⟩] }, by decide +kernel⟩, by decide +kernel⟩

/-- Such a core with one operand descriptor, of a format and extent, at the start of its tile store, whose data start at offset 0x100. -/
def operandState (fmt ext : Nat) (data : List Byte) (ws : List Nat) : State := (taskState ws).run fun w =>
  let w := w.setLdr { w.d.ldr with graphs := [{ taskGraph with graph := taskGraph.graph.set 17 0x40001 }] }
  (w.store 0x4100000000 ([1 + fmt * 256, 0x100, 0, ext, 0, 0, 0, 0, 0, 0, 0, 0, 0, 0, 0x3FF, 0].flatMap (leBytes 4))).store 0x4100000100 data

theorem wit_SetupOperations :
    Issues (taskState [0x1A0, 0x3FFFFFFF, 0x3FF, 0]) 0 0xA0 [0x1A0, 0x3FFFFFFF, 0x3FF, 0] noUse noOpnd ∧
    Issues (taskState [0x2A1, 0x3FFFFFFF, 0x3FF, 0x3F800000]) 0 0xA1 [0x2A1, 0x3FFFFFFF, 0x3FF, 0x3F800000] noUse noOpnd ∧
    Issues (operandState 0x1D 64 [] [0x1A2, 0x3FF003FF, 0x3FF, 0]) 0 0xA2 [0x1A2, 0x3FF003FF, 0x3FF, 0] [Use.no, Use.src, Use.no, Use.no]
      [none, some ⟨⟨0, 1, 0x1D, 0x100, [64], []⟩, none⟩, none, none] :=
  ⟨by decide +kernel, by decide +kernel, by decide +kernel⟩

/-- A core at the issue of a SET_LUT of slot 1 whose table runs from 0 to 1. -/
def lutState : State := operandState 0x1A 258 (List.replicate 1028 0#8 ++ leBytes 4 0x3F800000) [0x1A3, 0x3FF003FF, 0x3FF, 0]

theorem wit_SetupOperations_setLut :
    Issues lutState 0 0xA3 [0x1A3, 0x3FF003FF, 0x3FF, 0] [Use.no, Use.src, Use.no, Use.no] [none, some ⟨⟨0, 1, 0x1A, 0x100, [258], []⟩, none⟩, none, none] ∧
    (let k := lutState.w.core 0
    let p := lutState.w.taskParams k
    hazard 0 k (opSources p k 0 [0x1A3, 0x3FF003FF, 0x3FF, 0] [Use.no, Use.src, Use.no, Use.no] [none, some ⟨⟨0, 1, 0x1A, 0x100, [258], []⟩, none⟩, none, none] ++
      lutState.w.descRanges p 0 [0x1A3, 0x3FF003FF, 0x3FF, 0] [Use.no, Use.src, Use.no, Use.no]) = false ∧
    lutState.w.opndPoison (segBase p 0 0) ⟨0, 1, 0x1A, 0x100, [258], []⟩ none = none ∧
    FVal.le (FVal.of32 (lutState.w.elem (segBase p 0 0) ⟨0, 1, 0x1A, 0x100, [258], []⟩ 257 0 0 0))
      (FVal.of32 (lutState.w.elem (segBase p 0 0) ⟨0, 1, 0x1A, 0x100, [258], []⟩ 256 0 0 0)) = false) := by decide +kernel

theorem wit_OperationRefused :
    let s := taskState [0x20, 0x3FFFFFFF, 0x3FF, 0]
    Runs s ∧ s.w.sounding (s.dev.cores.getD 0 0xFF) = false ∧ (s.w.core 0).phase = .running ∧ s.w.fetchOp 0 = .op [0x20, 0x3FFFFFFF, 0x3FF, 0] ∧
    opUses [0x20, 0x3FFFFFFF, 0x3FF, 0] = some [Use.dst, Use.src, Use.src, Use.no] ∧
    s.w.issueCheck (s.w.taskParams (s.w.core 0)) 0 (s.w.core 0) [0x20, 0x3FFFFFFF, 0x3FF, 0] [Use.dst, Use.src, Use.src, Use.no] (s.w.coreLcs 0) =
      .inl (stDescFormat, 0, 0, none) := by decide +kernel

theorem wit_TaskEvents :
    (∃ s : State, Runs s ∧ s.w.sounding (s.dev.cores.getD 0 0xFF) = false ∧ (s.w.core 0).phase = .launching ∧ (s.w.grun? (s.w.core 0).run).isSome = true) ∧
    (∃ s : State, Runs s ∧ s.w.sounding (s.dev.cores.getD 0 0xFF) = false ∧ (s.w.core 0).phase = .copying ∧
      s.w.firstPoison (segBase (s.w.taskParams (s.w.core 0)) 0 1) 0 = none) ∧
    (∃ s : State, Runs s ∧ s.w.sounding (s.dev.cores.getD 0 0xFF) = false ∧ (s.w.core 0).queue.findIdx? (fun q => q.unit == 2) = some 0 ∧
      ((s.w.core 0).queue[0]?.map TileOp.done) = some true) ∧
    (∃ s : State, Runs s ∧ s.w.sounding (s.dev.cores.getD 0 0xFF) = false ∧ (pendingBcast (s.w.core 0)).map TileOp.bcast = some (some 0) ∧ 0 < (s.w.core 0).bnext) ∧
    (∃ s : State, Runs s ∧ s.w.sounding (s.dev.cores.getD 0 0xFF) = false ∧ (s.w.core 0).phase = .running ∧ (s.w.core 0).ended = false ∧
      s.w.waitLimit (s.w.core 0) ≠ 0 ∧ s.rd Reg.ASH_FLAG_WAIT 0 = 1 ∧ (s.w.core 0).stall = some 0) ∧
    (∃ s : State, Runs s ∧ s.w.sounding (s.dev.cores.getD 0 0xFF) = false ∧ (s.w.core 0).phase = .running ∧ s.w.fetchOp 0 = .refill) :=
  ⟨⟨(taskState []).run fun w => w.setCore 0 { w.core 0 with phase := .launching }, by decide +kernel⟩,
    ⟨(taskState []).run fun w => w.setCore 0 { w.core 0 with phase := .copying }, by decide +kernel⟩,
    ⟨(taskState []).run fun w => w.setCore 0 { w.core 0 with queue := [⟨2, 0, [], [], Setup.launch, [], 0, [], [], none, true, true, []⟩] }, by decide +kernel⟩,
    ⟨(taskState []).run fun w => w.setCore 0 { w.core 0 with queue := [⟨2, 0, [], [], Setup.launch, [], 0, [], [], some 0, false, false, []⟩], bnext := 1 }, by decide +kernel⟩,
    ⟨(taskState []).run fun w => (w.setCore 0 { w.core 0 with stall := some 0 }).wr Reg.ASH_FLAG_WAIT 1 0, by decide +kernel⟩,
    taskState [], by decide +kernel⟩

/-- A task about to have its launch copy, its node's parameters with bit 4 set or not. -/
def copyingState (whole : Bool) : State :=
  ((taskState []).run fun w => w.setCore 0 { w.core 0 with phase := .copying }).run fun w =>
    w.setLdr { w.d.ldr with graphs := [{ taskGraph with graph := taskGraph.graph.set 16 (if whole then 16 else 0) }] }

theorem wit_TaskEvents_copy : ∀ whole ∈ [false, true],
    let s := copyingState whole
    let p := s.w.taskParams (s.w.core 0)
    Runs s ∧ s.w.sounding (s.dev.cores.getD 0 0xFF) = false ∧ (s.w.core 0).phase = .copying ∧ (s.w.core 0).ended = false ∧ bitAt (wd p 0) 4 = whole ∧
      s.w.firstPoison (segBase p 0 1 + wd p 4) (64 * bits (wd p 1) 15 0) = none ∧
      ((s.w.setCore 0 { s.w.core 0 with phase := .running }).store (segBase p 0 0 + wd p 5) (s.w.fetch (segBase p 0 1 + wd p 4) (64 * bits (wd p 1) 15 0))).firstPoison
        (segBase p 0 1 + wd p 2) (16 * bits (wd p 1) 31 16) = none := by decide +kernel

/-- A broadcast of 256 bytes that waits in core 0, whose group it is, with the group's next number as given. -/
def bcastState (next : Nat) : State := (taskState []).run fun w => w.setCore 0 { w.core 0 with
  queue := [⟨2, 0, [0x42, 0, 0, 0], [none, some ⟨⟨1, 1, 0, 0, [256], [1]⟩, none⟩, none, none], Setup.launch, [], 0, [], [], some 0, false, false, []⟩], bnext := next, bseq := 1 }

theorem wit_TaskEvents_broadcast : ∀ next ∈ [0, 1],
    let s := bcastState next
    Runs s ∧ s.w.sounding (s.dev.cores.getD 0 0xFF) = false ∧ (pendingBcast (s.w.core 0)).map TileOp.bcast = some (some 0) ∧ (s.w.core 0).bnext = next ∧
      s.w.bcastGroup 0 = [0] ∧ (s.w.core 0).bseq = 1 ∧ ((s.w.core 0).queue.find? (fun y => y.bcast == some 0)).isSome = true ∧
      (((s.w.core 0).queue.head?).map (fun q => (s.w.bcastRead 0 q).2.isLeft)) = some true := by decide +kernel

theorem wit_TaskEvents_more :
    (∃ s : State, Runs s ∧ s.w.sounding (s.dev.cores.getD 0 0xFF) = false ∧ (s.w.core 0).phase = .launching ∧ (s.w.grun? (s.w.core 0).run).isSome = true ∧
      s.rd Reg.SLOT_SSTATE (s.w.phys 0) ≠ 1) ∧
    (∃ s : State, Runs s ∧ s.w.sounding (s.dev.cores.getD 0 0xFF) = false ∧ (s.w.core 0).phase = .running ∧ (s.w.core 0).ended = false ∧
      s.w.waitLimit (s.w.core 0) ≠ 0 ∧ (s.w.core 0).stall = none ∧ (s.w.core 0).bwait = some 0) ∧ ((taskState []).w.core 0).stop = false :=
  ⟨⟨(taskState []).run fun w => w.setCore 0 { w.core 0 with phase := .launching }, by decide +kernel⟩,
    ⟨(taskState []).run fun w => w.setCore 0 { w.core 0 with bwait := some 0 }, by decide +kernel⟩, by decide +kernel⟩

theorem wit_PlumbAndSeam :
    (let s := engineState (nodeWith 9 0x74 [0, 0x400040, 0, 0]) 0 0x74 EngRun.none
    Runs s ∧ s.w.sounding 0x74 = false ∧ s.w.grun? 1 = some engineRun ∧ plumbGrid ((s.w.version 7).params 0) = (16, 4, 4) ∧ (s.w.eng 0x74).row < 4 ∧
      s.w.covers engineRun 0 0 15 = true ∧ (s.w.rowArea engineRun 0 0 16).find? (fun a => s.w.meetsPoison a.1 a.2) = none) ∧
    (let s := engineState (nodeWith 9 0x74 [0, 0x400040, 0, 0]) 0 0x74 { EngRun.none with row := 4 }
    Runs s ∧ s.w.sounding 0x74 = false ∧ 4 ≤ (s.w.eng 0x74).row ∧ (s.w.eng 0x74).run = 1) ∧
    (let s := engineState (nodeWith 0xA 0x75 [0, 0]) 0 0x175 EngRun.none
    let c := s.w.seamCtx engineRun 0
    Runs s ∧ s.w.sounding 0x75 = false ∧ s.w.grun? (s.w.eng 0x175).run = some engineRun ∧
      (s.w.reach ((s.w.eng 0x175).since + ceilDiv (c.wid * c.hei * c.e) 128)).meetsPoison c.first.base (c.first.pitch * c.hei) = false) := by decide +kernel

/-- A STEREO node's parameters: a course of 64 × 64 words of 4 bytes at 0. -/
def courseParams : List Nat := [0, 0, 0x400040] ++ List.replicate 13 0 ++ [256, 0, 0, 0]

/-- An engine on the second of two nodes, fed by a course whose first word is poisoned. -/
def poisonedCourse (tb u : Nat) (pb : List Nat) : State := (engineState (feeding 5 0x58 courseParams tb 0x75 pb) 1 u EngRun.none).run fun w =>
  (w.setPoison 0 true).wr Reg.FLAG_COUNT 1 0

theorem wit_VisionPoison :
    (let s := poisonedCourse 9 0x75 [0, 0x400040, 0, 0]
    Runs s ∧ s.w.sounding 0x75 = false ∧ s.w.grun? 1 = some engineRun ∧ (s.w.eng 0x75).run = 1 ∧ s.w.covers engineRun 1 0 15 = true ∧
      ((s.w.rowArea engineRun 1 0 16).find? (fun a => s.w.meetsPoison a.1 a.2)).isSome = true) ∧
    (let s := poisonedCourse 0xA 0x175 [0, 0, 0, 0, 0, 0, 0, 0, 0, 0x400040]
    let c := s.w.seamCtx engineRun 1
    Runs s ∧ s.w.sounding 0x75 = false ∧ s.w.grun? (s.w.eng 0x175).run = some engineRun ∧
      (s.w.reach ((s.w.eng 0x175).since + ceilDiv (c.wid * c.hei * c.e) 128)).meetsPoison c.first.base (c.first.pitch * c.hei) = true) := by decide +kernel

theorem wit_GatedTileLaunch :
    let s := (engineState (gatedWith 8 0xFF []) 1 0xFF EngRun.none).run fun w => { w with d := { w.d with cores := [67] } }
    Runs s ∧ s.w.grun? 1 = some engineRun ∧ (s.w.version 7).typ 1 = 8 ∧ (s.w.version 7).gated 1 = true ∧ (nodeRun engineRun 1).st = .running ∧ (nodeRun engineRun 1).finished = false ∧
      0 < s.w.listCount (s.w.inputList engineRun 1 (listPort (s.w.version 7) 1)) ∧
      (setBits 64 ((s.w.version 7).coreSet 1)).find? (fun c =>
        !s.w.coreBusy c && decide (s.dev.cores.getD c 0xFF ≤ 67) && !s.w.soundingOn (s.dev.cores.getD c 0xFF)) = some 0 := by decide +kernel

/-- Pipeline 3 free, an ISP_OUT node of context 0 running, and 4 lines of its frame received. -/
def stripeState : State := (engineState
    ⟨0, 1, 7, [0x10002, 1, 0, 0, 0, 0, 0, 0, 1, 0, 0, 0, 0, 0, 0, 0, 2, 0, 0, 0x100FF, 0, 0, 0, 0, 0x10000, 0, 0, 0, 1, 0], [1, 0, 4, 0], 0, true⟩ 1 0xFF
    EngRun.none).run fun w =>
  (((w.wr Reg.FLAG_COUNT 4 0).wr Reg.FLAG_TARGET 4 0).wr Reg.ISP_SCHED_EN 1).setCtxIn 0 { CtxIn.none with frame := some { blankFrame with run := 1, height := 4, slots := [none, none, none, none] } }

theorem wit_PipelineStripes : Runs stripeState ∧ stripeState.w.sounding 0x63 = false ∧ stripeState.rd Reg.ISP_SCHED_EN = 1 ∧ stripeState.w.pipeFree 3 = true ∧
    (stripeState.w.ispChoice 3).isSome = true ∧
    (let s := stripeState.run fun w => ((w.wr Reg.PIPE_BUSY 1 3).wr Reg.PIPE_CUR_CONTEXT 0 3).setIspCtx 0 { w.ispCtx 0 with run := 1, node := 1, pipe := 4 };
    Runs s ∧ s.w.sounding 0x63 = false ∧ s.rd Reg.PIPE_BUSY 3 = 1 ∧ (s.w.ispCtx 0).pipe = 4 ∧ (s.w.grun? (s.w.ispCtx 0).run).isSome = true ∧
      (s.w.frameOf engineRun 0).isSome = true) := by decide +kernel

theorem wit_PipelineStripes_over : ∃ s : State, Runs s ∧ s.w.sounding 0x63 = false ∧ s.rd Reg.PIPE_BUSY 3 = 1 ∧ (s.w.ispCtx 0).pipe = 4 ∧ s.w.grun? (s.w.ispCtx 0).run = none :=
  ⟨stripeState.run fun w => ((w.wr Reg.PIPE_BUSY 1 3).wr Reg.PIPE_CUR_CONTEXT 0 3).setIspCtx 0 { w.ispCtx 0 with run := 2, node := 1, pipe := 4 }, by decide +kernel⟩

/-- Engine 1 of a kind in a phase, on a node whose images are 64 × 64. -/
def passState (typ u phase level row : Nat) : State := engineState (nodeWith typ u [0, 0, 0x400040, 0, 0, 0, 0, 0, 0, 0, 0, 0, 0, 0]) 0 u
  { EngRun.none with phase := phase, level := level, row := row }

theorem wit_StereoSteps :
    (let s := passState 5 0x59 0 0 0
    Runs s ∧ s.w.sounding 0x59 = false ∧ s.w.grun? (s.w.eng 0x59).run = some engineRun ∧ (s.w.eng 0x59).phase = 0 ∧
      (s.w.eng 0x59).level = (s.w.stCtx engineRun 0 0x59).fine ∧ 1 < ceilDiv (lvDim (s.w.stCtx engineRun 0 0x59).hei 0) 16 ∧
      s.w.meetsPoison (s.w.stImg (s.w.stCtx engineRun 0 0x59) 0 0).base (s.w.stImg (s.w.stCtx engineRun 0 0x59) 0 0).bytes = false ∧
      s.w.meetsPoison (s.w.stImg (s.w.stCtx engineRun 0 0x59) 1 0).base (s.w.stImg (s.w.stCtx engineRun 0 0x59) 1 0).bytes = false) ∧
    (let s := passState 5 0x59 2 0 0
    Runs s ∧ (s.w.eng 0x59).phase = 2 ∧ (s.w.stCtx engineRun 0 0x59).fine = 0) ∧
    (let s := engineState (gatedWith 5 0x59 [0, 0, 0x400040, 0]) 1 0x59 { EngRun.none with phase := 3 }
    Runs s ∧ s.w.sounding 0x59 = false ∧ s.w.grun? (s.w.eng 0x59).run = some engineRun ∧ (s.w.eng 0x59).phase = 3 ∧
      0 < s.w.listCount (s.w.inputList engineRun 1 (listPort (s.w.version 7) 1)) ∧
      s.w.meetsPoison (s.w.stImg (s.w.stCtx engineRun 1 0x59) 0 0).base (s.w.stImg (s.w.stCtx engineRun 1 0x59) 0 0).bytes = false ∧
      s.w.meetsPoison (s.w.stImg (s.w.stCtx engineRun 1 0x59) 1 0).base (s.w.stImg (s.w.stCtx engineRun 1 0x59) 1 0).bytes = false) := by decide +kernel

theorem wit_StereoSteps_last :
    (let s := passState 5 0x59 0 0 3
    Runs s ∧ s.w.sounding 0x59 = false ∧ (s.w.eng 0x59).level = (s.w.stCtx engineRun 0 0x59).fine ∧
      ceilDiv (lvDim (s.w.stCtx engineRun 0 0x59).hei 0) 16 ≤ (s.w.eng 0x59).row + 1) ∧
    (let s := (passState 5 0x59 3 0 0).run fun w => w.setPoison 0 true
    Runs s ∧ s.w.sounding 0x59 = false ∧ s.w.grun? (s.w.eng 0x59).run = some engineRun ∧
      s.w.meetsPoison (s.w.stImg (s.w.stCtx engineRun 0 0x59) 0 0).base (s.w.stImg (s.w.stCtx engineRun 0 0x59) 0 0).bytes = true) := by decide +kernel

theorem wit_FlowSteps :
    (let s := passState 6 0x5B 0 0 0
    Runs s ∧ s.w.sounding 0x5B = false ∧ s.w.grun? (s.w.eng 0x5B).run = some engineRun ∧ (s.w.eng 0x5B).phase = 0 ∧
      (s.w.eng 0x5B).level = (s.w.flCtx engineRun 0 0x5B).last ∧ 1 < ceilDiv (lvDim (s.w.flCtx engineRun 0 0x5B).hei 0) 16 ∧
      s.w.meetsPoison (s.w.flI (s.w.flCtx engineRun 0 0x5B) 0).base (s.w.flI (s.w.flCtx engineRun 0 0x5B) 0).bytes = false ∧
      s.w.meetsPoison (s.w.flJ (s.w.flCtx engineRun 0 0x5B) 0).base (s.w.flJ (s.w.flCtx engineRun 0 0x5B) 0).bytes = false) ∧
    (let s := passState 6 0x5B 2 0 0
    Runs s ∧ (s.w.eng 0x5B).phase = 2 ∧ (s.w.flCtx engineRun 0 0x5B).last = 0) ∧
    (let s := engineState (gatedWith 6 0x5B [0, 0, 0x400040, 0]) 1 0x5B { EngRun.none with phase := 3 }
    Runs s ∧ s.w.sounding 0x5B = false ∧ s.w.grun? (s.w.eng 0x5B).run = some engineRun ∧ (s.w.eng 0x5B).phase = 3 ∧
      0 < s.w.listCount (s.w.inputList engineRun 1 (listPort (s.w.version 7) 1)) ∧
      s.w.meetsPoison (s.w.flI (s.w.flCtx engineRun 1 0x5B) 0).base (s.w.flI (s.w.flCtx engineRun 1 0x5B) 0).bytes = false ∧
      s.w.meetsPoison (s.w.flJ (s.w.flCtx engineRun 1 0x5B) 0).base (s.w.flJ (s.w.flCtx engineRun 1 0x5B) 0).bytes = false) := by decide +kernel

theorem wit_FlowSteps_last :
    (let s := passState 6 0x5B 0 0 3
    Runs s ∧ s.w.sounding 0x5B = false ∧ (s.w.eng 0x5B).level = (s.w.flCtx engineRun 0 0x5B).last ∧
      ceilDiv (lvDim (s.w.flCtx engineRun 0 0x5B).hei 0) 16 ≤ (s.w.eng 0x5B).row + 1) ∧
    (let s := (passState 6 0x5B 3 0 0).run fun w => w.setPoison 0 true
    Runs s ∧ s.w.sounding 0x5B = false ∧ s.w.grun? (s.w.eng 0x5B).run = some engineRun ∧
      s.w.meetsPoison (s.w.flI (s.w.flCtx engineRun 0 0x5B) 0).base (s.w.flI (s.w.flCtx engineRun 0 0x5B) 0).bytes = true) := by decide +kernel

/-- A feature engine, and a pyramid engine, at work on an image of 64 × 64, with its first word poisoned or not. -/
def featureState (bad : Bool) : State := (engineState (nodeWith 7 0x5D [0x100, 0, 0x400040, 0, 0, 0, 0, 0]) 0 0x5D EngRun.none).run fun w =>
  if bad then w.setPoison 0 true else w

def pyramidState (bad : Bool) : State := (engineState (nodeWith 3 0x53 [0, 0, 0x400040, 0, 0, 0, 64, 0]) 0 0x53 EngRun.none).run fun w =>
  if bad then w.setPoison 0 true else w

theorem wit_FeatureAndPyramid : ∀ bad ∈ [false, true],
    (let s := featureState bad
    Runs s ∧ s.w.sounding 0x5D = false ∧ s.w.grun? (s.w.eng 0x5D).run = some engineRun ∧ 0 < (s.w.ftCtx engineRun 0).levels ∧
      (∀ l, l < (s.w.ftCtx engineRun 0).levels →
        s.w.meetsPoison (s.w.ftImg (s.w.ftCtx engineRun 0) l).base (s.w.ftImg (s.w.ftCtx engineRun 0) l).bytes = bad)) ∧
    (let s := pyramidState bad
    let v := s.w.pyramidTake 0x53
    Runs s ∧ s.w.sounding 0x53 = false ∧ (v.grun? (v.eng 0x53).run).isSome = true ∧ v.covers engineRun 0 0 63 = true ∧
      v.meetsPoison (v.pyrInput engineRun 0).base (v.pyrInput engineRun 0).bytes = bad) := by decide +kernel

/-- Warp engine 3 on a DISPLACEMENT node of one source and one output pixel. -/
def warpState (pass : Nat) : State :=
  engineState (nodeWith 4 0x57 [0x2001, 0, 0x10001, 0x10001, 0, 0, 64, 0, 0, 0, 0, 0, 0, 0, 0, 0, 0, 0, 0, 0]) 0 0x57 { EngRun.none with pass := pass }

theorem wit_WarpSteps :
    Runs (warpState 0) ∧ (warpState 0).w.sounding 0x57 = false ∧ (warpState 0).w.grun? ((warpState 0).w.eng 0x57).run = some engineRun ∧
    warpOrigin ((warpState 0).w.warpCtx engineRun 0) ((warpState 0).w.eng 0x57) = (0, 0) ∧ 0 < ((warpState 0).w.warpCtx engineRun 0).oh ∧
    (warpState 0).w.warpReady engineRun 0 ((warpState 0).w.warpCtx engineRun 0) 0 0 = true ∧
    (warpState 0).w.warpLookups ((warpState 0).w.warpCtx engineRun 0) 0 0 = [0] ∧ cacheHits [0] [] = (0, []) ∧
    ((warpState 1).w.eng 0x57).pass = 1 ∧ (warpState 1).w.meetsPoison ((warpState 1).w.warpCtx engineRun 0).src.base 64 = false := by decide +kernel

theorem wit_WarpSteps_poison :
    let s := (warpState 1).run fun w => w.setPoison 0 true
    Runs s ∧ s.w.warpReady engineRun 0 (s.w.warpCtx engineRun 0) 0 0 = true ∧
      s.w.meetsPoison (s.w.warpCtx engineRun 0).src.base (s.w.warpCtx engineRun 0).src.bytes = true := by decide +kernel

/-- Queues 0 and 1 ACTIVE, generation 1 active. -/
def queueState : State := fromReset fun w =>
  let w := ((w.wr Reg.Q_STATE 1 0).wr Reg.Q_STATE 1 1).wr Reg.QE_ACTIVE_GEN 1
  (w.setQueue 0 ⟨0, 0, 6, 6, 0, false, 10, true, [], 0, none⟩).setQueue 1 ⟨0, 0, 6, 6, 0, false, 10, true, [], 0, none⟩

theorem wit_GraphAndDataJobs :
    JobStarts queueState ⟨1, 9, false⟩ 1 [0xFFFF + 63 * 0x1000000] ∧ JobStarts queueState ⟨1, 9, false⟩ 1 [0xFFFF + 0x10000] ∧
    JobStarts queueState ⟨1, 9, false⟩ 1 [0x20000 + 63 * 0x1000000] ∧ JobStarts queueState ⟨1, 9, false⟩ 2 [256, 0, 0, 0] ∧
    JobStarts queueState ⟨1, 9, false⟩ 3 [1023] ∧ JobStarts queueState ⟨1, 9, false⟩ 4 [0xFFFF3F01, 0, 0, 0, 0, 0, 0, 0] ∧
    JobStarts queueState ⟨1, 9, false⟩ 5 [64, 0, 0, 0] :=
  ⟨by decide +kernel, by decide +kernel, by decide +kernel, by decide +kernel, by decide +kernel, by decide +kernel, by decide +kernel⟩

theorem wit_FenceAndAdminJobs :
    JobStarts queueState ⟨1, 9, false⟩ 6 [255, 1, 0] ∧ JobStarts queueState ⟨1, 9, false⟩ 6 [255 + 0x100, 1, 1000] ∧
    JobStarts queueState ⟨1, 9, false⟩ 7 [3, 0, 2000, 0] ∧ JobStarts queueState ⟨0, 9, false⟩ 0x40 [8191, 0x606, 0, 0, 0x1000, 0, 0, 0, 0, 0, 0, 0] ∧
    JobStarts queueState ⟨0, 9, false⟩ 0x41 [1] ∧ JobStarts queueState ⟨0, 9, false⟩ 0x42 [4, 0, 0, 0, 64] ∧
    JobStarts queueState ⟨0, 9, false⟩ 0x43 [0, 0, 0, 0, 64] ∧ JobStarts queueState ⟨0, 9, false⟩ 0x44 [0x50] :=
  ⟨by decide +kernel, by decide +kernel, by decide +kernel, by decide +kernel, by decide +kernel, by decide +kernel, by decide +kernel, by decide +kernel⟩

theorem wit_PatrolScrub : (∃ s : State, Runs s ∧ s.w.logicalOf 67 = some 0 ∧ s.rd Reg.TS_SCRUB_EN 0 = 1 ∧ tget 0 s.dev.ecc.scrub 67 < 4095) ∧ Runs State.reset ∧ State.reset.rd Reg.QRY_SCRUB_EN = 1 ∧
    (∃ s : State, Runs s ∧ s.rd Reg.QRY_SCRUB_EN ≠ 1) ∧
    (∃ s : State, Runs s ∧ s.rd Reg.QRY_SCRUB_EN = 1 ∧ scrubRows 103 ≤ tget 0 s.dev.ecc.scrub 103 + 1) ∧ 31 < scrubBytes 103 / 8 ∧ 1 < scrubRows 68 :=
  ⟨⟨fromReset fun w => ({ w with d := { w.d with cores := [67] } }).wr Reg.TS_SCRUB_EN 1 0, by decide +kernel⟩, by decide +kernel, by decide +kernel, ⟨fromReset fun w => w.wr Reg.QRY_SCRUB_EN 0, by decide +kernel⟩,
    ⟨fromReset fun w => { w with d := { w.d with ecc := { w.d.ecc with scrub := [(103, 65535)] } } }, by decide +kernel⟩, by decide, by decide⟩

theorem wit_TileScrubOff : ∃ s : State, Runs s ∧ s.w.logicalOf 67 = some 0 ∧ s.rd Reg.TS_SCRUB_EN 0 ≠ 1 :=
  ⟨fromReset fun w => ({ w with d := { w.d with cores := [67] } }).wr Reg.TS_SCRUB_EN 0 0, by decide +kernel⟩

/-- A chain that moves nothing, of job 9 of queue 0. -/
def idleChain : Chain := ⟨1, some ⟨0, 9, 2, false⟩, 0, 0, [], 0x1000, 1, 0⟩

theorem wit_CopyChains :
    (∃ s : State, Runs s ∧ s.rd Reg.CP_BUSY 1 ≠ 1 ∧ s.w.isRetired 0x77 = false ∧ s.w.soundingOn 0x77 = false ∧ s.w.chainChoice 0x77 = some idleChain) ∧
    (∃ s : State, Runs s ∧ s.w.sounding 0x76 = false ∧ s.w.chainOf 0x76 = some idleChain ∧ idleChain.kind ≠ 2) :=
  ⟨⟨fromReset fun w => ({ w with d := { w.d with cpy := { w.d.cpy with waiting := [idleChain] } } }).upTo 90 fun w k => w.wr Reg.SLOT_SSTATE 2 k, by decide +kernel⟩,
    fromReset fun w => w.setChain 0x76 (some idleChain), by decide +kernel⟩

theorem wit_CopyChains_fill : ∃ s : State, Runs s ∧ s.w.sounding 0x77 = false ∧ s.w.chainOf 0x77 = some { idleChain with kind := 2, run := 1 } ∧
    (s.w.grun? 1).isSome = true :=
  ⟨(graphState (oneNode 3 0x53 0 0 0 0 0) { NodeRun.fresh with st := .cut, fillOwed := true }).run fun w =>
    w.setChain 0x77 (some { idleChain with kind := 2, run := 1 }), by decide +kernel⟩

theorem wit_ChannelCare : Runs State.reset ∧ State.reset.dev.pwr.mr4Hot.contains 31 = false ∧ State.reset.rd Reg.DDR_RETRAIN_INTERVAL_S ≠ 0 ∧
    Writable State.reset .security 0x90002C ∧ (∃ s : State, Runs s ∧ s.dev.ddr.settling = true) :=
  ⟨by decide +kernel, by decide +kernel, by decide +kernel, by decide +kernel, fromReset fun w => w.setDdr { w.d.ddr with settling := true }, by decide +kernel⟩

/-- The state with channel 31 in a step of its evacuation. -/
def evacState (step : EvacStep) : State := fromReset fun w => w.setDdr { w.d.ddr with evac := some ⟨31, step, false⟩ }

theorem wit_Evacuation :
    (∃ s : State, Runs s ∧ s.dev.ddr.retire = [] ∧ s.dev.ddr.selfRefresh = false ∧ s.dev.ddr.evac = none ∧ s.dev.ddr.queue = [31]) ∧
    (∃ s : State, Runs s ∧ s.dev.ddr.retire = [] ∧ s.dev.ddr.selfRefresh = false ∧ s.dev.ddr.evac = some ⟨31, .out, false⟩) ∧
    (∃ s : State, Runs s ∧ s.dev.ddr.retire = [] ∧ s.dev.ddr.selfRefresh = false ∧ s.dev.ddr.evac = some ⟨31, .back, false⟩) ∧
    (∃ s : State, Runs s ∧ s.dev.ddr.retire = [] ∧ s.dev.ddr.selfRefresh = false ∧ s.dev.ddr.evac = some ⟨31, .training, false⟩) :=
  ⟨⟨fromReset fun w => w.setDdr { w.d.ddr with queue := [31] }, by decide +kernel⟩, ⟨evacState .out, by decide +kernel⟩,
    ⟨evacState .back, by decide +kernel⟩, evacState .training, by decide +kernel⟩

/-- The state with queue 1 in a state, its result buffer and who deletes it as given. -/
def ringState (st : Nat) (buf : List BufEnt) (deleter : Option JobRef) : State := fromReset fun w =>
  let w := (w.wr Reg.Q_STATE st 1).wr Reg.Q_ARB_CLASS 0 1
  w.setQueue 1 { w.queue 1 with sqBase := 0x1000, cqBase := 0x2000, sqLog2 := 6, cqLog2 := 6, buf := buf, deleter := deleter }

/-- A result buffer entry of job 9 of queue 1. -/
def bufEntry (st : JobSt) : BufEnt := ⟨false, ⟨1, 9, 1, false⟩, [], 0, st, 0, 0, false, false, none, false⟩

theorem wit_QueueFetching : Runs State.reset ∧ State.reset.rd Reg.QE_Q_STALL_TB 8191 = 0 ∧
    (∃ s : State, Runs s ∧ s.dev.hif.d3hot = false ∧ s.rd Reg.TST_BP_MASK = 0 ∧ (s.w.arbitrate).map Prod.fst = some 1) ∧
    (∃ s : State, Runs s ∧ (s.w.queue 1).buf = [bufEntry .fetching] ∧
      (s.w.readAt uPcie ((s.w.queue 1).sqBase + 64 * (bufEntry .fetching).slot) 64).2.1 = stOk) :=
  ⟨by decide +kernel, by decide +kernel, ⟨(ringState 1 [] none).run fun w => w.wr Reg.Q_SQ_TAIL 1 1, by decide +kernel⟩,
    ringState 1 [bufEntry .fetching] none, by decide +kernel⟩

theorem wit_QueueFetching_more :
    (∃ s : State, Runs s ∧ s.w.perturbs 2 = false ∧ s.dev.hif.d3hot = true) ∧
    (∃ s : State, Runs s ∧ (s.w.queue 1).buf.findIdx? (fun e => decide (e.st = .fetching)) = some 1 ∧ (s.w.queue 1).buf[1]? = some (bufEntry .fetching) ∧
      (s.w.readAt uPcie ((s.w.queue 1).sqBase + 64 * (bufEntry .fetching).slot) 64).2.1 = stEccUncorrectable) :=
  ⟨⟨fromReset fun w => w.d3Entry, by decide +kernel⟩,
    (ringState 1 [bufEntry .started, bufEntry .fetching] none).run fun w => w.setPoison 0x1000 true, by decide +kernel⟩

theorem wit_QueueCompletions :
    (∃ s : State, Runs s ∧ s.rd Reg.Q_STATE 1 = 1 ∧ s.w.nextJob 1 = some (0, bufEntry .checked) ∧ s.w.accepts 1 0 (bufEntry .checked) = true) ∧
    (∃ s : State, Runs s ∧ s.rd Reg.Q_STATE 1 = 1 ∧ postable (s.w.queue 1) = some 0 ∧ (s.w.queue 1).buf[0]? = some (bufEntry .ready) ∧ s.w.cqFull 1 = false) ∧
    (∃ s : State, Runs s ∧ s.dev.hif.d3hot = false ∧ s.rd Reg.Q_STATE 1 = 1 ∧ s.rd Reg.QE_Q_STALL_TB 1 ≠ 0 ∧ s.w.cqFull 1 = true) ∧
    (∃ s : State, Runs s ∧ Writable s .host (0x210004 + 64 * 1) ∧ s.rd Reg.Q_STATE 1 = 2) :=
  ⟨⟨ringState 1 [bufEntry .checked] none, by decide +kernel⟩, ⟨ringState 1 [bufEntry .ready] none, by decide +kernel⟩,
    ⟨(ringState 1 [bufEntry .ready] none).run fun w => (w.wr Reg.Q_CQ_TAIL 63 1).wr Reg.QE_Q_STALL_TB 5 1, by decide +kernel⟩,
    ringState 2 [] none, by decide +kernel⟩

theorem wit_QueueCompletions_more :
    (∃ s : State, Runs s ∧ s.rd Reg.Q_STATE 1 = 3 ∧ postable (s.w.queue 1) = some 0 ∧ (s.w.queue 1).buf[0]? = some (bufEntry .ready) ∧ s.w.cqFull 1 = true ∧
      s.dev.hif.d3hot = false ∧ s.rd Reg.QE_Q_STALL_TB 1 ≠ 0) :=
  ⟨(ringState 3 [bufEntry .ready] none).run fun w => (w.wr Reg.Q_CQ_TAIL 63 1).wr Reg.QE_Q_STALL_TB 5 1, by decide +kernel⟩

theorem wit_FencesAndDeletion :
    (∃ s : State, Runs s ∧ s.dev.hif.fences.find? (fun f => f.job.q == 1 && f.deadline != 0) = some ⟨⟨1, 9, 6, false⟩, 255, 5, 100⟩) ∧
    (Runs State.reset ∧ Writable State.reset .host (0x201000 + 4 * 255)) ∧
    (∃ s : State, Runs s ∧ s.rd Reg.Q_STATE 1 = 3 ∧ (s.w.queue 1).buf = [] ∧ (s.w.queue 1).deleter = some ⟨0, 9, 0x41, false⟩) :=
  ⟨⟨fromReset fun w => w.setHif { w.d.hif with fences := [⟨⟨1, 9, 6, false⟩, 255, 5, 100⟩] }, by decide +kernel⟩, by decide +kernel,
    ringState 3 [] (some ⟨0, 9, 0x41, false⟩), by decide +kernel⟩

theorem wit_RegisterWrites : Runs State.reset ∧ fieldsAt 0x900024 4 = [⟨Reg.DDR_RETRAIN_INTERVAL_S, 0, 0⟩] ∧ (Reg.DDR_RETRAIN_INTERVAL_S).acc = .rw ∧
    Work.hooked Reg.DDR_RETRAIN_INTERVAL_S = false ∧ Reg.DDR_RETRAIN_INTERVAL_S ≠ Reg.DOM_HOLD ∧ Work.isWide (0x900024 / 8 * 8) = false ∧
    Writable State.reset .security 0x900024 ∧ Work.mayWrite uHost 0x900024 = false ∧ State.reset.w.special (unitOf .security) 0x900024 0xFFFFFFFF = none ∧
    fieldsAt Reg.QE_STALL_DEFAULT_MS.off 4 = [⟨Reg.QE_STALL_DEFAULT_MS, 0, 0⟩] ∧
    State.reset.w.fieldOk ⟨Reg.QE_STALL_DEFAULT_MS, 0, 0⟩ 0 = false :=
  ⟨by decide +kernel, by decide +kernel, by decide +kernel, by decide +kernel, by decide +kernel, by decide +kernel, by decide +kernel, by decide +kernel,
    by decide +kernel, by decide +kernel, by decide +kernel⟩

/-- The modulus of a 3,072-bit owner key, in its bytes. -/
def ownerModulus : List Byte := beBytes 384
  0xc6e28ba7d7747da673dd142c960214d940669ee58f20010e0763952acf2e937f78f735fe98900ea7880e959565118b43c1144c0b1f70e27b4b24a4eaedca1416934fcc340860bc5e6ad084dfad6889d55e7650d26c282142dbf6c8c74b1c52c43b04793f8ce3c7826d6a95378d2eb7b479019d65b4bebfeafe3ddfe065768d9f8245ec07d31006d478e5219901659e21c635c68aab7b41981bb160c8098cb3a0bcdcec7c9746907935d5993808063dd5825007e8ce79414c34d8bf9f97af2fa87edcc6ff49d111c44ae301f3c00d959ce0f86de76c4c0f8824ad4b5ab73a9aa496f627187639387e5ae38139a329c03b75887ed9f59838cde72076c5faaf1a8e5d0aa872150f7f9a0cac2d287e3e1edc18f60c30e364440bbf2d34b4c10135b1590e01b864b3307cf1bb419df0906fbc36363735edd1d18d0132bb5e63392dd3774c866ddacc4efde1bd90356e5df24e2bc90538b24520e2d4b873ac3976e63bd7dbf724fa1565d4a12fdd57884b1914878e8c0964e4642f1c5d4f863b31c6c5

/-- The state with that key enrolled in slot 1, by the end of its change (R451). -/
def ownedState : State := (fromReset fun w => w.setSec { w.d.sec with
  change := some ⟨0, 1, 0, 1, (List.range 12).map (fun i => (slotModRow 1 i, leNat ((ownerModulus.drop (32 * i)).take 32))) ++ [(slotStateRow 1, 1)], List.replicate 12 0#8⟩ }).run
    Work.changeBurned

/-- A signed item: what is signed, then its trailer with a signature (R35). -/
def signedItem (words : List Nat) (payload : List Byte) (sig : Nat) : List Byte :=
  wordsBytes words ++ payload ++ wordsBytes (1 :: List.replicate 31 0) ++ beBytes 384 sig

/-- Signatures under the owner key, made outside the model. -/
def containerSig : Nat :=
  0x4d8219387b4a0166d99ec296b4262c6d814da92612a954ed257f975dab31ee384843093c42d815308c241f0d8a8885ed1528b022e8ed3a2131812c76945d37a54a4b46135931ea3eb11ba6b4f238c0eaf0ba0159b48363dd77f6ba277bbbf226c06aaa1d8e0c314092fa858c2823dbbcd8e575048abc4904586b9f41b73b85ee64d766c87943d3140ec348db4969a9a7f4b257d34f69962dbf7c3e1eb206f0ded17f909809c4cd011e382175b9ac10fd747ff60c752e17476898d67ab3f431f93eae39edf0023627b4560bac36e55e6daf823b2bdcbbb9d0aea71248e5a8d4093880ef6358abeb08d99f9fff9ae25045f5d0f0c921179b9d5112aa6e0e0817c24dfa0ab573cf2b082c603d7e69f46497be77e13c70b50795063a549609f3c4d5691c44bbaa374f7243c4dc2231c5160dedbe11d95e381c487207f345788df759f1d5d8a37a7bf2191e282f36d016f6b7a03cde101c8be3c569dbf39c48cea937b26efc8cb92670e9ff91eefabf03b285fca38ca5d0e63a69ddcf5d54ffe37b53

def lockSig : Nat :=
  0x4e04d24e4a84fb07975a68c6e8d260c0b0733a4fa78710d41954f3ecc60667dee464262111e2a688a4949995c866286a388152c3c46fe6dbe54187dc8408ed3e73847c4e3f82517e49105fce0522cb33c42182cb70f507c4f2972f44a49440328b36917893206dfec04cfa0fe7127662d3642b85b3c9839f010e2fd8f642a9b6765b23910efe107bb351f6caef9249c80bdaecdac43c8d686a75207d878c0b64a9f162aa1772130ee23dcdbac73f8417a941b6428b98f8cf5ce3c7c2f4daf2b4b6d05b86533ed08662a3d8d7a0e3b4638d3313fa4d969c6f05b093a2e425ad280717c6d8123390d83ba764238213b19cb397acdd4819fba017f7dcf0413d1c5e767a5cbee61e6615217eb7222f9217b56b6139d0d0d8c02b2c97e69308bd34cbe511efbfd3f9506cb072b2c8bbc9a86654b0d37df2adfb89eed6068e989f92a1fd8bb862332826e07fa32851cbff35be7dd75cdba103fd28a733b0f906196712916172b8797f1ea1a5b0f1c5a63e32436f6b16b546d73979a2b5ea37793e163b

def loadSig : Nat :=
  0x5287efdd64c249bf45f626200648c313648d215d6ff09226c3cde86ae5871c31bbf901672846cb0557b2c301fd5eac7a4aac64d03814810c1de7c2fc4577fe5522fa070ced2f377ef47f5b584777ace50088fe17070a9df1010c86b4ef5b8c3a133ac85e84f064bee1c0ab1c93a2acfb49931119e7c93b979be7b92e2fc0627d16a5cdb7ce268b40b2e3231eb14ffac775c3b35ae2c572fffc063c7e7bfc90a68facfb9063e468c0d7f890b4180faf42d58b42503225bbd1302a41abbfd48d111a5661e3a60d88189a2eb63cc1d73772ec603572547f1a5477a00b065666505e562e3fd98ca2be94d143702afb53bfa7e69554882fa5425d2d72377dce764211946d200055413c02865ba042b5157cedcd80d755ee1efc8537c4594a28c60c89fdd605d2b51b840a7bec8aeca1b79f057e81ac75a7ed11993d1f78c8b87ae30a0e54b5103ec50d881525b24aa71eaa5b49c45884d5f8dde429e44717f757f8fceaad1e200556f3c8e44b1f4b823086de0e77e4007051a5a2c486555603c6f2bf

def clearSig : Nat :=
  0xa88a677c867dc4033632b950691262e764ff6ebdc5d11d5e5feb16d6e1a44145c45053a13c503ef6278882cbe4d0ab67475ca4c4cd698342690bc09f5dc96e6a4186d8e87e326ded689a4ec4d584ccf81043c989f5dd86bcb84576f15b65c98aba9636433c2d43151cfc4f4ceeec373939e523d7f5b0c2c49fe5259d16656a9d39a57f635d5f78c071475a84c5d46cfd3bea8e4dea9ed49360f720c7c68d3cbc3ee0082d5c132406ffeadcd24c38ebb18f52d07246022633c06621900154b1245b612e9c9808e169114c26a8c683740193be1eba66f34e0a9e54759395d7f7c5514b014c49f74099871cf337015f958f7824b6d353241aff48bda9da9b8ac0281b7213990c9c91dc26426b43565edfc0138467ea56fd1f188fca81a922646b62b5e9e0e27d87af2ded1d6b44f644f9c34bef3a0393d69f0c6bbf061849d3b768e3a911fad0dad23d7452b7cdbb7431737368493224047feb4b755711047a0296c379e9b26ac2fba1c340e2cdbd7108b4db1bad285f616242594fa69eebea6dab

def imageSig : Nat :=
  0x2dbcd6edd1f82af3ac19f72f15368d368caa025d53aee78cf8ba5be17a07e2e0dba1f9984c950c6ae1a0838abb05b073304d8dfe339061b9be4b58311253bc181c8f602a769476b34c7e39bc9469ed638010139df0c3977a89c6b03da0a3c93f88965158163e440ad69502e9e3f154a17ea6abecce3c0cd79ba19363f25310b17cbb700c1221d88c16aed638d666e6e3db58010ae341cef55716bc1e95ec9fbc56540ba9e4c697dba512bfd18dfce93c2adae8099491553fcf24b2636f8bbaab39d121f5b7db1b9421e526b68ee7281a90aa1e9f2956dcfe788dbcdedd210998c364a9535a3ca0f6961f8aa71d05fcf10e3fa47faac8abaf21a8389eeea8fd8c191e4adcc6ae4a5534d0bdc9be3d1c1ac3308a48c4a6b2df6af6b12140dc32df7f9ba94b0c850ea526e298c222b1176a493da9f86614d41655db3b7a4c26ef439300ca4e33b588e6dc59348784d46410fd06de6fedcea6a552b603d3c5c49fd04ea658bacda8e68f92f7b8559bb1d3ae3ea4df392ed793d4096d5a87df6fdb2a

def tokenSig : Nat :=
  0xbb440d43a2b7621cfb0e13f873b3a26e7ac478245bd3132aa36876bf6fbeb5cd09d672470706aaf54c132549ad999b4f14ab2b7d912f0f55255686e9cbcd28b94a01ba1b549c07121c8a639196e483c3aa477a67d6b953cdf82995327ad1e2be7725a4c2da2b2bc349005d426005a287f79f8008aada46e54a76de0b472f076cf48f8772523de6f6fd6361ff48aab7824d7c3feb72f4baee614ae0858ff6a4e4ad34f3030e9c09a0d3964a0fb9f5cb14d6685c5da321776ddc9496a02e71cc877c6e7ff2d441371ea91f92ee35383d8c06df117185010c8b1a4020c85158f37fdb01bb209e97f302414921f2a26b47b4833ab4ff9c2bd9c693291e52f1f1f4740444ecdc6fcee72593217e64442fc046391ff46f8ddda34d3af621829cb006dcb33634aad0d4cb2ec294cb5b71898d7e782648009af83e2ca3d928cea848596f4e3d263117868b25ee6b18de7bd79a9793d015066c0e9a08a49dc989e6d1566080b20c6597cf33caca5ea6c38eeaaa90d6d9d1b8f67f48eed1eb7127f68ef45a

/-- A container of good form and no region, a firmware image, a cornerstone command of OP 6, one that loads model key 15 and one that clears it, and a debug token. -/
def someContainer : List Byte := signedItem ([0x42485359, 0x101, 768, 1, 0xFFFF, 1, 1, 0] ++ List.replicate 56 0) [] containerSig
def someImage : List Byte := signedItem ([0x46485359, 0x101, 768, 0, 1, 5, 1, 0xFFFF] ++ List.replicate 56 0) [] imageSig
def lockCommand : List Byte := signedItem ([0x43485359, 0x10601, 576, 0, 0, 1] ++ List.replicate 10 0) [] lockSig
def loadCommand : List Byte := signedItem ([0x43485359, 0x11001, 964] ++ List.replicate 13 0) (leBytes 4 15 ++ List.replicate 384 0#8) loadSig
def clearCommand : List Byte := signedItem ([0x43485359, 0x0F011101, 576] ++ List.replicate 13 0) [] clearSig
def someToken : List Byte := signedItem ([0x44485359, 0x10001] ++ List.replicate 14 0) [] tokenSig

/-- An item under the owner key verifies, and one byte more before its trailer does not (R35). -/
theorem test_owner_key : ownedState.w.slotState 1 = 1 ∧ ownedState.w.keyModulus 1 = beNat ownerModulus ∧ ownedState.w.signed 1 someContainer = true ∧
    ownedState.w.signed 1 (0#8 :: someContainer) = false := by decide +kernel

/-- The state with that key and an item at 0x1000. -/
def itemState (item : List Byte) (f : Work → Work) : State := ownedState.run fun w => f (w.put .dev 0x1000 item)

/-- What that state holds at 0x1000 is read as it was put there. -/
theorem itemState_read (bs : List Byte) (f : Work → Work) (n : Nat) (hn : bs.length = n) (h0 : 0 < n) (hf : ∀ w, (f w).mops = w.mops)
    (hr : (itemState bs f).w.refusal? uSecurity 0x1000 n false = none) (hp : ((itemState bs f).w.countBytes uSecurity 0x1000 n false).meetsPoison 0x1000 n = false)
    (hs : Work.pieces 0x1000 n = [(0x1000, n)]) (hst : ((itemState bs f).w.countBytes uSecurity 0x1000 n false).storage 0x1000 = 0x1000) :
    ((itemState bs f).w.readAt uSecurity 0x1000 n).2 = (stOk, bs) := by
  subst hn
  refine Work.readAt_stored _ _ ownedState.mem.dev _ _ hr hp (by decide) hs hst rfl ?_
  have e : (Work.start ownedState).put .dev 0x1000 bs = { Work.start ownedState with mops := [.put .dev 0x1000 bs] } := by
    rw [Work.put, if_neg (by simp [List.isEmpty_iff]; intro e; simp [e] at h0)]; rfl
  change (itemState bs f).mem.dev = _
  simp only [itemState, State.run_mem, hf, e]
  rfl

/-- The state with the loader at a phase of a job for a container of 64 bytes at 0x1000, with model images to read. -/
def loadState (phase : LoadPhase) (images : List Region) : State := fromReset fun w =>
  w.setLdr { w.d.ldr with run := some ⟨⟨some ⟨0, 9, 5, false⟩, false, none, 0x1000, 64⟩, phase, List.replicate 64 0#8, images, []⟩ }

theorem wit_ContainerChecks :
    (∃ s : State, Runs s ∧ (∃ run, s.dev.ldr.run = some run ∧ run.phase = .staging ∧ run.job.boot = false) ∧ (s.w.loadRead uKeystone 0x1000 64 .none).2.1 = stOk) ∧
    (∀ good : Bool, ∃ s : State, Runs s ∧ (∃ run, s.dev.ldr.run = some run ∧ run.phase = .verifying ∧
      s.w.signed (bits (wd (bytesWords run.staged) 5) 7 0) (run.staged.take (ctTotal (bytesWords run.staged))) = good)) :=
  ⟨⟨loadState .staging [], by decide +kernel, ⟨_, rfl, rfl, rfl⟩, by decide +kernel⟩, fun good => by
    cases good
    · exact ⟨ownedState.run fun w => w.setLdr { w.d.ldr with run := some ⟨⟨none, false, none, 0x1000, 768⟩, .verifying, someContainer.set 700 0#8, [], []⟩ },
        by decide +kernel, _, rfl, rfl, by decide +kernel⟩
    · exact ⟨ownedState.run fun w => w.setLdr { w.d.ldr with run := some ⟨⟨none, false, none, 0x1000, 768⟩, .verifying, someContainer, [], []⟩ },
        by decide +kernel, _, rfl, rfl, by decide +kernel⟩⟩

/-- A MODEL_REF of 64 bytes of zeros at 0x1000 with a digest, that of the bytes or none, sealed or not. -/
def modelImage (good sealed : Bool) : Region := blankRegion 9 0 ([0x1000, 0, 64, if sealed then 0x10000 else 0x100] ++
  if good then [0x42FDA5F5, 0x30206AD1, 0x6EEF9827, 0x9B9709D3, 0x233D0043, 0xE8F0D920, 0xA93198EA, 0x4BFB5927] else List.replicate 8 0)

theorem wit_ContainerChecks_models : ∀ good ∈ [false, true], ∀ sealed ∈ [false, true],
    let s := loadState .models [modelImage good sealed]
    let g := s.w.loadRead uSecurity 0x1000 64 .none
    Runs s ∧ s.dev.ldr.run.map LoadRun.images = some [modelImage good sealed] ∧ g.2.1 = stOk ∧
      decide (sha256 g.2.2 = wordsBytes (((modelImage good sealed).words.drop 4).take 8)) = good ∧
      (g.1.imagePlain (modelImage good sealed) g.2.2).isLeft = sealed := by decide +kernel

theorem wit_HostSetup : Runs State.reset ∧ Writable State.reset .host 0x200008 ∧ Writable State.reset .host 0x200060 ∧
    (∃ s : State, Runs s ∧ Writable s .host 0x200018 ∧ s.rd Reg.QE_ACTIVE_VALID = 1 ∧ s.rd Reg.Q_STATE 0 = 0 ∧ 6 ≤ s.rd Reg.QE_AQ_SQ_LOG2 ∧
      s.rd Reg.QE_AQ_SQ_LOG2 ≤ 16 ∧ 6 ≤ s.rd Reg.QE_AQ_CQ_LOG2 ∧ s.rd Reg.QE_AQ_CQ_LOG2 ≤ 16 ∧ s.rd Reg.QE_AQ_SQ_BASE % 64 = 0 ∧
      s.rd Reg.QE_AQ_CQ_BASE % 64 = 0 ∧ s.w.ringPlace (s.rd Reg.QE_AQ_SQ_BASE) (64 * 2 ^ s.rd Reg.QE_AQ_SQ_LOG2) = true ∧
      s.w.ringPlace (s.rd Reg.QE_AQ_CQ_BASE) (16 * 2 ^ s.rd Reg.QE_AQ_CQ_LOG2) = true) :=
  ⟨by decide +kernel, by decide +kernel, by decide +kernel,
    fromReset fun w => ((((w.wr Reg.QE_ACTIVE_VALID 1).wr Reg.QE_AQ_SQ_LOG2 16).wr Reg.QE_AQ_CQ_LOG2 6).wr Reg.QE_AQ_SQ_BASE 0x1000000).wr Reg.QE_AQ_CQ_BASE 0x40,
    by decide +kernel⟩

/-- A result buffer entry that is being fetched. -/
def bufFetching : BufEnt := ⟨false, ⟨1, 9, 1, false⟩, [], 0, .fetching, 0, 0, false, false, none, false⟩

theorem wit_HostTraffic : Runs State.reset ∧ 8 + 4096 ≤ 2 ^ State.reset.dev.hif.bar2Log2 ∧
    2 ^ State.reset.dev.hif.bar2Log2 < (BitVec.ofNat 40 (2 ^ State.reset.dev.hif.bar2Log2)).toNat + 1 ∧
    (∃ s : State, Runs s ∧ (s.w.queue 1).buf = [bufFetching]) :=
  ⟨by decide +kernel, by decide +kernel, by decide +kernel, fromReset fun w => w.setQueue 1 { w.queue 1 with buf := [bufFetching] }, by decide +kernel⟩

theorem wit_TimeFromPtm : ∃ s : State, s.dev.pwr.refStopped = false ∧ s.rd Reg.QE_TB_ROLE = 1 ∧ s.dev.hif.ptmOut = true :=
  ⟨fromReset fun w => (w.wr Reg.QE_TB_ROLE 1).setHif { w.d.hif with ptmOut := true }, by decide +kernel⟩

theorem wit_HostPowerAndReset : State.reset.dev.pwr.refStopped = false ∧ State.reset.dev.hif.d3hot = false ∧
    (∃ s : State, s.dev.pwr.refStopped = false ∧ s.dev.hif.d3hot = true) ∧
    (∃ s : State, s.dev.pwr.refStopped = false ∧ (s.w.wr Reg.PWR_RESET_CAUSE (Nat.lor (s.rd Reg.PWR_RESET_CAUSE) (2 ^ 2))).justReset = false ∧
      (s.w.wr Reg.PWR_RESET_CAUSE (Nat.lor (s.rd Reg.PWR_RESET_CAUSE) (2 ^ 3))).justReset = false) :=
  ⟨by decide +kernel, by decide +kernel, ⟨fromReset fun w => w.d3Entry, by decide +kernel⟩, fromReset fun w => w.advance 1000000, by decide +kernel⟩

theorem wit_WrappersAndSnapshots :
    (Runs State.reset ∧ unitKnown 0x77 = true ∧ resettable 0x77 = true ∧ State.reset.w.isRetired 0x77 = false) ∧
    (∃ s : State, Runs s ∧ s.dev.sec.resets.find? (fun r => r.unit == 0x77) = some ⟨0x77, none, 0⟩ ∧ s.w.isRetired 0x77 = false) ∧
    (∃ s : State, Runs s ∧ s.dev.sec.snaps.find? (fun x => x.set == 3 && !x.taken) = some ⟨3, none, false, []⟩) ∧
    (∃ s : State, Runs s ∧ s.dev.sec.snaps.find? (fun x => x.set == 3 && x.taken) = some ⟨3, none, true, [1, 2]⟩) :=
  ⟨by decide +kernel, ⟨fromReset fun w => w.setSec { w.d.sec with resets := [⟨0x77, none, 0⟩] }, by decide +kernel⟩,
    ⟨fromReset fun w => w.setSec { w.d.sec with snaps := [⟨3, none, false, []⟩] }, by decide +kernel⟩,
    fromReset fun w => w.setSec { w.d.sec with snaps := [⟨3, none, true, [1, 2]⟩] }, by decide +kernel⟩

theorem wit_LinkResets : Runs State.reset ∧ resettable 0x84 = true ∧ State.reset.w.isRetired 0x84 = false ∧ resettable 0xC0 = false ∧
    (fromReset fun w => { w with d := { w.d with retired := [0x77] } }).w.isRetired 0x77 = true := by decide +kernel

/-- The state with Dravig port 3 in a state, its own state beyond registers as given. -/
def linkState (st : Nat) (x : DPort) : State := fromReset fun w =>
  ((w.setDport 3 x).wr Reg.DPORT_STATE st 3).wr Reg.DRV_ID_VALID 1

theorem wit_PortTraining : Runs State.reset ∧ Writable State.reset .host 0xA02300 ∧ State.reset.rd Reg.DPORT_ENABLE 3 ≠ 1 ∧
    (∃ s : State, Runs s ∧ s.rd Reg.DPORT_STATE 3 = 1 ∧ (s.w.dport 3).fails = 2) ∧
    (∃ s : State, Runs s ∧ s.rd Reg.DPORT_STATE 3 = 1 ∧ (s.w.dport 3).fails < 2 ∧ (s.w.dport 3).step = 1) ∧
    (∃ s : State, Runs s ∧ s.rd Reg.DPORT_STATE 3 = 1 ∧ (s.w.dport 3).step = 2) ∧
    (∃ s : State, Runs s ∧ s.rd Reg.DPORT_STATE 3 = 1 ∧ (s.w.dport 3).step = 3 ∧ (s.w.dport 3).hello = true ∧ s.rd Reg.DRV_ID_VALID = 1) ∧
    (∃ s : State, Runs s ∧ s.rd Reg.DPORT_STATE 3 = 2) ∧ (∃ s : State, Runs s ∧ s.rd Reg.DPORT_STATE 3 = 3 ∧ s.rd Reg.PWR_DEVICE_STATE = 0) :=
  ⟨by decide +kernel, by decide +kernel, by decide +kernel, ⟨linkState 1 { DPort.reset with step := 1, fails := 2 }, by decide +kernel⟩,
    ⟨linkState 1 { DPort.reset with step := 1 }, by decide +kernel⟩, ⟨linkState 1 { DPort.reset with step := 2 }, by decide +kernel⟩,
    ⟨linkState 1 { DPort.reset with step := 3, hello := true }, by decide +kernel⟩, ⟨linkState 2 DPort.reset, by decide +kernel⟩,
    linkState 3 DPort.reset, by decide +kernel⟩

theorem wit_PortTraining_enable : (State.reset.w.dport 3).off = false ∧
    (∃ s : State, Runs s ∧ Writable s .host 0xA02300 ∧ s.rd Reg.DPORT_ENABLE 3 ≠ 1 ∧ (s.w.dport 3).off = true) ∧
    (∃ s : State, Runs s ∧ Writable s .host 0xA02300 ∧ s.rd Reg.DPORT_ENABLE 3 = 1) :=
  ⟨by decide +kernel, ⟨linkState 0 { DPort.reset with off := true }, by decide +kernel⟩, (linkState 2 DPort.reset).run fun w => w.wr Reg.DPORT_ENABLE 1 3, by decide +kernel⟩

/-- A flit of SEQ 0 that carries nothing, with its CRC. -/
def idleFlit : List Byte := List.replicate 252 0#8 ++ leBytes 4 (crc32c (List.replicate 252 0#8))

theorem wit_FlitsInOrder : flitGood (List.replicate 256 1#8) = false ∧ flitGood idleFlit = true ∧
    (∃ s : State, Runs s ∧ s.rd Reg.DPORT_STATE 3 = 2 ∧ bits (flitWord idleFlit 0) 11 0 = (s.w.dport 3).rxSeq ∧ s.dev.drv.held.length < 256) ∧
    (∃ s : State, Runs s ∧ s.rd Reg.DPORT_STATE 3 = 2 ∧ bits (flitWord idleFlit 0) 11 0 ≠ (s.w.dport 3).rxSeq) ∧
    (∃ s : State, Runs s ∧ s.rd Reg.DPORT_STATE 3 = 2 ∧ (s.w.dport 3).replay ≠ []) :=
  ⟨by decide +kernel, by decide +kernel, ⟨linkState 2 DPort.reset, by decide +kernel⟩, ⟨linkState 2 { DPort.reset with rxSeq := 4095 }, by decide +kernel⟩,
    linkState 2 { DPort.reset with replay := [⟨0, 0, ⟨⟨0, 0, 0⟩, .timeSync⟩, 0⟩] }, by decide +kernel⟩

/-- A resident graph of no nodes whose one flag, flag 0, is remote-visible. -/
def remoteGraph : GVer := ⟨0, 1, 7, [0x10000, 1, 0, 0, 0, 0, 0, 0], [1, 0, 1, 1], 0, true⟩

theorem wit_PacketsInOrder :
    (∃ s : State, Runs s ∧ s.rd Reg.DPORT_STATE 3 = 2 ∧ 0 = s.rd Reg.DRV_DEVICE_ID ∧ 0 = s.w.expected 191 ∧ s.rd Reg.WIN_OPEN 63 ≠ 1 ∧ s.w.flagOwner 16383 = none) ∧
    (∃ s : State, Runs s ∧ s.rd Reg.DPORT_STATE 3 = 2 ∧ 0 = s.rd Reg.DRV_DEVICE_ID ∧ 0 = s.w.expected 191 ∧ s.rd Reg.WIN_OPEN 63 = 1 ∧
      0 = s.rd Reg.WIN_GEN 63 ∧ 4096 ≤ s.rd Reg.WIN_SIZE 63 ∧ s.rd Reg.WIN_SIZE 63 < 4096 + 1) ∧
    (∃ s : State, Runs s ∧ s.rd Reg.DPORT_STATE 3 = 2 ∧ 0 = s.rd Reg.DRV_DEVICE_ID ∧ 0 = s.w.expected 191 ∧
      (∃ g i, s.w.flagOwner 0 = some (g, i) ∧ g.remoteVisible i = true)) :=
  ⟨⟨linkState 2 DPort.reset, by decide +kernel⟩,
    ⟨(linkState 2 DPort.reset).run fun w => (w.wr Reg.WIN_OPEN 1 63).wr Reg.WIN_SIZE 4096 63, by decide +kernel⟩,
    (linkState 2 DPort.reset).run fun w => w.setLdr { w.d.ldr with graphs := [remoteGraph] }, by decide +kernel, by decide +kernel, by decide +kernel,
    by decide +kernel, remoteGraph, 0, by decide +kernel, by decide +kernel⟩

theorem wit_PacketsAtOnce : ∃ s : State, Runs s ∧ s.rd Reg.DPORT_STATE 3 = 2 ∧ 0 = s.rd Reg.DRV_DEVICE_ID ∧ s.dev.drv.kept = [] ∧
    s.dev.drv.unans.find? (fun u => u.dest == 191 && u.isRead && u.tag == 7) = some ⟨191, 0, 7, 0, 0, 63, 0, true, 0x1000, 4, 0⟩ :=
  ⟨(linkState 2 DPort.reset).run fun w => w.setDrv { w.d.drv with unans := [⟨191, 0, 7, 0, 0, 63, 0, true, 0x1000, 4, 0⟩] }, by decide +kernel⟩

theorem wit_LinkTimersAndAnswers : badHeader [0x80, 0, 0, 0] = true ∧ badHeader [0x10, 0, 0, 0] = false ∧
    (∃ s : State, Runs s ∧ s.rd Reg.DPORT_STATE 3 = 2 ∧ (s.dev.drv.unans.find? (fun u => u.dest == 191)).isSome = true) ∧
    (∃ s : State, Runs s ∧ (tget (0, 0) s.dev.drv.covered 191).1 ≠ 0) :=
  ⟨by decide +kernel, by decide +kernel,
    ⟨(linkState 2 DPort.reset).run fun w => w.setDrv { w.d.drv with unans := [⟨191, 0, 7, 0, 0, 63, 0, true, 0x1000, 4, 0⟩] }, by decide +kernel⟩,
    fromReset fun w => w.setDrv { w.d.drv with covered := [(191, (64, 63))] }, by decide +kernel⟩

theorem wit_WindowLife : Runs State.reset ∧ Writable State.reset .host (0xA01000 + 32 * 63) ∧ State.reset.rd Reg.WIN_OPEN 63 ≠ 1 ∧
    (∃ s : State, Runs s ∧ Writable s .host (0xA01000 + 32 * 63) ∧ s.rd Reg.WIN_OPEN 63 = 1) :=
  ⟨by decide +kernel, by decide +kernel, by decide +kernel, fromReset fun w => w.wr Reg.WIN_OPEN 1 63, by decide +kernel⟩

theorem wit_TimeFromDravig : ∃ s : State, Runs s ∧ s.rd Reg.QE_TB_ROLE = 2 ∧ s.rd Reg.DRV_TB_MASTER ≠ 1 ∧ s.w.tbParent = some 3 ∧ s.dev.drv.syncOut = true :=
  ⟨(linkState 2 DPort.reset).run fun w => ((w.wr Reg.QE_TB_ROLE 2).wr Reg.DRV_TB_PARENT 3).setDrv { w.d.drv with syncOut := true }, by decide +kernel⟩

theorem wit_LevelRequests : State.reset.dev.pwr.refStopped = false ∧ Writable State.reset .host 0x100008 := by decide +kernel

/-- The state with a transition of domain V at a step. -/
def shiftState (step : ShiftStep) : State := fromReset fun w => (w.setShift 1 (some ⟨1, false, false, step⟩)).setPwr
  { (w.setShift 1 (some ⟨1, false, false, step⟩)).d.pwr with retry := [0, 5] }

theorem wit_LevelTransitions :
    (∃ s : State, s.dev.pwr.refStopped = false ∧ s.w.shiftOf 1 = some ⟨1, false, false, .write⟩ ∧ s.dev.pwr.retry.getD 1 0 ≠ 0) ∧
    (∃ s : State, s.dev.pwr.refStopped = false ∧ s.w.shiftOf 1 = some ⟨1, false, false, .slew⟩) ∧
    (∃ s : State, s.dev.pwr.refStopped = false ∧ s.w.shiftOf 1 = some ⟨1, false, false, .confirm⟩) :=
  ⟨⟨shiftState .write, by decide +kernel⟩, ⟨shiftState .slew, by decide +kernel⟩, shiftState .confirm, by decide +kernel⟩

theorem wit_PowerAndHeat : State.reset.dev.pwr.refStopped = false ∧ State.reset.rd Reg.PWR_TRIPPED ≠ 1 ∧
    (∀ i : Fin 48, (Vector.replicate 48 ((460 : Int), false))[i].2 = false) ∧
    (∃ s : State, s.dev.pwr.refStopped = false ∧ s.w.thermalReadings.any (fun x => decide (s.w.throttleAt ≤ x)) = true ∧ s.dev.pwr.thermalA < 2) ∧
    (∃ s : State, s.dev.pwr.refStopped = false ∧ s.w.thermalReadings.all (fun x => decide (x < s.w.throttleAt - 20)) = true ∧ s.dev.pwr.thermalV = 0 ∧
      s.dev.pwr.thermalA ≠ 0) :=
  ⟨by decide +kernel, by decide +kernel, by decide +kernel, ⟨fromReset fun w => w.wr Reg.SENS_TEMP 400 47, by decide +kernel⟩,
    fromReset fun w => w.setPwr { w.d.pwr with thermalA := 1 }, by decide +kernel⟩

/-- The state with a POWER_POLICY whose idle times are 1000 ns for S1, 2 µs for S2 and 1 for S3, and domain 13's state as given. -/
def sleepState (st goal : Nat) : State := fromReset fun w =>
  let w := w.setLdr { w.d.ldr with regions := [blankRegion 7 0 [0, 1000, 2, 1, 0, 0, 0, 0]] }
  (w.wr Reg.DOM_STATE st 13).setDom 13 { w.dom 13 with goal := goal }

theorem wit_DomainSleep :
    (∃ s : State, Runs s ∧ s.w.policy 1 ≠ 0 ∧ 1000 * s.w.policy 2 ≠ 0 ∧ s.w.domainMay 13 true = true ∧ s.w.domainMay 13 false = true ∧ s.rd Reg.DOM_STATE 13 = 0 ∧
      s.rd Reg.DOM_HOLD 13 ≠ 1 ∧ s.w.domainIdle 13 = true ∧ (s.w.advance ((s.w.dom 13).idleFrom + s.w.policy 1)).refuser 13 = none) ∧
    (∃ s : State, Runs s ∧ s.w.policy 1 ≠ 0 ∧ s.rd Reg.DOM_STATE 13 = 0 ∧ s.rd Reg.DOM_HOLD 13 ≠ 1 ∧ s.w.refuser 13 ≠ none ∧
      (s.w.advance ((s.w.dom 13).idleFrom + s.w.policy 1)).refuser 13 = some 0x64) ∧
    (∃ s : State, Runs s ∧ s.rd Reg.DOM_STATE 13 = 3 ∧ (s.w.dom 13).goal ≠ 0 ∧ (s.w.dom 13).wake = false) ∧
    (∃ s : State, Runs s ∧ s.rd Reg.DOM_STATE 13 = 1 ∧ (s.w.dom 13).goal = 2 ∧ (s.w.dom 13).wake = false) ∧
    (∃ s : State, Runs s ∧ s.rd Reg.DOM_STATE 13 = 2 ∧ (s.w.dom 13).goal = 0) ∧ (∃ s : State, Runs s ∧ s.rd Reg.DOM_STATE 13 = 4) :=
  ⟨⟨sleepState 0 0, by decide +kernel⟩,
    ⟨(sleepState 0 0).run fun w => w.setCtxIn 1 { CtxIn.none with frame := some blankFrame }, by decide +kernel⟩,
    ⟨sleepState 3 1, by decide +kernel⟩, ⟨sleepState 1 2, by decide +kernel⟩, ⟨sleepState 2 0, by decide +kernel⟩, sleepState 4 0, by decide +kernel⟩

theorem wit_DeviceSleep :
    (∃ s : State, Runs s ∧ s.rd Reg.PWR_DEVICE_STATE = 0 ∧ s.w.s3Ready = true) ∧
    (∃ s : State, Runs s ∧ s.rd Reg.PWR_DEVICE_STATE = 1 ∧ s.dev.pwr.s3Wake = none ∧ bitAt (s.rd Reg.PWR_WAKE_EN) 4 = true) ∧
    (∃ s : State, Runs s ∧ s.rd Reg.PWR_DEVICE_STATE = 2 ∧ s.dev.pwr.alarm ≠ 0 ∧ bitAt (s.rd Reg.PWR_WAKE_EN) 0 = true) ∧
    (∃ s : State, Runs s ∧ s.rd Reg.PWR_DEVICE_STATE = 3) ∧ (∃ s : State, s.dev.hif.linkUp = true) :=
  ⟨⟨(sleepState 0 0).run fun w => w.setHif { w.d.hif with linkL1 := true }, by decide +kernel⟩,
    ⟨fromReset fun w => w.wr Reg.PWR_DEVICE_STATE 1, by decide +kernel⟩,
    ⟨fromReset fun w => (w.wr Reg.PWR_DEVICE_STATE 2).setPwr { w.d.pwr with alarm := 50 }, by decide +kernel⟩,
    ⟨fromReset fun w => w.wr Reg.PWR_DEVICE_STATE 3, by decide +kernel⟩, fromReset fun w => w.setHif { w.d.hif with linkUp := true }, by decide +kernel⟩

theorem wit_DeviceSleep_wake :
    (let s := fromReset fun w => ((w.wr Reg.PWR_DEVICE_STATE 2).wr Reg.PWR_WAKE_EN 0x11).setPwr { w.d.pwr with alarm := 50 }
    Runs s ∧ bitAt (s.rd Reg.PWR_WAKE_EN) 4 = true ∧ s.w.wakeSeen 4 = true ∧ s.w.wakeSeen 7 = false) ∧
    (let s := fromReset fun w => (w.wr Reg.PWR_DEVICE_STATE 1).wr Reg.PWR_WAKE_EN 1
    Runs s ∧ bitAt (s.rd Reg.PWR_WAKE_EN) 0 = true ∧ s.w.wakeSeen 0 = true ∧ s.dev.pwr.s3Wake = none) := by decide +kernel

theorem wit_PowerOnState : State.reset.dev.sec.change = none ∧ State.reset.dev.pwr.refStopped = false := by decide +kernel

theorem wit_ChipResets :
    (∃ s : State, s.dev.pwr.refStopped = false ∧ s.w.justReset = false ∧ s.dev.sec.change = none ∧ s.dev.sec.resetAt = none ∧ s.dev.saf.resetAsk = some 5 ∧
      s.rd Reg.PWR_TRIPPED = 1) :=
  ⟨fromReset fun w => ((w.advance 1000).wr Reg.PWR_TRIPPED 1).setSaf { (w.advance 1000).d.saf with resetAsk := some 5 }, by decide +kernel⟩

theorem wit_WatchdogAndRequests : State.reset.dev.pwr.refStopped = false ∧ Writable State.reset .security 0x10401C ∧ State.reset.rd Reg.RST_WDT_EN ≠ 1 ∧
    Writable State.reset .host 0x104010 ∧ (∃ s : State, s.dev.pwr.refStopped = false ∧ Writable s .security 0x10401C ∧ s.rd Reg.RST_WDT_EN = 1) :=
  ⟨by decide +kernel, by decide +kernel, by decide +kernel, by decide +kernel, fromReset fun w => w.wdtArm, by decide +kernel⟩

/-- The state with boot at a step, in a BOOT_STATE. -/
def bootState (b : BootAt) (st : Nat) : State := fromReset fun w => (w.setSec { w.d.sec with boot := b }).wr Reg.RST_BOOT_STATE st

theorem wit_BootSteps : (Runs State.reset ∧ State.reset.dev.sec.boot = .pll) ∧
    (∃ s : State, Runs s ∧ s.dev.sec.boot ≠ .pll ∧ s.dev.sec.trained = false) ∧
    (∃ s : State, Runs s ∧ s.dev.sec.boot = .rom ∧ s.rd Reg.RST_BOOT_STATE = 1 ∧ s.dev.sec.image = none ∧
      s.w.num .nor (0x10000 * (s.w.ob 14 + 256 * s.w.ob 15)) 4 = 0x46485359) ∧
    (∃ s : State, Runs s ∧ s.rd Reg.RST_BOOT_STATE = 3 ∧ s.dev.ldr.run = none ∧ s.w.num .nor (0x10000 * (s.w.ob 16 + 256 * s.w.ob 17)) 4 = 0x42485359) :=
  ⟨by decide +kernel, ⟨bootState .rom 0, by decide +kernel⟩,
    ⟨(bootState .rom 1).run fun w => w.put .nor (0x10000 * (w.ob 14 + 256 * w.ob 15)) (leBytes 4 0x46485359), by decide +kernel⟩,
    (bootState .ready 3).run fun w => w.put .nor (0x10000 * (w.ob 16 + 256 * w.ob 17)) (leBytes 4 0x42485359), by decide +kernel⟩

/-- A running firmware image. -/
def someFw : FwInfo := ⟨5, 1, 0, 0, []⟩

/-- The state with an image of 768 bytes for the security core to take, which is read as it is. -/
def imageState (bs : List Byte) : State := itemState bs fun w =>
  (((w.wr Reg.SEC_IMG_ADDR 0x1000).wr Reg.SEC_IMG_LEN 768).wr Reg.RST_BOOT_STATE 5).setSec { w.d.sec with staged := some someFw }

theorem imageState_read (bs : List Byte) (hn : bs.length = 768) (h1 : (imageState bs).rd Reg.SEC_IMG_ADDR = 0x1000) (h2 : (imageState bs).rd Reg.SEC_IMG_LEN = 768)
    (hd : (imageState bs).w.inDram 0x1000 768 = true)
    (hr : (imageState bs).w.refusal? uSecurity 0x1000 768 false = none) (hp : ((imageState bs).w.countBytes uSecurity 0x1000 768 false).meetsPoison 0x1000 768 = false)
    (hst : ((imageState bs).w.countBytes uSecurity 0x1000 768 false).storage 0x1000 = 0x1000) : (imageState bs).w.imgRead.2 = (stOk, bs) := by
  have e : (imageState bs).w.imgRead = (imageState bs).w.readAt uSecurity 0x1000 768 := by
    have h1' : (imageState bs).w.rd Reg.SEC_IMG_ADDR = 0x1000 := h1
    have h2' : (imageState bs).w.rd Reg.SEC_IMG_LEN = 768 := h2
    simp [Work.imgRead, h1', h2', hd]
  rw [e]
  exact itemState_read _ _ _ hn (by decide) (fun w => by simp) hr hp (by decide +kernel) hst

theorem wit_FirmwareImages :
    (∃ s : State, Runs s ∧ s.dev.sec.image = some ⟨.norBoot, List.replicate 64 0#8, none⟩ ∧ (s.w.fwCheck (List.replicate 64 0#8)).2 = stDescFormat) ∧
    (∃ s : State, Runs s ∧ s.dev.sec.image = some ⟨.hostBoot, [], some stDescFormat⟩) ∧
    (∃ s : State, Runs s ∧ s.dev.sec.handover = some ⟨0, 0⟩ ∧ s.dev.sec.staged = some someFw ∧ s.w.curTid 0 = none ∧ (s.w.pair 0).saving = none ∧
      s.w.keyActive someFw.slot = true) :=
  ⟨⟨fromReset fun w => w.setSec { w.d.sec with image := some ⟨.norBoot, List.replicate 64 0#8, none⟩ }, by decide +kernel⟩,
    ⟨fromReset fun w => w.setSec { w.d.sec with image := some ⟨.hostBoot, [], some stDescFormat⟩ }, by decide +kernel⟩,
    fromReset fun w => w.setSec { w.d.sec with handover := some ⟨0, 0⟩, staged := some someFw }, by decide +kernel⟩

/-- An image whose signature is another's, and one that passes. -/
theorem wit_FirmwareImages_signed : (ownedState.w.fwEarly (bytesWords (someImage.set 700 0#8)) 768 = none ∧
      ownedState.w.signed 1 ((someImage.set 700 0#8).take 768) = false) ∧ wd (bytesWords someImage) 0 = 0x46485359 ∧ (ownedState.w.fwCheck someImage).2 = stOk := by
  decide +kernel

theorem wit_FirmwareImages_commands : (imageState someImage).w.imgRead.2 = (stOk, someImage) ∧ Runs (imageState someImage) ∧
    Writable (imageState someImage) .host 0xC01010 ∧ (imageState someImage).rd Reg.SEC_IMG_BUSY ≠ 1 ∧ (imageState someImage).rd Reg.RST_BOOT_STATE = 5 ∧
    (imageState someImage).dev.sec.staged ≠ none ∧ (imageState someImage).w.nextPair 0 = some 0 :=
  ⟨imageState_read _ (by decide +kernel) (by decide +kernel) (by decide +kernel) (by decide +kernel) (by decide +kernel) (by decide +kernel) (by decide +kernel),
    by decide +kernel⟩

/-- The state can read a container of good form for the NOR, which is signed or is not. -/
abbrev Programs (bs : List Byte) (good : Bool) : Prop :=
  let s := imageState bs
  let g := s.w.imgRead
  Runs s ∧ Writable s .host 0xC01010 ∧ s.rd Reg.SEC_IMG_BUSY ≠ 1 ∧ wd (bytesWords bs) 0 ≠ 0x46485359 ∧
    (g.1.earlySteps (bytesWords bs) 768).isNone = true ∧ g.1.signed (bits (wd (bytesWords bs) 5) 7 0) (bs.take 768) = good ∧
    (g.1.countVerify good).rollbackCounter ≤ bits (wd (bytesWords bs) 5) 15 8 ∧ (stepReserved (bytesWords bs)).isNone = true

theorem wit_FirmwareImages_nor : (imageState someContainer).w.imgRead.2 = (stOk, someContainer) ∧ Programs someContainer true ∧
    (imageState (someContainer.set 700 0#8)).w.imgRead.2 = (stOk, someContainer.set 700 0#8) ∧ Programs (someContainer.set 700 0#8) false :=
  ⟨imageState_read _ (by decide +kernel) (by decide +kernel) (by decide +kernel) (by decide +kernel) (by decide +kernel) (by decide +kernel) (by decide +kernel),
    by decide +kernel,
    imageState_read _ (by decide +kernel) (by decide +kernel) (by decide +kernel) (by decide +kernel) (by decide +kernel) (by decide +kernel) (by decide +kernel),
    by decide +kernel⟩

/-- The state at TB 1 ms with slot 89 good and its next sounding due. -/
def slotState (x : Sounding) : State := fromReset fun w => ((w.advance 1000000).wr Reg.SLOT_SSTATE 2 89).setSnd 89 x

theorem wit_SoundingSchedule :
    (∃ s : State, Runs s ∧ s.rd Reg.SLOT_SSTATE 89 = 2 ∧ (s.w.snd 89).running = false ∧ s.w.atBoundary (slotUnit 89) = true ∧ s.dev.saf.nextProfile = none ∧
      s.dev.saf.newExpected = [] ∧ (s.w.snd 89).forced = true) ∧
    (∃ s : State, Runs s ∧ s.rd Reg.SLOT_SSTATE 89 = 2 ∧ (s.w.snd 89).running = false ∧ s.w.atBoundary (slotUnit 89) = true ∧
      s.rd Reg.SLOT_LAST_START_TB 89 + s.w.slotInterval 89 ≤ s.w.now) ∧
    (Writable State.reset .host 0xB00024 ∧ State.reset.w.slotLive 89 = true) :=
  ⟨⟨slotState { Sounding.none with forced := true }, by decide +kernel⟩, ⟨slotState Sounding.none, by decide +kernel⟩, by decide +kernel⟩

theorem wit_SoundingResults : ∃ s : State, Runs s ∧ (s.w.snd 89).running = true := ⟨slotState { Sounding.none with running := true }, by decide +kernel⟩

theorem wit_SafeRunUpkeep :
    (∃ s : State, Runs s ∧ (List.range 36).find? (fun k => s.w.role k == 5) = some 35 ∧ s.dev.saf.setReady = false) ∧
    (Runs State.reset ∧ State.reset.rd Reg.SAF_STATE = 0 ∧ State.reset.rd Reg.SAF_INJ_DONE ≠ 1) ∧
    (∃ s : State, Runs s ∧ s.rd Reg.SAF_STATE = 1 ∧ s.dev.saf.hbNext ≠ 0 ∧ s.dev.saf.nextProfile = none) ∧
    (∃ s : State, Runs s ∧ s.w.grun? 1 = some { blankRun with heldUntil := 5 }) :=
  ⟨⟨fromReset fun w => w.wr Reg.SLAB_ROLE 5 35, by decide +kernel⟩, by decide +kernel,
    ⟨fromReset fun w => (w.wr Reg.SAF_STATE 1).setSaf { w.d.saf with hbNext := 50 }, by decide +kernel⟩,
    fromReset fun w => w.setKs { w.d.ks with runs := [{ blankRun with heldUntil := 5 }] }, by decide +kernel⟩

theorem wit_SafeDegradedEntry : State.reset.w.rd Reg.SAF_STATE = 0 ∧ (State.reset.w.wr Reg.SAF_STATE 2).rd Reg.SAF_STATE = 2 := by decide +kernel

/-- The state with that key, a cornerstone command in memory and the SEC_CC registers naming it. -/
def commandState (cmd : List Byte) : State := itemState cmd fun w => (w.wr Reg.SEC_CC_ADDR 0x1000).wr Reg.SEC_CC_LEN cmd.length

theorem commandState_read (cmd : List Byte) (n : Nat) (hn : cmd.length = n) (h0 : 0 < n) (hr : (commandState cmd).w.refusal? uSecurity 0x1000 n false = none)
    (hp : ((commandState cmd).w.countBytes uSecurity 0x1000 n false).meetsPoison 0x1000 n = false) (hs : Work.pieces 0x1000 n = [(0x1000, n)])
    (hst : ((commandState cmd).w.countBytes uSecurity 0x1000 n false).storage 0x1000 = 0x1000) : ((commandState cmd).w.readAt uSecurity 0x1000 n).2 = (stOk, cmd) :=
  itemState_read _ _ _ hn h0 (fun w => by simp) hr hp hs hst

/-- The state may read its command of OP op, which passes steps 1 to 3 and is signed, or is not. -/
abbrev Commands (cmd : List Byte) (op : Nat) (good : Bool) : Prop :=
  let s := commandState cmd
  let g := s.w.readAt uSecurity 0x1000 cmd.length
  let h := bytesWords (cmd.take 64)
  Runs s ∧ Settled s ∧ Writable s .host 0xC02010 ∧ s.rd Reg.SEC_CC_BUSY ≠ 1 ∧ s.rd Reg.SEC_CC_ADDR % 64 = 0 ∧
    s.w.inDram (s.rd Reg.SEC_CC_ADDR) (s.rd Reg.SEC_CC_LEN) = true ∧ Work.ccOp h = op ∧
    (g.1.ccEarly h cmd.length (Work.sigAlg cmd)).isNone = true ∧ g.1.signed (Work.ccSlot h) cmd = good

/-- The signed command passes the later checks too. -/
abbrev Passes (cmd : List Byte) (op : Nat) : Prop :=
  Work.ccReserved cmd = false ∧ (((commandState cmd).w.readAt uSecurity 0x1000 cmd.length).1.inc Reg.SEC_CNT_VERIFY).ccLate (bytesWords (cmd.take 64))
    ((cmd.drop 64).take (Work.ccPayload op)) = stOk

theorem wit_CornerstoneCommands : ((commandState lockCommand).w.readAt uSecurity 0x1000 576).2 = (stOk, lockCommand) ∧ Commands lockCommand 6 true ∧ Passes lockCommand 6 ∧
    ((commandState (lockCommand.set 500 0#8)).w.readAt uSecurity 0x1000 576).2 = (stOk, (lockCommand.set 500 0#8)) ∧ Commands (lockCommand.set 500 0#8) 6 false :=
  ⟨commandState_read _ _ (by decide +kernel) (by decide) (by decide +kernel) (by decide +kernel) (by decide +kernel) (by decide +kernel), by decide +kernel, by decide +kernel,
    commandState_read _ _ (by decide +kernel) (by decide) (by decide +kernel) (by decide +kernel) (by decide +kernel) (by decide +kernel), by decide +kernel⟩

theorem wit_CornerstoneCommands_early : ((commandState (lockCommand.set 4 0#8)).w.readAt uSecurity 0x1000 576).2 = (stOk, (lockCommand.set 4 0#8)) ∧
    (let cmd := lockCommand.set 4 0#8
    Runs (commandState cmd) ∧ Work.ccOp (bytesWords (cmd.take 64)) = 6 ∧
      (((commandState cmd).w.readAt uSecurity 0x1000 576).1.ccEarly (bytesWords (cmd.take 64)) 576 (Work.sigAlg cmd)).isSome = true) :=
  ⟨commandState_read _ _ (by decide +kernel) (by decide) (by decide +kernel) (by decide +kernel) (by decide +kernel) (by decide +kernel), by decide +kernel⟩

theorem wit_ChangeTakesEffect : ∃ s : State, s.dev.pwr.refStopped = false ∧ s.dev.sec.change = some ⟨0, 6, 0, 0, [(profileLockRow, 1)], []⟩ ∧ Settled s :=
  ⟨fromReset fun w => w.setSec { w.d.sec with change := some ⟨0, 6, 0, 0, [(profileLockRow, 1)], []⟩ }, by decide +kernel⟩

theorem wit_SpdmAnswers : State.reset.dev.pwr.refStopped = false ∧ 0 ≤ (certChain State.reset.otp.serial).length ∧ (8#8 : BitVec 8) ≠ 0#8 ∧
    (15 : Fin 16) ≠ 0 := ⟨by decide +kernel, Nat.zero_le _, by decide, by decide⟩

theorem wit_DebugUnlocking :
    (∃ s : State, Runs s ∧ Writable s .host 0xC03028 ∧ s.rd Reg.SEC_CC_BUSY ≠ 1 ∧ s.w.debugPolicy = 0) ∧
    (∃ s : State, Runs s ∧ Writable s .host 0xC03028 ∧ s.rd Reg.SEC_CC_BUSY ≠ 1 ∧ s.w.debugPolicy = 1 ∧ s.rd Reg.SEC_DBG_TOKEN_ADDR % 64 = 0 ∧
      (s.w.readAt uSecurity (s.rd Reg.SEC_DBG_TOKEN_ADDR) 576).2.1 = stOk) ∧
    (∃ s : State, Runs s ∧ Writable s .host 0xC03028 ∧ s.rd Reg.SEC_CC_BUSY ≠ 1 ∧ s.w.debugPolicy = 2) :=
  ⟨⟨State.reset, by decide +kernel⟩, ⟨fromReset fun w => w.wr Reg.PWR_OB 0x01000000 2, by decide +kernel⟩,
    fromReset fun w => w.wr Reg.PWR_OB 0x02000000 2, by decide +kernel⟩

theorem wit_MarksAndClaims : Runs State.reset ∧ Writable State.reset .host 0xD00020 ∧ Writable State.reset .host 0xF00010 ∧
    (fromReset fun w => w.wr Reg.CNT_TRACE_EN 1).rd Reg.CNT_TRACE_EN = 1 ∧ State.reset.rd Reg.HOLDT_HOLDER 15 = 0xFF ∧
    (fromReset fun w => w.wr Reg.HOLDT_HOLDER 0xC0 15).rd Reg.HOLDT_HOLDER 15 = unitOf .host := by decide +kernel

theorem wit_PinsAndTimers :
    (∃ s : State, Runs s ∧ Writable s .host 0xF02004 ∧ s.rd Reg.HOLDG_HOLDER 31 = unitOf .host ∧ s.rd Reg.HOLDG_HOLDER 0 ≠ unitOf .host ∧
      bitAt s.dev.balls.gpio 31 = false) ∧
    (∃ s : State, Runs s ∧ s.rd Reg.TMR_ENABLE 15 = 1 ∧ s.rd Reg.TMR_MODE 15 = 1) ∧
    (∃ s : State, Runs s ∧ s.rd Reg.TMR_ENABLE 0 = 1 ∧ s.rd Reg.TMR_MODE 0 = 0) ∧
    (∃ s : State, Runs s ∧ s.rd Reg.TMR_ENABLE 15 = 1 ∧ s.rd Reg.TMR_MODE 15 = 2) :=
  ⟨⟨fromReset fun w => w.wr Reg.HOLDG_HOLDER 0xC0 31, by decide +kernel⟩,
    ⟨fromReset fun w => (w.wr Reg.TMR_ENABLE 1 15).wr Reg.TMR_MODE 1 15, by decide +kernel⟩,
    ⟨fromReset fun w => w.wr Reg.TMR_ENABLE 1 0, by decide +kernel⟩,
    fromReset fun w => (w.wr Reg.TMR_ENABLE 1 15).wr Reg.TMR_MODE 2 15, by decide +kernel⟩

theorem wit_PinsAndTimers_capture : (∃ s : State, Runs s ∧ s.rd Reg.TMR_ENABLE 15 = 1 ∧ s.rd Reg.TMR_MODE 15 = 2 ∧ s.w.captures 15 = true ∧ s.w.wakePin 30 = true) ∧
    (∃ s : State, Runs s ∧ s.rd Reg.TMR_ENABLE 15 = 1 ∧ s.rd Reg.TMR_MODE 15 = 1 ∧ tget 0 s.dev.balls.next 15 ≠ 0) :=
  ⟨⟨fromReset fun w => ((w.wr Reg.TMR_ENABLE 1 15).wr Reg.TMR_MODE 2 15).setLdr { w.d.ldr with regions := [blankRegion 4 0 [0xF041F, 0x51E]] }, by decide +kernel⟩,
    fromReset fun w => let w := (w.wr Reg.TMR_ENABLE 1 15).wr Reg.TMR_MODE 1 15
      { w with d := { w.d with balls := { w.d.balls with next := tset 0 w.d.balls.next 15 6 } } }, by decide +kernel⟩

theorem wit_BoundaryScan : ∃ s : State, s.rd Reg.DPORT_STATE 3 = Work.dpActive :=
  ⟨fromReset fun w => w.wr Reg.DPORT_STATE Work.dpActive 3, by decide +kernel⟩

theorem wit_ReadsMasksAndWakes :
    (∃ s : State, Runs s ∧ s.dev.hif.fnMasked = false ∧ s.dev.hif.pba = [2047] ∧ s.dev.hif.d3hot = false ∧
      (tget MsixEnt.reset s.dev.hif.msix 2047).masked = false) ∧
    (∃ s : State, ∃ x, Runs s ∧ s.w.waits 16383 = [x] ∧ x.dueTb ≠ 0) :=
  ⟨⟨fromReset fun w => w.setHif { w.d.hif with fnMasked := false, pba := [2047], msix := tset MsixEnt.reset w.d.hif.msix 2047 ⟨0x1000, 1, false⟩ },
      by decide +kernel⟩,
    fromReset fun w => w.setWaits 16383 [⟨.node 7 0, 1, false, 5⟩], ⟨.node 7 0, 1, false, 5⟩, by decide +kernel⟩

theorem wit_ModelKeyStore_load : ((commandState loadCommand).w.readAt uSecurity 0x1000 964).2 = (stOk, loadCommand) ∧ Commands loadCommand 0x10 true ∧ Passes loadCommand 0x10 :=
  ⟨commandState_read _ _ (by decide +kernel) (by decide) (by decide +kernel) (by decide +kernel) (by decide +kernel) (by decide +kernel), by decide +kernel, by decide +kernel⟩

theorem wit_ModelKeyStore_clear : ((commandState clearCommand).w.readAt uSecurity 0x1000 576).2 = (stOk, clearCommand) ∧ Commands clearCommand 0x11 true ∧ Passes clearCommand 0x11 ∧ Writable State.reset .host 0xC03028 ∧ State.reset.w.debugPolicy = 0 ∧
    (∃ s : State, Runs s ∧ Settled s ∧ s.dev.sec.boot ≠ .pll ∧ s.dev.saf.resetAsk ≠ none ∧ s.dev.sec.resetAt ≠ none ∧ s.rd Reg.RST_WDT_EN = 1) :=
  ⟨commandState_read _ _ (by decide +kernel) (by decide) (by decide +kernel) (by decide +kernel) (by decide +kernel) (by decide +kernel), by decide +kernel, by decide +kernel, by decide +kernel, by decide +kernel,
    fromReset fun w => let w := (w.setSec { w.d.sec with boot := .rom, resetAt := some 5 }).wr Reg.RST_WDT_EN 1
      w.setSaf { w.d.saf with resetAsk := some 5 }, by decide +kernel⟩

theorem wit_StepRunsTheFrontCommand : State.reset.pending = [] := rfl

theorem wit_ReadLatch : Runs State.reset ∧ Settled State.reset ∧ State.reset.w.answers (unitOf .host) 0x200000 = true ∧ Work.isWide 0x200000 = true ∧ Work.isWide 0x401000 = false ∧
    Requester.host ≠ Requester.pair 3 ∧
    (∃ s : State, Runs s ∧ tget (0, 0) s.dev.latches (unitOf .host) = (0x200004, 5)) :=
  ⟨by decide +kernel, by decide +kernel, by decide +kernel, by decide +kernel, by decide +kernel, by decide, fromReset fun w => w.setLatch uHost (0x200004, 5), by decide +kernel⟩

theorem wit_CanonicalKept : Canonical State.reset ∧ step State.reset = .next State.reset := ⟨⟨by decide +kernel, by decide +kernel⟩, rfl⟩

theorem wit_OtpOnlyGains : ∃ s : State, s.w.otpRow (slotModRow 4 12) ≠ 0 ∧ step s = .next s :=
  ⟨{ State.reset with otp := { State.reset.otp with rows := tset 0 [] (slotModRow 4 12) 1 } }, by decide +kernel, rfl⟩

theorem wit_RegisterFrames : Runs State.reset ∧ Settled State.reset ∧ Writable State.reset .host (0x40400C + 0x40 * 63) ∧
    (∃ s : State, Runs s ∧ Settled s ∧ s.w.portLive 15 = true) ∧
    (∃ s : State, Runs s ∧ Settled s ∧ Writable s .host (0x210004 + 64 * 8191) ∧ s.rd Reg.Q_STATE 8191 = 2) ∧
    (∃ s : State, Runs s ∧ Settled s ∧ ∀ p : Nat, p < 32 → s.rd Reg.HOLDG_HOLDER p = unitOf .host) :=
  ⟨by decide +kernel, by decide +kernel, by decide +kernel,
    ⟨fromReset fun w => (w.wr Reg.PORT_ENABLE 1 15).wr Reg.PORT_LOCKED 1 15, by decide +kernel⟩,
    ⟨fromReset fun w => w.wr Reg.Q_STATE 2 8191, by decide +kernel⟩,
    fromReset fun w => w.upTo 32 (fun w p => w.wr Reg.HOLDG_HOLDER 0xC0 p), by decide +kernel⟩

theorem wit_RegisterFrames_queue : Writable State.reset .host 0x200008 ∧
    (∃ s : State, Runs s ∧ Settled s ∧ s.rd Reg.Q_STATE 1 = 1 ∧ s.rd Reg.QE_Q_STALL_TB 1 = 0 ∧ s.w.dbDead 1 = false ∧ 5 < 2 ^ (s.w.queue 1).sqLog2 ∧
      5 < 2 ^ (s.w.queue 1).cqLog2 ∧ (5 + 2 ^ (s.w.queue 1).cqLog2 - s.rd Reg.Q_CQ_HEAD 1) % 2 ^ (s.w.queue 1).cqLog2 ≤ s.w.cqUsed 1) :=
  ⟨by decide +kernel, (ringState 1 [] none).run fun w => w.wr Reg.Q_CQ_TAIL 7 1, by decide +kernel⟩

theorem wit_MemoryFrames : Runs State.reset ∧ Settled State.reset ∧ State.reset.w.freeTid ≠ none ∧
    State.reset.w.refusal? uHost (State.reset.w.bar2Addr 0) 8 true = none ∧ inHostWin (State.reset.w.bar2Addr 0) 1 = false ∧
    0 + 8 ≤ 2 ^ State.reset.dev.hif.bar2Log2 := by decide +kernel

theorem wit_MemoryFrames_bar2 : Work.pieces (State.reset.w.bar2Addr 0) 8 = [(State.reset.w.bar2Addr 0, 8)] := by decide +kernel

/-- The state under debug policy 1 with a token for its challenge of zeros in memory. -/
def tokenState : State := itemState someToken fun w =>
  ((w.wr Reg.PWR_OB 0x01000000 2).wr Reg.SEC_DBG_TOKEN_ADDR 0x1000).setSec { w.d.sec with challenge := true }

theorem wit_ModelKeyStore_unlock : Runs tokenState ∧ Settled tokenState ∧ Writable tokenState .host 0xC03028 ∧ tokenState.rd Reg.SEC_CC_BUSY ≠ 1 ∧
    tokenState.w.debugPolicy = 1 ∧ tokenState.rd Reg.SEC_DBG_TOKEN_ADDR % 64 = 0 ∧ (tokenState.w.readAt uSecurity 0x1000 576).2 = (stOk, someToken) ∧
    ((tokenState.w.readAt uSecurity 0x1000 576).1.tokenCheck someToken).2 = stOk :=
  ⟨by decide +kernel, by decide +kernel, by decide +kernel, by decide +kernel, by decide +kernel, by decide +kernel,
    itemState_read _ _ _ (by decide +kernel) (by decide) (fun w => by simp) (by decide +kernel) (by decide +kernel) (by decide +kernel) (by decide +kernel),
    by decide +kernel⟩
end

section
/-! PROOF. R7: what a register read answers, and what it does to the high-half latches. -/

namespace Sys2Proof.Machine

namespace Work

variable (w : Work) (u : Nat)

/-! ### A latch and what a read of fields changes -/

@[simp] theorem setLatch_latches (x : Nat × Nat) : (w.setLatch u x).d.latches = tset (0, 0) w.d.latches u x := rfl
@[simp] theorem setLatch_on (x : Nat × Nat) (f : Fld) (i j : Nat) : (w.setLatch u x).on f i j = w.on f i j := rfl
@[simp] theorem setLatch_answers (x : Nat × Nat) (r off : Nat) : (w.setLatch u x).answers r off = w.answers r off := rfl

/-- No field shows what a latch holds. -/
@[simp] theorem setLatch_valueOf (x : Nat × Nat) (y : FldAt) : (w.setLatch u x).valueOf y = w.valueOf y := rfl

/-- Reading a field neither uses nor disturbs a latch. -/
theorem setLatch_readField (x : Nat × Nat) (r : Nat) (y : FldAt) :
    (w.setLatch u x).readField r y = ((w.readField r y).1.setLatch u x, (w.readField r y).2) := by
  simp only [readField, setLatch_valueOf]
  split_ifs
  · rfl
  · rfl
  · rfl
  · generalize y.f.acc = acc
    cases acc <;> rfl

/-- Reading fields answers the same whatever a latch holds. -/
@[simp] theorem setLatch_readFields_value (x : Nat × Nat) (r off n : Nat) :
    ((w.setLatch u x).readFields r off n).2 = (w.readFields r off n).2 := by
  refine (congrArg (fun acc : Work × Nat => low (8 * n) acc.2)
    (List.foldl_hom (Prod.map (setLatch · u x) id) (init := (w, 0)) fun acc y => ?_)).trans rfl
  simp [setLatch_readField]

/-- The working copies differ in the register file and the I3C masters alone, which reads of RC fields (R8) and of ING_I3C_RDATA (R128) change. -/
def OnlyRegsAndI3c (w v : Work) : Prop :=
  ∃ regs i3c, v = { w with d := { w.d with regs := regs, ing := { w.d.ing with i3c := i3c } } }

variable {w u}

theorem OnlyRegsAndI3c.refl : OnlyRegsAndI3c w w := ⟨_, _, rfl⟩

theorem OnlyRegsAndI3c.trans {v x : Work} (h : OnlyRegsAndI3c w v) (k : OnlyRegsAndI3c v x) : OnlyRegsAndI3c w x := by
  obtain ⟨_, _, rfl⟩ := h
  obtain ⟨_, _, rfl⟩ := k
  exact ⟨_, _, rfl⟩

theorem onlyRegsAndI3c_readField (r : Nat) (y : FldAt) : OnlyRegsAndI3c w (w.readField r y).1 := by
  unfold readField
  split_ifs
  · exact ⟨_, _, rfl⟩
  · exact .refl
  · exact .refl
  · cases y.f.acc <;> exact ⟨_, _, rfl⟩

theorem onlyRegsAndI3c_readFields (r off n : Nat) : OnlyRegsAndI3c w (w.readFields r off n).1 :=
  List.foldlRecOn (motive := fun acc : Work × Nat => OnlyRegsAndI3c w acc.1) (fieldsAt off n) _ .refl
    fun _ h y _ => h.trans (onlyRegsAndI3c_readField r y)

@[simp] theorem readFields_latches (r off n : Nat) : (w.readFields r off n).1.d.latches = w.d.latches := by
  obtain ⟨_, _, h⟩ := onlyRegsAndI3c_readFields (w := w) r off n
  rw [h]

/-! ### What a register read answers (R7) -/

section Answered

variable {off : Nat} (ha : w.answers u off = true) (hb : off < 0x1000000) (ht : off / 0x100000 ≠ 14)
include ha hb ht

/-- An aligned 8-byte read empties the latch and answers with the fields of both halves. -/
theorem regRead_eight (h8 : off % 8 = 0) : w.regRead u off 8 = (w.setLatch u (0, 0)).readFields u off 8 := by
  simp [regRead, ha, ht, h8, Nat.not_le.mpr hb]

/-- A read of the low half of a 64-bit register answers with it and latches the high half. -/
theorem regRead_low_half (h8 : off % 8 = 0) (hw : isWide off = true) :
    w.regRead u off 4 = (((w.setLatch u (0, 0)).readFields u off 8).1.setLatch u (off + 4, (w.readFields u off 8).2 / 2 ^ 32),
      low 32 (w.readFields u off 8).2) := by
  have h4 : off % 4 = 0 := by omega
  simp [regRead, ha, ht, h8, h4, hw, Nat.not_le.mpr hb]

/-- A read of the half that its requester's latch holds answers with what is latched. -/
theorem regRead_latched_half (h8 : off % 8 = 4) (hl : (tget (0, 0) w.d.latches u).1 = off) :
    w.regRead u off 4 = (w.setLatch u (0, 0), (tget (0, 0) w.d.latches u).2) := by
  have h4 : off % 4 = 0 := by omega
  have h0 : off ≠ 0 := by omega
  simp [regRead, ha, ht, h8, h4, h0, hl, Nat.not_le.mpr hb]

/-- Any other 4-byte read answers with the live value. -/
theorem regRead_live (h4 : off % 4 = 0) (hw : off % 8 = 0 → isWide off = false) (hl : (tget (0, 0) w.d.latches u).1 ≠ off) :
    w.regRead u off 4 = (w.setLatch u (0, 0)).readFields u off 4 := by
  have hwide : ¬(off % 8 = 0 ∧ isWide off = true) := fun ⟨h8, h⟩ => by simp [hw h8] at h
  simp [regRead, ha, ht, h4, hwide, hl, Nat.not_le.mpr hb]

end Answered

/-! ### What a register read changes -/

/-- The working copies differ in registers, I3C masters, the count of free values drawn and one requester's latch alone. -/
def OnlyReadBy (u : Nat) (w v : Work) : Prop :=
  ∃ regs i3c fresh latches, (∀ r, r ≠ u → tget (0, 0) latches r = tget (0, 0) w.d.latches r) ∧
    v = { w with d := { w.d with regs := regs, ing := { w.d.ing with i3c := i3c }, fresh := fresh, latches := latches } }

theorem OnlyReadBy.setLatch {v : Work} (h : OnlyReadBy u w v) (x : Nat × Nat) : OnlyReadBy u w (v.setLatch u x) := by
  obtain ⟨_, _, _, _, hl, rfl⟩ := h
  exact ⟨_, _, _, _, fun r hr => (tget_tset_ne _ _ _ hr).trans (hl r hr), rfl⟩

theorem OnlyReadBy.readFields {v : Work} (h : OnlyReadBy u w v) (r off n : Nat) : OnlyReadBy u w (v.readFields r off n).1 := by
  obtain ⟨_, _, hv⟩ := onlyRegsAndI3c_readFields (w := v) r off n
  obtain ⟨_, _, _, _, hl, rfl⟩ := h
  exact ⟨_, _, _, _, hl, hv⟩

theorem OnlyReadBy.free {v : Work} (h : OnlyReadBy u w v) (wid : Nat) : OnlyReadBy u w (v.free wid).1 := by
  obtain ⟨_, _, _, _, hl, rfl⟩ := h
  exact ⟨_, _, _, _, hl, rfl⟩

/-- Whatever its size and place, a register read leaves the latches of other requesters and all but registers, I3C masters and free values. -/
theorem onlyReadBy_regRead (off n : Nat) : OnlyReadBy u w (w.regRead u off n).1 := by
  have emptied : OnlyReadBy u w (w.setLatch u (0, 0)) := OnlyReadBy.setLatch ⟨_, _, _, _, fun _ _ => rfl, rfl⟩ (0, 0)
  simp only [regRead]
  split_ifs
  · exact emptied
  · exact emptied
  · exact emptied.free _
  · exact (emptied.readFields ..).setLatch _
  · exact emptied
  · exact emptied.readFields ..

/-- Another requester's latch holds what it held. -/
theorem regRead_latch_other (off n : Nat) {r : Nat} (hr : r ≠ u) :
    tget (0, 0) (w.regRead u off n).1.d.latches r = tget (0, 0) w.d.latches r := by
  obtain ⟨_, _, _, _, hothers, hread⟩ := onlyReadBy_regRead (w := w) (u := u) off n
  rw [hread]
  exact hothers r hr

end Work

/-- A register read on a settled device gives its value to its reader, and the latches are as the read left them. -/
theorem exec_registerRead {s : State} (hr : Runs s) (hs : Settled s) (req : Requester) (off : BitVec 25) (n : Fin 9) {r : Work × Nat}
    (h : s.w.regRead (unitOf req) off.toNat n.val = r) :
    ∃ t, exec (.registerRead req off n) s = .next t ∧ t.dev.hif.readData = r.2 ∧ t.dev.latches = r.1.d.latches := by
  refine ⟨_, congrArg Host.Outcome.next (State.actOn_runs hr.1 _), ?_⟩
  obtain ⟨hask, htrace, hemit, hpartner⟩ := hs
  have hout : s.w.regReadOut (unitOf req) off.toNat n.val = r.1.setHif { r.1.d.hif with readData := r.2, readUr := false } := by
    simp [Work.regReadOut, hr.tripped, h]
  obtain ⟨_, _, _, _, -, hv⟩ := Work.onlyReadBy_regRead (w := s.w) (u := unitOf req) off.toNat n.val
  rw [State.run_dev, hout, (congrArg Prod.fst h).symm.trans hv, Work.settle_settled hask htrace hemit hpartner, (Work.idleTimers_frame _).1]
  exact ⟨rfl, rfl⟩

/-- Requesters have unit IDs of their own (R18). -/
theorem unitOf_injective : Function.Injective unitOf := by
  intro a b h
  cases a <;> cases b <;>
    simp only [unitOf, Config.uHost, Config.uPair, Config.uSecurity, Config.uSafety, Requester.pair.injEq, reduceCtorEq] at h ⊢ <;> omega

/-- Settles O55: a read's answer and its requester's latch case by case, and the latches of others untouched. -/
theorem readLatch : Obligations.ReadLatch := by
  intro s req off hr hs ha hb ht u latch
  have read := exec_registerRead hr hs req off
  refine ⟨fun h8 => ?_, fun h8 hw => ?_, fun h8 hl => ?_, fun h4 hw hl => ?_, fun other n t ho he => ?_⟩
  · obtain ⟨t, he, hdata, hlatch⟩ := read 8 (Work.regRead_eight ha hb ht h8)
    exact ⟨t, he, by simpa using hdata, by simp [latch, u, hlatch]⟩
  · obtain ⟨t, he, hdata, hlatch⟩ := read 4 (Work.regRead_low_half ha hb ht h8 hw)
    exact ⟨t, he, hdata, by simp [latch, u, hlatch]⟩
  · obtain ⟨t, he, hdata, hlatch⟩ := read 4 (Work.regRead_latched_half ha hb ht h8 (congrArg Prod.fst hl))
    exact ⟨t, he, hdata, by simp [latch, u, hlatch]⟩
  · obtain ⟨t, he, hdata, hlatch⟩ := read 4 (Work.regRead_live ha hb ht h4 hw hl)
    exact ⟨t, he, by simpa using hdata, by simp [latch, u, hlatch]⟩
  · obtain ⟨t', he', -, hlatch⟩ := read n rfl
    obtain rfl : t' = t := Host.Outcome.next.inj (he'.symm.trans he)
    exact (congrArg (tget (0, 0) · (unitOf other)) hlatch).trans (Work.regRead_latch_other _ _ (unitOf_injective.ne ho))

end Sys2Proof.Machine
end

section
/-! PROOF. R454: the model key store, from the load and the clear of a key to the resets and unlocks that empty it. -/

namespace Sys2Proof.Machine
open Config

/-! ### Bits of a number, model keys and filtered tables -/

theorem bitAt_eq_testBit (v i : Nat) : bitAt v i = v.testBit i := by
  rw [Nat.testBit_eq_decide_div_mod_eq]; rfl

/-- The low bits of a number hold its bits. -/
theorem bitAt_low {v n i : Nat} (h : i < n) : bitAt (low n v) i = bitAt v i := by
  simp [bitAt_eq_testBit, low, Nat.testBit_mod_two_pow, h]

/-- Adding a bit that is not set sets it alone: there is no carry. -/
theorem bitAt_add_two_pow {v a : Nat} (h : bitAt v a = false) (j : Nat) : bitAt (v + 2 ^ a) j = (bitAt v j || decide (j = a)) := by
  obtain hj | rfl | hj := Nat.lt_trichotomy j a
  · simp [bitAt_eq_testBit, Nat.add_comm v, Nat.testBit_two_pow_add_gt hj, hj.ne]
  · simp only [bitAt_eq_testBit] at h ⊢
    simp [Nat.add_comm v, Nat.testBit_two_pow_add_eq, h]
  · obtain ⟨d, rfl⟩ := Nat.exists_eq_add_of_lt hj
    have heven : v / 2 ^ a % 2 = 0 := by simpa [bitAt] using h
    have hhalf : (v + 2 ^ a) / 2 ^ a / 2 = v / 2 ^ a / 2 := by
      rw [Nat.add_div_right v (Nat.two_pow_pos a)]; omega
    have hsplit : ∀ n, n / 2 ^ (a + d + 1) = n / 2 ^ a / 2 / 2 ^ d := fun n => by
      rw [Nat.div_div_eq_div_mul, Nat.div_div_eq_div_mul]; ring_nf
    simp only [bitAt, hsplit, hhalf, hj.ne', decide_false, Bool.or_false]

/-- Taking away a bit that is set clears it alone. -/
theorem bitAt_sub_two_pow {v a : Nat} (h : bitAt v a = true) (j : Nat) : bitAt (v - 2 ^ a) j = (bitAt v j && decide (j ≠ a)) := by
  have hle : 2 ^ a ≤ v := Nat.ge_two_pow_of_testBit (bitAt_eq_testBit v a ▸ h)
  obtain ⟨u, rfl⟩ := Nat.exists_eq_add_of_le' hle
  have hu : bitAt u a = false := by
    simpa [bitAt_eq_testBit, Nat.add_comm u, Nat.testBit_two_pow_add_eq] using h
  rw [Nat.add_sub_cancel, bitAt_add_two_pow hu]
  by_cases hj : j = a <;> simp [hj, hu]

/-- A bit set where it is not set yet: what a load does to SEC_MKEY_VALID. -/
theorem bitAt_set (v a j : Nat) : bitAt (if bitAt v a then v else v + 2 ^ a) j = (bitAt v j || decide (j = a)) := by
  split
  next h => by_cases hj : j = a <;> simp [hj, h]
  next h => exact bitAt_add_two_pow (by simpa using h) j

/-- A bit cleared where it is set: what a clear of one entry does to SEC_MKEY_VALID. -/
theorem bitAt_cleared (v a j : Nat) : bitAt (if bitAt v a then v - 2 ^ a else v) j = (bitAt v j && decide (j ≠ a)) := by
  split
  next h => exact bitAt_sub_two_pow h j
  next h => by_cases hj : j = a <;> simp [hj, h]

theorem length_leBytes (n v : Nat) : (leBytes n v).length = n := by
  induction n generalizing v with
  | zero => rfl
  | succ n ih => simp [leBytes, ih]

/-- A model key is 32 bytes (R454). -/
theorem oaepKey_length {key : Nat × Nat} {cipher k : List Byte} (h : oaepKey key cipher = some k) : k.length = 32 := by
  obtain ⟨-, hk⟩ := Option.ite_none_right_eq_some.mp h
  rw [← Option.some.inj hk, beBytes, List.length_reverse, length_leBytes]

/-- A key whose entries have been dropped reads as none. -/
theorem tget_filter_dropped {α : Type} (d : α) (t : Tbl α) {p : Nat × α → Bool} {a : Nat} (h : ∀ x, p (a, x) = false) :
    tget d (t.filter p) a = d := by
  induction t with
  | nil => rfl
  | cons e t ih =>
    obtain ⟨k, v⟩ := e
    rw [List.filter_cons]
    split
    next hp =>
      have hk : k ≠ a := fun hk => by simp [hk, h] at hp
      simpa [tget, hk] using ih
    next => exact ih

namespace Work

/-! ### What a command leaves to do on a device at rest -/

/-- A command that ended here would leave nothing to do: what Settled says of a state, of a working copy. -/
def AtRest (w : Work) : Prop :=
  w.d.saf.retireAsk = [] ∧ w.d.trc.queue = [] ∧
    (∀ r ∈ w.d.ks.runs, ∀ n ∈ r.handed,
      r.emitted.contains n = true ∨ w.d.hif.queues.any (fun q => q.2.buf.any (fun e => e.owner == some (r.id, n))) = true) ∧
    (∀ e ∈ w.d.ing.ctxs, e.2.loose = [] ∧ ∀ f ∈ e.2.frame, f.run ≠ 0 ∨ f.discard = true)

variable {w v : Work}

theorem AtRest.settle (h : w.AtRest) : w.settle = w.idleTimers := by
  obtain ⟨hask, htrace, hemit, hpartner⟩ := h
  exact settle_settled hask htrace hemit hpartner

theorem AtRest.onlyRegsAndI3c (h : w.AtRest) (hv : OnlyRegsAndI3c w v) : v.AtRest := by
  obtain ⟨_, _, rfl⟩ := hv
  exact h

/-- No write of a register asks for a retirement, takes a completion or a frame, or offers a trace record. -/
theorem AtRest.wr (h : w.AtRest) (f : Fld) (x i j : Nat) : (w.wr f x i j).AtRest := h

/-! ### Reads that succeed -/

variable {u a n : Nat}

theorem onlyRegsAndI3c_foldl {α : Type} {f : Work → α → Work} (hf : ∀ w x, OnlyRegsAndI3c w (f w x)) (l : List α) : OnlyRegsAndI3c w (l.foldl f w) :=
  List.foldlRecOn (motive := fun v => OnlyRegsAndI3c w v) l f .refl fun _ h x _ => h.trans (hf _ x)

theorem onlyRegsAndI3c_wr (f : Fld) (x i j : Nat) : OnlyRegsAndI3c w (w.wr f x i j) := ⟨_, _, rfl⟩

/-- Counting a transfer's bytes changes counters alone. -/
theorem onlyRegsAndI3c_countBytes (write : Bool) : OnlyRegsAndI3c w (w.countBytes u a n write) := by
  unfold countBytes
  split_ifs
  · exact .refl
  · exact onlyRegsAndI3c_foldl (fun _ _ => ⟨_, _, rfl⟩) _
  · exact onlyRegsAndI3c_foldl (fun _ _ => ⟨_, _, rfl⟩) _
  · exact onlyRegsAndI3c_foldl (fun _ _ => ⟨_, _, rfl⟩) _
  · exact onlyRegsAndI3c_foldl (fun _ _ => ⟨_, _, rfl⟩) _
  · refine onlyRegsAndI3c_foldl (fun _ _ => ?_) _
    dsimp only
    split_ifs
    · exact .refl
    · exact onlyRegsAndI3c_wr ..
  · exact .refl

/-- A refusal has a status of its own. -/
theorem refusal?_ne_ok (write : Bool) : w.refusal? u a n write ≠ some stOk := by
  unfold refusal?
  split_ifs <;> simp

/-- A read that succeeds changes the counters of what it moved alone. -/
theorem onlyRegsAndI3c_readAt {bs : List Byte} (h : w.readAt u a n = (v, stOk, bs)) : OnlyRegsAndI3c w v := by
  unfold readAt at h
  split at h
  next st hst => exact absurd (hst.trans (congrArg some (congrArg (·.2.1) h))) (refusal?_ne_ok false)
  next =>
    dsimp only at h
    split at h
    next =>
      obtain ⟨-, hst, -⟩ := by simpa only [Prod.mk.injEq] using h
      exact absurd hst (by decide)
    next =>
      obtain rfl : w.countBytes u a n false = v := congrArg Prod.fst h
      exact onlyRegsAndI3c_countBytes false

/-- Checking a token changes the counts of signatures checked alone. -/
theorem onlyRegsAndI3c_tokenCheck (bs : List Byte) : OnlyRegsAndI3c w (w.tokenCheck bs).1 := by
  unfold tokenCheck
  dsimp only
  have counted : ∀ good, OnlyRegsAndI3c w (w.countVerify good) := fun good => by
    cases good
    · exact (onlyRegsAndI3c_wr ..).trans (onlyRegsAndI3c_wr ..)
    · exact onlyRegsAndI3c_wr ..
  split_ifs
  · exact .refl
  · exact .refl
  · exact .refl
  · exact counted _
  · exact counted _
  · exact counted _
  · exact .refl
  · exact counted _
  · exact counted _
  · exact counted _

/-! ### The store's entries and their bits -/

theorem loadModelKey_mkeys (id : Nat) (k : List Byte) (j : Nat) :
    tget [] (w.loadModelKey id k).d.sec.mkeys j = if j = id then k else tget [] w.d.sec.mkeys j := by
  split
  next h => exact h ▸ tget_tset_self ..
  next h => exact tget_tset_ne _ _ _ h

theorem loadModelKey_valid (id : Nat) (k : List Byte) {j : Nat} (hj : j < 16) :
    bitAt ((w.loadModelKey id k).rd Reg.SEC_MKEY_VALID) j = (bitAt (w.rd Reg.SEC_MKEY_VALID) j || decide (j = id)) :=
  calc
    _ = bitAt (low Reg.SEC_MKEY_VALID.wid _) j := congrArg (bitAt · j) (rd_wr_self ..)
    _ = bitAt _ j := bitAt_low hj
    _ = _ := bitAt_set ..

theorem clearModelKeys_mkeys (arg j : Nat) :
    tget [] (w.clearModelKeys arg).d.sec.mkeys j = if arg = 0xFF ∨ arg = j then [] else tget [] w.d.sec.mkeys j := by
  unfold clearModelKeys
  split
  next hall => rw [if_pos (.inl hall)]; rfl
  next hall =>
    rw [wr_sec, setSec_sec]
    split
    next h =>
      obtain rfl := h.resolve_left hall
      exact tget_tdel_self ..
    next h => exact tget_tdel_ne _ _ fun hj => h (.inr hj.symm)

theorem clearModelKeys_valid (arg : Nat) {j : Nat} (hj : j < 16) :
    bitAt ((w.clearModelKeys arg).rd Reg.SEC_MKEY_VALID) j = (bitAt (w.rd Reg.SEC_MKEY_VALID) j && decide (¬(arg = 0xFF ∨ arg = j))) := by
  have hlow : ∀ x, bitAt (low Reg.SEC_MKEY_VALID.wid x) j = bitAt x j := fun _ => bitAt_low (n := Reg.SEC_MKEY_VALID.wid) hj
  unfold clearModelKeys
  split
  next hall => rw [rd_wr_self, hlow]; simp [hall, bitAt]
  next hall => rw [rd_wr_self, hlow, bitAt_cleared]; simp [hall, eq_comm]

/-- Clearing keys changes the security core and a register alone. -/
theorem clearModelKeys_eq (arg : Nat) : ∃ x n, w.clearModelKeys arg = (w.setSec x).wr Reg.SEC_MKEY_VALID n := by
  unfold clearModelKeys
  split <;> exact ⟨_, _, rfl⟩

theorem AtRest.clearModelKeys (h : w.AtRest) (arg : Nat) : (w.clearModelKeys arg).AtRest := by
  obtain ⟨_, _, heq⟩ := clearModelKeys_eq (w := w) arg
  exact heq ▸ h

/-- Clearing keys unloads nothing. -/
@[simp] theorem clearModelKeys_ldr (arg : Nat) : (w.clearModelKeys arg).d.ldr = w.d.ldr := by
  obtain ⟨_, _, heq⟩ := clearModelKeys_eq (w := w) arg
  rw [heq]
  rfl

/-! ### A command for the cornerstone that passes its checks (R450) -/

/-- A command that nothing in R450 refuses is counted as verified and accepted. -/
theorem cornerstone_accepted {op : Nat} {cmd : List Byte} (hbusy : w.rd Reg.SEC_CC_BUSY ≠ 1) (haddr : w.rd Reg.SEC_CC_ADDR % 64 = 0)
    (hdram : w.inDram (w.rd Reg.SEC_CC_ADDR) (w.rd Reg.SEC_CC_LEN) = true)
    (hread : w.readAt uSecurity (w.rd Reg.SEC_CC_ADDR) (w.rd Reg.SEC_CC_LEN) = (v, stOk, cmd))
    (hop : ccOp (bytesWords (cmd.take 64)) = op)
    (hearly : v.ccEarly (bytesWords (cmd.take 64)) (w.rd Reg.SEC_CC_LEN) (sigAlg cmd) = none)
    (hsigned : v.signed (ccSlot (bytesWords (cmd.take 64))) cmd = true) (hreserved : ccReserved cmd = false)
    (hlate : (v.inc Reg.SEC_CNT_VERIFY).ccLate (bytesWords (cmd.take 64)) ((cmd.drop 64).take (ccPayload op)) = stOk) :
    w.cornerstone op u true = (v.inc Reg.SEC_CNT_VERIFY).ccAccept cmd := by
  simp [cornerstone, on, hbusy, haddr, hdram, hread, hop, hearly, hsigned, hreserved, countVerify, hlate]

/-- The key number of a command that loads one. -/
theorem ccReserved_keyId {cmd : List Byte} (hop : ccOp (bytesWords (cmd.take 64)) = 0x10) (h : ccReserved cmd = false) :
    leNat ((cmd.drop 64).take 4) < 16 := by
  simp [ccReserved, hop] at h
  exact h.2

variable {cmd : List Byte}

theorem ccAccept_clear (hop : ccOp (bytesWords (cmd.take 64)) = 0x11) :
    w.ccAccept cmd = (w.clearModelKeys (ccArg (bytesWords (cmd.take 64)))).wr Reg.SEC_CC_STATUS stOk := by
  simp [ccAccept, hop]

theorem ccAccept_load {k : List Byte} (hop : ccOp (bytesWords (cmd.take 64)) = 0x10)
    (hk : oaepKey (encryptionKey w.s0.otp.serial) (((cmd.drop 64).take (ccPayload 0x10)).drop 4) = some k) :
    w.ccAccept cmd = (w.loadModelKey (leNat ((cmd.drop 64).take 4)) k).wr Reg.SEC_CC_STATUS stOk := by
  simp only [ccAccept, hop, hk]
  simp [ccPayload, List.take_take]

theorem ccAccept_noKey (hop : ccOp (bytesWords (cmd.take 64)) = 0x10)
    (hk : oaepKey (encryptionKey w.s0.otp.serial) (((cmd.drop 64).take (ccPayload 0x10)).drop 4) = none) :
    w.ccAccept cmd = w.openStatus.1.wr Reg.SEC_CC_STATUS w.openStatus.2 := by
  simp only [ccAccept, hop, hk]
  simp

/-- A status the spec leaves open is one of failure, and fits its field. -/
theorem low_openStatus_ne_ok : low 8 w.openStatus.2 ≠ stOk := by
  have hlt : (w.free 3).2 < 8 := Nat.mod_lt _ (by decide)
  change low 8 (if (w.free 3).2 = 7 then stDescFormat else stSigInvalid + (w.free 3).2) ≠ stOk
  unfold low stSigInvalid stDescFormat stOk
  split <;> omega

/-! ### The store emptied by unlocks and resets -/

/-- No entry of the store holds a key, none is shown to hold one, and nothing is left to do. -/
def Emptied (w : Work) : Prop := w.d.sec.mkeys = [] ∧ w.rd Reg.SEC_MKEY_VALID = 0 ∧ w.AtRest

theorem Emptied.wr {f : Fld} {i j : Nat} (hf : Reg.SEC_MKEY_VALID.key 0 0 ≠ f.key i j) (h : w.Emptied) (x : Nat) : (w.wr f x i j).Emptied := by
  obtain ⟨hkeys, hvalid, hrest⟩ := h
  exact ⟨hkeys, (rd_wr_ne w hf).trans hvalid, hrest⟩

/-- A successful unlock empties the store (R462). -/
theorem unlockDebug_emptied (h : w.AtRest) : w.unlockDebug.Emptied :=
  have cleared : (w.clearModelKeys 0xFF).Emptied := ⟨rfl, rd_wr_self .., h⟩
  (cleared.wr (f := Reg.SEC_DEBUG_UNLOCKED) (by decide) 1).wr (f := Reg.SAF_STATE) (by decide) 3

/-- An unlock under an open policy, or with a token that passes its checks, empties the store. -/
theorem debugUnlock_emptied (h : w.AtRest) (hbusy : w.rd Reg.SEC_CC_BUSY ≠ 1)
    (hpolicy : w.debugPolicy = 0 ∨ (w.debugPolicy = 1 ∧ w.rd Reg.SEC_DBG_TOKEN_ADDR % 64 = 0 ∧ ∃ v bs x,
      w.readAt uSecurity (w.rd Reg.SEC_DBG_TOKEN_ADDR) 576 = (v, stOk, bs) ∧ v.tokenCheck bs = (x, stOk))) :
    (w.debugUnlock u true).Emptied := by
  have hgate : w.dbgGate true = true := by
    have hclosed : w.debugPolicy ≠ 2 := by
      obtain h | ⟨h, -⟩ := hpolicy <;> simp [h]
    simp [dbgGate, on, hbusy, hclosed]
  have hrest : ∀ v : Work, v.AtRest → (v.upTo 8 (fun w k => w.wr Reg.SEC_DBG_CHALLENGE 0 k)).AtRest := fun v hv =>
    hv.onlyRegsAndI3c (onlyRegsAndI3c_foldl (fun _ _ => onlyRegsAndI3c_wr ..) _)
  obtain hopen | ⟨htoken, haddr, v, bs, x, hread, hcheck⟩ := hpolicy
  · simp only [debugUnlock, hgate, hopen]
    exact unlockDebug_emptied (hrest w h)
  · have hx : x.AtRest := by
      obtain rfl : (v.tokenCheck bs).1 = x := congrArg Prod.fst hcheck
      exact (h.onlyRegsAndI3c (onlyRegsAndI3c_readAt hread)).onlyRegsAndI3c (onlyRegsAndI3c_tokenCheck bs)
    simp only [debugUnlock, hgate, htoken, haddr, hread, hcheck]
    exact unlockDebug_emptied (hrest x hx)

/-- A copy of a field lies below SEC_MKEY_VALID in the register file. -/
def BelowValid (x : Fld × Nat) : Prop := x.1.key x.2 0 < Reg.SEC_MKEY_VALID.key 0 0

/-- The copies of a field up to one that lies below lie below. -/
theorem belowValid_of_le {f : Fld} {i n : Nat} (hi : i ≤ n) (h : f.key n 0 < Reg.SEC_MKEY_VALID.key 0 0) : BelowValid (f, i) := by
  have hmul : f.s1 * i ≤ f.s1 * n := Nat.mul_le_mul_left _ hi
  show f.key i 0 < _
  unfold Fld.key at h ⊢
  omega

/-- A retired engine's field lies below the store's registers. -/
theorem belowValid_retiredField {x : Fld × Nat} (h : retiredField u = some x) : BelowValid x := by
  unfold retiredField at h
  split_ifs at h <;> cases h <;> exact belowValid_of_le (n := 3) (by omega) (by decide)

/-- The registers that a chip reset keeps the value of lie below the store's. -/
theorem belowValid_carried {x : Fld × Nat} (h : x ∈ w.carried) : BelowValid x := by
  simp only [carried, List.mem_append, List.mem_flatMap, List.mem_map, List.mem_filterMap, List.mem_filter, List.mem_cons, List.not_mem_nil,
    List.mem_range, or_false] at h
  rcases h with ((((((hcore | hslab) | hspare) | hengine) | hslot) | hpair) | hchannel) | hevac
  · obtain ⟨c, hc, rfl | rfl⟩ := hcore <;> exact belowValid_of_le hc.le (by decide)
  · obtain ⟨k, hk, rfl⟩ := hslab
    exact belowValid_of_le hk.le (by decide)
  · subst hspare
    exact belowValid_of_le le_rfl (by decide)
  · obtain ⟨v, -, hv⟩ := hengine
    exact belowValid_retiredField hv
  · obtain ⟨k, ⟨v, -, hv⟩, rfl⟩ := hslot
    have hk : k < 90 := List.mem_range.mp (List.mem_of_find?_eq_some hv)
    exact belowValid_of_le hk.le (by decide)
  · obtain ⟨p, ⟨hp, -⟩, rfl | rfl⟩ := hpair <;> exact belowValid_of_le hp.le (by decide)
  · obtain ⟨ch, ⟨hch, -⟩, rfl | rfl | rfl⟩ := hchannel <;> exact belowValid_of_le hch.le (by decide)
  · split at hevac
    · simp only [List.mem_cons, List.not_mem_nil, or_false] at hevac
      rcases hevac with rfl | rfl | rfl <;> exact belowValid_of_le le_rfl (by decide)
    · cases hevac

/-- The store is no part of memory. -/
theorem Emptied.setMops (h : w.Emptied) (ops : List MemOp) : ({ w with mops := ops } : Work).Emptied := h

/-- Writing back registers that lie below the store's leaves it empty. -/
theorem Emptied.restore {l : List (Fld × Nat × Nat)} (hl : ∀ x ∈ l, BelowValid (x.1, x.2.1)) (h : w.Emptied) :
    (l.foldl (fun w x => w.wr x.1 x.2.2 x.2.1) w).Emptied :=
  List.foldlRecOn (motive := Emptied) l _ h fun _ hw x hx => hw.wr (ne_of_gt (hl x hx)) _

/-- A chip reset empties the store, where no reset before it in its V-cycle has (R423). -/
theorem chipReset_emptied (cause : Nat) (perst : Bool) (h : w.justReset = true → w.Emptied) : (w.chipReset cause perst).Emptied := by
  have mark : ∀ (v : Work) x, v.Emptied → (v.wr Reg.PWR_RESET_CAUSE x).Emptied := fun _ x hv => hv.wr (by decide) x
  have trip : ∀ (v : Work) x, v.Emptied → (v.wr Reg.PWR_TRIPPED x).Emptied := fun _ x hv => hv.wr (by decide) x
  have tripIf : ∀ (v : Work) (c : Bool), v.Emptied → (if c then v.wr Reg.PWR_TRIPPED 1 else v).Emptied := fun v c hv => by
    cases c
    · exact hv
    · exact trip v 1 hv
  have counted : ∀ (v : Work) x, v.Emptied → ((v.wr Reg.PWR_CNT_CHIP_RESETS x).wr Reg.RST_BOOT_STATE 0).Emptied := fun _ x hv =>
    (hv.wr (by decide) x).wr (by decide) 0
  have dropped : resetKey (Reg.SEC_MKEY_VALID.key 0 0) = false := by decide
  unfold chipReset
  dsimp only
  split
  next hj =>
    split
    · exact trip _ _ (mark w _ (h hj))
    · exact mark w _ (h hj)
  next =>
    refine Emptied.setMops (tripIf _ _ (counted _ _ (mark _ _ (Emptied.restore ?_ ?_)))) _
    · intro x hx
      obtain ⟨y, hy, rfl⟩ := List.mem_map.mp hx
      exact belowValid_carried hy
    · exact ⟨rfl, tget_filter_dropped _ _ fun _ => dropped, rfl, rfl, List.forall_mem_nil _, List.forall_mem_nil _⟩

/-- A chip reset of a device whose boot has left its first step empties the store. -/
theorem chipReset_emptied_of_booted (cause : Nat) (perst : Bool) (hb : w.d.sec.boot ≠ .pll) : (w.chipReset cause perst).Emptied :=
  chipReset_emptied cause perst fun hj => by simp [justReset, hb] at hj

/-- A chip reset that has been asked for empties the store, be it asked for once or twice (R424, R428). -/
theorem chipResetDue_emptied (hb : w.d.sec.boot ≠ .pll) (hask : w.d.saf.resetAsk ≠ none ∨ w.d.sec.resetAt ≠ none) : w.chipResetDue.Emptied := by
  have first := fun cause => chipReset_emptied_of_booted (w := w) cause false hb
  unfold chipResetDue
  split
  next hat hsaf => simp [hat, hsaf] at hask
  next t _ _ => exact chipReset_emptied_of_booted (w := w.advance t) 6 false hb
  next c _ _ => exact first c
  next t c _ _ =>
    split
    · exact chipReset_emptied 6 false fun _ => first c
    · exact first c

/-- The watchdog's reset empties the store (R427). -/
theorem wdtExpiry_emptied (hb : w.d.sec.boot ≠ .pll) (hen : w.rd Reg.RST_WDT_EN = 1) : w.wdtExpiry.Emptied := by
  have hon : w.on Reg.RST_WDT_EN = true := beq_iff_eq.mpr hen
  rw [wdtExpiry, if_pos hon]
  exact chipReset_emptied_of_booted 4 false hb

end Work

/-! ### What a command leaves in the state -/

/-- A state holds the security core, the loader and the registers of a working copy. -/
def State.Holds (t : State) (w : Work) : Prop := t.dev.sec = w.d.sec ∧ t.dev.ldr = w.d.ldr ∧ ∀ (f : Fld) (i j : Nat), t.rd f i j = w.rd f i j

/-- A command that leaves nothing to do at its end leaves what its effect made. -/
theorem holds_of_does {i : Instr} {s : State} {w : Work} (hd : Does i s fun _ => w) (h : w.AtRest) : ∃ t, exec i s = .next t ∧ t.Holds w := by
  have hidle := (Work.idleTimers_frame w).1
  have hdev : (s.run fun _ => w.settle).dev = w.idleTimers.d :=
    (State.run_dev s _).trans (congrArg Work.d h.settle)
  refine ⟨_, hd, ?_, ?_, fun f i j => ?_⟩
  · rw [hdev, hidle]
  · rw [hdev, hidle]
  · rw [State.rd, Work.rd, start_d, hdev, hidle]; rfl

/-- A command whose effect empties the store empties it in the state. -/
theorem emptied_of_does {i : Instr} {s : State} {w : Work} (hd : Does i s fun _ => w) (h : w.Emptied) :
    ∃ t, exec i s = .next t ∧ t.dev.sec.mkeys = [] ∧ t.rd Reg.SEC_MKEY_VALID = 0 := by
  obtain ⟨hkeys, hvalid, hrest⟩ := h
  obtain ⟨t, he, hsec, -, hrd⟩ := holds_of_does hd hrest
  exact ⟨t, he, hsec ▸ hkeys, (hrd ..).trans hvalid⟩

/-- A command for the cornerstone from a requester that may write SEC_CC_GO leaves what its effect makes. -/
theorem holds_of_cornerstone {i : Instr} {s : State} {req : Requester} {op : Nat} {w : Work} (hr : Runs s) (hw : Writable s req 0xC02010)
    (he : exec i s = .next (s.act fun w => w.asWriter (unitOf req) 0xC02010 fun w => w.cornerstone op (unitOf req) true))
    (hc : s.w.cornerstone op (unitOf req) true = w) (h : w.AtRest) : ∃ t, exec i s = .next t ∧ t.Holds w :=
  holds_of_does (does_act hr he ((asWriter_writable hw _).trans hc)) h

/-! ### The model key store (R454) -/

/-- A state holds the key that a working copy holds in an entry of the store, and shows the entry the same. -/
def State.KeepsEntry (t : State) (w : Work) (j : Nat) : Prop :=
  tget [] t.dev.sec.mkeys j = tget [] w.d.sec.mkeys j ∧ bitAt (t.rd Reg.SEC_MKEY_VALID) j = bitAt (w.rd Reg.SEC_MKEY_VALID) j

section Store
variable {t : State} {w : Work} {st id j arg : Nat} {k : List Byte}

theorem State.Holds.status (h : t.Holds (w.wr Reg.SEC_CC_STATUS st)) : t.rd Reg.SEC_CC_STATUS = low 8 st :=
  have ⟨_, _, hrd⟩ := h
  (hrd ..).trans (w.rd_wr_self ..)

/-- The status of a command for the cornerstone is no part of the store. -/
theorem State.Holds.keepsEntry (h : t.Holds (w.wr Reg.SEC_CC_STATUS st)) (j : Nat) : t.KeepsEntry w j := by
  obtain ⟨hsec, -, hrd⟩ := h
  exact ⟨congrArg (tget [] ·.mkeys j) hsec, congrArg (bitAt · j) ((hrd ..).trans (w.rd_wr_ne (by decide)))⟩

/-- Nor is the count of signatures checked. -/
theorem State.KeepsEntry.of_verified (h : t.KeepsEntry (w.inc Reg.SEC_CNT_VERIFY) j) : t.KeepsEntry w j := by
  obtain ⟨hkey, hbit⟩ := h
  exact ⟨hkey, hbit.trans (congrArg (bitAt · j) (w.rd_wr_ne (by decide)))⟩

theorem State.KeepsEntry.of_load (h : t.KeepsEntry (w.loadModelKey id k) j) (hj : j < 16) (hne : j ≠ id) : t.KeepsEntry w j := by
  obtain ⟨hkey, hbit⟩ := h
  rw [Work.loadModelKey_mkeys, if_neg hne] at hkey
  rw [Work.loadModelKey_valid _ _ hj, decide_eq_false hne, Bool.or_false] at hbit
  exact ⟨hkey, hbit⟩

theorem State.KeepsEntry.loaded (h : t.KeepsEntry (w.loadModelKey id k) id) (hid : id < 16) :
    tget [] t.dev.sec.mkeys id = k ∧ bitAt (t.rd Reg.SEC_MKEY_VALID) id = true := by
  obtain ⟨hkey, hbit⟩ := h
  rw [Work.loadModelKey_mkeys, if_pos rfl] at hkey
  rw [Work.loadModelKey_valid _ _ hid, decide_eq_true rfl, Bool.or_true] at hbit
  exact ⟨hkey, hbit⟩

theorem State.KeepsEntry.of_clear (h : t.KeepsEntry (w.clearModelKeys arg) j) (hj : j < 16) (hne : ¬(arg = 0xFF ∨ arg = j)) : t.KeepsEntry w j := by
  obtain ⟨hkey, hbit⟩ := h
  rw [Work.clearModelKeys_mkeys, if_neg hne] at hkey
  rw [Work.clearModelKeys_valid _ hj, decide_eq_true hne, Bool.and_true] at hbit
  exact ⟨hkey, hbit⟩

theorem State.KeepsEntry.cleared (h : t.KeepsEntry (w.clearModelKeys arg) j) (hj : j < 16) (harg : arg = 0xFF ∨ arg = j) :
    tget [] t.dev.sec.mkeys j = [] ∧ bitAt (t.rd Reg.SEC_MKEY_VALID) j = false := by
  obtain ⟨hkey, hbit⟩ := h
  rw [Work.clearModelKeys_mkeys, if_pos harg] at hkey
  rw [Work.clearModelKeys_valid _ hj, decide_eq_false (not_not.mpr harg), Bool.and_false] at hbit
  exact ⟨hkey, hbit⟩

end Store

/-- Settles O56: a load or a clear that passes the checks of R450 changes its own entries and bits alone, and resets and unlocks empty the store. What a
ciphertext that holds no key leaves rests on choices of the model: log entries 11 and 49. -/
theorem modelKeyStore : Obligations.ModelKeyStore := by
  intro s req hr hs key
  have hrest : s.w.AtRest := hs
  refine ⟨fun op v cmd hw hbusy haddr hdram hread hop hearly hsigned hreserved hlate => ?_, fun hboot i hi => ?_, ⟨_, rfl, rfl, rfl⟩,
    fun hw hbusy hpolicy => ?_⟩
  · have haccept := Work.cornerstone_accepted (u := unitOf req) hbusy haddr hdram hread hop hearly hsigned hreserved hlate
    have hframe := Work.onlyRegsAndI3c_readAt hread
    have hserial : (v.inc Reg.SEC_CNT_VERIFY).s0.otp.serial = s.otp.serial := by obtain ⟨_, _, rfl⟩ := hframe; rfl
    have hvrest : (v.inc Reg.SEC_CNT_VERIFY).AtRest := (hrest.onlyRegsAndI3c hframe).wr ..
    refine ⟨?load, ?clear⟩
    case load =>
      rintro rfl id rfl
      have hid := Work.ccReserved_keyId hop hreserved
      split
      next k hk =>
        have heffect := haccept.trans (Work.ccAccept_load hop (by rw [hserial, hk]))
        obtain ⟨t, he, ht⟩ := holds_of_cornerstone (i := .modelKeyLoad req) hr hw rfl heffect hvrest
        have ⟨_, hldr, _⟩ := ht
        obtain ⟨hkey, hbit⟩ := (ht.keepsEntry _).loaded hid
        exact ⟨t, he, hid, hldr, fun j hj hne => ((ht.keepsEntry j).of_load hj hne).of_verified, oaepKey_length hk, hkey, hbit, ht.status⟩
      next hk =>
        have heffect := haccept.trans (Work.ccAccept_noKey hop (by rw [hserial, hk]))
        obtain ⟨t, he, ht⟩ := holds_of_cornerstone (i := .modelKeyLoad req) hr hw rfl heffect hvrest
        have ⟨_, hldr, _⟩ := ht
        have same : ∀ j, t.KeepsEntry v j := fun j => State.KeepsEntry.of_verified (ht.keepsEntry j)
        exact ⟨t, he, hid, hldr, fun j _ _ => same j, ht.status.trans_ne Work.low_openStatus_ne_ok, same _⟩
    case clear =>
      rintro rfl
      have heffect := haccept.trans (Work.ccAccept_clear hop)
      obtain ⟨t, he, ht⟩ := holds_of_cornerstone (i := .modelKeyClear req) hr hw rfl heffect (hvrest.clearModelKeys _)
      have ⟨_, hldr, _⟩ := ht
      refine ⟨t, he, ht.status, hldr.trans (Work.clearModelKeys_ldr _), fun j hj => ⟨(ht.keepsEntry j).cleared hj, fun hall hne => ?_⟩⟩
      exact ((ht.keepsEntry j).of_clear hj (not_or.mpr ⟨hall, hne⟩)).of_verified
  · obtain rfl | ⟨rfl, hask⟩ | ⟨rfl, hen⟩ := hi
    · exact emptied_of_does (does_actOn hr.1 rfl rfl) (Work.chipReset_emptied_of_booted (w := s.w) 1 true hboot)
    · exact emptied_of_does (does_actOn hr.1 rfl rfl) (Work.chipResetDue_emptied (w := s.w) hboot hask)
    · exact emptied_of_does (does_actOn hr.1 rfl rfl) (Work.wdtExpiry_emptied (w := s.w) hboot hen)
  · exact emptied_of_does (does_act hr rfl (asWriter_writable hw _)) (Work.debugUnlock_emptied hrest hbusy hpolicy)

end Sys2Proof.Machine
end

section
/-! PROOF. What every step keeps: the canonical form of the memories, the bits of the OTP, and the queue of commands. -/

namespace Sys2Proof.Machine

/-- A step's memory and OTP are those it started from after changes of memory and burned bits. -/
theorem step_changes {s t : State} (h : step s = .next t) : ∃ ops burns, t.mem = s.mem.applyAll ops ∧ t.otp = s.otp.burnAll burns := by
  obtain ⟨-, rfl⟩ | ⟨_, _, f, -, rfl⟩ := step_next h
  · exact ⟨[], [], rfl, rfl⟩
  · exact ⟨_, _, rfl, rfl⟩

/-- Settles O57: a step's memory is one changed by memory operations, and its OTP one with bits burned, and both keep the form. -/
theorem canonicalMemoriesKept : Obligations.CanonicalMemoriesKept := by
  rintro s t ⟨hmem, hotp⟩ h
  obtain ⟨ops, burns, em, eo⟩ := step_changes h
  exact ⟨em ▸ MemState.wf_applyAll hmem ops, eo ▸ Otp.burnAll_twf hotp burns⟩

/-! ### Bits kept -/

/-- A number whose bits another one has is zero, lowest bit by lowest bit. -/
theorem land_halves {x y : Nat} (h : Nat.land x y = x) : x % 2 ≤ y % 2 ∧ Nat.land (x / 2) (y / 2) = x / 2 := by
  have hbit (i : Nat) : x.testBit i = true → y.testBit i = true := by
    have hi : (x &&& y).testBit i = x.testBit i := congrArg (Nat.testBit · i) h
    rwa [Nat.testBit_and, Bool.and_eq_left_iff_imp] at hi
  constructor
  · have h0 := hbit 0
    simp only [Nat.testBit_zero, decide_eq_true_eq] at h0
    omega
  · refine Nat.eq_of_testBit_eq fun i => ?_
    change (x / 2 &&& y / 2).testBit i = _
    rw [Nat.testBit_and, Bool.and_eq_left_iff_imp, ← Nat.testBit_succ, ← Nat.testBit_succ]
    exact hbit (i + 1)

/-- More bits count more. -/
theorem popCount_mono {n x y : Nat} (h : Nat.land x y = x) : popCount n x ≤ popCount n y := by
  induction n generalizing x y with
  | zero => exact le_rfl
  | succ n ih => exact Nat.add_le_add (land_halves h).1 (ih (land_halves h).2)

theorem ne_zero_of_land {x y : Nat} (h : Nat.land x y = x) (hx : x ≠ 0) : y ≠ 0 := by
  rintro rfl
  exact hx (h.symm.trans (Nat.and_zero x))

/-- A slot with a bit in a row of its modulus is not EMPTY (R444). -/
theorem Work.slotState_ne_zero {w : Work} {k i : Nat} (hi : i < 13) (h : w.otpRow (slotModRow k i) ≠ 0) : w.slotState k ≠ 0 := by
  have hany : (List.range 13).any (fun i => w.otpRow (slotModRow k i) != 0) = true :=
    List.any_eq_true.mpr ⟨i, List.mem_range.mpr hi, bne_iff_ne.mpr h⟩
  unfold Work.slotState
  split_ifs <;> decide

/-- Settles O58: burning only sets bits, and the counter and the slots' states are read from bits that stay. -/
theorem otpOnlyGains : Obligations.OtpOnlyGains := by
  intro s t h
  obtain ⟨_, burns, -, eo⟩ := step_changes h
  have hrow (row : Nat) : Nat.land (tget 0 s.otp.rows row) (tget 0 t.otp.rows row) = tget 0 s.otp.rows row :=
    eo ▸ Otp.burnAll_keeps s.otp burns row
  refine ⟨hrow, eo ▸ Otp.burnAll_record s.otp burns, popCount_mono (hrow _), fun k i hi hne => ?_⟩
  exact Work.slotState_ne_zero hi (ne_zero_of_land (hrow _) hne)

/-- Settles O53: a step hands the front command the rest of the queue, and a command's effect is committed with the queue as it was. -/
theorem stepRunsTheFrontCommand : Obligations.StepRunsTheFrontCommand := by
  refine ⟨fun c rest s => rfl, fun s hs => ?_, fun i s => ?_⟩
  · rw [step, hs]
  · obtain ⟨f, e⟩ := exec_run i s
    exact ⟨_, e, rfl⟩

/-! ### The state after reset (R423, R514, R515, R518) -/

/-- With no burn under way power-on reset leaves what every reset keeps, and clears the device's memories. -/
theorem Work.powerOn_idle {w : Work} (h : w.d.sec.change = none) :
    w.powerOn = { w with
      d := { Dev.reset with fresh := w.d.fresh, balls := { Dev.reset.balls with gpio := w.d.balls.gpio }, tap := w.d.tap }
      mops := [.clear .dev 0 0x10000000000, .clear .course 0 0x10000000, .clear .ctl 0 0x10000000] ++ w.mops } := by
  have hburn : w.interruptBurn = w := by rw [Work.interruptBurn, h]
  rw [Work.powerOn, hburn]
  rfl

/-- With REFCLK25 running or not, a fault of a rail of the power-on reset detector is a power-on reset. -/
theorem Work.railFaultIn_detector (w : Work) (ws : List Nat) {r : Rail} (h : r = .vddAo ∨ r = .vddio ∨ r = .vdd1) : w.railFaultIn r ws = w.powerOn := by
  obtain rfl | rfl | rfl := h <;> exact ite_self _

/-- With REFCLK25 running a fault of a supply rail holds the rail at AVSBus. -/
theorem Work.railFaultIn_clocked {w : Work} (h : w.d.pwr.refStopped = false) (r : Rail) (ws : List Nat) : w.railFaultIn r ws = w.railFault r ws := by
  exact if_neg (h ▸ Bool.false_ne_true)

/-- Settles O54: the reset values are computed; a power-on reset with no burn under way is its equation; a rail fault goes by its rail. -/
theorem powerOnAndResetState : Obligations.PowerOnAndResetState := by
  refine ⟨by dsimp only [Canonical]; decide +kernel, fun s hchange => ?_⟩
  intro fresh
  have hpor : (Work.start s).powerOn = fresh (Work.start s) := Work.powerOn_idle hchange
  have hdetector {r : Rail} (ws) (h : r = .vddAo ∨ r = .vddio ∨ r = .vdd1) : exec (.railFault r ws) s = .next (s.run fresh) :=
    congrArg Host.Outcome.next (State.run_congr ((Work.railFaultIn_detector _ _ h).trans hpor))
  have hsupply (r : Rail) (ws) (h : s.dev.pwr.refStopped = false) :
      exec (.railFault r ws) s = .next (s.run fun w => w.railFault r (ws.map BitVec.toNat)) :=
    congrArg Host.Outcome.next (State.run_congr (Work.railFaultIn_clocked h r _))
  refine ⟨congrArg Host.Outcome.next (State.run_congr hpor), fun ws => ?_, fun ws href => ?_, rfl⟩
  · exact ⟨hdetector ws (.inl rfl), hdetector ws (.inr (.inl rfl)), hdetector ws (.inr (.inr rfl))⟩
  · exact ⟨hsupply .vddA ws href, hsupply .vddV ws href, hsupply .vddSram ws href⟩

end Sys2Proof.Machine
end

section
/-! PROOF. What many commands share: a register's writer, fields that lie apart, and what writing an error record leaves alone. -/

namespace Sys2Proof.Machine

open Config Work

/-! ### Commands that write a register -/

section Writer
variable {i : Instr} {s : State} {req : Requester} {off : Nat} {f g : Work → Work}

/-- A register command of a requester that may write there does what its effect comes down to. -/
theorem does_actWriter (h : Runs s) (hw : Writable s req off) (e : exec i s = .next (s.act fun w => w.asWriter (unitOf req) off f))
    (k : f (start s) = g (start s)) : Does i s g :=
  does_act h e ((asWriter_writable hw f).trans k)

/-- The same for a register of domains 0 and 12. -/
theorem does_actOnWriter (h : s.dev.pwr.refStopped = false) (hw : Writable s req off)
    (e : exec i s = .next (s.actOn fun w => w.asWriter (unitOf req) off f)) (k : f (start s) = g (start s)) : Does i s g :=
  does_actOn h e ((asWriter_writable hw f).trans k)

end Writer

namespace Work

theorem on_eq_true {w : Work} {f : Fld} {i j : Nat} (h : w.rd f i j = 1) : w.on f i j = true := beq_iff_eq.mpr h

theorem on_eq_false {w : Work} {f : Fld} {i j : Nat} (h : w.rd f i j ≠ 1) : w.on f i j = false := beq_eq_false_iff_ne.mpr h

/-- Fields that repeat alike and lie apart are apart in each copy: writing one leaves the other. -/
theorem rd_wr_copy {f g : Fld} (w : Work) (v i j : Nat) (h : g.s1 = f.s1 ∧ g.s2 = f.s2 ∧ g.off * 8 + g.lo ≠ f.off * 8 + f.lo) :
    (w.wr f v i j).rd g i j = w.rd g i j := by
  obtain ⟨h1, h2, hne⟩ := h
  refine rd_wr_ne w ?_
  unfold Fld.key
  rw [h1, h2]
  omega

/-- A field's copies lie at or above its first one. -/
theorem base_le_key (f : Fld) (i j : Nat) : f.off * 8 + f.lo ≤ f.key i j := by
  unfold Fld.key
  rw [Nat.add_assoc f.off, Nat.add_mul]
  omega

/-! ### What an error record changes (R369) -/

/-- The working copies differ as a record written to the error ring, its bytes and its interrupt make them differ: in memory, in what D3hot or the lack of
a ring holds back, in pending vectors, and in the ring's tail and its count of lost records. -/
def Recorded (w v : Work) : Prop :=
  (∃ mops regs held pba waiting, v = { w with
    mops := mops, d := { w.d with regs := regs, errHeld := waiting, hif := { w.d.hif with heldWrites := held, pba := pba } } }) ∧
  ∀ (f : Fld) (i j : Nat), f.key i j ≠ Reg.QE_ERR_TAIL.key 0 0 → f.key i j ≠ Reg.QE_CNT_ERR_LOST.key 0 0 → v.rd f i j = w.rd f i j

section Recorded
variable {w v x : Work}

/-- A change of memory and of what D3hot holds back. -/
theorem recorded_of_eq {mops held pba} (h : v = { w with
    mops := mops, d := { w.d with hif := { w.d.hif with heldWrites := held, pba := pba } } }) : Recorded w v := by
  subst h
  exact ⟨⟨_, _, _, _, _, rfl⟩, fun _ _ _ _ _ => rfl⟩

theorem Recorded.refl (w : Work) : Recorded w w := recorded_of_eq rfl

theorem Recorded.trans (h : Recorded w v) (k : Recorded v x) : Recorded w x := by
  obtain ⟨⟨_, _, _, _, _, rfl⟩, h⟩ := h
  obtain ⟨⟨_, _, _, _, _, rfl⟩, k⟩ := k
  exact ⟨⟨_, _, _, _, _, rfl⟩, fun f i j ht hl => (k f i j ht hl).trans (h f i j ht hl)⟩

theorem recorded_put (w : Work) (sp : Space) (a : Nat) (bs : List Byte) : Recorded w (w.put sp a bs) := by
  unfold put
  split
  · exact .refl w
  · exact recorded_of_eq rfl

theorem recorded_setPoison (w : Work) (a : Nat) (b : Bool) : Recorded w (w.setPoison a b) := recorded_of_eq rfl

theorem recorded_foldl {α : Type} {f : Work → α → Work} (hf : ∀ w a, Recorded w (f w a)) (l : List α) (w : Work) : Recorded w (l.foldl f w) :=
  List.foldlRecOn (motive := Recorded w) l f (.refl w) fun _ h a _ => h.trans (hf _ a)

theorem recorded_store (w : Work) (a : Nat) (bs : List Byte) : Recorded w (w.store a bs) := by
  unfold store
  split
  · split
    · exact .refl w
    · split
      · exact recorded_of_eq rfl
      · exact recorded_put ..
  · refine recorded_foldl (fun v p => .trans (recorded_foldl (fun x k => ?_) _ v) (recorded_put ..)) _ w
    split
    · exact recorded_setPoison ..
    · exact .refl x

theorem recorded_sendVector (w : Work) (v : Nat) : Recorded w (w.sendVector v) := by
  unfold sendVector
  dsimp only
  split_ifs
  · exact .refl w
  · exact recorded_of_eq rfl
  · exact recorded_of_eq rfl
  · exact recorded_put ..

theorem recorded_tail (w : Work) (n : Nat) : Recorded w (w.wr Reg.QE_ERR_TAIL n) :=
  ⟨⟨_, _, _, _, _, rfl⟩, fun _ _ _ h _ => rd_wr_ne w h⟩

theorem recorded_lost (w : Work) : Recorded w (w.inc Reg.QE_CNT_ERR_LOST) :=
  ⟨⟨_, _, _, _, _, rfl⟩, fun _ _ _ _ h => rd_wr_ne w h⟩

theorem recorded_errPut (w : Work) (ws : List Nat) : Recorded w (w.errPut ws) := by
  unfold errPut
  dsimp only
  split_ifs
  · exact ⟨⟨_, _, _, _, _, rfl⟩, fun _ _ _ _ _ => rfl⟩
  · exact recorded_lost w
  · exact recorded_lost w
  · exact ((recorded_store ..).trans (recorded_tail ..)).trans (recorded_sendVector ..)
  · exact (recorded_store ..).trans (recorded_tail ..)

theorem recorded_err (w : Work) (unit status info addr detail : Nat) : Recorded w (w.err unit status info addr detail) := recorded_errPut ..

theorem Recorded.msn (h : Recorded w v) : v.d.msn = w.d.msn := by
  obtain ⟨⟨_, _, _, _, _, rfl⟩, -⟩ := h
  rfl

/-- A field that lies above the error ring's registers is as before. -/
theorem Recorded.rd_above (h : Recorded w v) {f : Fld} (i j : Nat) (hf : Reg.QE_CNT_ERR_LOST.key 0 0 < f.off * 8 + f.lo) : v.rd f i j = w.rd f i j := by
  have hkey := base_le_key f i j
  have htail : Reg.QE_ERR_TAIL.key 0 0 < Reg.QE_CNT_ERR_LOST.key 0 0 := by decide
  exact h.2 f i j (by omega) (by omega)

end Recorded

end Work

end Sys2Proof.Machine
end

section
/-! PROOF. Mason: what the commands of the control pairs, its events and the pairs' own changes of state come down to (R330 to R343, R480). -/

namespace Sys2Proof.Machine

open Config Work

namespace Work

/-! ### Commands of a pair (R333) -/

section Commands
variable {w : Work} {p t st : Nat} {a : MsnCmd}

/-- A command with no reserved bit set, whose checks give OK, has its effect. -/
theorem checked_ok (hr : a.rsv = 0) (hst : st = stOk) (f : Work → Work) : w.checked p a st f = f w := by
  rw [checked, if_neg (not_not.mpr hr), if_neg (not_not.mpr hst)]

/-- A command on the calling thread acts on the thread its pair runs. -/
theorem caller_ok (hr : a.rsv = 0) (ht : w.curTid p = some t) (hst : st = stOk) (f : Nat → Work → Work) : w.caller p a st f = f t w := by
  rw [caller, ht]
  exact checked_ok hr hst _

theorem switchOut_of_curTid (ht : w.curTid p = some t) (after : ThreadSt) : w.switchOut p after = w.leaveThread p t after := by
  rw [switchOut, ht]

variable (hr : a.rsv = 0)
include hr

theorem msnCreate_ok (htarget : a.target = 0) (haff : a.affinity ≠ 0)
    (howner : a.owner = true → a.prio ≤ w.rd Reg.MSN_OWNER_MAX_PRIO ∧ w.ownerThreads < w.rd Reg.MSN_OWNER_QUOTA) (hfree : w.freeTid = some t) :
    w.msnCreate p a = ((w.setThread t { Thread.none with st := .suspended, owner := a.owner, prio := low 6 a.prio, affinity := low 4 a.affinity }).put .ctl
      (frameAddr t) (leBytes 8 a.arg ++ List.replicate 1016 0#8)).answer p stOk 0 t := by
  have hprio : ¬(a.affinity = 0 ∨ (a.owner = true ∧ w.rd Reg.MSN_OWNER_MAX_PRIO < a.prio)) :=
    fun h => h.elim haff fun ⟨ho, hlt⟩ => (howner ho).1.not_gt hlt
  have hquota : ¬(a.owner && decide (w.rd Reg.MSN_OWNER_QUOTA ≤ w.ownerThreads)) = true := by
    simpa using fun ho => (howner ho).2
  rw [msnCreate, checked_ok hr (by rw [if_neg (not_not.mpr htarget), if_neg hprio])]
  simp only [hfree]
  rw [if_neg hquota]

theorem msnExit_ok (ht : w.curTid p = some t) (htarget : a.target = 0) (harg : a.arg = 0) :
    w.msnExit p a = (w.answer p stOk).switchOut p .free :=
  caller_ok hr ht (by simp [noneOf, htarget, harg]) _

theorem msnYield_ok (ht : w.curTid p = some t) (htarget : a.target = 0) (harg : a.arg = 0) :
    w.msnYield p a = ((w.setThread t { w.thread t with result := result stOk 0 0 0 }).answer p stOk).switchOut p .ready :=
  caller_ok hr ht (by simp [noneOf, htarget, harg]) _

theorem msnSleep_ok (ht : w.curTid p = some t) (htarget : a.target = 0) :
    w.msnSleep p a = ((w.setThread t { w.thread t with deadline := a.arg, ended := .open, st := .sleeping }).delayInsert a.arg t).switchOut p .sleeping :=
  caller_ok hr ht (if_neg (not_not.mpr htarget)) _

theorem msnWait_ok (ht : w.curTid p = some t) (htarget : a.target ≤ 4095) (hfree : (w.chan a.target).2 = 0xFFFF ∨ (w.chan a.target).2 = t) :
    w.msnWait p a =
      if 0 < (w.chan a.target).1 then (w.setChan a.target (0, (w.chan a.target).2)).answer p stOk 0 0 (w.chan a.target).1
      else
        let v := w.setThread t { w.thread t with waitCh := a.target, deadline := a.arg, ended := .open, st := .waiting }
        (if a.arg = 0 then v else v.delayInsert a.arg t).switchOut p .waiting := by
  rw [msnWait, caller_ok hr ht (if_neg htarget.not_gt)]
  exact if_neg (by tauto)

theorem msnSignal_ok (htarget : a.target ≤ 4095) (hpos : 0 < a.arg) (harg : a.arg ≤ 0xFFFF) :
    w.msnSignal p a = (w.offer uMason 4 a.target a.arg).answer p stOk := by
  have hlow : low 16 a.arg = a.arg := Nat.mod_eq_of_lt (by omega)
  rw [msnSignal, checked_ok hr]
  rw [if_neg (by omega), if_neg harg.not_gt]

theorem msnSetPrio_ok (harg : a.arg = 0) (hlive : w.liveCheck a a.target = stOk) (hprio : a.owner = true → a.prio ≤ w.rd Reg.MSN_OWNER_MAX_PRIO) :
    w.msnSetPrio p a = (w.setThread a.target { w.thread a.target with prio := low 6 a.prio }).reschedule.answer p stOk := by
  rw [msnSetPrio, checked_ok hr]
  rw [if_neg (not_not.mpr harg), if_neg fun h => (hprio h.1).not_gt h.2, hlive]

theorem msnSetAffinity_ok (harg : a.arg = 0) (hlive : w.liveCheck a a.target = stOk) (haff : a.affinity ≠ 0) :
    w.msnSetAffinity p a = (w.setThread a.target { w.thread a.target with affinity := low 4 a.affinity }).reschedule.answer p stOk := by
  rw [msnSetAffinity, checked_ok hr]
  rw [if_neg (not_not.mpr harg), if_neg haff, hlive]

theorem msnSuspend_ok (harg : a.arg = 0) (hlive : w.liveCheck a a.target = stOk) (hcur : w.curTid p ≠ some a.target)
    (hst : (w.thread a.target).st = .ready ∨ (w.thread a.target).st = .waiting ∨ (w.thread a.target).st = .sleeping) :
    w.msnSuspend p a =
      let v := (w.undelay a.target).setThread a.target { w.thread a.target with st := .suspended, deadline := 0, waitCh := 0 }
      (v.setMsn { v.d.msn with
        ready := v.d.msn.ready.filter (fun x => x != a.target), waking := v.d.msn.waking.filter (fun x => x != a.target) }).reschedule.answer p stOk := by
  rw [msnSuspend, checked_ok hr (by rw [if_neg (not_not.mpr harg), if_neg hcur, hlive])]
  exact if_pos hst

theorem msnResume_ok (harg : a.arg = 0) (hlive : w.liveCheck a a.target = stOk) (hst : (w.thread a.target).st = .suspended)
    (hwaking : w.d.msn.waking.contains a.target = false) :
    w.msnResume p a =
      let v := w.setThread a.target { w.thread a.target with result := result stOk 2 0 0 }
      (v.setMsn { v.d.msn with waking := v.d.msn.waking ++ [a.target] }).answer p stOk := by
  rw [msnResume, checked_ok hr (by rw [if_neg (not_not.mpr harg), hlive])]
  exact if_pos ⟨hst, by rw [hwaking]; rfl⟩

theorem msnBind_ok (htarget : a.target ≤ 4095) (harg : a.arg ≤ 0xFFFF) (htid : low 16 a.arg = 0xFFFF ∨ w.liveCheck a (low 16 a.arg) = stOk) :
    w.msnBind p a = (w.setChan a.target ((w.chan a.target).1, low 16 a.arg)).answer p stOk := by
  rw [msnBind, checked_ok hr]
  rw [if_neg htarget.not_gt, if_neg harg.not_gt]
  exact ite_eq_left_iff.mpr fun h => htid.resolve_left h

theorem msnWaitFlag_ok (htarget : a.target ≤ 4095) (hflag : bits a.arg 31 14 = 0) (hgen : bits a.arg 63 48 = 0) :
    w.msnWaitFlag p a = (w.channelWait (bits a.arg 13 0) (bits a.arg 47 32) a.target).answer p stOk := by
  rw [msnWaitFlag, checked_ok hr]
  rw [if_neg htarget.not_gt, if_neg (by tauto)]

theorem msnKill_ok (harg : a.arg = 0) (hname : w.nameCheck a a.target = stOk) (hcur : w.curTid p ≠ some a.target) :
    w.msnKill p a =
      let v := (w.undelay a.target).setThread a.target Thread.none
      let v := v.setMsn { v.d.msn with
        ready := v.d.msn.ready.filter (fun x => x != a.target), waking := v.d.msn.waking.filter (fun x => x != a.target) }
      ((List.range 4).foldl (dropThread · a.target ·) v).reschedule.answer p stOk := by
  rw [msnKill, checked_ok hr]
  rw [if_neg (not_not.mpr harg), if_neg hcur, hname]

end Commands

end Work

/-- Settles O1: each command that acts on its caller passes its checks and is its equation. -/
theorem masonCallerCommands : Obligations.MasonCallerCommands := by
  intro s p a hr hrsv
  refine ⟨fun t htarget haff howner hfree => ?create, fun t ht htarget harg => ⟨?exit, ?yield⟩, fun t ht htarget => ?sleep,
    fun t ht htarget hbound => ⟨fun hpos => ?taken, fun hzero => ?blocks⟩⟩
  case create => exact does_act hr rfl (msnCreate_ok hrsv htarget haff howner hfree)
  case exit => exact does_act hr rfl (msnExit_ok hrsv ht htarget harg)
  case yield => exact does_act hr rfl (msnYield_ok hrsv ht htarget harg)
  case sleep => exact does_act hr rfl (msnSleep_ok hrsv ht htarget)
  case taken => exact does_act hr rfl ((msnWait_ok hrsv ht htarget hbound).trans (if_pos hpos))
  case blocks => exact does_act hr rfl ((msnWait_ok hrsv ht htarget hbound).trans (if_neg hzero.not_gt))

/-- Settles O2: each command that names a thread, a channel or a flag passes its checks and is its equation. -/
theorem masonNamedCommands : Obligations.MasonNamedCommands := by
  intro s p a hr hrsv
  refine ⟨?signal, ?setPrio, ?setAffinity, ?suspend, ?resume, ?bind, ?waitFlag, ?kill⟩
  case signal => exact fun htarget hpos harg => does_act hr rfl (msnSignal_ok hrsv htarget hpos harg)
  case setPrio => exact fun harg hlive hprio => does_act hr rfl (msnSetPrio_ok hrsv harg hlive hprio)
  case setAffinity => exact fun harg hlive haff => does_act hr rfl (msnSetAffinity_ok hrsv harg hlive haff)
  case suspend => exact fun harg hlive hcur hst => does_act hr rfl (msnSuspend_ok hrsv harg hlive hcur hst)
  case resume => exact fun harg hlive hst hwaking => does_act hr rfl (msnResume_ok hrsv harg hlive hst hwaking)
  case bind => exact fun htarget harg htid => does_act hr rfl (msnBind_ok hrsv htarget harg htid)
  case waitFlag => exact fun htarget hflag hgen => does_act hr rfl (msnWaitFlag_ok hrsv htarget hflag hgen)
  case kill => exact fun harg hname hcur => does_act hr rfl (msnKill_ok hrsv harg hname hcur)

namespace Work

/-! ### Events, slots and time (R335 to R343) -/

theorem curTid_congr {w v : Work} {p : Nat} (h : v.rd Reg.PAIR_CUR_TID p = w.rd Reg.PAIR_CUR_TID p) : v.curTid p = w.curTid p := by
  simp only [curTid, h]

section Events
variable {w : Work} {p t : Nat} {e : MEvent} {r : List MEvent}

/-- One offer, with room in the queue, is accepted. -/
theorem eventAccept_one (ho : w.d.msn.offers = [e]) (hroom : w.d.msn.evq.length < 1024) :
    w.eventAccept =
      let v := w.setMsn { w.d.msn with offers := [] }
      let v := ((v.acceptOne [e] v e).add Reg.KS_MSN_CNT_EVQ_STALL 0).add Reg.KS_MSN_CNT_EXPIRY_STALL 0
      v.raise Reg.MSN_EVQ_PEAK v.d.msn.evq.length := by
  obtain ⟨n, hn⟩ : ∃ n, min 4 (1024 - w.d.msn.evq.length) = n + 1 := ⟨min 4 (1024 - w.d.msn.evq.length) - 1, by omega⟩
  have hsorted : bySource w.d.msn.offers = [e] := by rw [ho]; rfl
  have hfirst : [e].filter (fun e => e.kind != 3) ++ [e].filter (fun e => e.kind == 3) = [e] := by
    by_cases hk : e.kind = 3 <;> simp [hk]
  unfold eventAccept
  simp only [hsorted, hn, List.take_succ_cons, List.drop_succ_cons, List.take_nil, List.drop_nil, hfirst]
  rfl

/-- An event on a channel without a waiter adds to its PENDING. -/
theorem eventRemove_unbound (hq : w.d.msn.evq = e :: r) (hk : e.kind ≠ 3) (hfree : (w.chan e.channel).2 = 0xFFFF)
    (hsum : (w.chan e.channel).1 + e.count ≤ 0xFFFF) :
    w.eventRemove =
      ((w.setMsn { w.d.msn with evq := r }).inc Reg.KS_MSN_CNT_EVENTS).setChan e.channel ((w.chan e.channel).1 + e.count, 0xFFFF) := by
  have hchan : ((w.setMsn { w.d.msn with evq := r }).inc Reg.KS_MSN_CNT_EVENTS).chan e.channel = w.chan e.channel := rfl
  unfold eventRemove
  simp only [hq, if_neg hk, hchan, hfree, ne_eq, not_true_eq_false, false_and, if_false, if_neg hsum.not_gt, min_eq_right hsum]

theorem threadReady_waking (h : w.d.msn.waking.contains t = true) : w.threadReady t = w.enterReady t := if_pos h

/-- The slot of a pair holds the frame of its thread. -/
def slotLoaded (w : Work) (p : Nat) : Work :=
  (w.wr Reg.PAIR_SLOT_LOADED 1 p).setPair p { w.pair p with slotCtx := w.bytes .ctl (frameAddr (w.rd Reg.PAIR_SLOT_TID p)) 1024 }

@[simp] theorem slotLoaded_curTid (w : Work) (p : Nat) : (w.slotLoaded p).curTid p = w.curTid p :=
  curTid_congr (rd_wr_copy (f := Reg.PAIR_SLOT_LOADED) (g := Reg.PAIR_CUR_TID) w 1 p 0 (by decide))

theorem getD_set_saving {ps : List Pair} {p : Nat} {x : Pair} (h : x.saving = (ps.getD p Pair.reset).saving) :
    ((ps.set p x).getD p Pair.reset).saving = (ps.getD p Pair.reset).saving := by
  rw [List.getD_eq_getElem?_getD, List.getElem?_set_self']
  cases hp : ps[p]? <;> simp_all

@[simp] theorem slotLoaded_saving (w : Work) (p : Nat) : ((w.slotLoaded p).pair p).saving = (w.pair p).saving := getD_set_saving rfl

section Prefetch
variable (hslot : w.rd Reg.PAIR_SLOT_TID p ≠ 0xFFFF) (hload : w.rd Reg.PAIR_SLOT_LOADED p ≠ 1)
include hslot hload

theorem prefetchDone_bad : w.prefetchDone p true = w.frameFault (w.rd Reg.PAIR_SLOT_TID p) := by
  rw [prefetchDone, if_neg (by simp [hslot, on_eq_false hload]), if_pos rfl]

theorem prefetchDone_good :
    w.prefetchDone p false =
      let v := w.slotLoaded p
      match w.curTid p with
      | none => if (w.pair p).saving.isNone then v.takeSlot p else v
      | some c => if (w.thread c).prio < (w.thread (w.rd Reg.PAIR_SLOT_TID p)).prio then (v.inc Reg.KS_MSN_CNT_PREEMPT).leaveThread p c .running else v := by
  rw [prefetchDone, if_neg (by simp [hslot, on_eq_false hload]), if_neg Bool.false_ne_true]
  change (match (w.slotLoaded p).curTid p with
    | none => if ((w.slotLoaded p).pair p).saving.isNone then (w.slotLoaded p).takeSlot p else w.slotLoaded p
    | some c => _) = _
  rw [slotLoaded_curTid, slotLoaded_saving]
  cases w.curTid p <;> rfl

end Prefetch

theorem saveDone_saving {after : ThreadSt} (h : (w.pair p).saving = some (t, after)) :
    w.saveDone p =
      let v := w.setPair p { w.pair p with saving := none }
      let v := match after with
        | .free => (v.setThread t Thread.none).reschedule
        | .ready => v.enterReady t
        | .running => v.enterReadyHead t
        | _ => v.reschedule
      if (v.curTid p).isNone then
        if v.on Reg.PAIR_SLOT_LOADED p && v.pairUp p then v.takeSlot p else v.wr Reg.PAIR_IDLE 1 p
      else v := by
  have hfill (v : Work) : v.fillPair p = if (v.curTid p).isNone then
      if v.on Reg.PAIR_SLOT_LOADED p && v.pairUp p then v.takeSlot p else v.wr Reg.PAIR_IDLE 1 p else v := by
    rw [fillPair]
    cases v.curTid p <;> rfl
  rw [saveDone, h, finishSave, h, if_neg (by simp), hfill] <;> cases after <;> rfl

theorem delayExpiry_head {ts : List Nat} (h : w.d.msn.expired = t :: ts) :
    w.delayExpiry = w.setMsn { w.d.msn with expired := ts, offers := w.d.msn.offers ++ [⟨0, uMason, 3, 1, 0, t⟩] } := by
  rw [delayExpiry, h]

theorem quantumExpiry_due (ht : w.curTid p = some t) (hq : w.rd Reg.THR_QUANTUM_US t ≠ 0) (hslot : w.rd Reg.PAIR_SLOT_TID p ≠ 0xFFFF)
    (hprio : (w.thread (w.rd Reg.PAIR_SLOT_TID p)).prio = (w.thread t).prio) :
    w.quantumExpiry p = (w.advance (w.quantumEnd p (w.rd Reg.THR_QUANTUM_US t))).switchOut p .ready := by
  rw [quantumExpiry, ht]
  exact if_pos ⟨hq, hslot, hprio⟩

/-- A pair that is not yet drained leaves placement, and its thread is switched out as if preempted. -/
theorem pairDrain_first (h : w.rd Reg.PAIR_DRAIN p ≠ 1) :
    w.pairDrain p = match w.curTid p with
      | none => (w.wr Reg.PAIR_DRAIN 1 p).reschedule
      | some t => ((w.wr Reg.PAIR_DRAIN 1 p).leaveThread p t .running).reschedule := by
  have hcur : (w.wr Reg.PAIR_DRAIN 1 p).curTid p = w.curTid p := curTid_congr (rd_wr_copy _ _ _ _ (by decide))
  rw [pairDrain, on_eq_false h, if_neg Bool.false_ne_true]
  dsimp only
  rw [hcur] <;> cases w.curTid p <;> rfl

theorem hostSignal_ok {req channel count : Nat} (hch : channel ≤ 4095) (hcount : count ≠ 0)
    (hlow : low 16 count = count) : w.hostSignal req channel count = w.offer uHost 4 channel count :=
  if_neg (by simp [hlow, hcount, hch.not_gt])

end Events

/-! ### A pair that leaves service and returns (R330, R480) -/

section Lockstep
variable {w : Work} {p t : Nat}

theorem pairTime_rd_curTid (w : Work) (p : Nat) : (w.pairTime p).rd Reg.PAIR_CUR_TID p = w.rd Reg.PAIR_CUR_TID p := by
  unfold pairTime
  split
  · exact rd_wr_copy (f := Reg.KS_MSN_CNT_BUSY_CYCLES) (g := Reg.PAIR_CUR_TID) w _ p 0 (by decide)
  · exact rd_wr_copy (f := Reg.KS_MSN_CNT_IDLE_CYCLES) (g := Reg.PAIR_CUR_TID) w _ p 0 (by decide)

/-- Counting and recording the mismatch, and the pair's time and IN_SERVICE, leave the thread it ran in its register. -/
theorem curTid_mismatch (w : Work) (p : Nat) :
    ((((w.inc Reg.KS_MSN_CNT_LOCKSTEP_MISMATCH p).err (uPair p) stOk).pairTime p).wr Reg.PAIR_IN_SERVICE 0 p).curTid p = w.curTid p := by
  have hservice := fun v : Work => rd_wr_copy (f := Reg.PAIR_IN_SERVICE) (g := Reg.PAIR_CUR_TID) v 0 p 0 (by decide)
  have hrecord := (recorded_err (w.inc Reg.KS_MSN_CNT_LOCKSTEP_MISMATCH p) (uPair p) stOk 0 0 0).rd_above (f := Reg.PAIR_CUR_TID) p 0 (by decide)
  have hcount := rd_wr_copy (f := Reg.KS_MSN_CNT_LOCKSTEP_MISMATCH) (g := Reg.PAIR_CUR_TID) w (w.rd Reg.KS_MSN_CNT_LOCKSTEP_MISMATCH p + 1) p 0 (by decide)
  exact curTid_congr ((hservice _).trans ((pairTime_rd_curTid _ p).trans (hrecord.trans hcount)))

theorem lockstepMismatch_first (hin : w.rd Reg.PAIR_IN_SERVICE p = 1) (ht : w.curTid p = some t) (hret : (w.pair p).returnTb = 0) :
    w.lockstepMismatch p =
      let v := (((w.inc Reg.KS_MSN_CNT_LOCKSTEP_MISMATCH p).err (uPair p) stOk).pairTime p).wr Reg.PAIR_IN_SERVICE 0 p
      let v := (v.setThread t { v.thread t with st := .faulted }).offer uMason 5 (v.rd Reg.MSN_FAULT_CHANNEL) t
      let v := ((v.wr Reg.PAIR_CUR_TID 0xFFFF p).wr Reg.PAIR_SLOT_TID 0xFFFF p).wr Reg.PAIR_SLOT_LOADED 0 p
      let v := v.finishSave p
      let v := (v.setPair p { v.pair p with slotCtx := [], retesting := true }).reschedule
      if (List.range 4).all (fun q => !v.on Reg.PAIR_IN_SERVICE q) then v.degrade (uPair p) stEngineRetired 0 else v := by
  have hcur := (curTid_mismatch w p).trans ht
  unfold lockstepMismatch
  simp only [on_eq_true hin, hret, hcur, Bool.not_true, Bool.false_eq_true, if_false, ne_eq, not_true_eq_false, false_and]

theorem pairRetest_passed (h : (w.pair p).retesting = true) :
    w.pairRetest p true =
      let v := (w.wr Reg.PAIR_IN_SERVICE 1 p).setPair p { w.pair p with retesting := false, returnTb := w.now }
      ((v.inc Reg.SAF_CNT_TRANSIENT).err (uPair p) stOk (2 * 2 ^ 24)).reschedule := by
  rw [pairRetest, h, if_neg (by simp)]
  exact if_pos rfl

theorem pairRetest_failed (h : (w.pair p).retesting = true) : w.pairRetest p false = w.retirePair p := by
  rw [pairRetest, h, if_neg (by simp)]
  exact if_neg (by simp)

end Lockstep

end Work

/-- Settles O3: each event of Mason is its equation, where the state it meets is the one its clause names. -/
theorem masonEvents : Obligations.MasonEvents := by
  intro s hr
  refine ⟨?accept, ?remove, ?ready, ?prefetch, ?save, ?expiry, ?tick, ?quantum, ?pair, ?signal⟩
  case accept => exact fun e ho hroom => does_act hr rfl (eventAccept_one ho hroom)
  case remove => exact fun e r hq hk hfree hsum => does_act hr rfl (eventRemove_unbound hq hk hfree hsum)
  case ready => exact fun t ht => does_act hr rfl (threadReady_waking ht)
  case prefetch =>
    intro p hslot hload
    refine ⟨does_act hr rfl (prefetchDone_bad hslot hload), fun loaded hloaded => ?_⟩
    have hgood := prefetchDone_good (w := start s) hslot hload
    have hloaded : loaded (start s) = (start s).slotLoaded p.val := hloaded _
    refine ⟨fun c hc hle => ?_, fun c hc hlt => ?_, fun hc hsave => ?_⟩
    · refine does_act hr rfl (hgood.trans ?_)
      simp only [hc, hloaded]
      exact if_neg hle.not_gt
    · refine does_act hr rfl (hgood.trans ?_)
      simp only [hc, hloaded]
      exact if_pos hlt
    · refine does_act hr rfl (hgood.trans ?_)
      simp only [hc, hsave, hloaded]
      rfl
  case save => exact fun p t after h => does_act hr rfl ((saveDone_saving h).trans (by cases after <;> rfl))
  case expiry => exact fun t r h => does_act hr rfl (delayExpiry_head h)
  case tick => exact does_act hr rfl rfl
  case quantum => exact fun p t ht hq hslot hprio => does_act hr rfl (quantumExpiry_due ht hq hslot hprio)
  case pair =>
    intro req p hw
    refine ⟨fun hd hc => ?_, fun t hd hc => ?_, does_actWriter hr hw rfl rfl⟩
    · exact does_actWriter hr hw rfl ((pairDrain_first hd).trans (by rw [hc]))
    · exact does_actWriter hr hw rfl ((pairDrain_first hd).trans (by rw [hc]; rfl))
  case signal =>
    intro req channel count hch hcount hw
    exact does_actWriter hr hw rfl (hostSignal_ok hch hcount (Nat.mod_eq_of_lt count.isLt))

/-- Settles O4: a mismatch in a pair that has not come back, and a re-test's two ends. What is recorded of them rests on a choice of the model: log entry
50. -/
theorem pairLockstepAndRetest : Obligations.PairLockstepAndRetest := by
  intro s p hr
  refine ⟨fun t hin ht hret => ?mismatch, fun hre => ⟨?passed, ?failed⟩⟩
  case mismatch => exact does_act hr rfl (lockstepMismatch_first hin ht hret)
  case passed => exact does_act hr rfl (pairRetest_passed hre)
  case failed => exact does_act hr rfl (pairRetest_failed hre)

end Sys2Proof.Machine
end

section
/-! PROOF. Sensor ingress and the Keystone: packets, frames, replay, port receivers, sensor control and joint flags (R60 to R66, R105 to R128, R525). -/

namespace Sys2Proof.Machine

open Config Work

namespace Work

/-! ### Packets on a live port (R105 to R114) -/

section Packets
variable {w : Work} {p vc : Nat}

/-- Frame and line numbers of a packet's sixteen bits, and data types of its six, are whole. -/
theorem csiPacket_frameStart (n : BitVec 16) : w.csiPacket p vc (.frameStart n.toNat) = w.frameStart p vc n.toNat :=
  congrArg (w.frameStart p vc) (Nat.mod_eq_of_lt n.isLt)

theorem csiPacket_lineStart (n : BitVec 16) : w.csiPacket p vc (.lineStart n.toNat) = w.lineStart p vc n.toNat false :=
  congrArg (w.lineStart p vc · false) (Nat.mod_eq_of_lt n.isLt)

theorem csiPacket_long (dt : Fin 64) (bs : List Byte) (ok : Bool) : w.csiPacket p vc (.long dt.val bs ok) = w.longPacket p vc dt.val bs ok :=
  congrArg (w.longPacket p vc · bs ok) (Nat.mod_eq_of_lt dt.isLt)

theorem rd_ctx_inc_packets (w : Work) {p c : Nat} (hp : p < 16) (f : Fld) (h : 0x402000 ≤ f.off) :
    (w.inc Reg.ING_PORT_CNT_PACKETS p).rd f c = w.rd f c := by
  refine rd_wr_ne w ?_
  simp only [Fld.key, Reg.ING_PORT_CNT_PACKETS]
  omega

/-- A live port's receiver stays live while counters of ports are written. -/
theorem portLive_inc {f : Fld} (h : f.s1 = 0x100 ∧ f.s2 = 0 ∧ f.lo = 0 ∧ 0x401010 ≤ f.off ∧ f.off < 0x401100) (w : Work) (p : Nat) :
    (w.inc f p).portLive p = w.portLive p := by
  obtain ⟨hs1, hs2, hlo, hlow, hhigh⟩ := h
  have hon (g : Fld) (hg : g.s1 = f.s1 ∧ g.s2 = f.s2 ∧ g.off * 8 + g.lo ≠ f.off * 8 + f.lo) : (w.inc f p).on g p = w.on g p := by
    rw [on, on, inc_wr, rd_wr_copy w _ p 0 hg]
  rw [portLive, portLive, hon Reg.PORT_ENABLE, hon Reg.PORT_LOCKED]
  · simp only [Reg.PORT_LOCKED]; omega
  · simp only [Reg.PORT_ENABLE]; omega

/-- With no older map kept for a port and virtual channel, the one in force is the newest. -/
theorem mapFor_of_new (h : tget [] w.d.ldr.mapOld (p * 32 + vc) = []) : w.mapFor p vc = w.region 3 0 := by rw [mapFor, h]

/-- The packet of a frame start is counted, and the newest CONTEXT_MAP holds from it on. -/
def frameStarted (w : Work) (p vc : Nat) : Work :=
  let v := w.inc Reg.ING_PORT_CNT_PACKETS p
  v.setLdr { v.d.ldr with mapOld := tdel v.d.ldr.mapOld (p * 32 + vc) }

theorem frameStarted_mapFor (hold : tget [] w.d.ldr.mapOld (p * 32 + vc) = []) : (w.frameStarted p vc).mapFor p vc = w.mapFor p vc := by
  rw [mapFor_of_new hold, mapFor_of_new (tget_tdel_self ..)]
  rfl

theorem frameStarted_ctxsOf (hold : tget [] w.d.ldr.mapOld (p * 32 + vc) = []) : (w.frameStarted p vc).ctxsOf p vc = w.ctxsOf p vc := by
  rw [ctxsOf, frameStarted_mapFor hold, ctxsOf]

theorem frameStarted_rd (w : Work) (vc : Nat) {p c : Nat} (hp : p < 16) (f : Fld) (h : 0x402000 ≤ f.off) : (w.frameStarted p vc).rd f c = w.rd f c :=
  rd_ctx_inc_packets w hp f h

variable (hlive : w.portLive p = true)
include hlive

theorem frameStart_none {n : Nat} (hold : tget [] w.d.ldr.mapOld (p * 32 + vc) = []) (hctx : w.ctxsOf p vc = []) :
    w.frameStart p vc n = w.frameStarted p vc := by
  have hnew := (frameStarted_ctxsOf hold).trans hctx
  have hcount : (w.inc Reg.ING_PORT_CNT_PACKETS p).ctxsOf p vc = [] := hctx
  unfold frameStarted at hnew
  unfold frameStart
  simp only [hlive, hcount, hnew, Bool.not_true, Bool.false_eq_true, if_false, List.filter_nil, List.foldl_nil]
  rfl

theorem frameStart_one {n c : Nat} (hp : p < 16) (hold : tget [] w.d.ldr.mapOld (p * 32 + vc) = []) (hctx : w.ctxsOf p vc = [c])
    (hwidth : w.rd Reg.CTX_WIDTH c ≠ 0) (hheight : w.rd Reg.CTX_HEIGHT c ≠ 0) :
    w.frameStart p vc n =
      let v := w.frameStarted p vc
      let e := extFc (v.rd Reg.CTX_EXT_FC c) (v.rd Reg.CTX_FC_MAX c) (v.ctxIn c).lastF n (v.ctxIn c).ever (v.on Reg.CTX_FC_LOCAL c)
      let v := (v.add Reg.ING_CTX_CNT_FC_SKIP e.2.1 c).contextStart c (bits (wd (w.mapFor p vc) (4 * c)) 29 24) e.1 e.2.2
      v.setCtxIn c { v.ctxIn c with lastF := n } := by
  have hnew := (frameStarted_ctxsOf hold).trans hctx
  have hmap := frameStarted_mapFor hold
  have hcount : (w.inc Reg.ING_PORT_CNT_PACKETS p).ctxsOf p vc = [c] := hctx
  have hsize : ¬((w.frameStarted p vc).rd Reg.CTX_WIDTH c = 0 ∨ (w.frameStarted p vc).rd Reg.CTX_HEIGHT c = 0) := by
    rw [frameStarted_rd w vc hp _ (by decide), frameStarted_rd w vc hp _ (by decide)]
    exact not_or.mpr ⟨hwidth, hheight⟩
  unfold frameStarted at hnew hmap hsize ⊢
  unfold frameStart
  simp only [hlive, hcount, hnew, hmap, hsize, Bool.not_true, Bool.false_eq_true, if_false, List.filter_cons, List.filter_nil, List.contains_cons, beq_self_eq_true,
    Bool.true_or, List.foldl_nil, List.foldl_cons]

theorem longPacket_untracked {dt : Nat} {bs : List Byte} (hawake : w.rd Reg.PWR_DEVICE_STATE < 2)
    (hnone : ∀ c ∈ w.ctxsOf p vc, bits (wd (w.mapFor p vc) (4 * c)) 29 24 ≠ dt) :
    w.longPacket p vc dt bs true =
      (((w.inc Reg.ING_PORT_CNT_PACKETS p).inc Reg.ING_PORT_CNT_UNTRACKED p).wr Reg.PORT_LAST_UNTRACKED_VC vc p).wr Reg.PORT_LAST_UNTRACKED_DT dt p := by
  have hfind : ((w.inc Reg.ING_PORT_CNT_PACKETS p).ctxsOf p vc).find?
      (fun c => bits (wd ((w.inc Reg.ING_PORT_CNT_PACKETS p).mapFor p vc) (4 * c)) 29 24 == dt) = none :=
    List.find?_eq_none.mpr fun c hc h => hnone c hc (beq_iff_eq.mp h)
  unfold longPacket
  rw [if_neg (by simp [hlive, hawake])]
  simp only [if_true, hfind]

theorem longPacket_line {dt c : Nat} {bs : List Byte} {r : List Nat} {f : OpenFrame} (hawake : w.rd Reg.PWR_DEVICE_STATE < 2) (hctx : w.ctxsOf p vc = c :: r)
    (hdt : bits (wd (w.mapFor p vc) (4 * c)) 29 24 = dt) (hframe : (w.ctxIn c).frame = some f) :
    w.longPacket p vc dt bs true =
      let v := w.inc Reg.ING_PORT_CNT_PACKETS p
      (v.setIng { v.d.ing with lastCtx := tset 64 v.d.ing.lastCtx p c }).takeLine c bs true (w.on Reg.PORT_LINE_NUM_EN p) := by
  have hfind : ((w.inc Reg.ING_PORT_CNT_PACKETS p).ctxsOf p vc).find?
      (fun c => bits (wd ((w.inc Reg.ING_PORT_CNT_PACKETS p).mapFor p vc) (4 * c)) 29 24 == dt) = some c := by
    change (w.ctxsOf p vc).find? (fun c => bits (wd (w.mapFor p vc) (4 * c)) 29 24 == dt) = some c
    rw [hctx, List.find?_cons_of_pos (by simp [hdt])]
  have hopen : (((w.inc Reg.ING_PORT_CNT_PACKETS p).setIng
      { (w.inc Reg.ING_PORT_CNT_PACKETS p).d.ing with lastCtx := tset 64 (w.inc Reg.ING_PORT_CNT_PACKETS p).d.ing.lastCtx p c }).ctxIn c).frame = some f := hframe
  have hnum : (w.inc Reg.ING_PORT_CNT_PACKETS p).on Reg.PORT_LINE_NUM_EN p = w.on Reg.PORT_LINE_NUM_EN p := by
    rw [on, on, inc_wr, rd_wr_copy w _ p 0 (by decide)]
  have hnum' : ((w.inc Reg.ING_PORT_CNT_PACKETS p).setIng
      { (w.inc Reg.ING_PORT_CNT_PACKETS p).d.ing with lastCtx := tset 64 (w.inc Reg.ING_PORT_CNT_PACKETS p).d.ing.lastCtx p c }).on Reg.PORT_LINE_NUM_EN p =
      w.on Reg.PORT_LINE_NUM_EN p := hnum
  unfold longPacket
  rw [if_neg (by simp [hlive, hawake])]
  simp only [if_true, hfind, hopen, hnum']

theorem lineStart_end {n : Nat} : w.lineStart p vc n true = w.inc Reg.ING_PORT_CNT_PACKETS p := by
  rw [lineStart, if_neg (by simp [hlive])]
  exact if_pos (.inl rfl)

theorem lineStart_start {n c : Nat} (hn : n ≠ 0) (hnum : w.rd Reg.PORT_LINE_NUM_EN p = 1) (hctx : w.ctxsOf p vc = [c]) :
    w.lineStart p vc n false = (w.inc Reg.ING_PORT_CNT_PACKETS p).modFrame c fun f => { f with
      lineNo := some n
      firstLine := match f.firstLine with
        | none => some n
        | some m => some m } := by
  have hon : (w.inc Reg.ING_PORT_CNT_PACKETS p).on Reg.PORT_LINE_NUM_EN p = true := by
    rw [on, inc_wr, rd_wr_copy w _ p 0 (by decide), hnum]; rfl
  have hcount : (w.inc Reg.ING_PORT_CNT_PACKETS p).ctxsOf p vc = [c] := hctx
  unfold lineStart
  simp only [hlive, hon, hn, hcount, Bool.not_true, Bool.false_eq_true, if_false, or_self, List.foldl_cons, List.foldl_nil] <;> rfl

theorem frameEnd_open {c : Nat} {f : OpenFrame} (hctx : w.ctxsOf p vc = [c]) (hframe : (w.ctxIn c).frame = some f) :
    w.frameEnd p vc = (w.inc Reg.ING_PORT_CNT_PACKETS p).endFrame c := by
  have hcount : (w.inc Reg.ING_PORT_CNT_PACKETS p).ctxsOf p vc = [c] := hctx
  have hopen : ((w.inc Reg.ING_PORT_CNT_PACKETS p).ctxIn c).frame = some f := hframe
  unfold frameEnd
  simp only [hlive, hcount, hopen, Bool.not_true, Bool.false_eq_true, if_false, List.isEmpty_cons, List.foldl_cons, List.foldl_nil, Option.isSome_some, if_true]

theorem genericShort_live : w.genericShort p = (w.inc Reg.ING_PORT_CNT_PACKETS p).inc Reg.ING_PORT_CNT_SHORT_OTHER p := by
  rw [genericShort, if_neg (by simp [hlive])]

theorem headerDrop_closed (hframe : (w.ctxIn (tget 64 w.d.ing.lastCtx p)).frame = none) : w.headerDrop p = w.inc Reg.ING_PORT_CNT_HDR_DROP p := by
  have hclosed : ((w.inc Reg.ING_PORT_CNT_HDR_DROP p).ctxIn (tget 64 (w.inc Reg.ING_PORT_CNT_HDR_DROP p).d.ing.lastCtx p)).frame = none := hframe
  unfold headerDrop
  simp only [hlive, hclosed, Bool.not_true, Bool.false_eq_true, if_false]

theorem headerEcc_generic {vc : Fin 32} {c : Nat} (hctx : w.ctxsOf p vc.val = [c]) :
    w.headerEcc p (.corrected vc .generic) =
      (((w.inc Reg.ING_PORT_CNT_HDR_FIXED p).frameBits c 0x20).inc Reg.ING_PORT_CNT_PACKETS p).inc Reg.ING_PORT_CNT_SHORT_OTHER p := by
  have hcount : (w.inc Reg.ING_PORT_CNT_HDR_FIXED p).ctxsOf p vc.val = [c] := hctx
  have hfixed : w.headerFixed p vc.val none = (w.inc Reg.ING_PORT_CNT_HDR_FIXED p).frameBits c 0x20 := by
    unfold headerFixed
    simp only [hlive, hcount, Bool.not_true, Bool.false_eq_true, if_false, List.filter_true, List.foldl_cons, List.foldl_nil]
  have hstill : ((w.inc Reg.ING_PORT_CNT_HDR_FIXED p).frameBits c 0x20).portLive p = true := (portLive_inc (by decide) w p).trans hlive
  exact (congrArg (genericShort · p) hfixed).trans (genericShort_live hstill)

end Packets

end Work

/-- Settles O5: on a live port each packet is the equation of its kind. -/
theorem sensorPackets : Obligations.SensorPackets := by
  intro s p vc hr hlive
  refine ⟨?startNone, ?startOne, ?untracked, ?line, ?number, ?frameEnd, ?generic, ?dropped, ?fixed⟩
  case startNone => exact fun n hold hctx => does_act hr rfl ((csiPacket_frameStart n).trans (frameStart_none hlive hold hctx))
  case startOne =>
    exact fun n c hold hctx hwidth hheight =>
      does_act hr rfl ((csiPacket_frameStart n).trans (frameStart_one hlive p.isLt hold hctx hwidth hheight))
  case untracked => exact fun dt bs hawake hnone => does_act hr rfl ((csiPacket_long dt bs true).trans (longPacket_untracked hlive hawake hnone))
  case line =>
    exact fun dt bs c r f hawake hctx hmap hframe => does_act hr rfl ((csiPacket_long dt bs true).trans (longPacket_line hlive hawake hctx hmap hframe))
  case number =>
    intro n c hn hnum hctx
    have hpos : n.toNat ≠ 0 := fun h => hn (BitVec.eq_of_toNat_eq h)
    exact ⟨does_act hr rfl (lineStart_end hlive), does_act hr rfl ((csiPacket_lineStart n).trans (lineStart_start hlive hpos hnum hctx))⟩
  case frameEnd => exact fun n c f hctx hframe => does_act hr rfl (frameEnd_open hlive hctx hframe)
  case generic => exact does_act hr rfl (genericShort_live hlive)
  case dropped => exact fun hframe => does_act hr rfl (headerDrop_closed hlive hframe)
  case fixed => exact fun c hctx => does_act hr rfl (headerEcc_generic hlive hctx)

end Sys2Proof.Machine
end

section
namespace Sys2Proof.Machine

open Config Work

namespace Work

/-! ### Timed-out frames and queued graphs (R65, R66, R113) -/

section Frames
variable {w : Work} {c : Nat} {f : OpenFrame}

@[simp] theorem modFrame_frame (w : Work) (c : Nat) (g : OpenFrame → OpenFrame) : ((w.modFrame c g).ctxIn c).frame = (w.ctxIn c).frame.map g :=
  congrArg CtxIn.frame (setCtxIn_ctxIn w c _)

/-- Setting one ledger bit leaves the others. -/
theorem bitAt_lor_ne (b m i : Nat) (h : m.testBit i = false) : bitAt (Nat.lor b m) i = bitAt b i := by
  rw [bitAt_eq_testBit, bitAt_eq_testBit]
  exact (Nat.testBit_or b m i).trans (by rw [h, Bool.or_false])

/-- A frame that is closed short counts as short once. -/
theorem closeShort_open (h : (w.ctxIn c).frame = some f) :
    w.closeShort c = ((if bitAt f.bits 2 then w else w.inc Reg.ING_CTX_CNT_FRAME_SHORT c).frameBits c 4).closeFrame c := by
  rw [closeShort, frameShort, h]

theorem eofTimeout_open (h : (w.ctxIn c).frame = some f) :
    w.eofTimeout c =
      let v := ((w.advance (f.sofTb + f.eofNs)).inc Reg.ING_CTX_CNT_EOF_TIMEOUT c).frameBits c 0x10
      let v := ((if bitAt f.bits 2 then v else v.inc Reg.ING_CTX_CNT_FRAME_SHORT c).frameBits c 4).closeFrame c
      v.setCtxIn c { v.ctxIn c with timedOut := true } := by
  have hopen : ((((w.advance (f.sofTb + f.eofNs)).inc Reg.ING_CTX_CNT_EOF_TIMEOUT c).frameBits c 0x10).ctxIn c).frame =
      some { f with bits := Nat.lor f.bits 0x10 } := by
    rw [frameBits, modFrame_frame]
    exact congrArg (Option.map _) h
  have hshort := closeShort_open hopen
  rw [bitAt_lor_ne _ _ 2 (by decide)] at hshort
  rw [eofTimeout, h]
  dsimp only
  rw [hshort]

end Frames

section Instances
variable {w : Work} {r : GRun}

theorem instantiate_first (hfree : w.d.ks.runs.any (fun x => decide (x.phase = .creating)) = false) (hfirst : w.firstQueued = some r) :
    w.instantiate =
      let g := w.version r.seq
      let v := (w.reach w.d.ks.instV).upTo g.flagCount (fun v i => v.armFlag g r i)
      let v := v.setKs { v.d.ks with instV := v.d.clk.vcycle }
      let gens := (List.range g.flagCount).map (fun i => v.rd Reg.FLAG_GENERATION (v.flagOf r i))
      let v := (v.modRun r.id (fun x => { x with phase := .creating, gens := gens })).inc Reg.KS_CNT_INSTANTIATED
      if v.on Reg.KS_TRACE_EN then v.trace uKeystone 1 (runTag r) r.afc g.ver else v := by
  rw [instantiate, if_neg (by rw [hfree]; exact Bool.false_ne_true), hfirst]

theorem instantiationDone_creating (h : w.d.ks.runs.find? (fun x => decide (x.phase = .creating)) = some r) :
    w.instantiationDone =
      let g := w.version r.seq
      let v := (w.reach (w.d.ks.instV + (16 + g.nodeCount + g.flagCount))).modRun r.id (fun x => { x with phase := .running })
      let v := v.setKs { v.d.ks with instV := v.d.clk.vcycle + 1 }
      let v := ((v.waitAll r.id g).flushRun r.id).notifyFlags r.id
      ((List.range g.nodeCount).filter (fun n => (g.inEdges n).isEmpty)).foldl (fun (v : Work) n => (v.nodeUnits g n).foldl (fun v u =>
        match v.grun? r.id with
        | some q => if (nodeRun q n).st = .waiting then v.nodeDispatch u else v
        | none => v) v) v := by
  rw [instantiationDone, h]
  simp only [List.foldl_filter]
  rfl

end Instances

/-! ### Replay (R116 to R118) -/

section Replay
variable {w v : Work} {c st : Nat} {bs : List Byte} {r : Replay}

section Fetch
variable (hctx : w.replayCtx c = true) (hring : w.rd Reg.ING_RPL_HEAD c ≠ w.rd Reg.ING_RPL_TAIL c) (hidle : (w.ctxIn c).replay = none)
  (hread : w.readAt uKeystone (w.rd Reg.ING_RPL_RING_BASE c + 64 * w.rd Reg.ING_RPL_HEAD c) 64 = (v, st, bs))
include hctx hring hidle hread

theorem replayFetch_refused (hst : st ≠ stOk) : w.replayFetch c = ((v.inc Reg.ING_RPL_CNT_REFUSED c).err uKeystone st c).replayAdvance c := by
  rw [replayFetch, if_neg (by simp [hctx, hring, hidle])]
  simp only [hread, if_pos hst]

theorem replayFetch_ok (hst : st = stOk) (hcheck : v.replayCheck c (bytesWords bs) = stOk) (hsof : wd64 (bytesWords bs) 6 = 0) :
    w.replayFetch c = v.setCtxIn c { v.ctxIn c with replay := some ⟨bytesWords bs, 0, false, 0⟩ } := by
  rw [replayFetch, if_neg (by simp [hctx, hring, hidle])]
  simp only [hread, hst, hcheck, hsof, ne_eq, not_true_eq_false, if_false, false_and]

end Fetch

variable (hr : (w.ctxIn c).replay = some r)
include hr

theorem replayStart_due (hstart : r.started = false) (hdue : r.sofTb ≠ 0 ∨ (w.ctxIn c).frame = none) :
    w.replayStart c =
      let v := w.advance r.sofTb
      if v.rd Reg.CTX_WIDTH c = 0 ∨ v.rd Reg.CTX_HEIGHT c = 0 then
        (v.setCtxIn c { v.ctxIn c with replay := none, replayFc := some (wd r.words 1), replayEnd := v.now }).replayAdvance c
      else
        let v := v.contextStart c (bits (wd (v.ctxMap c) 0) 29 24) (wd r.words 1) false
        v.setCtxIn c { v.ctxIn c with replay := some { r with sofTb := if r.sofTb = 0 then v.now else r.sofTb, started := true } } := by
  rw [replayStart, hr]
  exact if_neg (by rcases hdue with h | h <;> simp [hstart, h])

theorem replayLine_next {late : Nat} (hstart : r.started = true) (hmore : r.line + 1 < bits (wd r.words 5) 31 16) :
    w.replayLine c late =
      let v := w.advance (r.sofTb + (r.line + 1) * wd r.words 8 + late)
      let v := if late = 0 then v else v.inc Reg.ING_RPL_CNT_STALL c
      let g := v.readAt uKeystone (wd64 r.words 2 + r.line * wd r.words 4) (bits (wd r.words 5) 15 0)
      let v := if (g.1.ctxIn c).frame.isSome then g.1.takeLine c g.2.2 (decide (g.2.1 = stOk)) false
        else if (g.1.ctxIn c).timedOut then g.1.inc Reg.ING_CTX_CNT_LATE_LINES c else g.1
      v.setCtxIn c { v.ctxIn c with replay := some { r with line := r.line + 1 } } := by
  rw [replayLine, hr]
  simp only [hstart, Bool.not_true, Bool.false_eq_true, if_false, if_pos hmore]

end Replay

/-! ### Joint flags (R60, R61, R63, R303) -/

section Flags
variable {w : Work} {f n : Nat}

theorem hostFlagSignal_ok (inc : BitVec 24) (gen : BitVec 16) (h : inc ≠ 0#24) :
    w.hostFlagSignal f inc.toNat gen.toNat = w.setKs { w.d.ks with signals := w.d.ks.signals ++ [⟨f, inc.toNat, gen.toNat, false⟩] } := by
  have hinc : low 24 inc.toNat = inc.toNat := Nat.mod_eq_of_lt inc.isLt
  have hgen : low 16 gen.toNat = gen.toNat := Nat.mod_eq_of_lt gen.isLt
  have hpos : inc.toNat ≠ 0 := fun h0 => h (BitVec.eq_of_toNat_eq h0)
  rw [hostFlagSignal, hinc, hgen, if_neg hpos]
  rfl

theorem flagApply_good {mine good : List Sig} {sum : Nat} (hpoison : w.d.ks.poisoned.contains f = false)
    (hmine : mine = (w.d.ks.signals.filter (fun x => x.flag == f)).take n) (hgood : good = mine.filter (fun x => x.gen == w.rd Reg.FLAG_GENERATION f))
    (hsum : sum = (good.map Sig.inc).sum) (hpos : sum ≠ 0) :
    w.flagApply f n =
      let rest := w.d.ks.signals.filter (fun x => x.flag != f) ++ (w.d.ks.signals.filter (fun x => x.flag == f)).drop n
      let v := (w.setKs { w.d.ks with signals := rest }).add Reg.KS_CNT_STALE_SIGNAL (mine.length - good.length)
      let old := v.rd Reg.FLAG_COUNT f
      let v := v.add Reg.KS_CNT_OVERSHOOT (old + sum - max old (v.rd Reg.FLAG_TARGET f))
      let v := (v.wr Reg.FLAG_COUNT (min 0xFFFFFF (old + sum)) f).inc Reg.KS_CNT_FLAG_UPDATES
      (v.countNearMiss f old).wakeMet f := by
  unfold flagApply
  simp only [setKs_ks, setKs_rd, hpoison, Bool.false_eq_true, if_false, ← hmine, ← hgood, ← hsum, if_neg hpos]

theorem flagApply_poisoned (hpoison : w.d.ks.poisoned.contains f = true) :
    w.flagApply f n =
      let rest := w.d.ks.signals.filter (fun x => x.flag != f) ++ (w.d.ks.signals.filter (fun x => x.flag == f)).drop n
      (w.setKs { w.d.ks with signals := rest }).add
        Reg.KS_CNT_FLAG_POISON_DROP ((w.d.ks.signals.filter (fun x => x.flag == f)).take n).length := by
  unfold flagApply
  simp only [setKs_ks, hpoison, if_true]

end Flags

end Work

/-- Settles O6: the timeout of an open frame, and the start and end of the first queued instantiation. -/
theorem framesIntoGraphs : Obligations.FramesIntoGraphs := by
  refine ⟨?timeout, ?start, ?done⟩
  case timeout => exact fun s c f hr hframe => does_act hr rfl (eofTimeout_open hframe)
  case start => exact fun s r hr hfree hfirst => does_act hr rfl (instantiate_first hfree hfirst)
  case done => exact fun s r hr hfind => does_act hr rfl ((instantiationDone_creating hfind).trans rfl)

/-- Settles O7: each event of the replay engine is its equation. -/
theorem replayFrames : Obligations.ReplayFrames := by
  intro s req c hr
  refine ⟨?tail, ?fetch, ?start, ?line⟩
  case tail => exact fun v hw => does_actWriter hr hw rfl rfl
  case fetch =>
    intro v st bs hctx hring hidle hread
    exact ⟨fun hst => does_act hr rfl (replayFetch_refused hctx hring hidle hread hst),
      fun hst hcheck hsof => does_act hr rfl (replayFetch_ok hctx hring hidle hread hst hcheck hsof)⟩
  case start => exact fun r h hstart hdue => does_act hr rfl (replayStart_due h hstart hdue)
  case line => exact fun r late h hstart hmore => does_act hr rfl (replayLine_next h hstart hmore)

/-! ### A read of ING_I3C_RDATA that a latch answers (R7, R128) -/

/-- A host whose latch names ING_I3C_RDATA, which is the high half of no register. -/
def latchedRdata : State := { State.reset with dev := { State.reset.dev with latches := [(uHost, (0x405420, 7))] } }

namespace Work

/-- A read of a register that its reader's latch names is answered from the latch. -/
theorem regReadOut_latched {w : Work} {u off v : Nat} (htrip : w.on Reg.PWR_TRIPPED = false) (hoff : off % 4 = 0 ∧ off ≠ 0 ∧ off < 0xE00000)
    (hanswers : w.answers u off = true) (hnarrow : isWide off = false) (hlatch : tget (0, 0) w.d.latches u = (off, v)) :
    w.regReadOut u off 4 =
      let x := w.setLatch u (0, 0)
      x.setHif { x.d.hif with readData := v, readUr := false } := by
  obtain ⟨halign, hpos, hbound⟩ := hoff
  have hread : w.regRead u off 4 = (w.setLatch u (0, 0), v) := by
    unfold regRead
    rw [if_neg (by omega), if_neg (by omega), if_neg (by simp [hanswers]), if_neg (by simp [hnarrow]), hlatch]
    exact if_pos ⟨rfl, rfl, hpos⟩
  rw [regReadOut, htrip, if_neg (by simp), hread]

/-- Nothing is left to do on a device without runs, contexts, retirements asked for and trace records. -/
theorem atRest_of_empty {w : Work} (hask : w.d.saf.retireAsk = []) (htrace : w.d.trc.queue = []) (hruns : w.d.ks.runs = []) (hctxs : w.d.ing.ctxs = []) :
    w.AtRest :=
  ⟨hask, htrace, by simp [hruns], by simp [hctxs]⟩

end Work

/-- What a command that leaves its device at rest answers to a read. -/
theorem readData_settled {s : State} {f : Work → Work} (h : (f (start s)).AtRest) :
    (s.run fun w => (f w).settle).dev.hif.readData = (f (start s)).d.hif.readData := by
  rw [State.run_dev, h.settle, (Work.idleTimers_frame _).1]

/-- Refutes O8: a read of ING_I3C_RDATA by a requester whose latch names that register is answered from the latch (R7) and pops nothing, where the statement
has it answer the master's bytes whatever the latch holds. -/
theorem not_portsAndSensorControl : ¬ Obligations.PortsAndSensorControl := by
  rintro ⟨-, hmaster, -⟩
  have hr : Runs latchedRdata := ⟨rfl, by decide⟩
  obtain ⟨-, -, -, -, hread⟩ := hmaster latchedRdata .host 0 hr
  have hpop := hread (by decide)
  have hlatch : Does (.ingI3cRdata .host 0) latchedRdata fun w =>
      let v := w.setLatch uHost (0, 0)
      v.setHif { v.d.hif with readData := 7, readUr := false } :=
    does_act hr rfl (regReadOut_latched hr.tripped (by decide) (by decide) (by decide +kernel) rfl)
  have hsame := congrArg (fun t : State => t.dev.hif.readData) (Host.Outcome.next.inj (hlatch.symm.trans hpop))
  simp only at hsame
  rw [readData_settled (atRest_of_empty rfl rfl rfl rfl), readData_settled (atRest_of_empty rfl rfl rfl rfl)] at hsame
  exact absurd hsame (by decide)

/-- Settles O9: a signal sent, the signals of one V-cycle applied or dropped, and an entry's error. -/
theorem flagUpdates : Obligations.FlagUpdates := by
  refine ⟨fun s f hr => ⟨?sent, ?applied⟩, fun s f n hr => ⟨?error, ?dropped⟩⟩
  case sent => exact fun req inc gen hw hinc => does_actWriter hr hw rfl (hostFlagSignal_ok inc gen hinc)
  case applied =>
    exact fun n mine good sum hpoison hmine hgood hsum hpos =>
      does_act hr rfl (congrArg pyramidsTake (flagApply_good hpoison hmine hgood hsum hpos))
  case error => exact does_act hr rfl rfl
  case dropped => exact fun hpoison => does_act hr rfl (congrArg pyramidsTake (flagApply_poisoned hpoison))

end Sys2Proof.Machine
end

section
/-! PROOF. The Keystone's nodes and graphs: dispatch, completion, timeouts, the ledger point and release (R55, R69 to R79, R455). -/

namespace Sys2Proof.Machine

open Config Work

namespace Work

/-! ### Dispatch (R55, R69, R253) -/

/-- A unit whose kind runs one of some node types is listed with its kind. -/
theorem mem_kindUnits {u : Nat} (h : unitKind u ≠ 0) : unitKind u ∈ [2, 3, 4, 5, 6, 7, 9, 0xA, 0xB] ∧ u ∈ kindUnits (unitKind u) := by
  unfold unitKind at h ⊢
  cases hf : [2, 3, 4, 5, 6, 7, 9, 0xA, 0xB].find? (fun t => (kindUnits t).contains u) with
  | none => exact absurd (by rw [hf]; rfl) h
  | some t => exact ⟨List.mem_of_find?_eq_some hf, by simpa using List.find?_some hf⟩

/-- Where the engines' units lie: outside the cores', the pipelines', the copy engines', the Keystone's and the Dravig ports'. -/
theorem engine_range {u : Nat} (h : unitKind u ≠ 0) (hisp : unitKind u ≠ 2) (hcopy : unitKind u ≠ 0xB) :
    (0x50 ≤ u ∧ u ≤ 0x5D) ∨ (0x74 ≤ u ∧ u ≤ 0x75) ∨ 0x174 ≤ u := by
  obtain ⟨hkind, hmem⟩ := mem_kindUnits h
  generalize unitKind u = t at hkind hmem hisp hcopy
  fin_cases hkind <;> simp [kindUnits] at hmem hisp hcopy ⊢ <;> omega

section Dispatch
variable {w : Work} {u n : Nat} {r : GRun}

theorem nodeDispatch_engine (h : unitKind u ≠ 0) (hisp : unitKind u ≠ 2) (hcopy : unitKind u ≠ 0xB) :
    w.nodeDispatch u =
      if w.inService u then
        if !w.unitFree u then w
        else match w.pickFirst (w.engineCands u) with
          | none => w
          | some (r, n) => w.startEngine u r n
      else if (w.partner u).isSome then w
      else match w.pickFirst (w.readyNodes [unitKind u]) with
        | none => w
        | some (r, n) => w.cutNode r.id n stEngineRetired := by
  have hrange := engine_range h hisp hcopy
  have hks : u ≠ uKeystone := by unfold uKeystone; omega
  rw [nodeDispatch, if_neg (by omega), if_neg (by omega), if_neg (by omega), if_neg hks, if_neg (by omega), if_neg h] <;> rfl

theorem inService_of_unitFree (h : w.unitFree u = true) : w.inService u = true := by
  simp only [unitFree, Bool.and_eq_true] at h
  exact h.1.1

theorem nodeDispatch_free (h : unitKind u ≠ 0) (hisp : unitKind u ≠ 2) (hcopy : unitKind u ≠ 0xB) (hfree : w.unitFree u = true)
    (hpick : w.pickFirst (w.engineCands u) = some (r, n)) : w.nodeDispatch u = w.startEngine u r n := by
  rw [nodeDispatch_engine h hisp hcopy, if_pos (inService_of_unitFree hfree), if_neg (by simp [hfree]), hpick]

theorem nodeDispatch_retired (h : unitKind u ≠ 0) (hisp : unitKind u ≠ 2) (hcopy : unitKind u ≠ 0xB) (hout : w.inService u = false) (hnone : w.partner u = none)
    (hpick : w.pickFirst (w.readyNodes [unitKind u]) = some (r, n)) : w.nodeDispatch u = w.cutNode r.id n stEngineRetired := by
  rw [nodeDispatch_engine h hisp hcopy, if_neg (by simp [hout]), if_neg (by simp [hnone]), hpick]

theorem nodeDispatch_copy {c : Chain} (hu : u = 0x76 ∨ u = 0x77) (hidle : w.rd Reg.CP_BUSY (u - 0x76) ≠ 1) (hin : w.isRetired u = false)
    (hsound : w.soundingOn u = false) (hpick : w.chainChoice u = some c) : w.nodeDispatch u = w.copyTake u c := by
  rw [nodeDispatch, if_neg (by omega), if_neg (by omega), if_pos hu, copyStart, if_neg (by simp [on_eq_false hidle, hin, hsound]), hpick]

theorem nodeDispatch_core (hu : u < 64) (hpick : w.neuralPick u = some (r, n))
    (hall : (setBits 64 ((w.version r.seq).coreSet n)).all (fun c => decide (w.d.cores.getD c 0xFF ≤ 67) && !w.soundingOn (w.d.cores.getD c 0xFF)) = true) :
    w.nodeDispatch u = w.startNeural r n := by
  have hcore : ∀ c ∈ setBits 64 ((w.version r.seq).coreSet n), w.d.cores.getD c 0xFF ≤ 67 ∧ w.soundingOn (w.d.cores.getD c 0xFF) = false := by
    simpa using hall
  have hphys : (setBits 64 ((w.version r.seq).coreSet n)).any (fun c => decide (67 < w.d.cores.getD c 0xFF)) = false :=
    List.any_eq_false.mpr fun c hc => by simpa using (hcore c hc).1
  have hsound : (setBits 64 ((w.version r.seq).coreSet n)).any (fun c => w.soundingOn (w.d.cores.getD c 0xFF)) = false :=
    List.any_eq_false.mpr fun c hc => by simpa using (hcore c hc).2
  rw [nodeDispatch, if_pos hu, dispatchCore, hpick]
  simp only [hphys, hsound, Bool.false_eq_true, if_false]

section Isp
variable (hlow : 0x60 ≤ u) (hhigh : u ≤ 0x63) (hpick : w.pickFirst ((w.readyNodes [2]).filter (fun c => (nodeRun c.1 c.2).tile == 0)) = some (r, n))
  (hin : (kindUnits 2).all (fun k => !w.inService k) = false)
include hlow hhigh hpick hin

theorem nodeDispatch_isp :
    w.nodeDispatch u =
      if w.ispShort r (ispContext (w.version r.seq) n) then
        (w.inc Reg.ISP_CTX_CNT_STATE_SHORT (ispContext (w.version r.seq) n)).modNode r.id n (fun x => { x with tile := 1 })
      else w.holdNode r.id n 0xFF 0x60 [] := by
  rw [nodeDispatch, if_neg (by omega), if_pos ⟨hlow, hhigh⟩, dispatchIsp, hpick]
  exact if_neg (by rw [hin]; exact Bool.false_ne_true)

end Isp

theorem nodeDispatch_keystone (hu : u = uKeystone) (hpick : w.pickFirst (w.readyNodes [1, 0xC, 0xE]) = some (r, n)) :
    w.nodeDispatch u = w.startOwn r n := by
  subst hu
  rw [nodeDispatch, if_neg (by decide), if_neg (by decide), if_neg (by decide), if_pos rfl, hpick]

theorem nodeDispatch_dravig (hlow : 0x81 ≤ u) (hhigh : u ≤ 0x84) (hpick : w.pickFirst ((w.readyNodes [0xD]).filter (fun c =>
      w.sendReady ((w.version c.1.seq).params c.2) && uDravig (w.sendPort ((w.version c.1.seq).params c.2) c.1.slot) == u)) = some (r, n)) :
    w.nodeDispatch u = (w.holdNode r.id n u u []).sendStart r.id n := by
  have hks : u ≠ uKeystone := by unfold uKeystone; omega
  rw [nodeDispatch, if_neg (by omega), if_neg (by omega), if_neg (by omega), if_neg hks, if_pos ⟨hlow, hhigh⟩, dispatchDravig, hpick]

end Dispatch

/-! ### Completion, timeouts and fills (R55, R71 to R73) -/

section Nodes
variable {w : Work} {id n : Nat} {r : GRun} (hr : w.grun? id = some r)
include hr

theorem nodeComplete_running (hst : (nodeRun r n).st = .running) (hdone : w.nodeFinished r n = true) :
    w.nodeComplete id n =
      let g := w.version r.seq
      let late := decide (g.node n 1 ≠ 0) && decide (r.origin + g.node n 1 < w.now)
      let v := (w.modNode id n (fun x => { x with st := .done, late := late })).freeUnit (nodeRun r n).unit
      let v := if (nodeRun r n).again then v.recovered id n else v
      let v := if g.typ n = 2 then v.ispDone r n else v
      if late then (v.inc Reg.KS_CNT_NODES_LATE).modRun id (fun q => { q with lateNodes := q.lateNodes + 1 }) else v := by
  rw [nodeComplete, hr]
  dsimp only
  rw [if_pos hdone, completeNode, hr]
  dsimp only
  rw [if_neg (not_not.mpr hst)]

omit hr in
/-- Counting a missed budget takes no time. -/
theorem ispDone_eq (v : Work) (r : GRun) (n : Nat) :
    v.ispDone r n =
      let c := ispContext (v.version r.seq) n
      ((if v.ispDeadline r c < v.now then v.inc Reg.ISP_CTX_CNT_BUDGET_MISS c else v).wr Reg.ISPC_LAST_DONE_TB v.now c).raise
        Reg.ISPC_MAX_LAG_NS (v.now - frameSof r c) c := by
  unfold ispDone
  by_cases h : v.ispDeadline r (ispContext (v.version r.seq) n) < v.now
  · simp only [if_pos h]; rfl
  · simp only [if_neg h]

theorem nodeTimeout_waiting {g : GVer} {t : Nat} (hg : g = w.version r.seq) (ht : t = g.node n 2) (hpos : t ≠ 0) (hst : (nodeRun r n).st = .waiting)
    (hphase : r.phase = .running) (hwaits : neverWaits g n = false) (hnot : w.inputsReady r n = false ∨ (g.typ n = 2 ∧ w.ispShort r (ispContext g n) = true)) :
    w.nodeTimeout id n = (w.advance (r.origin + t)).cutNode id n stFlagTimeout := by
  subst hg ht
  have hwait : w.waitTimeout id n = (w.advance (r.origin + (w.version r.seq).node n 2)).cutNode id n stFlagTimeout := by
    rw [waitTimeout, hr]
    dsimp only
    rw [if_neg (by simp [hpos, hwaits]), hst]
    refine if_neg ?_
    rcases hnot with h | ⟨htyp, hshort⟩
    · simp [h, hphase]
    · simp [htyp, hshort, hphase]
  rw [nodeTimeout, hr]
  dsimp only
  rw [if_neg (by simp [hst]), hwait, ite_self]

theorem nodeTimeout_starved {g : GVer} {t : Nat} (hg : g = w.version r.seq) (ht : t = g.node n 2) (hpos : t ≠ 0) (hst : (nodeRun r n).st = .running)
    (hgated : g.gated n = false) (hwaits : neverWaits g n = false) (hstarved : w.starved r n = true) :
    w.nodeTimeout id n = (w.advance ((nodeRun r n).waitFrom + t)).cutNode id n stFlagTimeout := by
  subst hg ht
  rw [nodeTimeout, hr]
  dsimp only
  rw [if_neg (by simp [hgated]), if_neg (by simp [hst]), waitTimeout, hr]
  dsimp only
  rw [if_neg (by simp [hpos, hwaits]), hst]
  exact if_pos hstarved

theorem nodeTimeout_gated {g : GVer} {t : Nat} (hg : g = w.version r.seq) (ht : t = g.node n 2) (hpos : t ≠ 0) (hst : (nodeRun r n).st = .running)
    (hgated : g.gated n = true) (hfin : (nodeRun r n).finished = false) (hcut : (nodeRun r n).cutAsked = false)
    (hleft : launchedTiles g n (nodeRun r n) < w.listCount (w.inputList r n (listPort g n))) :
    w.nodeTimeout id n =
      if g.typ n = 8 then (w.advance (r.origin + t)).cutNode id n stFlagTimeout else (w.advance (r.origin + t)).askCut id n stFlagTimeout := by
  subst hg ht
  rw [nodeTimeout, hr]
  dsimp only
  rw [if_pos ⟨hgated, hst⟩]
  exact if_neg (by simp [hpos, hfin, hcut, hleft])

theorem fillDone_owed (howed : (nodeRun r n).fillOwed = true) (hcores : (nodeRun r n).cores = 0)
    (hfill : (nodeRun r n).filled = true ∨ (w.fillWrites r n = [] ∧ (w.version r.seq).typ n ≠ 0xB)) :
    w.fillDone id n = (w.signalToTarget id n).modNode id n (fun x => { x with fillOwed := false }) := by
  rw [fillDone, hr]
  refine if_neg ?_
  rcases hfill with h | ⟨hnone, htyp⟩
  · simp [howed, hcores, h]
  · simp [howed, hcores, hnone, htyp]

end Nodes

/-! ### The ledger point, emits and release (R76 to R79, R455) -/

/-- A graph in flight that is changed keeps its place. -/
theorem grun?_modRun {w : Work} {id : Nat} {r : GRun} {f : GRun → GRun} (hf : ∀ q, (f q).id = q.id) (h : w.grun? id = some r) :
    (w.modRun id f).grun? id = some (f r) := by
  have hfound : r.id = id := by simpa using List.find?_some h
  have hmap : (fun q : GRun => q.id == id) ∘ (fun x => if x.id = id then f x else x) = fun q => q.id == id := by
    funext q
    by_cases hq : q.id = id <;> simp [hq, hf]
  change (w.d.ks.runs.map (fun x => if x.id = id then f x else x)).find? (fun q => q.id == id) = some (f r)
  rw [List.find?_map, hmap]
  change Option.map _ (w.grun? id) = _
  rw [h, Option.map_some, if_pos hfound]

/-- The listed tiles that a run's finished plumb nodes have had refined. -/
def tilesDone (w : Work) (r : GRun) : Nat :=
  let g := w.version r.seq
  let lists := ((List.range g.nodeCount).filter (fun m => g.typ m == 9 && decide ((nodeRun r m).st = .done))).map
    (fun m => wd64 (g.params m) 8 + r.slot * wd (g.params m) 7)
  (lists.map (fun a => ((List.range (w.listCount a)).filter (fun i => w.listDone a i)).length)).sum

section Graphs
variable {w : Work} {id n : Nat} {r : GRun} (hr : w.grun? id = some r)
include hr

theorem tallyTiles_open (hopen : r.entered = false) :
    w.tallyTiles id = w.modRun id (fun q => { q with tilesRefined := w.tilesDone r, tilesDeferred := q.tilesMasked - w.tilesDone r }) := by
  rw [tallyTiles, hr, tilesDone]
  simp only [hopen, Bool.false_eq_true, if_false, List.map_map]
  rfl

theorem ledgerPoint_enters (hled : r.ledgered = false) (hpoint : w.atLedgerPoint r = true) (hheld : r.heldUntil = 0) (htrig : r.trigger = none)
    (hbase : w.rd Reg.KS_LEDGER_BASE ≠ 0) (hholds : w.d.ks.holds.any (fun h => h.run == id) = false) :
    w.ledgerPoint id =
      ((w.setKs { w.d.ks with holds := w.d.ks.holds ++ r.frames.map (fun f => ⟨id, f.ctx, f.fc, []⟩) }).modRun id
        (fun q => { q with entered := true })).flushLedger := by
  rw [ledgerPoint, hr]
  dsimp only
  rw [if_neg (by simp [hled, hpoint, hheld]), if_neg (by simp [htrig, hbase]), if_neg (by simp only [hholds]; exact Bool.false_ne_true)]

/-- The tiles of a run are tallied as it enters the ledger, and nothing the ledger point looks at changes by that. -/
theorem tallied_ledgerPoint (hopen : r.entered = false) (hled : r.ledgered = false) (hpoint : w.atLedgerPoint r = true) (hheld : r.heldUntil = 0)
    (htrig : r.trigger = none) (hbase : w.rd Reg.KS_LEDGER_BASE ≠ 0) (hholds : w.d.ks.holds.any (fun h => h.run == id) = false) :
    (w.tallyTiles id).ledgerPoint id =
      let v := w.modRun id (fun q => { q with tilesRefined := w.tilesDone r, tilesDeferred := q.tilesMasked - w.tilesDone r })
      ((v.setKs { v.d.ks with holds := v.d.ks.holds ++ r.frames.map (fun f => ⟨id, f.ctx, f.fc, []⟩) }).modRun id
        (fun q => { q with entered := true })).flushLedger := by
  have htallied := grun?_modRun (f := fun q => { q with tilesRefined := w.tilesDone r, tilesDeferred := q.tilesMasked - w.tilesDone r })
    (fun _ => rfl) hr
  rw [tallyTiles_open hr hopen]
  exact ledgerPoint_enters (r := { r with tilesRefined := w.tilesDone r, tilesDeferred := r.tilesMasked - w.tilesDone r }) htallied hled hpoint hheld htrig hbase hholds

/-- The copies of a run's entries that a HOST_EMIT makes. -/
def emitCopied (w : Work) (r : GRun) (n : Nat) : Work × Bool :=
  let g := w.version r.seq
  if g.ledgerEn n = true ∧ w.on Reg.KS_LEDGER_COPY = true ∧ r.trigger = none then w.ledgerCopies r (g.params n) else (w, false)

section Emit
variable (htyp : (w.version r.seq).typ n = 0x0C)
  (hopen : r.phase = .refused ∨ (nodeRun r n).st = .running ∨ (nodeRun r n).st = .skipped ∨ (nodeRun r n).st = .cut)
  (hhanded : r.handed.contains n = false) (hblocked : w.emitBlocked r n = false)
  (hled : (w.version r.seq).ledgerEn n = true ∨ r.phase = .refused ∨ r.entered = true → r.ledgered = true)
include htyp hopen hhanded hblocked hled

theorem hostEmitPost_open
    (hroom : w.rd Reg.Q_STATE (bits (wd ((w.version r.seq).params n) 0) 15 0) = 1 →
      (w.queue (bits (wd ((w.version r.seq).params n) 0) 15 0)).buf.length < 256) :
    w.hostEmitPost id n =
      let p := (w.version r.seq).params n
      let q := bits (wd p 0) 15 0
      let v := (w.emitCopied r n).1.modRun id (fun q => { q with handed := n :: q.handed })
      if q = 0xFFFF then (if bitAt (wd p 1) 11 then v.sendVector (bits (wd p 1) 10 0) else v).emitDone id n
      else if v.rd Reg.Q_STATE q ≠ qActive then (v.inc Reg.QE_CNT_EMIT_DROPPED).emitDone id n
      else v.emitReady q (id, n) (bitAt (wd p 0) 16) (w.emitCopied r n).2 := by
  have hgate : ¬((w.version r.seq).typ n ≠ 0x0C || !(decide (r.phase = .refused) || decide ((nodeRun r n).st = .running) ||
      decide ((nodeRun r n).st = .skipped) || decide ((nodeRun r n).st = .cut)) || r.handed.contains n || w.emitBlocked r n) = true := by
    have : n ∉ r.handed := by simpa using hhanded
    rcases hopen with h | h | h | h <;> simp [htyp, h, this, hblocked]
  have hentry : ¬(((w.version r.seq).ledgerEn n || decide (r.phase = .refused) || r.entered) && !r.ledgered) = true := by
    intro h
    simp only [Bool.and_eq_true, Bool.or_eq_true, decide_eq_true_eq, or_assoc] at h
    simp [hled h.1] at h
  have hcopied : (if ((w.version r.seq).ledgerEn n && w.on Reg.KS_LEDGER_COPY && r.trigger.isNone) = true
      then w.ledgerCopies r ((w.version r.seq).params n) else (w, false)) = w.emitCopied r n := by
    unfold emitCopied
    simp only [Bool.and_eq_true, Option.isNone_iff_eq_none, and_assoc]
  rw [hostEmitPost, hr]
  dsimp only
  rw [if_neg hgate, if_neg hentry, if_neg fun h => (hroom h.1).not_ge h.2, hcopied]

end Emit

theorem instanceComplete_over (hover : w.runComplete r = true) (htrace : w.rd Reg.KS_TRACE_EN ≠ 1) :
    w.instanceComplete id =
      let v := (w.inc Reg.KSG_COMPLETED r.gid).modRun id (fun q => { q with phase := .released })
      let v := match r.trigger with
        | some j => v.complete j (w.runStatus r)
        | none => v
      match v.grun? id with
      | some q => (if v.runPaid q then v.setKs { v.d.ks with runs := v.d.ks.runs.filter (fun q => q.id != id) } else v).releaseOld
      | none => v := by
  rw [instanceComplete, hr]
  simp only [hover, on_eq_false htrace, Bool.not_true, Bool.false_eq_true, if_false]
  have hfreed (v : Work) : (match v.grun? id with
      | none => v
      | some q => (if v.runPaid q then v.setKs { v.d.ks with runs := v.d.ks.runs.filter (fun q => q.id != id) } else v).releaseOld) =
      match v.grun? id with
      | some q => (if v.runPaid q then v.setKs { v.d.ks with runs := v.d.ks.runs.filter (fun q => q.id != id) } else v).releaseOld
      | none => v := by
    cases v.grun? id <;> rfl
  cases r.trigger <;> exact hfreed _

end Graphs

theorem sealZeroDone_zeroing {w : Work} {slab : Nat} (h : w.d.ldr.zeroing.contains slab = true) :
    w.sealZeroDone slab =
      let a := 0x4000000000 + slab * 0x1000000
      let v := { w with mops := .clear .dev a (a + 0x1000000) :: w.mops }
      v.setLdr { v.d.ldr with zeroing := v.d.ldr.zeroing.filter (fun x => x != slab), sealed := tdel v.d.ldr.sealed slab } := by
  rw [sealZeroDone, h, if_neg (by simp)]

end Work

/-- Settles O10: what each unit's turn takes, how nodes end, time out and are filled, and how graphs are entered, posted and released. -/
theorem nodesAndGraphs : Obligations.NodesAndGraphs := by
  refine ⟨fun s u r n hr => ⟨?engine, ?copy, ?core, ?isp, ?keystone, ?dravig⟩, fun s r id n hr hrun => ⟨?complete, ?timeout, ?fill⟩,
    fun s r id n hr hrun => ⟨?ledger, ?emit, ?release⟩, ?zeroed⟩
  case engine =>
    exact fun h hisp hcopy => ⟨fun hfree hpick => does_act hr rfl (nodeDispatch_free h hisp hcopy hfree hpick),
      fun hout hnone hpick => does_act hr rfl (nodeDispatch_retired h hisp hcopy hout hnone hpick)⟩
  case copy => exact fun c hu hidle hin hsound hpick => does_act hr rfl (nodeDispatch_copy hu hidle hin hsound hpick)
  case core => exact fun hu hpick hall => does_act hr rfl (nodeDispatch_core hu hpick hall)
  case isp =>
    intro hlow hhigh hpick hin
    have h := nodeDispatch_isp hlow hhigh hpick hin
    exact ⟨fun hshort => does_act hr rfl (h.trans (if_neg (by rw [hshort]; exact Bool.false_ne_true))),
      fun hshort => does_act hr rfl (h.trans (if_pos hshort))⟩
  case keystone => exact fun hu hpick => does_act hr rfl (nodeDispatch_keystone hu hpick)
  case dravig => exact fun hlow hhigh hpick => does_act hr rfl (nodeDispatch_dravig hlow hhigh hpick)
  case complete =>
    intro hst hdone
    refine does_act hr rfl ((nodeComplete_running hrun hst hdone).trans ?_)
    simp only [ispDone_eq]
  case timeout =>
    intro g t hg ht hpos
    refine ⟨fun hst hphase hwaits hnot => ?_, fun hst hgated hwaits hstarved => ?_, fun hst hgated hfin hcut hleft => ?_⟩
    · exact does_act hr rfl (nodeTimeout_waiting hrun hg ht hpos hst hphase hwaits hnot)
    · exact does_act hr rfl (nodeTimeout_starved hrun hg ht hpos hst hgated hwaits hstarved)
    · exact does_act hr rfl (nodeTimeout_gated hrun hg ht hpos hst hgated hfin hcut hleft)
  case fill => exact fun howed hcores hfill => does_act hr rfl (fillDone_owed hrun howed hcores hfill)
  case ledger =>
    intro hled hopen hpoint hheld htrig hbase hholds
    exact does_act hr rfl (tallied_ledgerPoint hrun hopen hled hpoint hheld htrig hbase hholds)
  case emit =>
    intro g p q hg hp hq htyp hopen hhanded hblocked hled copied hcopied
    subst hg hp hq
    have hsame : copied (start s) = (start s).emitCopied r n := hcopied _
    refine ⟨fun hq hstate hroom hstill => ?_, fun hq hstate => ?_⟩
    · refine does_act hr rfl ((hostEmitPost_open hrun htyp hopen hhanded hblocked hled fun _ => hroom).trans ?_)
      rw [hsame] at hstill ⊢
      exact (if_neg hq).trans (if_neg (not_not.mpr hstill))
    · refine does_act hr rfl ((hostEmitPost_open hrun htyp hopen hhanded hblocked hled fun h => absurd h hstate).trans ?_)
      rw [hsame]
      exact if_pos hq
  case release =>
    intro hover htrace
    exact does_act hr rfl ((instanceComplete_over hrun hover htrace).trans (by cases r.trigger <;> rfl))
  case zeroed => exact fun s slab hr h => does_act hr rfl (sealZeroDone_zeroing h)

end Sys2Proof.Machine
end

section
/-! PROOF. The ashlar cores: operations at the issue stage and in their units, loops and setup, and tasks from launch to end (R230 to R257, R283). -/

namespace Sys2Proof.Machine

open Config Work

/-- What Issues says, but for the answer of the checks of issue. -/
abbrev Fetches (s : State) (c op : Nat) (ws : List Nat) (uses : List Use) : Prop :=
  Runs s ∧ s.w.sounding (s.dev.cores.getD c 0xFF) = false ∧ (s.w.core c).phase = .running ∧ (s.w.core c).ended = false ∧ (s.w.core c).stop = false ∧
    s.w.fetchOp c = .op ws ∧ opUses ws = some uses ∧ opCode ws = op ∧
    (s.w.descRanges (s.w.taskParams (s.w.core c)) c ws uses).findSome? (fun r => s.w.firstPoison r.1 64) = none

theorem Issues.fetches {s : State} {c op : Nat} {ws : List Nat} {uses : List Use} {os : List (Option Opnd)} (h : Issues s c op ws uses os) :
    Fetches s c op ws uses := by
  obtain ⟨hr, hsound, hrun, hended, hstop, hfetch, huses, hop, hpoison, -⟩ := h
  exact ⟨hr, hsound, hrun, hended, hstop, hfetch, huses, hop, hpoison⟩

theorem Issues.runs {s : State} {c op : Nat} {ws : List Nat} {uses : List Use} {os : List (Option Opnd)} (h : Issues s c op ws uses os) : Runs s := h.1

theorem Issues.opCode {s : State} {c op : Nat} {ws : List Nat} {uses : List Use} {os : List (Option Opnd)} (h : Issues s c op ws uses os) :
    opCode ws = op := by
  obtain ⟨-, -, -, -, -, -, -, hop, -⟩ := h.fetches
  exact hop

namespace Work

/-! ### Issue (R230 to R232) -/

section Issue
variable {w : Work} {c : Nat} {ws p : List Nat} {uses : List Use} {os : List (Option Opnd)}

theorem unlessHeld_free {u : Nat} (h : w.sounding u = false) (f : Work → Work) : w.unlessHeld u f = f w := by
  rw [unlessHeld, h]
  exact if_neg Bool.false_ne_true

/-- A running core at an operation whose descriptors are whole puts it to the checks of issue. -/
theorem issue_fetched {op : Nat} (hrun : (w.core c).phase = .running) (hended : (w.core c).ended = false) (hstop : (w.core c).stop = false)
    (hfetch : w.fetchOp c = .op ws) (huses : opUses ws = some uses) (hop : opCode ws = op)
    (hpoison : (w.descRanges (w.taskParams (w.core c)) c ws uses).findSome? (fun r => w.firstPoison r.1 64) = none) :
    w.issue c op =
      match w.issueCheck (w.taskParams (w.core c)) c (w.core c) ws uses (w.coreLcs c) with
      | .inl (st, off, seg, slab) =>
        (match slab with
          | some s => w.inc Reg.QRY_CNT_ROLE_REFUSED s
          | none => w).abort c st off seg
      | .inr os => w.issueOp (w.taskParams (w.core c)) c ws uses os := by
  unfold issue
  simp only [hrun, hended, hstop, hfetch, huses, hop, hpoison, ne_eq, not_true_eq_false, decide_false, Bool.or_self, Bool.false_eq_true, if_false] <;> rfl

/-- An opcode of the array, vector and DMA units goes to its unit. -/
theorem issueOp_unit (h : opCode ws < 0x60) : w.issueOp p c ws uses os = w.issueUnit p c ws uses os := by
  unfold issueOp
  split
  iterate 12 · omega
  rfl

end Issue

end Work

section Issued
variable {s : State} {c op : Nat} {ws : List Nat} {uses : List Use} {os : List (Option Opnd)}

/-- An operation that passes the checks of issue, on a core no sounding holds, is issued. -/
theorem Issues.issue (h : Issues s c op ws uses os) :
    (start s).unlessHeld (s.dev.cores.getD c 0xFF) (fun w => w.issue c op) = s.w.issueOp (s.w.taskParams (s.w.core c)) c ws uses os := by
  obtain ⟨-, hsound, hrun, hended, hstop, hfetch, huses, hop, hpoison, hcheck⟩ := h
  rw [unlessHeld_free hsound, issue_fetched hrun hended hstop hfetch huses hop hpoison, hcheck]

/-- A command that is the issue of an opcode does what its operation does. -/
theorem Issues.does {i : Instr} {f : Work → Work} (h : Issues s c op ws uses os)
    (hexec : exec i s = .next (s.act fun w => w.unlessHeld (w.d.cores.getD c 0xFF) fun w => w.issue c op))
    (heff : s.w.issueOp (s.w.taskParams (s.w.core c)) c ws uses os = f (start s)) : Does i s f :=
  does_act h.runs hexec (h.issue.trans heff)

end Issued

namespace Work

/-- An operation with room in its unit and no hazard joins its unit's queue. -/
theorem issueUnit_room {w : Work} {c : Nat} {ws p : List Nat} {uses : List Use} {os : List (Option Opnd)}
    (hroom : (liveEntries c (w.core c)).length + ((opDests p (w.core c) c uses os).filter (ownTile c)).length ≤ 32)
    (hhazard : hazard c (w.core c) (((opSources p (w.core c) c ws uses os).filter (ownTile c)) ++ w.descRanges p c ws uses) = false)
    (hdests : (opDests p (w.core c) c uses os).any (fun r => (w.core c).queue.any (fun q => (q.writes ++ q.reads).any (overlap r))) = false)
    (hqueue : ((w.core c).queue.filter (fun q => q.unit == opUnit ws)).length < 8) :
    w.issueUnit p c ws uses os =
      let k := w.core c
      let b := opBcast ws
      let q : TileOp := {
        unit := opUnit ws, pc := w.rd Reg.ASH_PC c, words := ws, opnds := os, setup := k.setup, lcs := w.coreLcs c
        rows := match os with
          | some d :: _ => if opCode ws = 4 then storeRows ws (w.coreLcs c) k.args d.d else 0
          | _ => 0
        writes := opDests p k c uses os, reads := opSources p k c ws uses os
        bcast := if b then some k.bseq else none, started := false, done := false, got := [] }
      let v := w.setCore c { k with
        queue := k.queue ++ [q], bseq := if b then k.bseq + 1 else k.bseq
        bwait := if b && k.bwait.isNone then some w.now else k.bwait }
      let v := v.issued c (w.rd Reg.ASH_PC c + 1)
      ((if b then v.wr Reg.ASH_BCAST_WAIT 1 c else v).scoreboard c).runCore c := by
  rcases os with _ | ⟨_ | d, r⟩ <;>
  · unfold issueUnit
    dsimp only
    rw [if_neg hroom.not_gt, if_neg (by rw [hhazard]; exact Bool.false_ne_true), if_neg (by rw [hdests]; exact Bool.false_ne_true), if_neg hqueue.not_ge]

/-- A LOAD whose source holds no error is an issue. -/
theorem issueLoad_nil (w : Work) (c : Nat) : w.issueLoad c [] = w.issue c 0x40 := by
  unfold issueLoad
  dsimp only
  split
  · rfl
  · split <;> rfl

/-- A LOAD that joined its unit's queue finds the errors in its source first, and then issues. -/
theorem issueLoad_errors {w v : Work} {c : Nat} {errs : List (Nat × Bool)} {q : TileOp} {x : Opnd} (hv : v = w.issue c 0x40)
    (hjoined : (v.core c).queue.length = (w.core c).queue.length + 1) (hlast : (v.core c).queue.getLast? = some q) (hsrc : q.opnds.getD 1 none = some x) :
    w.issueLoad c errs =
      let r := footRange (w.taskParams (w.core c)) c x.d none
      ((errs.filter (fun e => decide (r.1 ≤ e.1 ∧ e.1 ≤ r.2))).foldl (fun w e => w.memError e.1 e.2) w).issue c 0x40 := by
  subst hv
  unfold issueLoad
  simp only [hjoined, if_true, hlast, hsrc]
  split
  next h => rw [List.isEmpty_iff.mp h, List.foldl_nil]
  next => rfl

/-! ### Operations of the sequencer itself (R242, R245, R248 to R250) -/

section Sequencer
variable {w : Work} {c : Nat} {ws p : List Nat} {uses : List Use} {os : List (Option Opnd)}

section WaitFlag
variable {r : GRun} {f th : Nat} (hstall : (w.core c).stall = none) (hrun : w.grun? (w.core c).run = some r) (hf : f = w.flagOf r (opImm ws))
  (hth : th = min 0xFFFFFF ((if bits (opArgB ws) 23 0 = 0 then w.rd Reg.FLAG_TARGET f else bits (opArgB ws) 23 0) +
    (if bitAt (wd ws 2) 12 then bits (wd ws 2) 20 13 * w.rd Reg.ASH_LC c (bits (wd ws 2) 11 10) else 0)))
  (hpoison : w.d.ks.poisoned.contains f = false)
include hstall hrun hf hth hpoison

theorem issueWaitFlag_first :
    w.issueWaitFlag c ws =
      if th ≤ w.rd Reg.FLAG_COUNT f then w.issued c (w.rd Reg.ASH_PC c + 1)
      else ((w.setCore c { w.core c with stall := some w.now }).wr Reg.ASH_FLAG_WAIT 1 c).register f (.core c) th := by
  unfold issueWaitFlag
  simp only [hstall, hrun, ← hf, ← hth, hpoison, Bool.not_false, Bool.true_and, decide_eq_true_eq]

end WaitFlag

theorem issueWaitFlag_woken {t : Nat} (hstall : (w.core c).stall = some t) (hwoken : w.rd Reg.ASH_FLAG_WAIT c ≠ 1) :
    w.issueWaitFlag c ws =
      ((w.setCore c { w.core c with stall := none }).add Reg.ASH_CNT_FLAG_WAIT ((w.now - t) * 11 / 5) c).issued c (w.rd Reg.ASH_PC c + 1) := by
  unfold issueWaitFlag
  simp only [hstall, on_eq_false hwoken, Bool.false_eq_true, if_false]
  rfl

theorem issueSignal_drained {r : GRun} (hqueue : (w.core c).queue = []) (hrun : w.grun? (w.core c).run = some r)
    (hroom : (w.d.ks.signals.filter (fun x => x.flag % 16 == w.flagOf r (opImm ws) % 16)).length < 64) :
    w.issueSignal c ws =
      let v := (w.setCore c { w.core c with signals := (w.core c).signals + 1 }).issued c (w.rd Reg.ASH_PC c + 1)
      if (w.core c).signals < (w.core c).suppress then v
      else v.signalIdx (w.core c).run (w.core c).node (opImm ws) (bits (opArgB ws) 23 0) := by
  unfold issueSignal
  simp only [hqueue, hrun, if_neg hroom.not_ge, List.isEmpty_nil, Bool.not_true, Bool.false_eq_true, if_false]

theorem issueFence_drained (hqueue : (w.core c).queue = []) : w.issueFence c = w.issued c (w.rd Reg.ASH_PC c + 1) := by
  rw [issueFence, hqueue]
  rfl

theorem issueEnd_drained (hqueue : (w.core c).queue = []) :
    w.issueEnd c =
      let k := w.core c
      let v := (w.issued c (w.rd Reg.ASH_PC c + 1)).wr Reg.ASH_LAST_STATUS 0 c
      let v := (v.wr Reg.ASH_LAST_SAT (b2n k.sat) c).wr Reg.ASH_LAST_REEXEC (b2n k.reexec) c
      (((v.wr Reg.ASH_LAST_END_TB v.now c).coreTrace c 0x11 0).stopIssue c).settleTask c := by
  unfold issueEnd
  simp only [hqueue, List.isEmpty_nil, Bool.not_true, Bool.false_eq_true, if_false]

section Loop
variable {count : Nat}
  (hcount : count = min 0xFFFFFF (if bitAt (opFlags ws) 2 then ceilDiv (wd (w.core c).args (bits (opImm ws) 2 0)) (opArgB ws) else opArgB ws))
include hcount

theorem issueLoop_count :
    w.issueLoop c ws =
      let v := w.wr Reg.ASH_LC 0 c (bits (opFlags ws) 1 0)
      if count = 0 then v.issued c (w.rd Reg.ASH_PC c + bits (wd ws 2) 31 10 + 1)
      else (v.setCore c { w.core c with
        loops := ⟨bits (opFlags ws) 1 0, w.rd Reg.ASH_PC c, bits (wd ws 2) 31 10, count⟩ :: (w.core c).loops }).issued c (w.rd Reg.ASH_PC c + 1) := by
  subst hcount
  rfl

end Loop

theorem issueEndLoop_open {l : LoopRec} {r : List LoopRec} (h : (w.core c).loops = l :: r) :
    w.issueEndLoop c =
      let n := w.rd Reg.ASH_LC c l.level + 1
      let v := w.wr Reg.ASH_LC n c l.level
      if n < l.count then v.issued c (l.start + 1) else (v.setCore c { w.core c with loops := r }).issued c (w.rd Reg.ASH_PC c + 1) := by
  unfold issueEndLoop
  simp only [h]

/-- The condition of a branch, by its two bits. -/
theorem branch_hit (cond v x : Nat) : cond < 4 →
    ((match cond with
      | 0 => decide (v = x)
      | 1 => decide (v ≠ x)
      | 2 => decide (v < x)
      | _ => decide (x ≤ v)) = true) =
    ((cond = 0 ∧ v = x) ∨ (cond = 1 ∧ v ≠ x) ∨ (cond = 2 ∧ v < x) ∨ (cond = 3 ∧ x ≤ v)) := by
  intro hcond
  interval_cases cond <;> simp

theorem bits_lt (v hi lo : Nat) : bits v hi lo < 2 ^ (hi + 1 - lo) := Nat.mod_lt _ (Nat.two_pow_pos _)

theorem issueBranch_eq {v x : Nat} (hv : v = w.rd Reg.ASH_LC c (bits (opFlags ws) 1 0)) (hx : x = bits (opArgB ws) 23 0) :
    w.issueBranch c ws =
      w.issued c (if (bits (opFlags ws) 3 2 = 0 ∧ v = x) ∨ (bits (opFlags ws) 3 2 = 1 ∧ v ≠ x) ∨ (bits (opFlags ws) 3 2 = 2 ∧ v < x) ∨
        (bits (opFlags ws) 3 2 = 3 ∧ x ≤ v) then w.rd Reg.ASH_PC c + opImm ws else w.rd Reg.ASH_PC c + 1) := by
  subst hv hx
  have hhit := branch_hit (bits (opFlags ws) 3 2) (w.rd Reg.ASH_LC c (bits (opFlags ws) 1 0)) (bits (opArgB ws) 23 0) (bits_lt _ 3 2)
  simp only [← hhit]
  rfl

theorem issueSetNumber_scale (hop : opCode ws = 0xA1) :
    w.issueSetNumber c ws =
      let k := w.core c
      let u := k.setup
      let u := if bits (opFlags ws) 1 0 = 0 then { u with scaleA := opArgB ws } else if bits (opFlags ws) 1 0 = 1 then { u with scaleB := opArgB ws }
        else { u with scaleOut := opArgB ws }
      (w.setCore c { k with setup := u }).issued c (w.rd Reg.ASH_PC c + 1) := by
  unfold issueSetNumber
  simp only [hop]
  rcases bits (opFlags ws) 1 0 with _ | _ | n
  · rfl
  · rfl
  · simp

theorem issueSetNumber_round (hop : opCode ws = 0xA0) :
    w.issueSetNumber c ws =
      let k := w.core c
      (w.setCore c { k with setup := { k.setup with trunc := bitAt (opFlags ws) 0 } }).issued c (w.rd Reg.ASH_PC c + 1) := by
  unfold issueSetNumber
  simp only [hop, if_true]

section Operand
variable (hhazard : hazard c (w.core c) (opSources p (w.core c) c ws uses os ++ w.descRanges p c ws uses) = false)
include hhazard

theorem issueSetSparse_free {a m b d : Option Opnd} (hos : os = [a, m, b, d]) :
    w.issueSetSparse p c ws uses os =
      let k := w.core c
      (w.setCore c { k with setup := { k.setup with sparse := m.map Opnd.d } }).issued c (w.rd Reg.ASH_PC c + 1) := by
  subst hos
  unfold issueSetSparse
  simp only [hhazard, Bool.false_eq_true, if_false]
  cases m <;> rfl

theorem issueSetLut_free {a b d : Option Opnd} {t : Opnd} {tab : List Nat} (hos : os = [a, some t, b, d])
    (hwhole : w.opndPoison (segBase p c 0) t.d none = none) (htab : tab = (List.range 258).map (fun i => w.elem (segBase p c 0) t.d i 0 0 0))
    (hrange : FVal.le (FVal.of32 (wd tab 257)) (FVal.of32 (wd tab 256)) = false) :
    w.issueSetLut p c ws uses os =
      let k := w.core c
      (w.setCore c { k with setup := if bitAt (opFlags ws) 0 then { k.setup with lut1 := tab } else { k.setup with lut0 := tab } }).issued
        c (w.rd Reg.ASH_PC c + 1) := by
  subst hos
  unfold issueSetLut
  simp only [hhazard, hwhole, ← htab, hrange, Bool.false_eq_true, if_false]

end Operand

end Sequencer

end Work

/-- A command of a core is the issue of an opcode of the array, vector or DMA units. -/
def IssuesUnit (x : (Fin 64 → Instr) × Nat) : Prop :=
  x.2 < 0x60 ∧ ∀ (s : State) (c : Fin 64), ∃ f, exec (x.1 c) s = .next (s.act f) ∧
    ∀ w : Work, f w = w.unlessHeld (w.d.cores.getD c.val 0xFF) fun w => w.issue c.val x.2

theorem issuesUnit_load : IssuesUnit (fun c => .load c [], 0x40) :=
  ⟨by decide, fun s c => ⟨_, rfl, fun w => congrArg (unlessHeld w _) (funext fun v => issueLoad_nil v c.val)⟩⟩

/-- Settles O11: what passes the checks of issue and has room in its unit joins that unit's queue, for every opcode of the three units; a LOAD that meets
errors finds them first. What a LOAD finds rests on a choice of the model: log entry 66. -/
theorem unitOperations : Obligations.UnitOperations := by
  refine ⟨?unit, ?load⟩
  case unit =>
    intro x hx s c ws uses os h hunit
    have hissues : IssuesUnit x := by
      fin_cases hx
      iterate 22 · exact ⟨by decide, fun _ _ => ⟨_, rfl, fun _ => rfl⟩⟩
      · exact issuesUnit_load
      iterate 6 · exact ⟨by decide, fun _ _ => ⟨_, rfl, fun _ => rfl⟩⟩
    obtain ⟨hlow, hexec⟩ := hissues
    obtain ⟨f, hf, hissue⟩ := hexec s c
    obtain ⟨hroom, hhazard, hdests, hqueue⟩ := hunit
    have hop := issueOp_unit (w := start s) (c := c.val) (p := s.w.taskParams (s.w.core c.val)) (uses := uses) (os := os) (by rw [h.opCode]; exact hlow)
    have hjoins := (hissue (start s)).trans (h.issue.trans (hop.trans (issueUnit_room hroom hhazard hdests hqueue)))
    refine does_act h.runs hf (hjoins.trans ?_)
    rcases os with _ | ⟨_ | d, r⟩ <;> rfl
  case load =>
    intro s c errs v q x r hr hsound hv hjoined hlast hsrc hrange
    refine does_act hr rfl ((unlessHeld_free hsound _).trans ((issueLoad_errors hv hjoined hlast hsrc).trans ?_))
    simp only [List.filter_map, List.foldl_map, hrange]
    rfl

/-- Settles O12: WAIT_FLAG before and after it is woken, and, with the core's queue empty, SIGNAL_FLAG, FENCE and END. -/
theorem flagOperations : Obligations.FlagOperations := by
  intro s c ws uses os
  refine ⟨?wait, ?woken, ?signal, ?fence, ?finish⟩
  case wait =>
    intro r f th h hstall hrun hf hth hpoison
    have hop : s.w.issueOp (s.w.taskParams (s.w.core c)) c ws uses os = s.w.issueWaitFlag c ws := by simp only [issueOp, h.opCode]
    have hwait := hop.trans (issueWaitFlag_first hstall hrun hf hth hpoison)
    exact ⟨fun hmet => h.does rfl (hwait.trans (if_pos hmet)), fun hshort => h.does rfl (hwait.trans (if_neg hshort.not_ge))⟩
  case woken =>
    intro t h hstall hwoken
    have hop : s.w.issueOp (s.w.taskParams (s.w.core c)) c ws uses os = s.w.issueWaitFlag c ws := by simp only [issueOp, h.opCode]
    exact h.does rfl (hop.trans (issueWaitFlag_woken hstall hwoken))
  case signal =>
    intro r h hqueue hrun hroom
    have hop : s.w.issueOp (s.w.taskParams (s.w.core c)) c ws uses os = s.w.issueSignal c ws := by simp only [issueOp, h.opCode]
    exact h.does rfl (hop.trans (issueSignal_drained hqueue hrun hroom))
  case fence =>
    intro h hqueue
    have hop : s.w.issueOp (s.w.taskParams (s.w.core c)) c ws uses os = s.w.issueFence c := by simp only [issueOp, h.opCode]
    exact h.does rfl (hop.trans (issueFence_drained hqueue))
  case finish =>
    intro h hqueue
    have hop : s.w.issueOp (s.w.taskParams (s.w.core c)) c ws uses os = s.w.issueEnd c := by simp only [issueOp, h.opCode]
    exact h.does rfl (hop.trans (issueEnd_drained hqueue))

/-- Settles O13: the loop and setup operations, each by its opcode. -/
theorem loopsAndSetup : Obligations.LoopsAndSetup := by
  refine ⟨fun s c ws uses os => ⟨?loop, ?endLoop, ?branch, ?nop⟩, fun s c ws uses os => ⟨?round, ?scale, ?sparse, ?lut⟩⟩
  case loop =>
    intro count h hcount
    have hop : s.w.issueOp (s.w.taskParams (s.w.core c)) c ws uses os = s.w.issueLoop c ws := by simp only [issueOp, h.opCode]
    have hloop := hop.trans (issueLoop_count hcount)
    exact ⟨fun hpos => h.does rfl (hloop.trans (if_neg hpos)), fun hzero => h.does rfl (hloop.trans (if_pos hzero))⟩
  case endLoop =>
    intro l r h hopen
    have hop : s.w.issueOp (s.w.taskParams (s.w.core c)) c ws uses os = s.w.issueEndLoop c := by simp only [issueOp, h.opCode]
    exact h.does rfl (hop.trans (issueEndLoop_open hopen))
  case branch =>
    intro v x h hv hx
    have hop : s.w.issueOp (s.w.taskParams (s.w.core c)) c ws uses os = s.w.issueBranch c ws := by simp only [issueOp, h.opCode]
    exact h.does rfl (hop.trans (issueBranch_eq hv hx))
  case nop =>
    intro h
    have hop : s.w.issueOp (s.w.taskParams (s.w.core c)) c ws uses os = s.w.issueNop c := by simp only [issueOp, h.opCode]
    exact h.does rfl hop
  case round =>
    intro h
    have hop : s.w.issueOp (s.w.taskParams (s.w.core c)) c ws uses os = s.w.issueSetNumber c ws := by simp only [issueOp, h.opCode]
    exact h.does rfl (hop.trans (issueSetNumber_round h.opCode))
  case scale =>
    intro h
    have hop : s.w.issueOp (s.w.taskParams (s.w.core c)) c ws uses os = s.w.issueSetNumber c ws := by simp only [issueOp, h.opCode]
    exact h.does rfl (hop.trans (issueSetNumber_scale h.opCode))
  case sparse =>
    intro a m b d h hos hhazard
    have hop : s.w.issueOp (s.w.taskParams (s.w.core c)) c ws uses os = s.w.issueSetSparse (s.w.taskParams (s.w.core c)) c ws uses os := by
      simp only [issueOp, h.opCode]
    exact h.does rfl (hop.trans (issueSetSparse_free hhazard hos))
  case lut =>
    intro t a b d tab h hos hhazard hwhole htab hrange
    have hop : s.w.issueOp (s.w.taskParams (s.w.core c)) c ws uses os = s.w.issueSetLut (s.w.taskParams (s.w.core c)) c ws uses os := by
      simp only [issueOp, h.opCode]
    exact h.does rfl (hop.trans (issueSetLut_free hhazard hos hwhole htab hrange))

namespace Work

/-! ### Tasks from launch to end (R247, R253, R255, R256, R283) -/

section Tasks
variable {w : Work} {c : Nat}

theorem taskLaunch_launching {r : GRun} (hphase : (w.core c).phase = .launching) (hrun : w.grun? (w.core c).run = some r)
    (hsounded : w.rd Reg.SLOT_SSTATE (w.phys c) ≠ 1) :
    w.taskLaunch c =
      let k := w.core c
      let v := w.reach (max (k.since + 48) k.freeAt)
      let v := (((v.wr Reg.ASH_BUSY 1 c).wr Reg.ASH_RANK k.rank c).wr Reg.ASH_CUR_GRAPH r.gid c).wr Reg.ASH_CUR_NODE k.node c
      let v := (((v.wr Reg.ASH_CUR_CONTEXT r.actx c).wr Reg.ASH_CUR_SLOT r.slot c).wr Reg.ASH_PC 0 c).inc Reg.ASH_CNT_TASKS c
      ((v.upTo 4 (fun v j => v.wr Reg.ASH_LC 0 c j)).setCore c { k with phase := .copying }).coreTrace c 0x10 0 := by
  unfold taskLaunch
  simp only [hphase, hrun]
  rw [if_neg hsounded]

/-- Storing leaves every core as it was. -/
@[simp] theorem store_core (w : Work) (a : Nat) (bs : List Byte) (c : Nat) : (w.store a bs).core c = w.core c := by
  obtain ⟨⟨_, _, _, _, _, h⟩, -⟩ := recorded_store w a bs
  rw [h]
  rfl

/-- One part of the launch copy: bytes of the node's image go to the core's tile store. -/
def launchCopy (p : List Nat) (c : Nat) (w : Work) (src dst n : Nat) : Work :=
  if (w.core c).ended then w
  else match w.firstPoison (segBase p c 1 + src) n with
    | some x => (w.eccReport x).abortTask c stEccUncorrectable ((x : Int) - segBase p c 1) 1
    | none => w.store (segBase p c 0 + dst) (w.fetch (segBase p c 1 + src) n)

theorem launchCopy_whole {p : List Nat} {src dst n : Nat} (hended : (w.core c).ended = false) (hwhole : w.firstPoison (segBase p c 1 + src) n = none) :
    launchCopy p c w src dst n = w.store (segBase p c 0 + dst) (w.fetch (segBase p c 1 + src) n) := by
  rw [launchCopy, hended, if_neg Bool.false_ne_true, hwhole]

/-- What a range of a memory holds depends on the memory alone. -/
theorem bytes_congr {v w : Work} (h0 : v.s0 = w.s0) (hm : v.mops = w.mops) (sp : Space) (a n : Nat) : v.bytes sp a n = w.bytes sp a n := by
  induction n generalizing a with
  | zero => rfl
  | succ n ih => rw [bytes, bytes, ih, byte, byte, h0, hm]

/-- What a core holds is not memory. -/
@[simp] theorem setCore_fetch (w : Work) (c : Nat) (k : CoreSt) (a n : Nat) : (w.setCore c k).fetch a n = w.fetch a n := by
  have hbytes (sp : Space) (a n : Nat) : (w.setCore c k).bytes sp a n = w.bytes sp a n :=
    bytes_congr (v := w.setCore c k) (w := w) rfl rfl sp a n
  unfold fetch
  simp only [hbytes]
  rfl

section Copy
variable {p : List Nat} (hphase : (w.core c).phase = .copying) (hended : (w.core c).ended = false) (hp : p = w.taskParams (w.core c))
  (hwhole : w.firstPoison (segBase p c 1 + wd p 4) (64 * bits (wd p 1) 15 0) = none)
include hphase hended hp hwhole

/-- The launch copy, its descriptor table whole: what is left is the program. -/
theorem copyDone_table :
    w.copyDone c =
      let v := (w.setCore c { w.core c with phase := .running }).store (segBase p c 0 + wd p 5)
        (w.fetch (segBase p c 1 + wd p 4) (64 * bits (wd p 1) 15 0))
      (if bitAt (wd p 0) 4 then launchCopy p c v (wd p 2) (wd p 3) (16 * bits (wd p 1) 31 16)
        else if (v.core c).ended then v else v.fillBuffer c 0).settleTask c := by
  have htable : launchCopy p c (w.setCore c { w.core c with phase := .running }) (wd p 4) (wd p 5) (64 * bits (wd p 1) 15 0) =
      (w.setCore c { w.core c with phase := .running }).store (segBase p c 0 + wd p 5) (w.fetch (segBase p c 1 + wd p 4) (64 * bits (wd p 1) 15 0)) :=
    (launchCopy_whole (w := w.setCore c { w.core c with phase := .running }) (by rw [setCore_core]; exact hended) hwhole).trans (by rw [setCore_fetch])
  subst hp
  dsimp only
  rw [← htable, copyDone]
  exact if_neg (not_not.mpr hphase)

omit hphase hp hwhole in
/-- A task that runs after its launch copy has not ended. -/
theorem launched_ended (a : Nat) (bs : List Byte) : (((w.setCore c { w.core c with phase := .running }).store a bs).core c).ended = false := by
  rw [store_core, setCore_core]
  exact hended

end Copy

theorem opComplete_done {u i : Nat} {ring : Option Nat} {q : TileOp} (hfind : (w.core c).queue.findIdx? (fun q => q.unit == u) = some i)
    (hat : (w.core c).queue[i]? = some q) (hdone : q.done = true) :
    w.opComplete c u ring =
      let v := match ring with
        | some l => w.ringFailed c q l
        | none => w
      (((v.stretched c q).setCore c { w.core c with queue := (w.core c).queue.eraseIdx i }).scoreboard c).settleTask c := by
  unfold opComplete
  simp only [hfind, hat, hdone, if_true] <;> rfl

section Broadcast
variable {q : TileOp} {n : Nat} {v : Work} {got : List Byte} (hpending : pendingBcast (w.core c) = some q) (hn : n = q.bcast.getD 0)
include hpending hn

theorem bcastStart_again (hbehind : n < (w.core c).bnext) (hread : w.bcastRead c q = (v, .inl got)) : w.bcastStart c = v.bcastDeliver c n got := by
  unfold bcastStart
  simp only [hpending, ← hn, if_pos hbehind, bcastServe, hread, List.foldl_cons, List.foldl_nil]

theorem bcastStart_group {grp : List Nat} {lead : Nat} {x : TileOp} (hahead : (w.core c).bnext ≤ n) (hgrp : grp = w.bcastGroup c) (hlead : lead = grp.headD c)
    (hall : grp.all (fun m => decide (n < (w.core m).bseq)) = true) (hop : (w.core lead).queue.find? (fun y => y.bcast == some n) = some x)
    (hsame : ∀ m ∈ grp, ((w.core m).queue.find? (fun y => y.bcast == some n)).map (bcastSource (w.taskParams (w.core m)) m) =
      some (bcastSource (w.taskParams (w.core lead)) lead x))
    (hread : w.bcastRead lead x = (v, .inl got)) :
    w.bcastStart c = grp.foldl (fun (w : Work) m => w.bcastDeliver m n got) v := by
  have hsource : ((w.core lead).queue.find? (fun y => y.bcast == some n)).map (bcastSource (w.taskParams (w.core lead)) lead) =
      some (bcastSource (w.taskParams (w.core lead)) lead x) := by rw [hop, Option.map_some]
  have hbad : grp.filter (fun m => decide (((w.core m).queue.find? (fun y => y.bcast == some n)).map (bcastSource (w.taskParams (w.core m)) m) ≠
      some (bcastSource (w.taskParams (w.core lead)) lead x))) = [] :=
    List.filter_eq_nil_iff.mpr fun m hm => by simp [hsame m hm]
  rw [bcastStart, hpending]
  dsimp only
  rw [← hn, if_neg hahead.not_gt, ← hgrp, if_pos hall, ← hlead]
  simp only [hsource]
  simp only [hbad, hop, List.foldl_nil, bcastServe, hread, List.contains_nil, Bool.not_false, List.filter_true]

end Broadcast

section Limit
variable (hphase : (w.core c).phase = .running) (hended : (w.core c).ended = false) (hlimit : w.waitLimit (w.core c) ≠ 0)
include hphase hended hlimit

theorem waitLimitExpiry_flag {t : Nat} (hwaits : w.rd Reg.ASH_FLAG_WAIT c = 1) (hstall : (w.core c).stall = some t) :
    w.waitLimitExpiry c =
      (w.advance ((match (w.core c).bwait with
        | some u => min t u
        | none => t) + w.waitLimit (w.core c))).abort c stFlagTimeout 0 0 := by
  unfold waitLimitExpiry
  simp only [hphase, hended, hlimit, on_eq_true hwaits, hstall, ne_eq, not_true_eq_false, Bool.false_eq_true, or_self, if_false, if_true]
  cases (w.core c).bwait <;> rfl

theorem waitLimitExpiry_bcast {u : Nat} (hstall : (w.core c).stall = none) (hwait : (w.core c).bwait = some u) :
    w.waitLimitExpiry c = (w.advance (u + w.waitLimit (w.core c))).abort c stFlagTimeout 0 0 := by
  unfold waitLimitExpiry
  simp only [hphase, hended, hlimit, hstall, hwait, ne_eq, not_true_eq_false, Bool.false_eq_true, or_self, if_false, ite_self]

end Limit

theorem bufferRefilled_refill (hphase : (w.core c).phase = .running) (hended : (w.core c).ended = false) (hfetch : w.fetchOp c = .refill) :
    w.bufferRefilled c = w.fillBuffer c (w.rd Reg.ASH_PC c) := by
  unfold bufferRefilled
  simp only [hphase, hended, hfetch, ne_eq, not_true_eq_false, decide_false, Bool.or_self, Bool.false_eq_true, if_false]

end Tasks

end Work

/-- Settles O14: launch, launch copy, completion, broadcast, the limit of a wait, a refill and a refused operation. A ring link that fails under an operation's
traffic rests on log entry 83, and the instruction buffer that the launch copy fills on log entry 27. -/
theorem tasksRunAndEnd : Obligations.TasksRunAndEnd := by
  refine ⟨fun s c hr hsound => ⟨?launch, ?copied, ?copiedAll, ?complete, ?broadcast, ?limit, ?refill⟩, ?refused⟩
  case launch => exact fun r hphase hrun hsounded => does_act hr rfl ((unlessHeld_free hsound _).trans (taskLaunch_launching hphase hrun hsounded))
  case copied =>
    intro p hphase hended hp htile hwhole
    refine does_act hr rfl ((unlessHeld_free hsound _).trans ((copyDone_table hphase hended hp hwhole).trans ?_))
    dsimp only
    rw [if_neg (by rw [htile]; exact Bool.false_ne_true), if_neg (by rw [launched_ended hended]; exact Bool.false_ne_true), setCore_fetch, hp]
  case copiedAll =>
    intro p v hphase hended hp htile hwhole hv hprogram
    have hrunning : (v.core c).ended = false := by rw [hv]; exact launched_ended hended _ _
    refine does_act hr rfl ((unlessHeld_free hsound _).trans ((copyDone_table hphase hended hp hwhole).trans ?_))
    dsimp only
    rw [if_pos htile, ← hv, launchCopy_whole hrunning hprogram]
  case complete =>
    intro u ring i q hfind hat hdone
    refine does_act hr rfl ((unlessHeld_free hsound _).trans ((opComplete_done hfind hat hdone).trans ?_))
    cases ring <;> rfl
  case broadcast =>
    intro q n v got hpending hn
    exact ⟨fun hbehind hread => does_act hr rfl ((unlessHeld_free hsound _).trans (bcastStart_again hpending hn hbehind hread)),
      fun grp lead x hahead hgrp hlead hall hop hsame hread =>
        does_act hr rfl ((unlessHeld_free hsound _).trans (bcastStart_group hpending hn hahead hgrp hlead hall hop hsame hread))⟩
  case limit =>
    intro hphase hended hlimit
    refine ⟨fun t hwaits hstall => does_act hr rfl ((waitLimitExpiry_flag hphase hended hlimit hwaits hstall).trans ?_),
      fun u hstall hwait => does_act hr rfl (waitLimitExpiry_bcast hphase hended hlimit hstall hwait)⟩
    rfl
  case refill =>
    exact fun hphase hended hfetch => does_act hr rfl ((unlessHeld_free hsound _).trans (bufferRefilled_refill hphase hended hfetch))
  case refused =>
    intro s c ws uses status off seg hr hsound hphase hended hstop hfetch huses hop hpoison hcheck
    refine does_act hr rfl ((unlessHeld_free hsound _).trans ((issue_fetched hphase hended hstop hfetch huses hop hpoison).trans ?_))
    rw [hcheck] <;> rfl

end Sys2Proof.Machine
end

section
/-! PROOF. The vision engines: plumb units, seams, gated tiles and pipelines, stereo and flow, features, pyramids and warps (R85 to R102, R147 to R219, R298). -/

namespace Sys2Proof.Machine

open Config Work

namespace Work

/-! ### Inputs that hold a poisoned word (R298) -/

section Poison
variable {w : Work} {id n : Nat} {areas : List (Nat × Nat)}

theorem unlessPoison_whole (h : areas.find? (fun a => w.meetsPoison a.1 a.2) = none) (f : Work → Work) : w.unlessPoison id n areas f = f w := by
  rw [unlessPoison, h]

theorem unlessPoison_met {a : Nat × Nat} (h : areas.find? (fun a => w.meetsPoison a.1 a.2) = some a) (f : Work → Work) :
    w.unlessPoison id n areas f = (w.reportPoison a.1 a.2).cutNode id n stEccUncorrectable := by
  rw [unlessPoison, h]

theorem unlessPoison_one_whole {a b : Nat} (h : w.meetsPoison a b = false) (f : Work → Work) : w.unlessPoison id n [(a, b)] f = f w :=
  unlessPoison_whole (by simp [h]) f

theorem unlessPoison_one_met {a b : Nat} (h : w.meetsPoison a b = true) (f : Work → Work) :
    w.unlessPoison id n [(a, b)] f = (w.reportPoison a b).cutNode id n stEccUncorrectable :=
  unlessPoison_met (a := (a, b)) (by simp [h]) f

end Poison

/-! ### Plumb units and seams (R85, R89, R99) -/

section Plumb
variable {w : Work} {u : Nat} {x : EngRun} {r : GRun}

theorem plumbRow_covered {p : List Nat} {g : Nat × Nat × Nat} (hx : x = w.eng u) (hrun : w.grun? x.run = some r) (hp : p = (w.version r.seq).params x.node)
    (hg : g = plumbGrid p) (hrow : x.row < g.2.2) (hcovers : w.covers r x.node 0 (min (bits (wd p 1) 31 16) ((x.row + 1) * g.1) - 1) = true) :
    w.plumbRow u = w.unlessPoison r.id x.node (w.rowArea r x.node (x.row * g.1) g.1) fun w =>
      w.plumbReduce u x r g.2.1 (min (bits (wd p 1) 31 16) ((x.row + 1) * g.1) - 1) := by
  subst hx hp hg
  unfold plumbRow
  simp only [hrun]
  exact if_neg (by simp [hrow, hcovers])

theorem plumbSelect_over {g : Nat × Nat × Nat} (hx : x = w.eng u) (hrun : w.grun? x.run = some r)
    (hg : g = plumbGrid ((w.version r.seq).params x.node)) (hrow : g.2.2 ≤ x.row) : w.plumbSelect u = w.plumbLists u x r g.2.1 g.2.2 := by
  subst hx hg
  unfold plumbSelect
  simp only [hrun]
  exact if_neg hrow.not_gt

theorem seamDone_running {c : SeamCtx} (hx : x = w.eng (u + 0x100)) (hrun : w.grun? x.run = some r) (hc : c = w.seamCtx r x.node) :
    w.seamDone u = (w.reach (x.since + ceilDiv (c.wid * c.hei * c.e) 128)).unlessPoison r.id x.node [(c.first.base, c.first.pitch * c.hei)] fun v =>
      v.seamWrite u x r c (wd64 c.p 6 + r.slot * wd c.p 8) := by
  subst hx hc
  unfold seamDone
  simp only [hrun]

end Plumb

/-! ### Gated tiles and pipelines (R95, R147 to R149) -/

theorem gatedLaunch_next {w : Work} {id n c : Nat} {r : GRun} (hrun : w.grun? id = some r) (htyp : (w.version r.seq).typ n = 8)
    (hgated : (w.version r.seq).gated n = true) (hst : (nodeRun r n).st = .running) (hfin : (nodeRun r n).finished = false)
    (hleft : (nodeRun r n).tile < w.listCount (w.inputList r n (listPort (w.version r.seq) n)))
    (hfree : (setBits 64 ((w.version r.seq).coreSet n)).find? (fun c =>
      !w.coreBusy c && decide (w.d.cores.getD c 0xFF ≤ 67) && !w.soundingOn (w.d.cores.getD c 0xFF)) = some c) :
    w.gatedLaunch id n = w.gatedTask id n r (w.version r.seq) (nodeRun r n) (w.inputList r n (listPort (w.version r.seq) n)) c := by
  unfold gatedLaunch
  simp only [hrun, hfree]
  exact if_neg (by simp [htyp, hgated, hst, hfin, hleft])

section Pipelines
variable {w : Work} {p c n count : Nat} {r : GRun}

theorem ispStart_choice (hen : w.rd Reg.ISP_SCHED_EN = 1) (hfree : w.pipeFree p = true) (hchoice : w.ispChoice p = some (c, r, n, count)) :
    w.ispStart p = w.ispTake p c r n count := by
  rw [ispStart, if_neg (by simp [on_eq_true hen, hfree]), hchoice]

section Stripe
variable {x : IspCtx} {fixed : Nat} {bad : List Nat} (hc : c = w.rd Reg.PIPE_CUR_CONTEXT p) (hx : x = w.ispCtx c) (hbusy : w.rd Reg.PIPE_BUSY p = 1)
  (hpipe : x.pipe = p + 1)
include hc hx hbusy hpipe

theorem ispEnd_frame {f : OpenFrame} (hrun : w.grun? x.run = some r) (hframe : w.frameOf r c = some f) : w.ispEnd p fixed bad = w.ispStripe p c x r f fixed bad := by
  subst hc hx
  unfold ispEnd
  simp only [hrun, hframe]
  exact if_neg (by simp [on_eq_true hbusy, hpipe])

theorem ispEnd_gone (hgone : w.grun? x.run = none ∨ ∃ r, w.grun? x.run = some r ∧ w.frameOf r c = none) :
    w.ispEnd p fixed bad = (w.wr Reg.PIPE_BUSY 0 p).setIspCtx c { w.ispCtx c with pipe := 0 } := by
  subst hc hx
  unfold ispEnd
  rcases hgone with hrun | ⟨r, hrun, hframe⟩
  · simp only [hrun]
    exact if_neg (by simp [on_eq_true hbusy, hpipe])
  · simp only [hrun, hframe]
    exact if_neg (by simp [on_eq_true hbusy, hpipe])

end Stripe

end Pipelines

/-! ### Stereo and flow (R153, R166 to R169, R174, R184 to R186) -/

section Stereo
variable {w : Work} {u l : Nat} {r : GRun} {x : EngRun} {c : StCtx} {areas : List (Nat × Nat)} (hx : x = w.eng u) (hrun : w.grun? x.run = some r)
  (hc : c = w.stCtx r x.node u) (hl : l = if x.phase ≤ 1 then x.level else c.fine)
  (hareas : areas = [((w.stImg c 0 l).base, (w.stImg c 0 l).bytes), ((w.stImg c 1 l).base, (w.stImg c 1 l).bytes)])
include hx hrun hc hl hareas

theorem stWork_running (f : Work → StCtx → Work) : w.stWork u f = w.unlessPoison r.id x.node areas (f · c) := by
  subst hx hc hl hareas
  unfold stWork
  simp only [hrun]

theorem stWork_met {a : Nat × Nat} (h : areas.find? (fun a => w.meetsPoison a.1 a.2) = some a) (f : Work → StCtx → Work) :
    w.stWork u f = (w.reportPoison a.1 a.2).cutNode r.id x.node stEccUncorrectable :=
  (stWork_running hx hrun hc hl hareas f).trans (unlessPoison_met h _)

section Whole
variable (hwhole : areas.find? (fun a => w.meetsPoison a.1 a.2) = none)
include hwhole

theorem stWork_whole (f : Work → StCtx → Work) : w.stWork u f = f w c :=
  (stWork_running hx hrun hc hl hareas f).trans (unlessPoison_whole hwhole _)

theorem stereoLevel_pass (hphase : x.phase ≤ 1) : w.stereoLevel u = w.stLevelPass u c x := by
  rw [stereoLevel, stWork_whole hx hrun hc hl hareas hwhole, ← hx]
  exact if_neg hphase.not_gt

theorem stereoRow_pass (hphase : x.phase = 0) (hlevel : x.level = c.fine) :
    w.stereoRow u =
      if ceilDiv (lvDim c.hei c.fine) 16 ≤ x.row + 1 then w.stLevelPass u c x
      else
        let v := w.reach (stageStart x + 512 + ceilDiv ((1 + b2n c.paths8) * (lvTw c.wid c.fine * 16 * (x.row + 1) * stSlots c c.fine)) 128)
        v.stRow u c (v.stLevel c false c.fine) := by
  rw [stereoRow, stWork_whole hx hrun hc hl hareas hwhole, ← hx, stereoLevel_pass hx hrun hc hl hareas hwhole (by omega)]
  exact if_neg (by simp [hphase, hlevel])

theorem stereoRefine_pass (hphase : x.phase = 2) : w.stereoRefine u = w.stRefinePass u c x := by
  rw [stereoRefine, stWork_whole hx hrun hc hl hareas hwhole, ← hx]
  exact if_neg (not_not.mpr hphase)

theorem stereoGated_tile {g : GVer} {lst : Nat} (hg : g = w.version r.seq) (hlst : lst = w.inputList r x.node (listPort g x.node)) (hphase : x.phase = 3)
    (hrow : x.row < w.listCount lst) : w.stereoGated u = w.stGatedTile u c x g lst := by
  have hnode : c.run = r ∧ c.node = x.node := hc ▸ ⟨rfl, rfl⟩
  rw [stereoGated, stWork_whole hx hrun hc hl hareas hwhole, ← hx]
  dsimp only
  rw [hnode.1, hnode.2, ← hg, ← hlst]
  exact if_neg (by simp [hphase, hrow])

end Whole

end Stereo

section Flow
variable {w : Work} {u l : Nat} {r : GRun} {x : EngRun} {c : FlCtx} {areas : List (Nat × Nat)} (hx : x = w.eng u) (hrun : w.grun? x.run = some r)
  (hc : c = w.flCtx r x.node u) (hl : l = if x.phase ≤ 1 then x.level else c.last)
  (hareas : areas = ((w.flI c l).base, (w.flI c l).bytes) :: (if x.pass = 1 then [] else [((w.flJ c l).base, (w.flJ c l).bytes)]))
include hx hrun hc hl hareas

theorem flWork_running (f : Work → FlCtx → Work) : w.flWork u f = w.unlessPoison r.id x.node areas (f · c) := by
  subst hx hc hl hareas
  unfold flWork
  simp only [hrun]

theorem flWork_met {a : Nat × Nat} (h : areas.find? (fun a => w.meetsPoison a.1 a.2) = some a) (f : Work → FlCtx → Work) :
    w.flWork u f = (w.reportPoison a.1 a.2).cutNode r.id x.node stEccUncorrectable :=
  (flWork_running hx hrun hc hl hareas f).trans (unlessPoison_met h _)

section Whole
variable (hwhole : areas.find? (fun a => w.meetsPoison a.1 a.2) = none)
include hwhole

theorem flWork_whole (f : Work → FlCtx → Work) : w.flWork u f = f w c :=
  (flWork_running hx hrun hc hl hareas f).trans (unlessPoison_whole hwhole _)

theorem flowLevel_pass (hphase : x.phase ≤ 1) : w.flowLevel u = w.flLevelPass u c x := by
  rw [flowLevel, flWork_whole hx hrun hc hl hareas hwhole, ← hx]
  exact if_neg hphase.not_gt

theorem flowRow_pass (hphase : x.phase = 0) (hlevel : x.level = c.last) :
    w.flowRow u =
      if ceilDiv (lvDim c.hei c.last) 16 ≤ x.row + 1 then w.flLevelPass u c x
      else
        let v := w.reach (stageStart x + 512 + ceilDiv (lvTw c.wid c.last * 16 * (x.row + 1) * (bits (wd c.p 0) 25 23 + 1)) 8)
        v.flRow u c (if x.pass = 1 then [] else v.flLevel c false c.last) := by
  rw [flowRow, flWork_whole hx hrun hc hl hareas hwhole, ← hx, flowLevel_pass hx hrun hc hl hareas hwhole (by omega)]
  exact if_neg (by simp [hphase, hlevel])

theorem flowRefine_pass (hphase : x.phase = 2) : w.flowRefine u = w.flRefinePass u c x := by
  rw [flowRefine, flWork_whole hx hrun hc hl hareas hwhole, ← hx]
  exact if_neg (not_not.mpr hphase)

theorem flowGated_tile {g : GVer} {lst : Nat} (hg : g = w.version r.seq) (hlst : lst = w.inputList r x.node (listPort g x.node)) (hphase : x.phase = 3)
    (hrow : x.row < w.listCount lst) : w.flowGated u = w.flGatedTile u c x g lst := by
  have hnode : c.run = r ∧ c.node = x.node := hc ▸ ⟨rfl, rfl⟩
  rw [flowGated, flWork_whole hx hrun hc hl hareas hwhole, ← hx]
  dsimp only
  rw [hnode.1, hnode.2, ← hg, ← hlst]
  exact if_neg (by simp [hphase, hrow])

end Whole

end Flow

/-! ### Features, pyramids and warps (R192 to R219) -/

section Others
variable {w : Work} {u : Nat} {r : GRun} {x : EngRun}

theorem featurePhase_running {c : FtCtx} {areas : List (Nat × Nat)} (hx : x = w.eng u) (hrun : w.grun? x.run = some r) (hc : c = w.ftCtx r x.node)
    (hareas : areas = (List.range c.levels).map (fun l => ((w.ftImg c l).base, (w.ftImg c l).bytes))) :
    w.featurePhase u = w.unlessPoison r.id x.node areas fun w => w.featureStep u x c := by
  subst hx hc hareas
  unfold featurePhase
  simp only [hrun]

theorem pyramidPublish_covered {v : Work} {m : Img} (hv : v = w.pyramidTake u) (hx : x = v.eng u) (hrun : v.grun? x.run = some r)
    (hm : m = v.pyrInput r x.node) (hcovers : v.covers r x.node 0 (m.h - 1) = true) :
    w.pyramidPublish u = v.unlessPoison r.id x.node [(m.base, m.bytes)] fun w => w.pyrLevel u x r ((v.version r.seq).params x.node) m := by
  subst hv hx hm
  unfold pyramidPublish
  simp only [hrun]
  exact if_neg (by simp [hcovers])

section Warp
variable {c : WarpCtx} {x0 y0 hits : Nat} {rest cache : List Nat} (hx : x = w.eng u) (hrun : w.grun? x.run = some r) (hc : c = w.warpCtx r x.node)
  (horigin : warpOrigin c x = (x0, y0)) (hrest : rest = (w.warpLookups c x0 y0).drop x.pass) (hhits : cacheHits rest x.tiles = (hits, cache))
  (hy : y0 < c.oh) (hready : w.warpReady r x.node c x0 y0 = true)
include hx hrun hc horigin hrest hhits hy hready

theorem warpTile_hit (hall : rest.length ≤ hits) :
    w.warpTile u = w.unlessPoison r.id x.node [(c.src.base, c.src.bytes)] fun w => w.warpWrite u x r c x0 y0 hits cache := by
  subst hx hc hrest
  unfold warpTile
  simp only [hrun, horigin, hhits]
  exact if_neg (by rw [decide_eq_false hall.not_gt]; simp [hy, hready])

theorem warpFetched_miss {b : Nat} {more : List Nat} (hmiss : rest.drop hits = b :: more) :
    w.warpFetched u = ((w.setEng u { x with pass := x.pass + hits + 1, tiles := cache.drop (cache.length - 127) ++ [b] }).add
      Reg.VIS_WP_CNT_HITS hits (u - 0x54)).inc Reg.VIS_WP_CNT_FETCHES (u - 0x54) := by
  subst hx hc hrest
  unfold warpFetched
  simp only [hrun, horigin, hhits, hmiss]
  exact if_neg (by simp [hy, hready])

end Warp

end Others

end Work

/-! ### The commands of the vision engines -/

/-- Settles O15: which tile row, list, seam, gated tile or stripe its command ends or starts, a poisoned source first. -/
theorem visionDispatch : Obligations.VisionDispatch := by
  refine ⟨fun s e r hr hsound => ⟨?row, ?select, ?seam⟩, fun s r id n c hr hrun htyp hgated hst hfin hleft hfree => ?gated,
    fun s p hr hsound => ⟨?start, ?stripe⟩⟩
  case row =>
    intro x p g area hx hrun hp hg hrow hcovers harea
    refine ⟨fun hwhole => ?_, fun a hmet => ?_⟩ <;>
      refine does_act hr rfl ((unlessHeld_free hsound _).trans ((plumbRow_covered hx hrun hp hg hrow hcovers).trans ?_))
    · exact unlessPoison_whole (harea ▸ hwhole) _
    · exact unlessPoison_met (harea ▸ hmet) _
  case select =>
    intro x g hx hrun hg hrow
    exact does_act hr rfl ((unlessHeld_free hsound _).trans (plumbSelect_over hx hrun hg hrow))
  case seam =>
    intro x c v hx hrun hc hv
    subst hv
    have hx' : x = s.w.eng (0x74 + e.val + 0x100) := by rw [hx]; congr 1; omega
    refine ⟨fun hwhole => ?_, fun hmet => ?_⟩ <;>
      refine does_act hr rfl ((unlessHeld_free hsound _).trans ((seamDone_running hx' hrun hc).trans ?_))
    · exact unlessPoison_one_whole hwhole _
    · exact unlessPoison_one_met hmet _
  case gated => exact does_act hr rfl (gatedLaunch_next hrun htyp hgated hst hfin hleft hfree)
  case start =>
    intro c r n count hen hfree hchoice
    exact does_act hr rfl ((unlessHeld_free hsound _).trans (ispStart_choice hen hfree hchoice))
  case stripe =>
    intro c x fixed bad hc hx hbusy hpipe
    exact ⟨fun r f hrun hframe => does_act hr rfl ((unlessHeld_free hsound _).trans (ispEnd_frame hc hx hbusy hpipe hrun hframe)),
      fun hgone => does_act hr rfl ((unlessHeld_free hsound _).trans (ispEnd_gone hc hx hbusy hpipe hgone))⟩

section StereoAndFlow
variable {s : State} {e : Fin 2} {r : GRun} {x : EngRun} {l : Nat} {areas : List (Nat × Nat)} (hr : Runs s)
include hr

theorem stereo_poisoned {c : StCtx} (hsound : s.w.sounding (0x58 + e.val) = false) (hx : x = s.w.eng (0x58 + e.val)) (hrun : s.w.grun? x.run = some r)
    (hc : c = s.w.stCtx r x.node (0x58 + e.val)) (hl : l = if x.phase ≤ 1 then x.level else c.fine)
    (hareas : areas = [((s.w.stImg c 0 l).base, (s.w.stImg c 0 l).bytes), ((s.w.stImg c 1 l).base, (s.w.stImg c 1 l).bytes)])
    {a : Nat × Nat} (hmet : areas.find? (fun a => s.w.meetsPoison a.1 a.2) = some a) {cmd : Instr}
    (hcmd : cmd ∈ [Instr.stereoLevelDone e, .stereoTileRowDone e, .stereoRefineDone e, .stereoGatedTileDone e]) :
    Does cmd s fun w => (w.reportPoison a.1 a.2).cutNode r.id x.node stEccUncorrectable := by
  have hcut := stWork_met hx hrun hc hl hareas hmet
  simp only [List.mem_cons, List.not_mem_nil, or_false] at hcmd
  rcases hcmd with rfl | rfl | rfl | rfl <;> exact does_act hr rfl ((unlessHeld_free hsound _).trans (hcut _))

theorem flow_poisoned {c : FlCtx} (hsound : s.w.sounding (0x5A + e.val) = false) (hx : x = s.w.eng (0x5A + e.val)) (hrun : s.w.grun? x.run = some r)
    (hc : c = s.w.flCtx r x.node (0x5A + e.val)) (hl : l = if x.phase ≤ 1 then x.level else c.last)
    (hareas : areas = ((s.w.flI c l).base, (s.w.flI c l).bytes) :: (if x.pass = 1 then [] else [((s.w.flJ c l).base, (s.w.flJ c l).bytes)]))
    {a : Nat × Nat} (hmet : areas.find? (fun a => s.w.meetsPoison a.1 a.2) = some a) {cmd : Instr}
    (hcmd : cmd ∈ [Instr.flowLevelDone e, .flowTileRowDone e, .flowRefineDone e, .flowGatedTileDone e]) :
    Does cmd s fun w => (w.reportPoison a.1 a.2).cutNode r.id x.node stEccUncorrectable := by
  have hcut := flWork_met hx hrun hc hl hareas hmet
  simp only [List.mem_cons, List.not_mem_nil, or_false] at hcmd
  rcases hcmd with rfl | rfl | rfl | rfl <;> exact does_act hr rfl ((unlessHeld_free hsound _).trans (hcut _))

end StereoAndFlow

/-- Settles O16: each command of a stereo or flow engine by the phase it ends, poison first. -/
theorem stereoAndFlowSteps : Obligations.StereoAndFlowSteps := by
  refine ⟨fun s e r x c l areas hr hsound hx hrun hc hl hareas => ⟨fun a cmd hmet => stereo_poisoned hr hsound hx hrun hc hl hareas hmet, fun hwhole => ?stereo⟩,
    fun s e r x c l areas hr hsound hx hrun hc hl hareas => ⟨fun a cmd hmet => flow_poisoned hr hsound hx hrun hc hl hareas hmet, fun hwhole => ?flow⟩⟩
  case stereo =>
    refine ⟨fun hphase => ?level, fun hphase hlevel => ⟨fun hrow => ?row, fun hrow => ?last⟩, fun hphase => ?refined,
      fun g lst hg hlst hphase hrow => ?tile⟩ <;> refine does_act hr rfl ((unlessHeld_free hsound _).trans ?_)
    case level => exact stereoLevel_pass hx hrun hc hl hareas hwhole hphase
    case row => exact (stereoRow_pass hx hrun hc hl hareas hwhole hphase hlevel).trans (if_neg hrow.not_ge)
    case last => exact (stereoRow_pass hx hrun hc hl hareas hwhole hphase hlevel).trans (if_pos hrow)
    case refined => exact stereoRefine_pass hx hrun hc hl hareas hwhole hphase
    case tile => exact stereoGated_tile hx hrun hc hl hareas hwhole hg hlst hphase hrow
  case flow =>
    refine ⟨fun hphase => ?level, fun hphase hlevel => ⟨fun hrow => ?row, fun hrow => ?last⟩, fun hphase => ?refined,
      fun g lst hg hlst hphase hrow => ?tile⟩ <;> refine does_act hr rfl ((unlessHeld_free hsound _).trans ?_)
    case level => exact flowLevel_pass hx hrun hc hl hareas hwhole hphase
    case row => exact (flowRow_pass hx hrun hc hl hareas hwhole hphase hlevel).trans (if_neg hrow.not_ge)
    case last => exact (flowRow_pass hx hrun hc hl hareas hwhole hphase hlevel).trans (if_pos hrow)
    case refined => exact flowRefine_pass hx hrun hc hl hareas hwhole hphase
    case tile => exact flowGated_tile hx hrun hc hl hareas hwhole hg hlst hphase hrow

/-- Settles O17: the phase, level, tile or block a feature, pyramid or warp engine ends, poison first. -/
theorem featurePyramidAndWarpSteps : Obligations.FeaturePyramidAndWarpSteps := by
  refine ⟨fun s r hr => ⟨?feature, ?pyramid⟩,
    fun s e r x c x0 y0 rest hits cache hr hsound hx hrun hc horigin hrest hhits hy hready => ⟨fun hall => ?tile, fun b more hmiss => ?block⟩⟩
  case feature =>
    intro e x c areas hsound hx hrun hc hareas
    refine ⟨fun hwhole => ?_, fun a hmet => ?_⟩ <;>
      refine does_act hr rfl ((unlessHeld_free hsound _).trans ((featurePhase_running hx hrun hc hareas).trans ?_))
    · exact unlessPoison_whole hwhole _
    · exact unlessPoison_met hmet _
  case pyramid =>
    intro e v x m hsound hv hx hrun hm hcovers
    refine ⟨fun hwhole => ?_, fun hmet => ?_⟩ <;>
      refine does_act hr rfl ((unlessHeld_free hsound _).trans ((pyramidPublish_covered hv hx hrun hm hcovers).trans ?_)) <;> subst hv
    · exact unlessPoison_one_whole hwhole _
    · exact unlessPoison_one_met hmet _
  case tile =>
    refine ⟨fun hwhole => ?_, fun hmet => ?_⟩ <;>
      refine does_act hr rfl ((unlessHeld_free hsound _).trans ((warpTile_hit hx hrun hc horigin hrest hhits hy hready hall).trans ?_))
    · exact unlessPoison_one_whole hwhole _
    · exact unlessPoison_one_met hmet _
  case block =>
    have hunit : 0x54 + e.val - 0x54 = e.val := by omega
    refine does_act hr rfl ((unlessHeld_free hsound _).trans ((warpFetched_miss hx hrun hc horigin hrest hhits hy hready hmiss).trans ?_))
    rw [hunit]

end Sys2Proof.Machine
end

section
/-! PROOF. Jobs that start as their queue's only entry: what each opcode takes from the entry's words and starts (R353, R358 to R361). -/

namespace Sys2Proof.Machine

open Config Work

/-! ### The words of an entry (R353) -/

theorem wd64_lohi (a : BitVec 64) : low 32 a.toNat + 2 ^ 32 * low 32 (a.toNat / 2 ^ 32) = a.toNat := by
  have := a.isLt
  simp only [low]
  omega

theorem payload_whole {α : Type} (head l : List α) (x : α) (n m : Nat) (hl : l.length = n) (hn : n ≤ m) :
    ((head ++ (l ++ List.replicate m x).take m).drop head.length).take n = l := by
  subst hl
  simp [List.take_take, min_eq_left hn]

theorem entryWord_first (w : Work) (h : JobHead) (op x : Nat) (rest : List Nat) : wd (w.entryWords16 h op (x :: rest)) 4 = x := rfl

theorem paramWords (w : Work) (h : JobHead) (r : Vector (BitVec 32) 8) :
    ((w.entryWords16 h 4 (r.toList.map BitVec.toNat)).drop 4).take 8 = r.toList.map BitVec.toNat :=
  payload_whole [_, _, _, _] _ 0 8 12 (by simp) (by decide)

section Fields
variable (g : BitVec 16) (c : BitVec 8) (mode : Nat)

theorem graphWord_graph : bits (g.toNat + mode * 0x10000 + c.toNat * 0x1000000) 15 0 = g.toNat := by
  have := g.isLt
  simp only [bits]
  omega

theorem graphWord_context (h : mode < 4) : bits (g.toNat + mode * 0x10000 + c.toNat * 0x1000000) 31 24 = c.toNat := by
  have := g.isLt
  have := c.isLt
  simp only [bits]
  omega

theorem graphWord_mode (h : mode < 4) : bits (g.toNat + mode * 0x10000 + c.toNat * 0x1000000) 17 16 = mode := by
  have := g.isLt
  simp only [bits]
  omega

end Fields

theorem fenceWord_token (t : BitVec 8) : bits (t.toNat + 0x100) 7 0 = t.toNat := by
  have := t.isLt
  simp only [bits]
  omega

theorem fenceWord_waits (t : BitVec 8) : bitAt (t.toNat + 0x100) 8 = true := by
  have := t.isLt
  simp only [bitAt, beq_iff_eq]
  omega

theorem fenceWord_signals (t : BitVec 8) : bitAt t.toNat 8 = false := by
  have := t.isLt
  simp only [bitAt, beq_eq_false_iff_ne]
  omega

theorem bits_fin {k : Nat} (v : Fin (2 ^ (k + 1))) : bits v.val k 0 = v.val := by
  simp [bits, Nat.mod_eq_of_lt v.isLt]

theorem bits_toNat {n : Nat} (v : BitVec (n + 1)) : bits v.toNat n 0 = v.toNat := by
  simp [bits]

/-! ### What each opcode starts (R358) -/

namespace Work

section StartJob
variable (w : Work) (h : JobHead) (ws : List Nat)

theorem startJob_graph : w.startJob (jobRef h 1) ws =
    if bits (wd ws 4) 17 16 = 0 then
      let r := w.graphBind (bits (wd ws 4) 15 0) (bits (wd ws 4) 31 24)
      r.1.complete (jobRef h 1) r.2
    else if bits (wd ws 4) 17 16 = 1 then
      let r := w.graphTrigger (jobRef h 1) (bits (wd ws 4) 15 0) (bits (wd ws 4) 31 24)
      match r.2 with
      | some st => r.1.complete (jobRef h 1) st
      | none => r.1
    else
      let r := w.graphUnbind (bits (wd ws 4) 15 0) (bits (wd ws 4) 31 24)
      r.1.complete (jobRef h 1) r.2 := by
  unfold startJob jobRef
  dsimp only
  rcases bits (wd ws 4) 17 16 with _ | _ | n <;> rfl

theorem startJob_copy : w.startJob (jobRef h 2) ws = w.copyJob (jobRef h 2) ws := rfl

theorem startJob_model : w.startJob (jobRef h 3) ws = w.loadStart ⟨some (jobRef h 3), false, some (bits (wd ws 4) 9 0), 0, 0⟩ := rfl

theorem startJob_params : w.startJob (jobRef h 4) ws =
    let r := w.paramPost ((ws.drop 4).take 8)
    r.1.complete (jobRef h 4) r.2 := rfl

theorem startJob_container : w.startJob (jobRef h 5) ws = w.loadStart ⟨some (jobRef h 5), false, none, wd64 ws 6, wd ws 4⟩ := rfl

theorem startJob_fence : w.startJob (jobRef h 6) ws =
    if bitAt (wd ws 4) 8 then w.fenceWait (jobRef h 6) (bits (wd ws 4) 7 0) (wd ws 5) (wd ws 6)
    else (w.fenceSignal (bits (wd ws 4) 7 0) (wd ws 5)).complete (jobRef h 6) stOk := rfl

theorem startJob_snap : w.startJob (jobRef h 7) ws =
    let r := w.counterSnap (some (jobRef h 7)) (bits (wd ws 4) 15 0) (wd64 ws 6)
    match r.2 with
    | some st => r.1.complete (jobRef h 7) st
    | none => r.1 := rfl

theorem startJob_createQueue : w.startJob (jobRef h 0x40) ws = (w.createQueue ws).1.complete (jobRef h 0x40) (w.createQueue ws).2 := rfl

theorem startJob_deleteQueue : w.startJob (jobRef h 0x41) ws =
    let r := w.deleteQueue (bits (wd ws 4) 15 0) (jobRef h 0x41)
    if r.2 = stOk then r.1 else r.1.complete (jobRef h 0x41) r.2 := rfl

theorem startJob_attest : w.startJob (jobRef h 0x42) ws =
    let r := w.attest (bits (wd ws 4) 7 0) (wd64 ws 6) (wd ws 8)
    r.1.complete (jobRef h 0x42) r.2.1 r.2.2 := rfl

theorem startJob_otpRead : w.startJob (jobRef h 0x43) ws =
    let r := w.otpRecordRead (bits (wd ws 4) 15 0) (wd64 ws 6) (wd ws 8)
    r.1.complete (jobRef h 0x43) r.2.1 r.2.2 := rfl

theorem startJob_unitReset : w.startJob (jobRef h 0x44) ws =
    let r := w.unitReset (bits (wd ws 4) 7 0) (some (jobRef h 0x44))
    match r.2 with
    | some st => r.1.complete (jobRef h 0x44) st
    | none => r.1 := rfl

end StartJob

section Payload
variable (w v : Work) (h : JobHead)

theorem startJob_graph_entry (g : BitVec 16) (c : BitVec 8) {mode : Nat} (hmode : mode < 4) :
    v.startJob (jobRef h 1) (w.entryWords16 h 1 [g.toNat + mode * 0x10000 + c.toNat * 0x1000000]) =
    if mode = 0 then (v.graphBind g.toNat c.toNat).1.complete (jobRef h 1) (v.graphBind g.toNat c.toNat).2
    else if mode = 1 then
      match (v.graphTrigger (jobRef h 1) g.toNat c.toNat).2 with
      | some st => (v.graphTrigger (jobRef h 1) g.toNat c.toNat).1.complete (jobRef h 1) st
      | none => (v.graphTrigger (jobRef h 1) g.toNat c.toNat).1
    else (v.graphUnbind g.toNat c.toNat).1.complete (jobRef h 1) (v.graphUnbind g.toNat c.toNat).2 := by
  rw [startJob_graph, entryWord_first, graphWord_graph g c mode, graphWord_context g c mode hmode, graphWord_mode g c mode hmode] <;> rfl

theorem startJob_copy_entry (n : Fin 512) (a : BitVec 64) : v.startJob (jobRef h 2) (w.entryWords16 h 2 ([n.val, 0] ++ lohi a.toNat)) =
    { v with d := { v.d with cpy := { v.d.cpy with waiting := v.d.cpy.waiting ++ [⟨1, some (jobRef h 2), 0, 0, [], a.toNat, n.val, v.now⟩] } } } := by
  have hchain : wd64 (w.entryWords16 h 2 ([n.val, 0] ++ lohi a.toNat)) 6 = a.toNat := wd64_lohi a
  have hcount : bits (wd (w.entryWords16 h 2 ([n.val, 0] ++ lohi a.toNat)) 4) 8 0 = n.val := bits_fin (k := 8) n
  rw [startJob_copy, copyJob, hchain, hcount]

theorem startJob_model_entry (m : Fin 1024) :
    v.startJob (jobRef h 3) (w.entryWords16 h 3 [m.val]) = v.loadStart ⟨some (jobRef h 3), false, some m.val, 0, 0⟩ := by
  have hmodel : bits (wd (w.entryWords16 h 3 [m.val]) 4) 9 0 = m.val := bits_fin (k := 9) m
  rw [startJob_model, hmodel]

theorem startJob_params_entry (r : Vector (BitVec 32) 8) : v.startJob (jobRef h 4) (w.entryWords16 h 4 (r.toList.map BitVec.toNat)) =
    (v.paramPost (r.toList.map BitVec.toNat)).1.complete (jobRef h 4) (v.paramPost (r.toList.map BitVec.toNat)).2 := by
  rw [startJob_params, paramWords]

theorem startJob_container_entry (a : BitVec 64) (n : BitVec 32) : v.startJob (jobRef h 5) (w.entryWords16 h 5 ([n.toNat, 0] ++ lohi a.toNat)) =
    v.loadStart ⟨some (jobRef h 5), false, none, a.toNat, n.toNat⟩ := by
  have haddr : wd64 (w.entryWords16 h 5 ([n.toNat, 0] ++ lohi a.toNat)) 6 = a.toNat := wd64_lohi a
  rw [startJob_container, haddr] <;> rfl

theorem startJob_signal_entry (t : BitVec 8) (x : BitVec 32) : v.startJob (jobRef h 6) (w.entryWords16 h 6 [t.toNat, x.toNat, 0]) =
    (v.fenceSignal t.toNat x.toNat).complete (jobRef h 6) stOk := by
  have hword : wd (w.entryWords16 h 6 [t.toNat, x.toNat, 0]) 4 = t.toNat := rfl
  rw [startJob_fence, hword, fenceWord_signals, bits_toNat (n := 7)] <;> rfl

theorem startJob_wait_entry (t : BitVec 8) (x n : BitVec 32) : v.startJob (jobRef h 6) (w.entryWords16 h 6 [t.toNat + 0x100, x.toNat, n.toNat]) =
    v.fenceWait (jobRef h 6) t.toNat x.toNat n.toNat := by
  have hword : wd (w.entryWords16 h 6 [t.toNat + 0x100, x.toNat, n.toNat]) 4 = t.toNat + 0x100 := rfl
  rw [startJob_fence, hword, fenceWord_waits, fenceWord_token] <;> rfl

theorem startJob_snap_entry (id : BitVec 16) (tb : BitVec 64) : v.startJob (jobRef h 7) (w.entryWords16 h 7 ([id.toNat, 0] ++ lohi tb.toNat)) =
    match (v.counterSnap (some (jobRef h 7)) id.toNat tb.toNat).2 with
    | some st => (v.counterSnap (some (jobRef h 7)) id.toNat tb.toNat).1.complete (jobRef h 7) st
    | none => (v.counterSnap (some (jobRef h 7)) id.toNat tb.toNat).1 := by
  have htb : wd64 (w.entryWords16 h 7 ([id.toNat, 0] ++ lohi tb.toNat)) 6 = tb.toNat := wd64_lohi tb
  have hid : bits (wd (w.entryWords16 h 7 ([id.toNat, 0] ++ lohi tb.toNat)) 4) 15 0 = id.toNat := bits_toNat (n := 15) id
  rw [startJob_snap, hid, htb] <;> rfl

theorem startJob_deleteQueue_entry (q : BitVec 16) : v.startJob (jobRef h 0x41) (w.entryWords16 h 0x41 [q.toNat]) =
    if (v.deleteQueue q.toNat (jobRef h 0x41)).2 = stOk then (v.deleteQueue q.toNat (jobRef h 0x41)).1
    else (v.deleteQueue q.toNat (jobRef h 0x41)).1.complete (jobRef h 0x41) (v.deleteQueue q.toNat (jobRef h 0x41)).2 := by
  have hq : bits (wd (w.entryWords16 h 0x41 [q.toNat]) 4) 15 0 = q.toNat := bits_toNat (n := 15) q
  rw [startJob_deleteQueue, hq]

theorem startJob_attest_entry (r : BitVec 8) (a : BitVec 64) (n : BitVec 32) :
    v.startJob (jobRef h 0x42) (w.entryWords16 h 0x42 ([r.toNat, 0] ++ lohi a.toNat ++ [n.toNat])) =
    (v.attest r.toNat a.toNat n.toNat).1.complete (jobRef h 0x42) (v.attest r.toNat a.toNat n.toNat).2.1 (v.attest r.toNat a.toNat n.toNat).2.2 := by
  have hbuf : wd64 (w.entryWords16 h 0x42 ([r.toNat, 0] ++ lohi a.toNat ++ [n.toNat])) 6 = a.toNat := wd64_lohi a
  have hreport : bits (wd (w.entryWords16 h 0x42 ([r.toNat, 0] ++ lohi a.toNat ++ [n.toNat])) 4) 7 0 = r.toNat := bits_toNat (n := 7) r
  rw [startJob_attest, hbuf, hreport] <;> rfl

theorem startJob_otpRead_entry (f : BitVec 16) (a : BitVec 64) (n : BitVec 32) :
    v.startJob (jobRef h 0x43) (w.entryWords16 h 0x43 ([f.toNat, 0] ++ lohi a.toNat ++ [n.toNat])) =
    (v.otpRecordRead f.toNat a.toNat n.toNat).1.complete (jobRef h 0x43) (v.otpRecordRead f.toNat a.toNat n.toNat).2.1
      (v.otpRecordRead f.toNat a.toNat n.toNat).2.2 := by
  have hbuf : wd64 (w.entryWords16 h 0x43 ([f.toNat, 0] ++ lohi a.toNat ++ [n.toNat])) 6 = a.toNat := wd64_lohi a
  have hfirst : bits (wd (w.entryWords16 h 0x43 ([f.toNat, 0] ++ lohi a.toNat ++ [n.toNat])) 4) 15 0 = f.toNat := bits_toNat (n := 15) f
  rw [startJob_otpRead, hbuf, hfirst] <;> rfl

theorem startJob_unitReset_entry (u : BitVec 8) : v.startJob (jobRef h 0x44) (w.entryWords16 h 0x44 [u.toNat]) =
    match (v.unitReset u.toNat (some (jobRef h 0x44))).2 with
    | some st => (v.unitReset u.toNat (some (jobRef h 0x44))).1.complete (jobRef h 0x44) st
    | none => (v.unitReset u.toNat (some (jobRef h 0x44))).1 := by
  have hu : bits (wd (w.entryWords16 h 0x44 [u.toNat]) 4) 7 0 = u.toNat := bits_toNat (n := 7) u
  rw [startJob_unitReset, hu] <;> rfl

end Payload

end Work

/-- A job given with its entry does what its opcode starts. -/
theorem does_job {i : Instr} {s : State} {h : JobHead} {op : Nat} {payload : List Nat} {g : Work → Work} (hstarts : JobStarts s h op payload)
    (hexec : exec i s = .next (s.act fun w => w.submit h op payload))
    (hjob : (startEntry (start s) h op payload).startJob (jobRef h op) ((start s).entryWords16 h op payload) = g (start s)) : Does i s g :=
  does_act hstarts.1 hexec ((submit_starts hstarts).trans hjob)

/-- Settles O18: each entry's words are those its opcode's start reads back. -/
theorem graphAndDataJobs : Obligations.GraphAndDataJobs := by
  intro s h
  refine ⟨fun g c hstarts => ?bind, fun g c hstarts => ?trigger, fun g c hstarts => ?unbind, fun n a hstarts => ?copy, fun m hstarts => ?model,
    fun r hstarts => ?params, fun a n hstarts => ?container⟩ <;> refine does_job hstarts rfl ?_
  case bind => exact startJob_graph_entry _ _ h g c (mode := 0) (by decide)
  case trigger => exact startJob_graph_entry _ _ h g c (mode := 1) (by decide)
  case unbind => exact startJob_graph_entry _ _ h g c (mode := 2) (by decide)
  case copy => exact startJob_copy_entry _ _ h n a
  case model => exact startJob_model_entry _ _ h m
  case params => exact startJob_params_entry _ _ h r
  case container => exact startJob_container_entry _ _ h a n

/-- Settles O19: each entry's words are those its opcode's start reads back. -/
theorem fenceAndAdminJobs : Obligations.FenceAndAdminJobs := by
  intro s h
  refine ⟨fun t v hstarts => ?signal, fun t v n hstarts => ?wait, fun id tb hstarts => ?snap, fun r hstarts => ?create, fun q hstarts => ?delete,
    fun r a n hstarts => ?attest, fun f a n hstarts => ?otp, fun u hstarts => ?reset⟩ <;> refine does_job hstarts rfl ?_
  case signal => exact startJob_signal_entry _ _ h t v
  case wait => exact startJob_wait_entry _ _ h t v n
  case snap => exact startJob_snap_entry _ _ h id tb
  case create => exact startJob_createQueue ..
  case delete => exact startJob_deleteQueue_entry _ _ h q
  case attest => exact startJob_attest_entry _ _ h r a n
  case otp => exact startJob_otpRead_entry _ _ h f a n
  case reset => exact startJob_unitReset_entry _ _ h u

end Sys2Proof.Machine
end

section
/-! PROOF. Memory care: the patrol scrub, LPDDR5X tracking and retraining, evacuation, and copy chains (R73, R299, R300, R318 to R321, R379 to R384). -/

namespace Sys2Proof.Machine

open Config Work

namespace Work

/-! ### The patrol scrub (R297, R299, R300) -/

/-- The scrubber's place and its count of corrected errors after a row of a memory. -/
def scrubbed (w : Work) (mem row next found : Nat) : Work :=
  { w with d := { w.d with ecc := { w.d.ecc with scrub := tset 0 w.d.ecc.scrub mem next, fixes := tset 0 w.d.ecc.fixes (mem * 65536 + row) found } } }

section Scrub
variable {w : Work} {mem fixed row found : Nat}

theorem eccFixed_tile {c : Nat} (hmem : mem < 68) (hcore : w.logicalOf mem = some c) (hrow : row < 4096) :
    w.eccFixed (scrubAddr mem row) fixed =
      (((w.add Reg.ASH_TS_CNT_ECC_FIXED fixed c).wr Reg.TS_LAST_ECC_OFFSET (row * 128) c).wr Reg.TS_LAST_ECC_UNCORR 0 c).wr Reg.TS_LAST_ECC_TB w.now c := by
  have haddr : scrubAddr mem row = 0x4200000000 + mem * 0x80000 + row * 128 := if_pos hmem
  have hin : inPhysTiles (scrubAddr mem row) 1 = true := by rw [haddr, inPhysTiles, decide_eq_true_iff]; omega
  have htile : (scrubAddr mem row - 0x4200000000) / 0x80000 = mem := by rw [haddr]; omega
  have hoff : (scrubAddr mem row - 0x4200000000) % 0x80000 = row * 128 := by rw [haddr]; omega
  rw [eccFixed, if_pos hin, htile, hcore, hoff]

theorem scrubRows_bytes (hmem : 68 ≤ mem) : scrubRows mem * scrubBytes mem = 0x1000000 := by
  unfold scrubRows scrubBytes
  split_ifs <;> omega

theorem eccFixed_slab (hmem : 68 ≤ mem) (hlast : mem < 104) (hrow : row < scrubRows mem) :
    w.eccFixed (scrubAddr mem row) fixed =
      (((w.add Reg.QRY_CNT_ECC_FIXED fixed (mem - 68)).wr Reg.SLAB_LAST_ECC_OFFSET (row * scrubBytes mem) (mem - 68)).wr Reg.SLAB_LAST_ECC_UNCORR 0
        (mem - 68)).wr Reg.SLAB_LAST_ECC_TB w.now (mem - 68) := by
  have haddr : scrubAddr mem row = 0x4000000000 + (mem - 68) * 0x1000000 + row * scrubBytes mem := if_neg hmem.not_gt
  have hbytes : row * scrubBytes mem < 0x1000000 := by
    rw [← scrubRows_bytes hmem]
    exact Nat.mul_lt_mul_of_pos_right hrow (by unfold scrubBytes; split_ifs <;> decide)
  have hout : ¬ inPhysTiles (scrubAddr mem row) 1 = true := by rw [haddr, inPhysTiles, decide_eq_true_iff]; omega
  have hin : inQuarry (scrubAddr mem row) 1 = true := by rw [haddr, inQuarry, decide_eq_true_iff]; omega
  have hslab : slabOf (scrubAddr mem row) = mem - 68 := by rw [haddr, slabOf]; omega
  have hoff : (scrubAddr mem row - 0x4000000000) % 0x1000000 = row * scrubBytes mem := by rw [haddr]; omega
  rw [eccFixed, if_neg hout, if_pos hin, hslab, hoff]

theorem patrolScrub_off {c : Nat} {bad : List Nat} (hmem : mem < 68) (hcore : w.logicalOf mem = some c) (hoff : w.rd Reg.TS_SCRUB_EN c ≠ 1) :
    w.patrolScrub mem fixed bad = w := by
  unfold patrolScrub
  simp only [if_pos hmem, hcore, on_eq_false hoff]
  exact if_pos rfl

theorem patrolScrub_slab_off {bad : List Nat} (hmem : 68 ≤ mem) (hoff : w.rd Reg.QRY_SCRUB_EN ≠ 1) : w.patrolScrub mem fixed bad = w := by
  unfold patrolScrub
  simp only [if_neg hmem.not_gt, on_eq_false hoff]
  exact if_pos rfl

theorem patrolScrub_tile {c : Nat} (hmem : mem < 68) (hcore : w.logicalOf mem = some c) (hon : w.rd Reg.TS_SCRUB_EN c = 1)
    (hrow : row = tget 0 w.d.ecc.scrub mem) (hfound : found = tget 0 w.d.ecc.fixes (mem * 65536 + row) + fixed) (hmore : row < 4095) (hfixed : fixed ≠ 0) :
    w.patrolScrub mem fixed [] =
      let v := w.scrubbed mem row (row + 1) found
      let v := (((v.add Reg.ASH_TS_CNT_ECC_FIXED fixed c).wr Reg.TS_LAST_ECC_OFFSET (row * 128) c).wr Reg.TS_LAST_ECC_UNCORR 0 c).wr Reg.TS_LAST_ECC_TB w.now c
      if 3 ≤ found then v.spareRow mem row else v := by
  have hrows : ¬ scrubRows mem ≤ row + 1 := by rw [scrubRows, if_pos hmem]; omega
  have hecc := eccFixed_tile (w := w.scrubbed mem row (row + 1) found) (fixed := fixed) hmem hcore (hmore.trans (by decide))
  have hspare : (3 ≤ found ∧ 0 < fixed) = (3 ≤ found) := by simp [Nat.pos_of_ne_zero hfixed]
  unfold patrolScrub
  simp only [if_pos hmem, hcore, on_eq_true hon, ← hrow, ← hfound, decide_eq_false hrows, if_neg hfixed, List.filter_nil, List.foldl_nil, hspare,
    Bool.not_false, if_true, Bool.false_eq_true, if_false]
  rw [if_neg (by simp; omega)]
  exact congrArg (fun v => if 3 ≤ found then v.spareRow mem row else v) hecc

theorem patrolScrub_slab (hmem : 68 ≤ mem) (hlast : mem < 104) (hon : w.rd Reg.QRY_SCRUB_EN = 1) (hrow : row = tget 0 w.d.ecc.scrub mem)
    (hfound : found = tget 0 w.d.ecc.fixes (mem * 65536 + row) + fixed) (hmore : row + 1 < scrubRows mem) (hfixed : fixed ≠ 0) :
    w.patrolScrub mem fixed [] =
      let v := w.scrubbed mem row (row + 1) found
      let v := (((v.add Reg.QRY_CNT_ECC_FIXED fixed (mem - 68)).wr Reg.SLAB_LAST_ECC_OFFSET (row * scrubBytes mem) (mem - 68)).wr
        Reg.SLAB_LAST_ECC_UNCORR 0 (mem - 68)).wr Reg.SLAB_LAST_ECC_TB w.now (mem - 68)
      if 3 ≤ found then v.spareRow mem row else v := by
  have hecc := eccFixed_slab (w := w.scrubbed mem row (row + 1) found) (row := row) (fixed := fixed) hmem hlast (by omega)
  have hspare : (3 ≤ found ∧ 0 < fixed) = (3 ≤ found) := by simp [Nat.pos_of_ne_zero hfixed]
  unfold patrolScrub
  simp only [if_neg hmem.not_gt, on_eq_true hon, ← hrow, ← hfound, decide_eq_false hmore.not_ge, if_neg hfixed, List.filter_nil, List.foldl_nil, hspare,
    Bool.not_false, if_true, Bool.false_eq_true, if_false]
  rw [if_neg (by simp; omega)]
  exact congrArg (fun v => if 3 ≤ found then v.spareRow mem row else v) hecc

/-- The last row of a slab, with one uncorrectable word. -/
theorem patrolScrub_slab_last {k : Nat} (hmem : 68 ≤ mem) (hlast : mem < 104) (hon : w.rd Reg.QRY_SCRUB_EN = 1) (hrow : row = tget 0 w.d.ecc.scrub mem)
    (hend : scrubRows mem ≤ row + 1) (hk : k < scrubBytes mem / 8) :
    w.patrolScrub mem 0 [k] =
      let v := w.scrubbed mem row 0 (tget 0 w.d.ecc.fixes (mem * 65536 + row))
      let v := (v.setPoison (scrubAddr mem row + 8 * k) true).eccReport (scrubAddr mem row + 8 * k)
      ({ v with d := { v.d with ecc := { v.d.ecc with fixes := v.d.ecc.fixes.filter (fun e => decide (e.1 / 65536 ≠ mem)) } } }).inc
        Reg.QRY_CNT_SCRUB_PASSES (mem - 68) := by
  have hwords : [k].filter (fun k => decide (k < scrubBytes mem / 8)) = [k] := by simp [hk]
  unfold patrolScrub
  simp only [if_neg hmem.not_gt, on_eq_true hon, ← hrow, decide_eq_true hend, hwords, List.foldl_cons, List.foldl_nil, Bool.not_true, Bool.false_eq_true,
    if_true, if_false, Nat.add_zero]
  rw [if_neg (by simp; omega)] <;> rfl

end Scrub

/-! ### Refresh, tracking and retraining of LPDDR5X channels (R379, R380, R384) -/

section Channels
variable {w : Work} {ch : Nat}

theorem mr4Poll_newly_hot {rate : Nat} (h : w.d.pwr.mr4Hot.contains ch = false) :
    w.mr4Poll ch rate true =
      let v := w.wr Reg.CH_MR4_RATE rate ch
      ({ v with d := { v.d with pwr := { v.d.pwr with mr4Hot := ch :: v.d.pwr.mr4Hot.filter (fun c => c != ch) } } }).log (uChannel ch) 0 0 rate := by
  unfold mr4Poll
  simp only [h] <;> rfl

theorem dqsTracking_drift (w : Work) (ch drift : Nat) :
    w.dqsTracking ch drift =
      if w.rd Reg.DDR_DRIFT_LIMIT < drift then (w.wr Reg.CH_DRIFT (min 0xFFFF drift) ch).queueRetrain ch else w.wr Reg.CH_DRIFT (min 0xFFFF drift) ch := by
  have hlimit : (w.wr Reg.CH_DRIFT (min 0xFFFF drift) ch).rd Reg.DDR_DRIFT_LIMIT = w.rd Reg.DDR_DRIFT_LIMIT :=
    rd_wr_ne w (by simp only [Fld.key, Reg.DDR_DRIFT_LIMIT, Reg.CH_DRIFT]; omega)
  rw [dqsTracking, hlimit]

theorem retrainExpiry_set (h : w.rd Reg.DDR_RETRAIN_INTERVAL_S ≠ 0) :
    w.retrainExpiry ch = (w.advance (w.rd Reg.CH_LAST_TRAIN_TB ch + w.rd Reg.DDR_RETRAIN_INTERVAL_S * 1000000000)).queueRetrain ch := if_neg h

theorem retrainNow_own (w : Work) (req ch : Nat) : w.retrainNow req true ch = if ch < 32 then w.queueRetrain ch else w.log req := by
  rw [retrainNow, Bool.not_true, Bool.false_or]
  by_cases h : ch < 32
  · rw [if_pos h, if_neg (by simp; omega)]
  · rw [if_neg h, if_pos (by simp; omega)]

theorem trackingSettled_settling (h : w.d.ddr.settling = true) :
    w.trackingSettled = (w.setDdr { w.d.ddr with settling := false }).upTo 32 (fun w k => w.wr Reg.CH_RATE_MTS 8533 k) := by
  rw [trackingSettled, h]
  exact if_neg Bool.false_ne_true

end Channels

/-! ### Evacuation (R381, R382) -/

section Evacuation
variable {w : Work}

/-- With no channel to retire an evacuation goes on as it is. -/
theorem absorbRetire_none (h : w.d.ddr.retire = []) : w.absorbRetire = w := by
  unfold absorbRetire
  rcases w.d.ddr.evac with _ | e
  · rfl
  · simp [h]

theorem evacuationStart_queued {ch : Nat} {rest : List Nat} (hretire : w.d.ddr.retire = []) (hself : w.d.ddr.selfRefresh = false)
    (hevac : w.d.ddr.evac = none) (hqueue : w.d.ddr.queue = ch :: rest) :
    w.evacuationStart =
      let v := (w.setDdr { w.d.ddr with queue := rest }).showQueued
      if v.rd Reg.DDR_RESERVE_FREE = 1 then
        let v := v.setDdr { v.d.ddr with evac := some ⟨ch, .out, false⟩ }
        (((v.wr Reg.DDR_EVAC_CH ch).wr Reg.DDR_EVAC_PERMANENT 0).wr Reg.DDR_EVAC_STRIPES_DONE 0).inc Reg.DDR_CNT_EVACUATIONS
      else v.inc Reg.DDR_CNT_RETRAIN_DEFERRED := by
  unfold evacuationStart
  simp only [absorbRetire_none hretire, hevac, hself, hretire, hqueue, Option.isSome_none, Bool.or_self, Bool.false_eq_true, if_false, on, beq_iff_eq]
  rfl

theorem evacStripe_switch {e : Evac} (hretire : w.d.ddr.retire = []) (hself : w.d.ddr.selfRefresh = false) (hevac : w.d.ddr.evac = some e)
    (hstep : e.step = .out ∨ e.step = .back) :
    w.evacStripe =
      let n := w.rd Reg.DDR_EVAC_STRIPES_DONE + 1
      let v := w.wr Reg.DDR_EVAC_STRIPES_DONE n
      if n < v.channelStripes then v
      else if e.step = .back then
        ((((v.setDdr { v.d.ddr with evac := none }).wr Reg.CH_EVACUATED 0 e.ch).wr Reg.CH_IN_SERVICE 1 e.ch).wr Reg.DDR_EVAC_CH 0xFF).inc Reg.DDR_CH_CNT_RETRAINS e.ch
      else if e.permanent = true then v.channelRetired e.ch
      else ((v.setDdr { v.d.ddr with evac := some { e with step := .training } }).wr Reg.CH_EVACUATED 1 e.ch).wr Reg.CH_IN_SERVICE 0 e.ch := by
  unfold evacStripe
  simp only [absorbRetire_none hretire, hevac, hself]
  rcases hstep with hstep | hstep <;> simp only [hstep]
  · rfl
  · rfl

theorem channelTrained_training {e : Evac} (hretire : w.d.ddr.retire = []) (hevac : w.d.ddr.evac = some e) (hstep : e.step = .training) :
    w.channelTrained =
      let v := ((w.wr Reg.CH_DRIFT 0 e.ch).wr Reg.CH_LAST_TRAIN_TB w.now e.ch).wr Reg.DDR_EVAC_STRIPES_DONE 0
      v.setDdr { v.d.ddr with evac := some { e with step := .back } } := by
  unfold channelTrained
  simp only [absorbRetire_none hretire, hevac]
  exact if_neg (not_not.mpr hstep)

end Evacuation

/-! ### Copy engines (R73, R318, R321) -/

section Copies
variable {w : Work} {u : Nat} {c : Chain}

theorem copyStart_choice (hbusy : w.rd Reg.CP_BUSY (u - 0x76) ≠ 1) (hserves : w.isRetired u = false) (hsound : w.soundingOn u = false)
    (hchoice : w.chainChoice u = some c) : w.copyStart u = w.copyTake u c := by
  rw [copyStart, if_neg (by simp [on_eq_false hbusy, hserves, hsound]), hchoice]

/-- Descriptors run one after another: what they leave, and whether one of them met poison. -/
def runDescs (u : Nat) (ds : List CpDesc) (acc : Work × Bool) : Work × Bool :=
  ds.foldl (fun acc d => ((acc.1.runDesc u d).1, acc.2 || (acc.1.runDesc u d).2)) acc

theorem runChain_descs (w : Work) (u : Nat) (ds : List CpDesc) :
    w.runChain u ds =
      let r := runDescs u ds (w.reach ((w.eng u).since + (ds.map CpDesc.cycles).sum), false)
      let size := fun (d : CpDesc) => d.e * d.ext.foldl (· * ·) 1
      let v := (r.1.add Reg.VIS_CP_CNT_DESCRIPTORS ds.length (u - 0x76)).add Reg.VIS_CP_CNT_SLOW (ds.countP (fun d => !d.fast)) (u - 0x76)
      let moves := ds.countP (fun d => !d.fill && d.linear && spansMeet (cpFoot d.e d.src d.ext d.ss) (cpFoot d.e d.dst d.ext d.ds))
      let v := (v.add Reg.VIS_CP_CNT_MOVES moves (u - 0x76)).add Reg.VIS_CP_CNT_WRITE_BYTES (ds.map size).sum (u - 0x76)
      (v.add Reg.VIS_CP_CNT_READ_BYTES ((ds.filter (fun d => !d.fill)).map size).sum (u - 0x76), r.2) := by
  have hfold : ∀ (ds : List CpDesc) (k : Nat) (acc : Work × Bool),
      (ds.zipIdx k).foldl (fun (acc : Work × Bool) d =>
        (if (none : Option Nat) = some d.2 then (acc.1.runDesc u d.1).1.poisonRuns d.1 else (acc.1.runDesc u d.1).1,
          acc.2 || (acc.1.runDesc u d.1).2 || (none : Option Nat) == some d.2)) acc = runDescs u ds acc := by
    intro ds
    induction ds with
    | nil => exact fun _ _ => rfl
    | cons d ds ih =>
      intro k acc
      simp only [List.zipIdx_cons, List.foldl_cons]
      rw [ih]
      simp [runDescs]
  unfold runChain
  dsimp only
  rw [hfold]

theorem copyComplete_copies {ds : List CpDesc} {bad : Bool} (hchain : w.chainOf u = some c) (hkind : c.kind ≠ 2) (hds : ds = c.descs.map cpDesc)
    (hbad : bad = (runDescs u ds (w.reach ((w.eng u).since + (ds.map CpDesc.cycles).sum), false)).2) :
    w.copyComplete u =
      let v := (runDescs u ds (w.reach ((w.eng u).since + (ds.map CpDesc.cycles).sum), false)).1
      let size := fun (d : CpDesc) => d.e * d.ext.foldl (· * ·) 1
      let v := (v.add Reg.VIS_CP_CNT_DESCRIPTORS ds.length (u - 0x76)).add Reg.VIS_CP_CNT_SLOW (ds.countP (fun d => !d.fast)) (u - 0x76)
      let moves := ds.countP (fun d => !d.fill && d.linear && spansMeet (cpFoot d.e d.src d.ext d.ss) (cpFoot d.e d.dst d.ext d.ds))
      let v := (v.add Reg.VIS_CP_CNT_MOVES moves (u - 0x76)).add Reg.VIS_CP_CNT_WRITE_BYTES (ds.map size).sum (u - 0x76)
      let v := (v.add Reg.VIS_CP_CNT_READ_BYTES ((ds.filter (fun d => !d.fill)).map size).sum (u - 0x76)).inc Reg.VIS_CP_CNT_CHAINS (u - 0x76)
      let v := v.wr Reg.CP_CUR_DESC (ds.length - 1) (u - 0x76)
      (if c.kind = 0 then v.modNode c.run c.node (fun x => { x with tile := ds.length }) else v).endChain u c
        (if bad then stEccUncorrectable else if ds.any (fun d => !d.fast) then stMisalignedSlow else stOk) 0 := by
  subst hds hbad
  unfold copyComplete
  simp only [hchain, runChain_descs]
  exact if_neg hkind

theorem copyComplete_fill {r : GRun} {ws : List (Nat × List Byte)} (hchain : w.chainOf u = some c) (hkind : c.kind = 2) (hrun : w.grun? c.run = some r)
    (hws : ws = w.fillStores u r c.node) :
    w.copyComplete u =
      let v := (ws.foldl (fun w x => (w.store x.1 x.2).countBytes u x.1 x.2.length true) w).countRmw (ws.map (fun x => (x.1, x.2.length)))
      (((v.inc Reg.VIS_CP_CNT_CHAINS (u - 0x76)).inc Reg.VIS_CP_CNT_FILLS (u - 0x76)).add Reg.VIS_CP_CNT_WRITE_BYTES (ws.map (fun x => x.2.length)).sum
        (u - 0x76)).endChain u c stOk 0 := by
  subst hws
  unfold copyComplete
  simp only [hchain, hrun]
  exact if_pos hkind

end Copies

end Work

/-! ### The commands -/

/-- Settles O20: rows scrubbed with corrected errors or one that is not, and each step of a channel's care. Log entry 66 names the choices. -/
theorem memoryCare : Obligations.MemoryCare := by
  refine ⟨⟨?tile, ?tileOff, fun s mem fixed hr hmem => ⟨fun bad hoff => ?slabOff, ?slab, ?slabLast⟩⟩, fun s ch hr => ⟨?mr4, fun bank => ?refresh,
    fun drift => ?drift, fun hset => ?interval, fun req n hw => ?now, fun hsettling => ?settled⟩⟩
  case tile =>
    intro s mem fixed c row found hr hmem hcore hon hrow hfound hmore hfixed
    exact does_act hr rfl (patrolScrub_tile hmem hcore hon hrow hfound hmore hfixed)
  case tileOff =>
    intro s mem fixed c bad hr hmem hcore hoff
    exact does_act hr rfl (patrolScrub_off hmem hcore hoff)
  case slabOff => exact does_act hr rfl (patrolScrub_slab_off hmem hoff)
  case slab =>
    intro row found hon hrow hfound hmore hfixed
    exact does_act hr rfl (patrolScrub_slab hmem mem.isLt hon hrow hfound hmore hfixed)
  case slabLast =>
    intro row k hon hrow hend hk
    exact does_act hr rfl (patrolScrub_slab_last hmem mem.isLt hon hrow hend hk)
  case mr4 => exact fun rate hcool => does_act hr rfl (mr4Poll_newly_hot hcool)
  case refresh => exact does_act hr rfl rfl
  case drift => exact does_act hr rfl (dqsTracking_drift _ ch drift)
  case interval => exact does_act hr rfl (retrainExpiry_set hset)
  case now => exact does_actWriter hr hw rfl (retrainNow_own _ _ _)
  case settled => exact does_act hr rfl (trackingSettled_settling hsettling)

/-- Settles O21: a chain is taken as its order gives it, copies run in their order, and a fill chain stores what its node's fill is, which is log entry 28's
choice. -/
theorem copyChains : Obligations.CopyChains := by
  intro s e c hr
  have hi : 0x76 + e.val - 0x76 = e.val := by omega
  refine ⟨fun hbusy hserves hsound hchoice => ?start, fun ds bad hsound hchain hkind hds hbad => ?copies, fun r ws hsound hchain hkind hrun hws => ?fill⟩
  case start => exact does_act hr rfl (copyStart_choice (by rw [hi]; exact hbusy) hserves hsound hchoice)
  case copies =>
    have hcopies := copyComplete_copies hchain hkind hds hbad
    rw [hi] at hcopies
    exact does_act hr rfl ((unlessHeld_free hsound _).trans hcopies)
  case fill =>
    have hfill := copyComplete_fill hchain hkind hrun hws
    rw [hi] at hfill
    exact does_act hr rfl ((unlessHeld_free hsound _).trans hfill)

/-- Settles O22: one step of an evacuation for retraining at a time, with no channel to retire. -/
theorem channelEvacuation : Obligations.ChannelEvacuation := by
  intro s hr hretire hself
  refine ⟨fun ch rest hevac hqueue => ?start, fun e hevac hstep => ?stripe, fun e hevac hstep => ?trained⟩
  case start => exact does_act hr rfl (evacuationStart_queued hretire hself hevac hqueue)
  case stripe => exact does_act hr rfl (evacStripe_switch hretire hself hevac hstep)
  case trained => exact does_act hr rfl (channelTrained_training hretire hevac hstep)

end Sys2Proof.Machine
end

section
/-! PROOF. The queue engine: doorbells, fetches, completions, stalls, fences and deletion (R352 to R361, R367, R371). -/

namespace Sys2Proof.Machine

open Config Work

namespace Work

/-! ### Doorbells and fetches (R352, R355, R367) -/

section Fetch
variable {w : Work} {q : Nat}

theorem completionDoorbell_unstalled {v : Nat} (h : w.rd Reg.QE_Q_STALL_TB q = 0) :
    w.completionDoorbell q v =
      let size := 2 ^ (w.queue q).cqLog2
      if w.dbDead q = true ∨ size ≤ low 16 v ∨ w.cqUsed q < (low 16 v + size - w.rd Reg.Q_CQ_HEAD q) % size then (w.inc Reg.QE_CNT_DB_BAD).log uHost q
      else w.wr Reg.Q_CQ_HEAD (low 16 v) q := by
  unfold completionDoorbell
  simp only [h, ne_eq, not_true_eq_false, decide_false, Bool.false_and, Bool.false_eq_true, if_false]
  rfl

/-- A fetch grant under no perturbation of fetching. -/
theorem fetchGrant_plain (h : w.perturbs 2 = false ∨ bitAt (w.rd Reg.TST_BP_MASK) 6 = false) :
    w.fetchGrant =
      match if w.d.hif.d3hot then none else w.arbitrate with
      | none => w
      | some (k, gs) =>
        let v := w.setQueue k { w.queue k with
          buf := (w.queue k).buf ++ [⟨false, ⟨k, 0xFFFFFFFF, 0, false⟩, [], w.rd Reg.Q_SQ_HEAD k, .fetching, 0, 0, false, false, none, false⟩] }
        let v := v.setHif { v.d.hif with
          grants := gs, lastQid := if k = 0 then v.d.hif.lastQid else v.d.hif.lastQid.set (v.rd Reg.Q_ARB_CLASS k) k }
        v.wr Reg.Q_SQ_HEAD ((w.rd Reg.Q_SQ_HEAD k + 1) % 2 ^ (w.queue k).sqLog2) k := by
  have hplain : (w.perturbs 2 && bitAt (w.rd Reg.TST_BP_MASK) 6 && w.arbitrate.isSome) = false := by
    rcases h with h | h <;> simp [h]
  unfold fetchGrant
  simp only [hplain, Bool.false_eq_true, if_false, Bool.or_false] <;> rfl

theorem fetchGrant_granted {k : Nat} {gs : List Nat} (h : w.perturbs 2 = false ∨ bitAt (w.rd Reg.TST_BP_MASK) 6 = false) (hd0 : w.d.hif.d3hot = false)
    (hnext : w.arbitrate = some (k, gs)) :
    w.fetchGrant =
      let v := w.setQueue k { w.queue k with
        buf := (w.queue k).buf ++ [⟨false, ⟨k, 0xFFFFFFFF, 0, false⟩, [], w.rd Reg.Q_SQ_HEAD k, .fetching, 0, 0, false, false, none, false⟩] }
      let v := v.setHif { v.d.hif with
        grants := gs, lastQid := if k = 0 then v.d.hif.lastQid else v.d.hif.lastQid.set (v.rd Reg.Q_ARB_CLASS k) k }
      v.wr Reg.Q_SQ_HEAD ((w.rd Reg.Q_SQ_HEAD k + 1) % 2 ^ (w.queue k).sqLog2) k := by
  rw [fetchGrant_plain h, hd0, hnext] <;> rfl

theorem fetchGrant_d3hot (h : w.perturbs 2 = false ∨ bitAt (w.rd Reg.TST_BP_MASK) 6 = false) (hd3 : w.d.hif.d3hot = true) : w.fetchGrant = w := by
  rw [fetchGrant_plain h, hd3] <;> rfl

section Fetched
variable {k : Nat} {e : BufEnt} (hslot : (w.queue q).buf.findIdx? (fun e => decide (e.st = .fetching)) = some k) (hentry : (w.queue q).buf[k]? = some e)
include hslot hentry

theorem entryFetched_timeout :
    w.entryFetched q .timeout = ((w.inc Reg.QE_CNT_CPL_TIMEOUT).log uHost q).setQueue q { w.queue q with
      buf := (w.queue q).buf.set k { e with st := .ready, status := stCompletionTimeout } } := by
  unfold entryFetched
  simp only [hslot, hentry]
  rfl

theorem entryFetched_poisoned :
    w.entryFetched q .poisoned = ((w.inc Reg.QE_CNT_POISON_IN).log uHost q).setQueue q { w.queue q with
      buf := (w.queue q).buf.set k { e with st := .ready, status := stEccUncorrectable } } := by
  unfold entryFetched
  simp only [hslot, hentry]
  rfl

theorem entryFetched_read {v : Work} {st : Nat} {bs : List Byte} (hread : w.readAt uPcie ((w.queue q).sqBase + 64 * e.slot) 64 = (v, st, bs)) :
    w.entryFetched q .none =
      if st ≠ stOk then v.setQueue q { w.queue q with buf := (w.queue q).buf.set k { e with st := .ready, status := st } }
      else
        let ws := bytesWords bs
        let st := v.entryStatus q ws
        v.setQueue q { w.queue q with
          buf := (w.queue q).buf.set k { e with
            job := ⟨q, wd ws 1, bits (wd ws 0) 7 0, bitAt (wd ws 0) 12⟩, words := ws, st := if st = stOk then .checked else .ready, status := st } } := by
  unfold entryFetched
  simp only [hslot, hentry, hread]

end Fetched

end Fetch

/-! ### Completions (R77, R354, R357) -/

section Post
variable {w : Work} {q k : Nat} {e : BufEnt}

/-- What a completion takes at its post are its words alone. -/
theorem emitNow_words (w : Work) (e : BufEnt) : ∃ ws, w.emitNow e = { e with words := ws } := by
  unfold emitNow
  split
  · exact ⟨_, rfl⟩
  · split
    · exact ⟨_, rfl⟩
    · exact ⟨_, rfl⟩

@[simp] theorem emitNow_emit (w : Work) (e : BufEnt) : (w.emitNow e).emit = e.emit := by
  obtain ⟨ws, h⟩ := emitNow_words w e
  rw [h]

@[simp] theorem emitNow_st (w : Work) (e : BufEnt) : (w.emitNow e).st = e.st := by
  obtain ⟨ws, h⟩ := emitNow_words w e
  rw [h]

@[simp] theorem emitNow_irq (w : Work) (e : BufEnt) : (w.emitNow e).irq = e.irq := by
  obtain ⟨ws, h⟩ := emitNow_words w e
  rw [h]

@[simp] theorem emitNow_job (w : Work) (e : BufEnt) : (w.emitNow e).job = e.job := by
  obtain ⟨ws, h⟩ := emitNow_words w e
  rw [h]

theorem findIdx?_modify {α : Type} {p : α → Bool} {f : α → α} (h : ∀ a, p (f a) = p a) (l : List α) (k : Nat) : (l.modify k f).findIdx? p = l.findIdx? p := by
  induction l generalizing k with
  | nil => cases k <;> rfl
  | cons a l ih => cases k <;> simp [List.findIdx?_cons, h, ih]

/-- Posting looks at no entry's words. -/
theorem postable_emitNow (w : Work) (qq : Queue) (k : Nat) : postable { qq with buf := qq.buf.modify k w.emitNow } = postable qq := by
  have hst : ∀ j : Nat, (qq.buf.modify k w.emitNow)[j]?.map BufEnt.st = qq.buf[j]?.map BufEnt.st := by
    intro j
    rw [List.getElem?_modify, Option.map_eq_map, Option.map_map]
    congr 1
    funext e
    dsimp only [Function.comp]
    split <;> simp
  have hjob : (qq.buf.modify k w.emitNow).findIdx? (fun e => !e.emit) = qq.buf.findIdx? (fun e => !e.emit) := findIdx?_modify (by simp) _ _
  have hemit : (qq.buf.modify k w.emitNow).findIdx? (fun e => e.emit) = qq.buf.findIdx? (fun e => e.emit) := findIdx?_modify (by simp) _ _
  unfold postable
  dsimp only
  rw [hjob, hemit]
  generalize qq.buf.findIdx? (fun e => !e.emit) = job
  rcases job with _ | j
  · rfl
  · have := hst j
    dsimp only
    generalize (qq.buf.modify k w.emitNow)[j]? = a at this ⊢
    generalize qq.buf[j]? = b at this ⊢
    rcases a with _ | a <;> rcases b with _ | b <;> simp only [Option.map_none, Option.map_some, Option.some.injEq, reduceCtorEq] at this
    · rfl
    · simp only [this]

/-- The queue whose next completion has taken its words. -/
def postQueue (w : Work) (q k : Nat) : Queue := { w.queue q with buf := (w.queue q).buf.modify k w.emitNow }

section Next
variable (hstate : w.rd Reg.Q_STATE q = 1 ∨ w.rd Reg.Q_STATE q = 3) (hnext : postable (w.queue q) = some k) (hentry : (w.queue q).buf[k]? = some e)
include hstate hnext hentry

theorem postNext_entry :
    w.postNext q =
      let v := w.setQueue q (w.postQueue q k)
      if w.cqFull q then v.cqHeld q
      else
        let tail := w.rd Reg.Q_CQ_TAIL q
        let next := (tail + 1) % 2 ^ (w.postQueue q k).cqLog2
        let v := (v.writeAt uPcie ((w.postQueue q k).cqBase + 16 * tail) (wordsBytes (v.cqWords q (w.postQueue q k) (w.emitNow e)))).1
        let v := v.setQueue q { w.postQueue q k with
          buf := (w.postQueue q k).buf.eraseIdx k, phase := if next = 0 then !(w.postQueue q k).phase else (w.postQueue q k).phase }
        let v := (v.wr Reg.Q_CQ_TAIL next q).wr Reg.QE_Q_STALL_TB 0 q
        let v := if v.cqFull q && !(waitingPosts (v.queue q)).isEmpty then v.cqHeld q else v
        let v := if e.emit then v else (v.inc Reg.QE_CNT_JOBS).inc Reg.QE_Q_CNT_JOBS q
        if (w.postQueue q k).vectorEn && (if e.emit then e.irq else !e.job.noIrq) then v.sendVector (w.postQueue q k).vector else v := by
  have hqueue : (w.setQueue q (w.postQueue q k)).queue q = w.postQueue q k := tget_tset_self _ _ _ _
  have hpost : postable (w.postQueue q k) = some k := (postable_emitNow w (w.queue q) k).trans hnext
  have hent : (w.postQueue q k).buf[k]? = some (w.emitNow e) := by simp [postQueue, hentry]
  have hfull : (w.setQueue q (w.postQueue q k)).cqFull q = w.cqFull q := by
    unfold cqFull cqUsed
    rw [hqueue] <;> rfl
  have hlive : ¬ ((w.setQueue q (w.postQueue q k)).rd Reg.Q_STATE q ≠ qActive ∧ (w.setQueue q (w.postQueue q k)).rd Reg.Q_STATE q ≠ qDeleting) := by
    rw [← not_or, not_not]
    exact hstate
  have hstart : w.postNext q = (w.setQueue q (w.postQueue q k)).completionPost q := by
    rw [postNext, hnext] <;> rfl
  rw [hstart]
  unfold completionPost
  rw [if_neg hlive]
  simp only [hqueue, hpost, hent, hfull, emitNow_emit, emitNow_irq, emitNow_job]
  rfl

theorem postNext_full (hfull : w.cqFull q = true) : w.postNext q = (w.setQueue q (w.postQueue q k)).cqHeld q := by
  rw [postNext_entry hstate hnext hentry]
  exact if_pos hfull

theorem postNext_room (hroom : w.cqFull q = false) :
    w.postNext q =
      let qq := { w.queue q with buf := (w.queue q).buf.modify k w.emitNow }
      let tail := w.rd Reg.Q_CQ_TAIL q
      let next := (tail + 1) % 2 ^ qq.cqLog2
      let v := w.setQueue q qq
      let v := (v.writeAt uPcie (qq.cqBase + 16 * tail) (wordsBytes (v.cqWords q qq (w.emitNow e)))).1
      let v := v.setQueue q { qq with buf := qq.buf.eraseIdx k, phase := if next = 0 then !qq.phase else qq.phase }
      let v := (v.wr Reg.Q_CQ_TAIL next q).wr Reg.QE_Q_STALL_TB 0 q
      let v := if v.cqFull q = true ∧ waitingPosts (v.queue q) ≠ [] then v.cqHeld q else v
      let v := if e.emit = true then v else (v.inc Reg.QE_CNT_JOBS).inc Reg.QE_Q_CNT_JOBS q
      if qq.vectorEn = true ∧ (if e.emit = true then e.irq else !e.job.noIrq) = true then v.sendVector qq.vector else v := by
  rw [postNext_entry hstate hnext hentry]
  simp only [hroom, Bool.false_eq_true, if_false, Bool.and_eq_true, Bool.not_eq_true', List.isEmpty_eq_false_iff]
  rfl

end Next

end Post

/-! ### Starts, stalls, fences and deletion (R355, R357, R360, R361) -/

section Queues
variable {w : Work} {q : Nat}

theorem jobStart_next {k : Nat} {e : BufEnt} (hstate : w.rd Reg.Q_STATE q = 1) (hnext : w.nextJob q = some (k, e)) (haccepts : w.accepts q k e = true) :
    w.jobStart q = (w.setQueue q { w.queue q with buf := (w.queue q).buf.set k { e with st := .started } }).startJob e.job e.words := by
  rw [jobStart, if_neg (not_not.mpr hstate), hnext]
  exact if_neg (by simp [haccepts])

section Stall
variable (hd0 : w.d.hif.d3hot = false) (hstall : w.rd Reg.QE_Q_STALL_TB q ≠ 0) (hfull : w.cqFull q = true)
include hd0 hstall hfull

theorem cqStallTimeout_active (hstate : w.rd Reg.Q_STATE q = 1) :
    w.cqStallTimeout q = ((w.advance (w.stallEnd q)).wr Reg.Q_STATE 2 q).err uPcie stOk q := by
  rw [cqStallTimeout]
  dsimp only
  rw [if_neg (by simp [hd0, hstate, hstall, hfull]), if_pos hstate]

theorem cqStallTimeout_deleting (hstate : w.rd Reg.Q_STATE q = 3) :
    w.cqStallTimeout q =
      ((w.advance (w.stallEnd q)).setQueue q { (w.advance (w.stallEnd q)).queue q with buf := [] }).err uPcie stOk q := by
  rw [cqStallTimeout]
  dsimp only
  rw [if_neg (by simp [hd0, hstate, hstall, hfull]), if_neg (by rw [hstate]; decide)]

end Stall

theorem queueResume_error (h : w.rd Reg.Q_STATE q = 2) : w.queueResume q = (w.wr Reg.Q_STATE 1 q).wr Reg.QE_Q_STALL_TB 0 q := if_neg (not_not.mpr h)

theorem fenceTimeout_due {f : FenceWait} (h : w.d.hif.fences.find? (fun f => f.job.q == q && f.deadline != 0) = some f) :
    w.fenceTimeout q =
      let v := w.advance f.deadline
      (v.setHif { v.d.hif with fences := v.d.hif.fences.filter (fun g => decide (g ≠ f)) }).complete f.job stFlagTimeout := by
  rw [fenceTimeout, h]

theorem deleteQueueDone_empty {j : JobRef} (hstate : w.rd Reg.Q_STATE q = 3) (hempty : (w.queue q).buf = []) (hdeleter : (w.queue q).deleter = some j) :
    w.deleteQueueDone q = (w.queueGone q).complete j stOk := by
  unfold deleteQueueDone
  simp only [hdeleter]
  exact if_neg (by simp [hstate, hempty])

end Queues

end Work

/-! ### The commands -/

/-- Settles O23: doorbells, grants and fetched entries of a queue in any state. Log entries 7 and 84 name the choices. -/
theorem queueFetching : Obligations.QueueFetching := by
  intro s q hr
  refine ⟨fun v => does_act hr rfl rfl, fun v hstall => does_act hr rfl (completionDoorbell_unstalled hstall),
    fun hplain => ⟨fun k gs hd0 hnext => does_act hr rfl (fetchGrant_granted hplain hd0 hnext), fun hd3 => does_act hr rfl (fetchGrant_d3hot hplain hd3)⟩,
    fun k e hslot hentry => ⟨does_act hr rfl (entryFetched_timeout hslot hentry), does_act hr rfl (entryFetched_poisoned hslot hentry), ?good, ?bad⟩⟩
  case good =>
    intro v bs ws hread hws
    subst hws
    exact does_act hr rfl ((entryFetched_read hslot hentry hread).trans (if_neg (not_not.mpr rfl)))
  case bad =>
    intro v st bs hread hst
    exact does_act hr rfl ((entryFetched_read hslot hentry hread).trans (if_pos hst))

/-- Settles O24: what starts, posts, stalls, times out and is deleted in a queue. Log entry 84 names the choices. -/
theorem queueCompletions : Obligations.QueueCompletions := by
  refine ⟨fun s q hr => ⟨?start, ?post, fun hd0 hstall hfull => ⟨fun hstate => ?active, fun hstate => ?deleting⟩, fun req hw hstate => ?resume⟩,
    fun s q hr => ⟨fun f hdue => ?timeout, fun req t v hw => ?write, fun j hstate hempty hdeleter => ?deleted⟩⟩
  case start => exact fun k e hstate hnext haccepts => does_act hr rfl (jobStart_next hstate hnext haccepts)
  case post =>
    intro k e hstate hnext hentry
    exact ⟨fun hfull => does_act hr rfl (postNext_full hstate hnext hentry hfull), fun hroom => does_act hr rfl (postNext_room hstate hnext hentry hroom)⟩
  case active => exact does_act hr rfl (cqStallTimeout_active hd0 hstall hfull hstate)
  case deleting => exact does_act hr rfl (cqStallTimeout_deleting hd0 hstall hfull hstate)
  case resume => exact does_actWriter hr hw rfl (queueResume_error hstate)
  case timeout => exact does_act hr rfl (fenceTimeout_due hdue)
  case write => exact does_actWriter hr hw rfl rfl
  case deleted => exact does_act hr rfl (deleteQueueDone_empty hstate hempty hdeleter)

end Sys2Proof.Machine
end

section
/-! PROOF. Register writes, the loader's checks, and the host interface's set-up, traffic and timebase (R25, R46 to R53, R349, R366 to R369, R400). -/

namespace Sys2Proof.Machine

open Config Work

namespace Work

/-! ### A plain register field (R8, R10, R25) -/

section Field
variable {w : Work} {u off : Nat} {x : FldAt}

theorem putField_plain (h : hooked x.f = false) (v : Nat) : w.putField u x v = w.wr x.f v x.i x.j := by
  simp only [hooked, Bool.or_eq_false_iff, beq_eq_false_iff_ne, ne_eq] at h
  obtain ⟨⟨⟨⟨⟨⟨⟨⟨⟨hport, hdport⟩, hwin⟩, htmr⟩, htst⟩, htb⟩, hmsn⟩, hrpl⟩, hsync⟩, hi3c⟩ := h
  simp only [putField, hport, hdport, hwin, hrpl, htmr, htst, htb, hsync, hi3c, hmsn, if_false, false_and]

/-- The value a field takes of an access: bits of the access replace those it covers. -/
theorem applyField_plain {lo n data v : Nat} (hacc : x.f.acc = .rw) (hhook : hooked x.f = false) (hhold : x.f ≠ Reg.DOM_HOLD)
    (hv : v = mergeBits (low x.f.wid (w.valueOf x)) x.key x.f.wid lo n data) :
    w.applyField u lo n data x = if v ≠ low x.f.wid (w.valueOf x) ∧ w.fieldOk x v = false then (w, true) else (w.wr x.f v x.i x.j, false) := by
  subst hv
  unfold applyField
  simp only [hacc, hhold, false_and, if_false, putField_plain hhook, Bool.and_eq_true, bne_iff_ne, Bool.not_eq_true']

theorem writeFields_one {n data : Nat} (hone : fieldsAt off n = [x]) (hacc : x.f.acc = .rw) (hhook : hooked x.f = false) :
    w.writeFields u off n data =
      if (w.applyField u (8 * off) (8 * n) data x).2 then (w.applyField u (8 * off) (8 * n) data x).1.log u
      else (w.applyField u (8 * off) (8 * n) data x).1 := by
  have horder : writeOrder [x] = [x] := by
    simp [writeOrder, hacc, hhook]
  unfold writeFields
  rw [hone, horder]
  simp

theorem writeFields_plain {data v : Nat} (hone : fieldsAt off 4 = [x]) (hacc : x.f.acc = .rw) (hhook : hooked x.f = false) (hhold : x.f ≠ Reg.DOM_HOLD)
    (hv : v = mergeBits (low x.f.wid (w.valueOf x)) x.key x.f.wid (8 * off) 32 data) :
    w.writeFields u off 4 data = if v ≠ low x.f.wid (w.valueOf x) ∧ w.fieldOk x v = false then w.log u else w.wr x.f v x.i x.j := by
  rw [writeFields_one hone hacc hhook, applyField_plain hacc hhook hhold hv]
  by_cases h : v ≠ low x.f.wid (w.valueOf x) ∧ w.fieldOk x v = false
  · rw [if_pos h, if_pos h]
    exact if_pos rfl
  · rw [if_neg h, if_neg h]
    exact if_neg Bool.false_ne_true

/-- An aligned write of a narrow register outside the doorbells and the test block is a write of that one register. -/
theorem regWriteIn_narrow {data : Nat} (hlive : w.rd Reg.PWR_TRIPPED ≠ 1) (halign : off % 4 = 0) (hregs : off < 0x1000000) (htest : off / 0x100000 ≠ 14)
    (hanswers : w.answers u off = true) : w.regWriteIn u off 4 data = w.writeOne u off 4 (low 32 data) := by
  rw [regWriteIn, if_neg (by simp [on_eq_false hlive]), regWrite, if_neg (by simp [halign]), if_neg hregs.not_ge, if_neg (by simp [htest]),
    if_neg (by simp [hanswers]), if_neg (by simp)]

section One
variable (hfield : fieldsAt off 4 = [x]) (hnarrow : isWide (off / 8 * 8) = false)
include hfield hnarrow

theorem writeOne_refused {data : Nat} (hmay : mayWrite u off = false) : w.writeOne u off 4 data = w.log u := by
  unfold writeOne
  simp only [hnarrow, hfield, hmay, Bool.false_eq_true, if_false]
  rfl

theorem writeOne_plain {data : Nat} (hmay : mayWrite u off = true) (hclaim : w.claimedBy off = none) (hspecial : w.special u off data = none) :
    w.writeOne u off 4 data = w.writeFields u off 4 data := by
  unfold writeOne
  simp only [hnarrow, hfield, hmay, hclaim, hspecial, Bool.false_eq_true, if_false, Bool.false_and, Bool.not_true, List.isEmpty_cons]

end One

end Field

/-! ### The loader (R46 to R53, R453) -/

section Loader
variable {w v : Work} {run : LoadRun} (hrun : w.d.ldr.run = some run)
include hrun

theorem bitstreamStaged_read {fail : FetchFail} {st : Nat} {bs : List Byte} (hphase : run.phase = .staging) (hboot : run.job.boot = false)
    (hread : w.loadRead uKeystone run.job.addr run.job.len fail = (v, st, bs)) :
    w.bitstreamStaged fail = if st ≠ stOk then v.failLoad run.job st else v.stagedChecks run bs := by
  unfold bitstreamStaged
  simp only [hrun, hread]
  exact if_neg (by simp [hphase, hboot])

theorem signatureVerified_bad (hphase : run.phase = .verifying)
    (hbad : w.signed (bits (wd (bytesWords run.staged) 5) 7 0) (run.staged.take (ctTotal (bytesWords run.staged))) = false) :
    w.signatureVerified =
      ((w.inc Reg.SEC_CNT_VERIFY).inc Reg.SEC_CNT_VERIFY_FAIL).refuseLoad run.job ⟨stSigInvalid, 0xFFFF, ctTotal (bytesWords run.staged) - 384, 0xFF⟩ := by
  unfold signatureVerified
  simp only [hrun, hbad, hphase, ne_eq, not_true_eq_false, if_false]
  rfl

theorem signatureVerified_good (hphase : run.phase = .verifying)
    (hgood : w.signed (bits (wd (bytesWords run.staged) 5) 7 0) (run.staged.take (ctTotal (bytesWords run.staged))) = true) :
    w.signatureVerified =
      let v := w.inc Reg.SEC_CNT_VERIFY
      let imgs := (Container.ofWords (bytesWords run.staged)).recs.filter (fun r => r.typ == 9 && r.len != 0)
      match v.lateSteps (bytesWords run.staged) run.job.boot with
      | some f => v.refuseLoad run.job f
      | none => if imgs = [] then v.commitLoad run (bytesWords run.staged)
        else v.setLdr { v.d.ldr with run := some { run with phase := .models, images := imgs } } := by
  have hcount : w.countVerify true = w.inc Reg.SEC_CNT_VERIFY := rfl
  unfold signatureVerified
  simp only [hrun, hgood, hphase, hcount, ne_eq, not_true_eq_false, if_false, Bool.not_true, Bool.false_eq_true, List.isEmpty_iff] <;>
    cases (w.inc Reg.SEC_CNT_VERIFY).lateSteps (bytesWords run.staged) run.job.boot <;> rfl

section Images
variable {r : Region} {rest : List Region} {fail : FetchFail} {st : Nat} {bs : List Byte} (hphase : run.phase = .models) (himages : run.images = r :: rest)
  (hread : w.loadRead uSecurity (wd64 r.words 0) (wd r.words 2) fail = (v, st, bs))
include hphase himages hread

theorem modelImage_unread (hst : st ≠ stOk) : w.modelImageChecked fail = v.refuseImage run r st 0 := by
  unfold modelImageChecked
  simp only [hrun, himages, hread, hphase, ne_eq, not_true_eq_false, if_false]
  exact if_pos hst

theorem modelImage_digest (hst : st = stOk) (hdigest : sha256 bs ≠ wordsBytes ((r.words.drop 4).take 8)) :
    w.modelImageChecked fail = v.refuseImage run r stSigInvalid 16 := by
  unfold modelImageChecked
  simp only [hrun, himages, hread, hphase, hst, ne_eq, not_true_eq_false, if_false]
  exact if_pos hdigest

theorem modelImage_sealed {e : Nat} (hst : st = stOk) (hdigest : sha256 bs = wordsBytes ((r.words.drop 4).take 8)) (hplain : v.imagePlain r bs = .inl e) :
    w.modelImageChecked fail = v.refuseImage run r e 16 := by
  unfold modelImageChecked
  simp only [hrun, himages, hread, hphase, hst, hplain, ne_eq, not_true_eq_false, if_false]
  exact if_neg (not_not.mpr hdigest)

theorem modelImage_taken {img : List Byte} (hst : st = stOk) (hdigest : sha256 bs = wordsBytes ((r.words.drop 4).take 8))
    (hplain : v.imagePlain r bs = .inr img) :
    w.modelImageChecked fail =
      let run' := { run with images := rest, checked := run.checked ++ [(r, img)] }
      if rest ≠ [] then v.setLdr { v.d.ldr with run := some run' }
      else if run.job.model.isSome then
        ((run'.checked.foldl (fun w x => w.placeImage x.1 x.2) v).loadDone run.job stOk 0).loadEnd
      else v.commitLoad run' (bytesWords run.staged) := by
  have hlast : (!rest.isEmpty) = true ↔ rest ≠ [] := by simp
  unfold modelImageChecked
  simp only [hrun, himages, hread, hphase, hst, hplain, ne_eq, not_true_eq_false, if_false, hlast]
  exact if_neg (not_not.mpr hdigest)

end Images

end Loader

/-! ### Set-up of the host interface (R366, R369) -/

theorem aqEnable_valid {w : Work} {req : Nat} (hver : w.rd Reg.QE_ACTIVE_VALID = 1) (hstate : w.rd Reg.Q_STATE 0 = 0)
    (hsq : 6 ≤ w.rd Reg.QE_AQ_SQ_LOG2) (hsq' : w.rd Reg.QE_AQ_SQ_LOG2 ≤ 16) (hcq : 6 ≤ w.rd Reg.QE_AQ_CQ_LOG2) (hcq' : w.rd Reg.QE_AQ_CQ_LOG2 ≤ 16)
    (hsqAlign : w.rd Reg.QE_AQ_SQ_BASE % 64 = 0) (hcqAlign : w.rd Reg.QE_AQ_CQ_BASE % 64 = 0)
    (hsqPlace : w.ringPlace (w.rd Reg.QE_AQ_SQ_BASE) (64 * 2 ^ w.rd Reg.QE_AQ_SQ_LOG2) = true)
    (hcqPlace : w.ringPlace (w.rd Reg.QE_AQ_CQ_BASE) (16 * 2 ^ w.rd Reg.QE_AQ_CQ_LOG2) = true) :
    w.aqEnable req true =
      ((w.setQueue 0 ⟨w.rd Reg.QE_AQ_SQ_BASE, w.rd Reg.QE_AQ_CQ_BASE, w.rd Reg.QE_AQ_SQ_LOG2, w.rd Reg.QE_AQ_CQ_LOG2, w.rd Reg.QE_AQ_VECTOR,
        w.on Reg.QE_AQ_VECTOR_EN, w.rd Reg.QE_STALL_DEFAULT_MS, true, [], 0, none⟩).wr Reg.Q_STATE 1 0).wr Reg.QE_AQ_ENABLE 1 := by
  unfold aqEnable
  dsimp only
  rw [if_neg (by simp), if_neg (by simp [on_eq_true hver]), if_neg (not_not.mpr hstate), if_neg]
  rw [hsqPlace, hcqPlace]
  simp
  omega

/-! ### Host traffic (R349, R367) -/

section Traffic
variable {w : Work} {off n : Nat} {bs : List Byte} (hlive : w.rd Reg.PWR_TRIPPED ≠ 1)

theorem bar2Read_beyond (h : 2 ^ w.d.hif.bar2Log2 < off + n) :
    w.bar2Read off n = w.setHif { w.d.hif with bar2Data := [], bar2Ur := true, bar2Ep := false } := if_pos (.inl h)

theorem bar2Write_beyond {p : Bool} (h : 2 ^ w.d.hif.bar2Log2 < off + bs.length) : w.bar2Write off bs p = w := if_pos (.inl h)

include hlive

theorem bar2Read_within (h : off + n ≤ 2 ^ w.d.hif.bar2Log2) :
    w.bar2Read off n =
      let r := w.readAt uHost (w.bar2Addr off) n
      r.1.setHif { r.1.d.hif with
        bar2Data := r.2.2, bar2Ur := r.2.1 != stOk && r.2.1 != stEccUncorrectable, bar2Ep := r.2.1 == stEccUncorrectable } :=
  if_neg (by simp [on_eq_false hlive, h])

theorem bar2Write_within {p : Bool} (hbytes : bs ≠ []) (h : off + bs.length ≤ 2 ^ w.d.hif.bar2Log2) :
    w.bar2Write off bs p =
      let a := w.bar2Addr off
      let v := if p then (w.writeAt uHost a bs).1.inc Reg.QE_CNT_POISON_IN else (w.writeAt uHost a bs).1
      if p && (w.writeAt uHost a bs).2 == stOk then
        ((List.range ((a + bs.length - 1) / 8 - a / 8 + 1)).foldl (fun w k => w.setPoison (w.storage ((a / 8 + k) * 8)) true) v).err uPcie stOk 0 a
      else v := if_neg (by simp [on_eq_false hlive, h, hbytes])

end Traffic

/-! ### The timebase (R368, R400) -/

section Timebase
variable {w : Work} {off : Int} {good : Nat}

theorem ptmRequest_role (h : w.rd Reg.QE_TB_ROLE = 1) :
    w.ptmRequest =
      let v := if w.d.hif.ptmNext = 0 then w else w.advance w.d.hif.ptmNext
      let v := if v.d.hif.ptmOut = true then v.inc Reg.QE_CNT_PTM_MISSED else v
      v.setHif { v.d.hif with ptmOut := true, ptmAt := v.now, ptmNext := v.now + 1000 * v.rd Reg.QE_TB_PTM_PERIOD_US } := if_neg (not_not.mpr h)

/-- An exchange steps TB or slews it, its step asked for as a flag or as the conditions it stands for. -/
theorem ptm_corrects (v : Work) (off : Int) (good : Nat) :
    (let step := !v.d.hif.ptmDone && v.on Reg.QE_TB_STEP_EN && !v.on Reg.KS_DISPATCH_EN
     let x := v.setHif { v.d.hif with ptmOut := false, ptmGood := good, ptmDone := true, slew := if step then 0 else -(11 * off) }
     if step then { x with d := { x.d with clk := { x.d.clk with tb11 := 11 * ((x.now : Int) - off).toNat } } }.err uPcie stOk 0 0 (wrapInt 32 (-off)) else x) =
      if v.d.hif.ptmDone = false ∧ v.on Reg.QE_TB_STEP_EN = true ∧ v.on Reg.KS_DISPATCH_EN = false then
        let v := v.setHif { v.d.hif with ptmOut := false, ptmGood := good, ptmDone := true, slew := 0 }
        { v with d := { v.d with clk := { v.d.clk with tb11 := 11 * ((v.now : Int) - off).toNat } } }.err uPcie stOk 0 0 (wrapInt 32 (-off))
      else v.setHif { v.d.hif with ptmOut := false, ptmGood := good, ptmDone := true, slew := -(11 * off) } := by
  dsimp only
  by_cases h : v.d.hif.ptmDone = false ∧ v.on Reg.QE_TB_STEP_EN = true ∧ v.on Reg.KS_DISPATCH_EN = false
  · have hstep : (!v.d.hif.ptmDone && v.on Reg.QE_TB_STEP_EN && !v.on Reg.KS_DISPATCH_EN) = true := by simp [h]
    rw [if_pos h, hstep]
    exact if_pos rfl
  · have hslew : (!v.d.hif.ptmDone && v.on Reg.QE_TB_STEP_EN && !v.on Reg.KS_DISPATCH_EN) = false := by
      rw [← Bool.not_eq_true]
      simpa [and_assoc] using h
    rw [if_neg h, hslew]
    exact if_neg Bool.false_ne_true

theorem ptmResponse_offset {m : Nat} (hrole : w.rd Reg.QE_TB_ROLE = 1) (hout : w.d.hif.ptmOut = true)
    (hoff : off = ((w.d.hif.ptmAt + w.now) / 2 : Nat) - (m : Int)) (hgood : good = if off < 50 ∧ -50 < off then w.d.hif.ptmGood + 1 else 0) :
    w.ptmResponse m =
      let v := (w.wr Reg.QE_TB_LAST_OFFSET (wrapInt 32 off)).wr Reg.QE_TB_LOCKED (b2n (decide (8 ≤ good)))
      if v.d.hif.ptmDone = false ∧ v.on Reg.QE_TB_STEP_EN = true ∧ v.on Reg.KS_DISPATCH_EN = false then
        let v := v.setHif { v.d.hif with ptmOut := false, ptmGood := good, ptmDone := true, slew := 0 }
        { v with d := { v.d with clk := { v.d.clk with tb11 := 11 * ((v.now : Int) - off).toNat } } }.err uPcie stOk 0 0 (wrapInt 32 (-off))
      else v.setHif { v.d.hif with ptmOut := false, ptmGood := good, ptmDone := true, slew := -(11 * off) } := by
  subst hoff hgood
  rw [ptmResponse, if_neg (by simp [hrole, hout])]
  exact ptm_corrects _ _ _

section Parent
variable {p : Nat} (hrole : w.rd Reg.QE_TB_ROLE = 2) (hmaster : w.rd Reg.DRV_TB_MASTER ≠ 1) (hparent : w.tbParent = some p)
include hrole hmaster hparent

theorem timeSyncSend_parent :
    w.timeSyncSend =
      let v := w.advance w.d.drv.syncNext
      let v := v.setDrv { v.d.drv with syncOut := true, syncNext := v.now + 1000 * v.rd Reg.DRV_SYNC_PERIOD_US }
      v.queuePacket p 0 ⟨⟨v.rd Reg.DPORT_NEIGHBOUR_ID p, v.rd Reg.DRV_DEVICE_ID, 0⟩, .timeSync⟩ := by
  rw [timeSyncSend, if_neg (by simp [hrole, on_eq_false hmaster]), hparent]

theorem timeSync_parent {t1 t2 t3 t4 : Nat} (hout : w.d.drv.syncOut = true) (hoff : off = (((t1 : Int) - t2) + ((t4 : Int) - t3)) / 2)
    (hgood : good = if off < 50 ∧ -50 < off then w.d.drv.syncGood + 1 else 0) :
    w.timeSync p t1 t2 t3 t4 =
      let v := (w.wr Reg.DRV_TB_LAST_OFFSET (wrapInt 32 off)).wr Reg.DRV_LOCKED (b2n (decide (8 ≤ good)))
      let step := !v.d.drv.syncDone && v.on Reg.QE_TB_STEP_EN && !v.on Reg.KS_DISPATCH_EN
      let v := v.setDrv { v.d.drv with syncOut := false, syncGood := good, syncDone := true }
      let v := v.setHif { v.d.hif with slew := if step = true then 0 else -(11 * off) }
      if step = true then
        { v with d := { v.d with clk := { v.d.clk with tb11 := 11 * ((v.now : Int) - off).toNat } } }.err uPcie stOk 0 0 (wrapInt 32 (-off))
      else v := by
  subst hoff hgood
  exact if_neg (by simp [hrole, on_eq_false hmaster, hparent, hout])

end Parent

end Timebase

end Work

/-! ### The commands -/

/-- Settles O25: a write of one plain field, by whether the writer and the value are admitted. Log entry 58 names the choice. -/
theorem registerWrites : Obligations.RegisterWrites := by
  intro s req off data x v hr halign hregs htest hfield hacc hhook hhold hnarrow hanswers hv
  obtain ⟨href, hlive⟩ := hr
  refine ⟨fun hmay => ?refused, fun hmay hclaim hspecial => ?plain⟩ <;>
    refine does_actOn href rfl ((regWriteIn_narrow hlive halign hregs htest hanswers).trans ?_)
  case refused => exact writeOne_refused hfield hnarrow hmay
  case plain => exact (writeOne_plain hfield hnarrow hmay hclaim hspecial).trans (writeFields_plain hfield hacc hhook hhold hv)

/-- Settles O26: each phase of a load by what it finds. Log entries 11, 32 and 40 name the choices. -/
theorem containerChecks : Obligations.ContainerChecks := by
  intro s run hr hrun
  refine ⟨fun fail v st bs hphase hboot hread => ?staged, fun good hphase hgood => ⟨fun hbad => ?bad, fun hok => ?good⟩,
    fun r rest fail v st bs hphase himages hread => ⟨fun hst => ?unread, fun hst hdigest => ?digest, fun hst hdigest => ⟨fun e hplain => ?sealed,
      fun img hplain => ?taken⟩⟩⟩
  case staged =>
    have hchecks : v.stagedChecks run bs = match v.earlySteps (bytesWords bs) run.job.len with
        | some f => v.refuseLoad run.job f
        | none => v.setLdr { v.d.ldr with run := some { run with phase := .verifying, staged := bs } } := by
      unfold stagedChecks
      simp only [hboot] <;> rfl
    exact does_act hr rfl ((bitstreamStaged_read hrun hphase hboot hread).trans (by rw [hchecks] <;> rfl))
  case bad => exact does_act hr rfl (signatureVerified_bad hrun hphase (hgood.symm.trans hbad))
  case good =>
    refine does_act hr rfl ((signatureVerified_good hrun hphase (hgood.symm.trans hok)).trans ?_)
    dsimp only <;> cases ((start s).inc Reg.SEC_CNT_VERIFY).lateSteps (bytesWords run.staged) run.job.boot <;> rfl
  case unread => exact does_act hr rfl (modelImage_unread hrun hphase himages hread hst)
  case digest => exact does_act hr rfl (modelImage_digest hrun hphase himages hread hst hdigest)
  case sealed => exact does_act hr rfl (modelImage_sealed hrun hphase himages hread hst hdigest hplain)
  case taken => exact does_act hr rfl (modelImage_taken hrun hphase himages hread hst hdigest hplain)

/-- Settles O27: version ranges, the admin queue's ring and the error ring's base. -/
theorem hostSetup : Obligations.HostSetup := by
  intro s req hr
  refine ⟨fun lo hi hw => ?negotiate, fun hw hver hstate hsq hsq' hcq hcq' hsqAlign hcqAlign hsqPlace hcqPlace => ?enable, fun base hw => ?ring⟩
  case negotiate => exact does_actWriter hr hw rfl rfl
  case enable => exact does_actWriter hr hw rfl (aqEnable_valid hver hstate hsq hsq' hcq hcq' hsqAlign hcqAlign hsqPlace hcqPlace)
  case ring => exact does_actWriter hr hw rfl rfl

/-- Settles O28: reads and writes through BAR2, requests that are broken, and reads of host memory that are not answered. Log entries 63, 64 and 84 name the
choices. -/
theorem hostTraffic : Obligations.HostTraffic := by
  intro s hr
  obtain ⟨href, hlive⟩ := id hr
  refine ⟨fun off n h => ?read, fun off n h => ?readBeyond, fun off bs hbytes h => ⟨?write, ?poisoned⟩, fun off bs p h => ?writeBeyond,
    fun a => ⟨does_actOn href rfl rfl, does_actOn href rfl rfl⟩, fun q k e a hslot hentry => ⟨?timeout, ?poison⟩,
    fun a second c => ⟨does_act hr rfl rfl, does_actOn href rfl rfl, does_act hr rfl rfl, does_actOn href rfl rfl, does_act hr rfl rfl,
      does_actOn href rfl rfl⟩⟩
  case read => exact does_actOn href rfl (bar2Read_within hlive h)
  case readBeyond => exact does_actOn href rfl (bar2Read_beyond h)
  case write => exact does_actOn href rfl (bar2Write_within hlive hbytes h)
  case poisoned =>
    refine does_actOn href rfl ((bar2Write_within hlive hbytes h).trans ?_)
    simp only [Bool.true_and, beq_iff_eq, if_true]
  case writeBeyond => exact does_actOn href rfl (bar2Write_beyond h)
  case timeout => exact does_act hr rfl (entryFetched_timeout hslot hentry)
  case poison => exact does_actOn href rfl (entryFetched_poisoned (w := s.w.setHif { s.w.d.hif with aer := s.w.d.hif.aer ++ [3] }) hslot hentry)

/-- Settles O29: exchanges of each source of TB. Log entry 5 names the slew's choice, log entry 84 that a PTM offset is taken at the middle of the exchange,
rounded down. -/
theorem timeDiscipline : Obligations.TimeDiscipline := by
  refine ⟨fun s href hrole => ⟨?request, fun m off good hout hoff hgood => ?response⟩,
    fun s p hr hrole hmaster hparent => ⟨?send, fun q t1 t2 t3 t4 off good hq hout hoff hgood => ?sync⟩⟩
  case request => exact does_actOn href rfl (ptmRequest_role hrole)
  case response => exact does_actOn href rfl (ptmResponse_offset hrole hout hoff hgood)
  case send => exact does_act hr rfl (timeSyncSend_parent hrole hmaster hparent)
  case sync =>
    subst hq
    exact does_act hr rfl (timeSync_parent hrole hmaster hparent hout hoff hgood)

end Sys2Proof.Machine
end

section
/-! PROOF. Resets, the watchdog, isolation wrappers and counter snapshots (R418, R423 to R431, R490, R492). -/

namespace Sys2Proof.Machine

open Config Work

/-! ### What a chip reset keeps and clears (R423, R425) -/

/-- Keys whose entries stay read as before. -/
theorem tget_filter_kept {α : Type} (d : α) (t : Tbl α) {p : Nat × α → Bool} {a : Nat} (h : ∀ x, p (a, x) = true) : tget d (t.filter p) a = tget d t a := by
  induction t with
  | nil => rfl
  | cons e t ih =>
    obtain ⟨k, v⟩ := e
    by_cases hk : k = a
    · subst hk
      simp [h, tget]
    · rw [List.filter_cons]
      split <;> simp [tget, hk, ih]

/-- What a reset's clearing leaves in the device's memory. -/
theorem byte_after_clears (m : MemState) (lo hi a : Nat) :
    (m.applyAll ([.clear .dev lo hi, .clear .course 0 0x10000000, .clear .ctl 0 0x10000000] : List MemOp).reverse).byte .dev a =
      if lo ≤ a ∧ a < hi then 0#8 else m.byte .dev a := by
  have hdev : (m.applyAll ([.clear .dev lo hi, .clear .course 0 0x10000000, .clear .ctl 0 0x10000000] : List MemOp).reverse).byte .dev a =
      tget 0#8 (m.dev.filter (fun c => decide (c.1 < lo) || decide (hi ≤ c.1))) a := rfl
  rw [hdev]
  by_cases h : lo ≤ a ∧ a < hi
  · rw [if_pos h]
    exact tget_filter_dropped _ _ fun _ => by simp [h.1, h.2]
  · rw [if_neg h]
    exact tget_filter_kept _ _ fun _ => by simp; omega

namespace Work

/-- A copy of a field lies outside the blocks of the power and reset registers. -/
def OutsidePower (x : Fld × Nat) : Prop := x.1.key x.2 0 < 0x100000 * 8 ∨ 0x105000 * 8 ≤ x.1.key x.2 0

theorem outsidePower_of_above {f : Fld} (i : Nat) (h : 0x105000 * 8 ≤ f.off * 8 + f.lo) : OutsidePower (f, i) := .inr (h.trans (base_le_key f i 0))

theorem outsidePower_retiredField {u : Nat} {x : Fld × Nat} (h : retiredField u = some x) : OutsidePower x := by
  unfold retiredField at h
  split_ifs at h <;> cases h <;> exact outsidePower_of_above _ (by decide)

/-- The registers a chip reset carries over are none of the power and reset registers. -/
theorem outsidePower_carried {w : Work} {x : Fld × Nat} (h : x ∈ w.carried) : OutsidePower x := by
  simp only [carried, List.mem_append, List.mem_flatMap, List.mem_map, List.mem_filterMap, List.mem_filter, List.mem_cons, List.not_mem_nil,
    List.mem_range, or_false] at h
  rcases h with ((((((hcore | hslab) | hspare) | hengine) | hslot) | hpair) | hchannel) | hevac
  · obtain ⟨c, -, rfl | rfl⟩ := hcore <;> exact outsidePower_of_above _ (by decide)
  · obtain ⟨k, -, rfl⟩ := hslab
    exact outsidePower_of_above _ (by decide)
  · subst hspare
    exact .inl (by decide)
  · obtain ⟨u, -, hu⟩ := hengine
    exact outsidePower_retiredField hu
  · obtain ⟨k, -, rfl⟩ := hslot
    exact outsidePower_of_above _ (by decide)
  · obtain ⟨p, -, rfl | rfl⟩ := hpair <;> exact outsidePower_of_above _ (by decide)
  · obtain ⟨ch, -, rfl | rfl | rfl⟩ := hchannel <;> exact outsidePower_of_above _ (by decide)
  · split at hevac
    · simp only [List.mem_cons, List.not_mem_nil, or_false] at hevac
      rcases hevac with rfl | rfl | rfl <;> exact outsidePower_of_above _ (by decide)
    · cases hevac

/-- The device after a chip reset, before the registers it carries over are written back. -/
def resetKept (w : Work) : Dev :=
  { Dev.reset with
    fresh := w.d.fresh, balls := { Dev.reset.balls with gpio := w.d.balls.gpio }, tap := w.d.tap
    regs := w.d.regs.filter (fun e => resetKey e.1), locked1 := w.d.locked1.filter resetKey, cores := w.d.cores, retired := w.d.retired
    ecc := { Dev.reset.ecc with spared := w.d.ecc.spared }, ddr := { Dev.reset.ddr with selfRefresh := true }
    pwr := { Dev.reset.pwr with refStopped := w.d.pwr.refStopped }, saf := { Dev.reset.saf with stickyCause := w.d.saf.stickyCause } }

/-- The register file of a device in which the registers carried over have been written back. -/
def restored (w v : Work) : Work := (w.carried.map (fun f => (f.1, f.2, w.rd f.1 f.2))).foldl (fun v x => v.wr x.1 x.2.2 x.2.1) v

theorem restored_regs (w v : Work) : ∃ r, w.restored v = { v with d := { v.d with regs := r } } :=
  List.foldlRecOn (motive := fun x => ∃ r, x = { v with d := { v.d with regs := r } }) _ _ ⟨_, rfl⟩ fun x ⟨r, hx⟩ y _ => ⟨_, by rw [hx]; rfl⟩

theorem restored_rd {w v : Work} {f : Fld} (h : 0x100000 * 8 ≤ f.key 0 0 ∧ f.key 0 0 < 0x105000 * 8) : (w.restored v).rd f = v.rd f := by
  refine List.foldlRecOn (motive := fun x : Work => x.rd f = v.rd f) _ _ rfl fun x hx y hy => ?_
  obtain ⟨z, hz, rfl⟩ := List.mem_map.mp hy
  refine (rd_wr_ne x ?_).trans hx
  rcases outsidePower_carried hz with hlow | hhigh <;> dsimp only at * <;> omega

/-- The marks of a chip reset in the registers: its cause, its count, boot's first state, and a trip that stands. -/
def resetMarked (v : Work) (cause : Nat) (trip : Bool) : Work :=
  let v := ((v.wr Reg.PWR_RESET_CAUSE (Nat.lor (v.rd Reg.PWR_RESET_CAUSE) (2 ^ cause))).inc Reg.PWR_CNT_CHIP_RESETS).wr Reg.RST_BOOT_STATE 0
  if trip then v.wr Reg.PWR_TRIPPED 1 else v

section Marked
variable (v : Work) (cause : Nat) (trip : Bool)

theorem resetMarked_regs : ∃ r, v.resetMarked cause trip = { v with d := { v.d with regs := r } } := by
  cases trip
  · exact ⟨_, rfl⟩
  · exact ⟨_, rfl⟩

theorem resetMarked_cause : (v.resetMarked cause trip).rd Reg.PWR_RESET_CAUSE = low 7 (Nat.lor (v.rd Reg.PWR_RESET_CAUSE) (2 ^ cause)) := by
  have hmark : (((v.wr Reg.PWR_RESET_CAUSE (Nat.lor (v.rd Reg.PWR_RESET_CAUSE) (2 ^ cause))).inc Reg.PWR_CNT_CHIP_RESETS).wr
      Reg.RST_BOOT_STATE 0).rd Reg.PWR_RESET_CAUSE = low 7 (Nat.lor (v.rd Reg.PWR_RESET_CAUSE) (2 ^ cause)) :=
    (rd_wr_ne _ (by decide)).trans ((rd_wr_ne _ (by decide)).trans (rd_wr_self ..))
  cases trip
  · exact hmark
  · exact (rd_wr_ne _ (by decide)).trans hmark

theorem resetMarked_bootState : (v.resetMarked cause trip).rd Reg.RST_BOOT_STATE = 0 := by
  cases trip
  · exact rd_wr_self ..
  · exact (rd_wr_ne _ (by decide)).trans (rd_wr_self ..)

theorem resetMarked_tripped : (v.resetMarked cause trip).rd Reg.PWR_TRIPPED = if trip then 1 else v.rd Reg.PWR_TRIPPED := by
  cases trip
  · exact (rd_wr_ne _ (by decide)).trans ((rd_wr_ne _ (by decide)).trans (rd_wr_ne _ (by decide)))
  · exact rd_wr_self ..

end Marked

/-- A chip reset's clearing of memories. -/
def memoryCleared (v : Work) : Work :=
  { v with mops := [.clear .dev 0x4000000000 0x10000000000, .clear .course 0 0x10000000, .clear .ctl 0 0x10000000] ++ v.mops }

section ChipReset
variable {w : Work} {cause : Nat} {perst : Bool} (hjust : w.justReset = false) (hburn : w.d.sec.change = none)
include hjust hburn

theorem chipReset_eq :
    w.chipReset cause perst = ((w.restored { w with d := w.resetKept }).resetMarked cause (w.on Reg.PWR_TRIPPED && !perst)).memoryCleared := by
  have hidle : w.interruptBurn = w := by rw [interruptBurn, hburn]
  rw [chipReset, if_neg (by rw [hjust]; exact Bool.false_ne_true), hidle]
  rfl

/-- A chip reset leaves the device it keeps, but for registers, and memory cleared. -/
theorem chipReset_shape : ∃ r, w.chipReset cause perst = { w with
    d := { w.resetKept with regs := r }
    mops := [.clear .dev 0x4000000000 0x10000000000, .clear .course 0 0x10000000, .clear .ctl 0 0x10000000] ++ w.mops } := by
  obtain ⟨r, hr⟩ := restored_regs w { w with d := w.resetKept }
  obtain ⟨q, hq⟩ := resetMarked_regs (w.restored { w with d := w.resetKept }) cause (w.on Reg.PWR_TRIPPED && !perst)
  rw [chipReset_eq hjust hburn, hq, hr]
  exact ⟨_, rfl⟩

theorem chipReset_cause : (w.chipReset cause perst).rd Reg.PWR_RESET_CAUSE = low 7 (Nat.lor (w.rd Reg.PWR_RESET_CAUSE) (2 ^ cause)) := by
  have hkeep : resetKey (Reg.PWR_RESET_CAUSE.key 0 0) = true := by decide
  have hkept : (w.restored { w with d := w.resetKept }).rd Reg.PWR_RESET_CAUSE = w.rd Reg.PWR_RESET_CAUSE :=
    (restored_rd (by decide)).trans (tget_filter_kept _ _ fun _ => hkeep)
  rw [chipReset_eq hjust hburn, ← hkept]
  exact resetMarked_cause ..

theorem chipReset_bootState : (w.chipReset cause perst).rd Reg.RST_BOOT_STATE = 0 := by
  rw [chipReset_eq hjust hburn]
  exact resetMarked_bootState ..

theorem chipReset_tripped : (w.chipReset cause perst).rd Reg.PWR_TRIPPED = if w.rd Reg.PWR_TRIPPED = 1 ∧ perst = false then 1 else 0 := by
  have hdrop : resetKey (Reg.PWR_TRIPPED.key 0 0) = false := by decide
  have hclear : (w.restored { w with d := w.resetKept }).rd Reg.PWR_TRIPPED = 0 :=
    (restored_rd (by decide)).trans (tget_filter_dropped _ _ fun _ => hdrop)
  have htrip : (w.on Reg.PWR_TRIPPED && !perst) = decide (w.rd Reg.PWR_TRIPPED = 1 ∧ perst = false) := by
    cases perst <;> simp [on, beq_eq_decide]
  rw [chipReset_eq hjust hburn, htrip]
  refine (resetMarked_tripped ..).trans ?_
  simp only [decide_eq_true_eq, hclear]

theorem chipReset_atRest : (w.chipReset cause perst).AtRest := by
  obtain ⟨r, hr⟩ := chipReset_shape (cause := cause) (perst := perst) hjust hburn
  rw [hr]
  exact ⟨rfl, rfl, List.forall_mem_nil _, List.forall_mem_nil _⟩

end ChipReset

/-! ### Link states, hot resets and the watchdog (R418, R426 to R428) -/

section Requests
variable {w : Work}

theorem d3Entry_d0 (h : w.d.hif.d3hot = false) : w.d3Entry = w.setHif { w.d.hif with d3hot := true, d3Since := w.now } := by
  rw [d3Entry, h]
  exact if_neg Bool.false_ne_true

theorem d0Return_d3 (h : w.d.hif.d3hot = true) :
    w.d0Return =
      let v := w.d.hif.heldWrites.foldl (fun w x => w.put .host x.1 x.2) w
      v.setHif { v.d.hif with
        d3hot := false, heldWrites := []
        queues := v.d.hif.queues.map (fun e =>
          if v.rd Reg.QE_Q_STALL_TB e.1 = 0 then e
          else (e.1, { e.2 with paused := e.2.paused + (w.now - max (v.rd Reg.QE_Q_STALL_TB e.1) v.d.hif.d3Since) })) } := by
  rw [d0Return, h]
  exact if_neg Bool.false_ne_true

/-- A reset of the function that is not the chip's own: u is the device with its cause noted. -/
theorem hostReset_alone {cause : Nat} {u : Work} (hu : u = w.wr Reg.PWR_RESET_CAUSE (Nat.lor (w.rd Reg.PWR_RESET_CAUSE) (2 ^ cause)))
    (h : u.justReset = false) :
    w.hostReset cause =
      let v := u.hostReadsEnd
      let h := v.d.hif
      let v := { v with d := { v.d with
        regs := v.d.regs.filter (fun e => !qeKey e.1), locked1 := v.d.locked1.filter (fun k => !qeKey k), errHeld := []
        hif := { HostIf.reset with linkUp := h.linkUp && cause != 2, bar2Log2 := h.bar2Log2, readData := h.readData } } }
      let v := v.setSec { v.d.sec with doe := .silent }
      v.offer uPcie 5 (v.rd Reg.MSN_FAULT_CHANNEL) cause := by
  rw [hostReset, ← hu]
  exact if_neg (by rw [h]; exact Bool.false_ne_true)

/-- What a collision perturbs is the clock and its own count. -/
theorem collide_wdtEn (w : Work) (u due : Nat) : (w.collide u due).on Reg.RST_WDT_EN = w.on Reg.RST_WDT_EN := by
  unfold collide
  split
  · exact congrArg (· == 1) (rd_wr_ne (w := w.advance due) (f := Reg.TST_COLLIDE_LEFT) (by decide))
  · rfl

theorem wdtKick_off (h : w.rd Reg.RST_WDT_EN ≠ 1) : w.wdtKick = w.setSec { w.d.sec with kick := w.now } := by
  have hoff := on_eq_false h
  unfold wdtKick
  simp only [hoff, Bool.false_and, Bool.false_eq_true, if_false]

theorem wdtKick_armed (h : w.rd Reg.RST_WDT_EN = 1) :
    w.wdtKick =
      let v := w.collide uSafety w.wdtEnd
      let v := if v.atDue v.wdtEnd = true then (v.inc Reg.PWR_CNT_WDT_NEAR_MISS).wr Reg.PWR_WDT_NEAR_MISS_TB v.now else v
      v.setSec { v.d.sec with kick := v.now } := by
  unfold wdtKick
  simp only [on_eq_true h, collide_wdtEn, Bool.true_and, if_true]

theorem wdtExpiry_armed (h : w.rd Reg.RST_WDT_EN = 1) : w.wdtExpiry = (w.advance w.wdtEnd).chipReset 4 false := if_pos (on_eq_true h)

theorem chipResetRequest_key {req : Nat} : w.chipResetRequest req true true 0xA5C3 = w.setSec { w.d.sec with resetAt := some (w.now + 1000) } := rfl

theorem chipResetRequest_noKey {req key : Nat} {chip : Bool} (h : key ≠ 0xA5C3) : w.chipResetRequest req true chip key = w.log req :=
  if_pos (by simp [h])

theorem chipResetDue_asked {c : Nat} (hat : w.d.sec.resetAt = none) (hask : w.d.saf.resetAsk = some c) : w.chipResetDue = w.chipReset c false := by
  rw [chipResetDue, hat, hask]

theorem pllLoss_free {v : Work} {info : Nat} (h : w.free 32 = (v, info)) : w.pllLoss = (v.err uSafety stOk).degrade uSafety stSafeDegraded info := by
  rw [pllLoss, h]

end Requests

/-! ### Isolation wrappers and snapshots (R430, R431, R490, R492) -/

section Wrappers
variable {w : Work} {u : Nat}

theorem unitReset_wrapped {job : Option JobRef} (hknown : unitKnown u = true) (hreset : resettable u = true) (hserves : w.isRetired u = false) (hunit : u < 0x81) :
    (w.unitReset u job).1 =
      let v := (w.dropWork u).abandonSounding u
      v.setSec { v.d.sec with resets := v.d.sec.resets ++ [⟨u, job, v.now⟩] } := by
  rw [unitReset, if_neg (by simp [hknown]), if_neg (by simp [hreset, hserves]), if_neg hunit.not_ge]

theorem unitReset_link (hlow : 0x81 ≤ u) (hhigh : u ≤ 0x84) (hserves : w.isRetired u = false) : (w.unitReset u none).1 = w.linkReset (u - 0x81) := by
  have hknown : unitKnown u = true := by rw [unitKnown, decide_eq_true_iff]; omega
  have hreset : resettable u = true := by rw [resettable, decide_eq_true_iff]; omega
  rw [unitReset, if_neg (by simp [hknown]), if_neg (by simp [hreset, hserves]), if_pos hlow]

theorem unitReset_refused (h : resettable u = false ∨ w.isRetired u = true) : (w.unitReset u none).1 = w := by
  unfold unitReset
  split
  · rfl
  · rw [if_pos (by simpa using h)]

theorem unitResetRelease_done {r : UReset} (hfind : w.d.sec.resets.find? (fun r => r.unit == u) = some r) (hserves : w.isRetired u = false) :
    w.unitResetRelease u =
      let v := (w.setSec { w.d.sec with resets := w.d.sec.resets.filter (fun x => x.unit != u) }).clearUnitRegs u
      match r.job with
      | some j => v.complete j stOk
      | none => v := by
  have hserves' : (w.setSec { w.d.sec with resets := w.d.sec.resets.filter (fun x => x.unit != u) }).isRetired u = false := hserves
  unfold unitResetRelease
  simp only [hfind, hserves', Bool.false_eq_true, if_false] <;> cases r.job <;> rfl

theorem snapCapture_taken {k : Nat} {x : Snap} (h : w.d.sec.snaps.find? (fun x => x.set == k && !x.taken) = some x) :
    w.snapCapture k =
      let v := w.advance (w.rd Reg.SNAP_TB k)
      let asleep := pack ((List.range 15).map (fun d => (b2n (v.rd Reg.DOM_STATE d == 1 || v.rd Reg.DOM_STATE d == 2), d, 1)))
      let v := v.wr Reg.SNAP_DOMAINS_ASLEEP asleep k
      let counts := (List.range 1536).map (fun i => v.counterAt (dirEntry i))
      v.setSec { v.d.sec with snaps := v.d.sec.snaps.map (fun y => if y.set == k then { x with taken := true, counts := counts } else y) } := by
  rw [snapCapture, h]

theorem snapComplete_taken {k : Nat} {x : Snap} (h : w.d.sec.snaps.find? (fun x => x.set == k && x.taken) = some x) :
    w.snapComplete k =
      let v := x.counts.zipIdx.foldl (fun (w : Work) (c : Nat × Nat) => w.wr Reg.SNAP_SHADOW c.1 k c.2) w
      let v := ((v.wr Reg.SNAP_CAPTURE_END_TB v.now k).wr Reg.SNAP_VALID 1 k).wr Reg.SNAP_PENDING 0 k
      let v := v.setSec { v.d.sec with snaps := v.d.sec.snaps.filter (fun x => x.set != k) }
      match x.job with
      | some j => v.complete j stOk
      | none => v := by
  unfold snapComplete
  simp only [h] <;> cases x.job <;> rfl

end Wrappers

end Work

/-! ### The commands -/

/-- Idle timers are no registers. -/
theorem commit_idleTimers_rd (s : State) (w : Work) (f : Fld) : (s.commit w.idleTimers).rd f = w.rd f := by
  have hdev : ∀ v : Work, (s.commit v).dev = v.d := fun _ => rfl
  have hidle := (Work.idleTimers_frame w).1
  rw [State.rd, Work.rd, start_d, hdev, hidle]
  rfl

/-- A command that comes to a chip reset, with no other reset in its V-cycle and no burn under way, leaves what R423 says. -/
theorem chipReset_leaves {s : State} {i : Instr} {c : Nat} {perst : Bool} (hdoes : Does i s fun w => w.chipReset c perst) (hjust : s.w.justReset = false)
    (hburn : s.dev.sec.change = none) :
    ∃ t, exec i s = .next t ∧ t.rd Reg.PWR_RESET_CAUSE = low 7 (Nat.lor (s.rd Reg.PWR_RESET_CAUSE) (2 ^ c)) ∧ t.rd Reg.RST_BOOT_STATE = 0 ∧
      t.rd Reg.PWR_TRIPPED = (if s.rd Reg.PWR_TRIPPED = 1 ∧ perst = false then 1 else 0) ∧ t.dev.clk = ⟨0, 0⟩ ∧ t.dev.sec = Sec.reset ∧
      t.dev.hif = HostIf.reset ∧ t.dev.ddr.selfRefresh = true ∧ t.dev.cores = s.dev.cores ∧ t.dev.retired = s.dev.retired ∧
      t.dev.ecc.spared = s.dev.ecc.spared ∧ t.otp = s.otp ∧ (∀ a, a < 0x4000000000 → t.mem.byte .dev a = s.mem.byte .dev a) ∧
      (∀ a, 0x4000000000 ≤ a → a < 0x10000000000 → t.mem.byte .dev a = 0#8) := by
  obtain ⟨r, hshape⟩ := chipReset_shape (cause := c) (perst := perst) hjust hburn
  have hframe := (Work.idleTimers_frame (s.w.chipReset c perst)).1
  have hend : (s.w.chipReset c perst).settle = (s.w.chipReset c perst).idleTimers := (chipReset_atRest hjust hburn).settle
  have hrun : s.run (fun w => (w.chipReset c perst).settle) = s.commit (s.w.chipReset c perst).idleTimers := congrArg s.commit hend
  have hrd := fun f => commit_idleTimers_rd s (s.w.chipReset c perst) f
  have hbyte : ∀ a, (s.commit (s.w.chipReset c perst).idleTimers).mem.byte .dev a =
      if 0x4000000000 ≤ a ∧ a < 0x10000000000 then 0#8 else s.mem.byte .dev a := fun a => by
    rw [hframe, hshape]
    exact byte_after_clears s.mem _ _ a
  refine ⟨_, hdoes.trans (congrArg _ hrun), (hrd _).trans (chipReset_cause hjust hburn), (hrd _).trans (chipReset_bootState hjust hburn),
    (hrd _).trans (chipReset_tripped hjust hburn), ?_, ?_, ?_, ?_, ?_, ?_, ?_, ?_, fun a ha => ?_, fun a hlow hhigh => ?_⟩
  iterate 8 rw [hframe, hshape] <;> rfl
  · rw [hbyte, if_neg (by omega)]
  · rw [hbyte, if_pos ⟨hlow, hhigh⟩]

/-- Settles O30: resets of the function and of the chip, D3hot and the watchdog. Log entries 45, 48, 55 and 65 name the choices. -/
theorem resets : Obligations.Resets := by
  refine ⟨fun s href => ⟨fun hd0 => ?d3, fun hd3 => ?d0, ?host⟩, fun s i c perst href hjust hburn hcmd => ?chip,
    fun s href => ⟨fun req hw hoff => ?kick, fun req hw hen => ?armed, fun hen => ?expiry, fun req key hw => ⟨?key, ?noKey⟩, fun v info hfree => ?pll⟩⟩
  case d3 => exact does_actOn href rfl (d3Entry_d0 hd0)
  case d0 => exact does_actOn href rfl (d0Return_d3 hd3)
  case host =>
    intro i cause hcmd halone
    have hexec : exec i s = .next (s.actOn fun w => w.hostReset cause) := by
      rcases hcmd with ⟨rfl, rfl⟩ | ⟨rfl, rfl⟩
      · rfl
      · rfl
    have hreset := hostReset_alone rfl halone
    refine does_actOn href hexec (hreset.trans ?_)
    dsimp only
  case chip =>
    rcases hcmd with ⟨rfl, rfl, rfl⟩ | ⟨rfl, rfl, hat, hask⟩
    · have hdoes : Does .perstN s fun w => w.chipReset 1 true := does_actOn href rfl rfl
      exact chipReset_leaves hdoes hjust hburn
    · have hdoes : Does .chipReset s fun w => w.chipReset c false := does_actOn href rfl (chipResetDue_asked hat hask)
      exact chipReset_leaves hdoes hjust hburn
  case kick => exact does_actOnWriter href hw rfl (wdtKick_off hoff)
  case armed => exact does_actOnWriter href hw rfl (wdtKick_armed hen)
  case expiry => exact does_actOn href rfl (wdtExpiry_armed hen)
  case key =>
    rintro rfl
    exact does_actOnWriter href hw rfl chipResetRequest_key
  case noKey => exact fun hkey chip => does_actOnWriter href hw rfl (chipResetRequest_noKey fun h => hkey (BitVec.eq_of_toNat_eq h))
  case pll => exact does_actOn href rfl (pllLoss_free hfree)

/-- Settles O31: a unit's reset by what the unit is, its release, and the two steps of a snapshot. Log entry 54 names the choices. -/
theorem wrappersAndSnapshots : Obligations.WrappersAndSnapshots := by
  intro s hr
  refine ⟨fun u hknown hreset hserves hunit => ?wrapped, fun u hlow hhigh hserves => ?link, fun u hrefused => ?refused, fun u r hfind hserves => ?release,
    fun k x hfind => ?capture, fun k x hfind => ?complete⟩
  case wrapped => exact does_act hr rfl (unitReset_wrapped hknown hreset hserves hunit)
  case link => exact does_act hr rfl (unitReset_link hlow hhigh hserves)
  case refused => exact does_act hr rfl (unitReset_refused hrefused)
  case release => exact does_act hr rfl (unitResetRelease_done hfind hserves)
  case capture => exact does_act hr rfl (snapCapture_taken hfind)
  case complete => exact does_act hr rfl (snapComplete_taken hfind)

end Sys2Proof.Machine
end

section
/-! PROOF. Dravig: training of ports, flits, packets that act at once, windows and link timers (R386 to R396, R399, R401, R429). -/

namespace Sys2Proof.Machine

open Config Work

namespace Work

/-! ### Training (R386, R401, R429) -/

section Training
variable {w : Work} {p : Nat}

theorem drvPortEnable_trains (hen : w.rd Reg.DPORT_ENABLE p ≠ 1) (hoff : (w.dport p).off = false) :
    w.drvPortEnable p true = (w.wr Reg.DPORT_ENABLE 1 p).trainPort p := by
  rw [drvPortEnable, on_eq_false hen]
  exact (if_neg Bool.false_ne_true).trans ((if_neg Bool.false_ne_true).trans (if_neg (Bool.eq_false_iff.mp hoff)))

theorem drvPortEnable_resets (hen : w.rd Reg.DPORT_ENABLE p ≠ 1) (hoff : (w.dport p).off = true) :
    w.drvPortEnable p true = (w.wr Reg.DPORT_ENABLE 1 p).linkReset p := by
  rw [drvPortEnable, on_eq_false hen]
  exact (if_neg Bool.false_ne_true).trans ((if_neg Bool.false_ne_true).trans (if_pos hoff))

theorem drvPortEnable_again (hen : w.rd Reg.DPORT_ENABLE p = 1) : w.drvPortEnable p true = w.wr Reg.DPORT_ENABLE 1 p := by
  rw [drvPortEnable, on_eq_true hen]
  exact (if_neg Bool.false_ne_true).trans (if_pos rfl)

theorem linkReset_eq : w.linkReset p =
    let v := (w.clearPortRegs p).portDown p
    if v.rd Reg.DPORT_ENABLE p = 1 then v.trainPort p else v := by
  simp only [linkReset, on, beq_iff_eq]

theorem linkDrop_up (hdown : w.rd Reg.DPORT_STATE p ≠ 0) (hout : w.rd Reg.DPORT_STATE p ≠ 4) : w.linkDrop p = w.linkReset p :=
  if_neg (not_or.mpr ⟨hdown, hout⟩)

theorem trainStep_failed {lanes : Nat} (hst : w.rd Reg.DPORT_STATE p = 1) : w.trainStep p lanes false = w.trainFail p := by
  simp [trainStep, hst]

theorem trainFail_last (h : (w.dport p).fails = 2) : w.trainFail p = (w.setDport p { w.dport p with fails := 3 }).portOut p := by
  simp [trainFail, h]

theorem trainFail_again (h : (w.dport p).fails < 2) :
    w.trainFail p = w.setDport p { w.dport p with step := 1, fails := (w.dport p).fails + 1, hello := false } :=
  if_neg (by omega)

theorem trainStep_width {lanes : Nat} (hst : w.rd Reg.DPORT_STATE p = 1) (hstep : (w.dport p).step = 1) (hlanes : 2 ≤ lanes) :
    w.trainStep p lanes true = (w.setDport p { w.dport p with step := 2 }).wr
      Reg.DPORT_WIDTH (max (w.dport p).cap (if 8 ≤ lanes then 0 else if 4 ≤ lanes then 1 else 2)) p := by
  rw [trainStep, if_neg (not_not.mpr hst), hstep]
  exact (if_neg Bool.false_ne_true).trans (if_neg (Nat.not_lt.mpr hlanes))

theorem trainStep_second {lanes : Nat} (hst : w.rd Reg.DPORT_STATE p = 1) (hstep : (w.dport p).step = 2) :
    w.trainStep p lanes true = w.setDport p { w.dport p with step := 3 } := by
  rw [trainStep, if_neg (not_not.mpr hst), hstep]
  rfl

theorem trainStep_active {lanes : Nat} (hst : w.rd Reg.DPORT_STATE p = 1) (hstep : (w.dport p).step = 3) (hhello : (w.dport p).hello = true)
    (hid : w.rd Reg.DRV_ID_VALID = 1) : w.trainStep p lanes true = w.portActive p := by
  rw [trainStep, if_neg (not_not.mpr hst), hstep]
  exact (if_neg Bool.false_ne_true).trans (if_pos (by rw [hhello, on_eq_true hid]; rfl))

theorem hello_heard {id x y port : Nat} {idValid : Bool} (hst : w.rd Reg.DPORT_STATE p = 1) (hstep : (w.dport p).step = 3)
    (hid : w.rd Reg.DRV_ID_VALID = 1) : w.hello p id x y port idValid =
      let v := w.wr Reg.DPORT_NEIGHBOUR_ID id p
      if x = v.rd Reg.DRV_X_SIZE ∧ y = v.rd Reg.DRV_Y_SIZE ∧ idValid = true ∧ id = v.beyond p ∧ port = (p + 2) % 4 then
        v.setDport p { v.dport p with hello := true }
      else (v.err (uDravig p) stLinkDegraded id).portOut p :=
  if_neg (by simp [hst, hstep, on_eq_true hid])

theorem neighbourSleep_active (hst : w.rd Reg.DPORT_STATE p = 2) : w.neighbourSleep p = w.setPortState p 3 := if_pos hst

theorem wakeSets_awake (hst : w.rd Reg.DPORT_STATE p = 3) (hdev : w.rd Reg.PWR_DEVICE_STATE = 0) :
    w.wakeSets p = (w.setDport p { w.dport p with step := 3, fails := 0, hello := false }).setPortState p 1 := by
  rw [wakeSets, if_neg (not_not.mpr hst), if_pos hdev]
  exact if_neg (not_not.mpr hst)

end Training

/-! ### Flits (R388) -/

section Flits
variable {w : Work} {p : Nat} {bs : List Byte}

theorem flitReceive_bad (hst : w.rd Reg.DPORT_STATE p = 2) (hbad : flitGood bs = false) :
    w.flitReceive p bs =
      let v := (w.inc Reg.DRV_CNT_FLITS_RX p).inc Reg.DRV_CNT_CRC_ERR p
      v.setDport p { v.dport p with nack := true } := by
  rw [flitReceive, if_neg (not_not.mpr hst)]
  exact if_pos (by rw [hbad]; rfl)

theorem flitReceive_good (hst : w.rd Reg.DPORT_STATE p = 2) (hgood : flitGood bs = true) :
    w.flitReceive p bs =
      let v := w.inc Reg.DRV_CNT_FLITS_RX p
      let x := v.dport p
      let h := flitWord bs 0
      let c := flitWord bs 1
      if bits h 11 0 ≠ x.rxSeq then v.setDport p { x with nack := true }
      else
        let v := v.setDport p { x with
          rxSeq := (x.rxSeq + 1) % 4096, ackValid := true, nack := false
          credits := [min 32 (x.credits.getD 0 0 + bits c 7 0), min 32 (x.credits.getD 1 0 + bits c 15 8)] }
        let v := if bitAt h 24 then v.ackFlits p (bits h 23 12) else v
        let v := if bitAt h 25 then v.replayFlits p else v
        pumpPort 512 v p := by
  rw [flitReceive, if_neg (not_not.mpr hst)]
  exact if_neg (by simp [hgood])

theorem replayTimeout_due {f : TxFlit} {rest : List TxFlit} (hst : w.rd Reg.DPORT_STATE p = 2) (hrep : (w.dport p).replay = f :: rest) :
    w.replayTimeout p = (w.advance (f.tb + w.rd Reg.DPORT_REPLAY_TIMEOUT_NS p)).replayFlits p := by
  rw [replayTimeout, hrep]
  exact if_neg (not_not.mpr hst)

end Flits

/-! ### Packets that act at once (R387, R389, R393, R396, R399) -/

section Packets
variable {w : Work} {p : Nat} {pk : DrvPacket}

/-- A packet for this device acts once its credits are given back. -/
theorem arrive_here (f : Work → Work) (hst : w.rd Reg.DPORT_STATE p = 2) (hdest : pk.head.dest < 192)
    (hhere : pk.head.dest = w.rd Reg.DRV_DEVICE_ID) : w.arrive p pk f = takeKept 1024 (f (w.oweCredits p pk)) := by
  have hkeep : (w.oweCredits p pk).rd Reg.DRV_DEVICE_ID = w.rd Reg.DRV_DEVICE_ID := rfl
  rw [arrive, if_neg (not_not.mpr hst)]
  simp only [hkeep, if_neg (Nat.not_le.mpr hdest), if_neg (not_not.mpr hhere)]

theorem readData_wanted {src tag : Nat} {data : List Byte} {u : Unans}
    (hfind : w.d.drv.unans.find? (fun u => u.dest == src && u.isRead && u.tag == tag) = some u) :
    w.readData p src tag data =
      ((w.writeAt (uDravig p) u.addr (data.take u.len)).1.retire p u (w.writeAt (uDravig p) u.addr (data.take u.len)).2).pumpSends := by
  rw [readData, hfind]

theorem resync_word (src : Nat) (n : BitVec 16) : w.resync src n.toNat =
    takeKept 1024 (applyHeld 257 (w.setDrv { w.d.drv with expect := tset 0 w.d.drv.expect src n.toNat }) src) := by
  rw [resync, low, Nat.mod_eq_of_lt n.isLt]

theorem windowNotice_peer {src win gen : Nat} {isOpen : Bool} (hsrc : src < 192) : w.windowNotice p src win gen isOpen =
    (((w.inc Reg.DRV_CNT_NOTICES).wr Reg.PEER_GEN gen (64 * src + win)).wr Reg.PEER_VALID (b2n isOpen) (64 * src + win)).offer
      (uDravig p) 2 (w.rd Reg.DRV_NOTICE_CHANNEL) 1 := by
  have habove (f : Fld) (i : Nat) (hf : Reg.DRV_NOTICE_CHANNEL.key 0 0 < f.off * 8 + f.lo) : Reg.DRV_NOTICE_CHANNEL.key 0 0 ≠ f.key i 0 :=
    (hf.trans_le (base_le_key f i 0)).ne
  have hchannel : (((w.inc Reg.DRV_CNT_NOTICES).wr Reg.PEER_GEN gen (64 * src + win)).wr Reg.PEER_VALID (b2n isOpen) (64 * src + win)).rd
      Reg.DRV_NOTICE_CHANNEL = w.rd Reg.DRV_NOTICE_CHANNEL :=
    (rd_wr_ne _ (habove _ _ (by decide))).trans ((rd_wr_ne _ (habove _ _ (by decide))).trans (rd_wr_ne _ (by decide)))
  rw [windowNotice, ← hchannel]
  simp only [if_pos hsrc]

end Packets

/-! ### Windows (R394 to R396) -/

section Windows
variable {w : Work} {win : Nat}

theorem windowOpen_closed {u : Nat} (hopen : w.rd Reg.WIN_OPEN win ≠ 1) : w.windowOpen u win =
    let base := w.rd Reg.WIN_BASE win
    let size := w.rd Reg.WIN_SIZE win
    if base % 4096 = 0 ∧ size % 4096 = 0 ∧ 4096 ≤ size ∧ size ≤ 0x4000000 ∧ (w.inDram base size = true ∨ w.inRole 2 base size = true) then
      (w.wr Reg.WIN_OPEN 1 win).notify (.windowNotice win (w.rd Reg.WIN_GEN win) true)
    else w.log u := by
  rw [windowOpen, if_neg (by simp [on_eq_false hopen])]
  dsimp only
  by_cases hgood : w.rd Reg.WIN_BASE win % 4096 = 0 ∧ w.rd Reg.WIN_SIZE win % 4096 = 0 ∧ 4096 ≤ w.rd Reg.WIN_SIZE win ∧
      w.rd Reg.WIN_SIZE win ≤ 0x4000000 ∧ (w.inDram (w.rd Reg.WIN_BASE win) (w.rd Reg.WIN_SIZE win) = true ∨
        w.inRole 2 (w.rd Reg.WIN_BASE win) (w.rd Reg.WIN_SIZE win) = true)
  · rw [if_pos hgood]
    refine if_neg ?_
    simpa only [not_or, not_not, not_lt, Bool.not_eq_true', Bool.not_eq_false, Bool.or_eq_true] using hgood
  · rw [if_neg hgood]
    refine if_pos ?_
    simpa only [not_and_or, not_le, Bool.not_eq_true', ← Bool.not_eq_true, Bool.or_eq_true, ne_eq] using hgood

theorem windowOpen_open {u : Nat} (hopen : w.rd Reg.WIN_OPEN win = 1) : w.windowOpen u win = w := if_pos (on_eq_true hopen)

theorem windowClose_open (hopen : w.rd Reg.WIN_OPEN win = 1) : w.windowClose win =
    let v := ((w.wr Reg.WIN_OPEN 0 win).wr Reg.WIN_GEN ((w.rd Reg.WIN_GEN win + 1) % 65536) win).wr Reg.WIN_DRAINED 0 win
    v.notify (.windowNotice win ((w.rd Reg.WIN_GEN win + 1) % 65536) false) := by
  have hgen : (((w.wr Reg.WIN_OPEN 0 win).wr Reg.WIN_GEN ((w.rd Reg.WIN_GEN win + 1) % 65536) win).wr Reg.WIN_DRAINED 0 win).rd Reg.WIN_GEN win =
      (w.rd Reg.WIN_GEN win + 1) % 65536 :=
    (rd_wr_copy _ _ _ _ (by decide)).trans ((rd_wr_self ..).trans (Nat.mod_mod ..))
  rw [windowClose, if_neg (by simp [on_eq_true hopen])]
  dsimp only
  rw [hgen]

theorem windowDrained_closed (hopen : w.rd Reg.WIN_OPEN win ≠ 1) : w.windowDrained win = w.wr Reg.WIN_DRAINED 1 win :=
  if_neg (by simp [on_eq_false hopen])

end Windows

/-! ### Link timers and answers (R389, R393) -/

section Timers
variable {w : Work}

theorem badPacket_active {p : Nat} {h : List Nat} (hst : w.rd Reg.DPORT_STATE p = 2) (hbad : badHeader h = true) :
    w.badPacket p h = w.inc Reg.DRV_CNT_BAD_PACKET :=
  if_pos (by rw [hst, hbad]; rfl)

/-- A packet without an answer counts as refused and as unreachable. -/
theorem refusePacket_unreachable (p : Nat) (u : Unans) : w.refusePacket p u stDeviceUnreachable =
    (((w.err (uDravig p) stDeviceUnreachable u.dest 0 u.window).inc Reg.DRV_CNT_TX_REFUSED).inc Reg.DRV_CNT_UNREACHABLE).failPacket u stDeviceUnreachable := by
  rw [refusePacket, if_pos rfl]

theorem answerTimeout_due {dest : Nat} {u : Unans} (hfind : w.d.drv.unans.find? (fun u => u.dest == dest) = some u) :
    w.answerTimeout dest =
      let v := w.advance (u.tb + w.rd Reg.DRV_ANSWER_TIMEOUT_NS)
      let isDue := fun (u : Unans) => u.dest == dest && decide (u.tb + w.rd Reg.DRV_ANSWER_TIMEOUT_NS ≤ v.now)
      let due := v.d.drv.unans.filter isDue
      let v := v.setDrv { v.d.drv with unans := v.d.drv.unans.filter (fun u => !isDue u) }
      let v := due.foldl (fun (w : Work) u => (((w.err (uDravig (w.portTo dest)) stDeviceUnreachable u.dest 0 u.window).inc
        Reg.DRV_CNT_TX_REFUSED).inc Reg.DRV_CNT_UNREACHABLE).failPacket u stDeviceUnreachable) v
      let lowest := match v.d.drv.unans.find? (fun u => u.dest == dest) with
        | some u => u.pseq
        | none => tget 0 v.d.drv.nextSeq dest
      let v := (v.forward ⟨⟨dest, v.rd Reg.DRV_DEVICE_ID, 0⟩, .resync lowest⟩).1
      ((due.map Unans.send).eraseDups.foldl (fun w s => w.finishSend s) v).pumpSends := by
  rw [answerTimeout, hfind]
  simp only [refusePacket_unreachable] <;> rfl

theorem cumulativeAnswer_covered {src : Nat} (hcov : (tget (0, 0) w.d.drv.covered src).1 ≠ 0) :
    w.cumulativeAnswer src = ((w.setDrv { w.d.drv with covered := tdel w.d.drv.covered src }).forward
      ⟨⟨src, w.rd Reg.DRV_DEVICE_ID, (tget (0, 0) w.d.drv.covered src).2⟩, .answer 0 stOk true⟩).1 :=
  if_neg hcov

end Timers

end Work

/-! ### The obligations -/

/-- Settles O32: a port's training, its third failure, its HELLO, its sleep and its waking (log entry 70). -/
theorem portTraining : Obligations.PortTraining := by
  intro s p hr
  refine ⟨fun req train reset htrain hreset => ?ports, fun lanes hst => ?steps, fun id x y port idValid hst hstep hid => ?hello, fun hst => ?sleep,
    fun hst hdev => ?wake⟩
  case ports =>
    subst htrain hreset
    have hlinkReset (w : Work) := linkReset_eq (w := w) (p := p.val)
    refine ⟨fun hw hen => ⟨fun hoff => ?train, fun hoff => ?reset⟩, fun hw hen => ?again, fun hdown hout => ?drop⟩
    case train => exact does_actWriter hr hw rfl (drvPortEnable_trains hen hoff)
    case reset => exact does_actWriter hr hw rfl ((drvPortEnable_resets hen hoff).trans (hlinkReset _))
    case again => exact does_actWriter hr hw rfl (drvPortEnable_again hen)
    case drop => exact does_act hr rfl ((linkDrop_up hdown hout).trans (hlinkReset _))
  case steps =>
    refine ⟨fun pass hfails hpass => ?out, fun hfails => ?fail, fun hstep hlanes => ?width, fun hstep => ?second, fun hstep hhello hid => ?active⟩
    case out =>
      subst hpass
      exact does_act hr rfl ((trainStep_failed hst).trans (trainFail_last hfails))
    case fail => exact does_act hr rfl ((trainStep_failed hst).trans (trainFail_again hfails))
    case width => exact does_act hr rfl (trainStep_width hst hstep hlanes)
    case second => exact does_act hr rfl (trainStep_second hst hstep)
    case active => exact does_act hr rfl (trainStep_active hst hstep hhello hid)
  case hello => exact does_act hr rfl (hello_heard hst hstep hid)
  case sleep => exact does_act hr rfl (neighbourSleep_active hst)
  case wake => exact does_actOn hr.refStopped rfl (wakeSets_awake hst hdev)

/-- Settles O33: what each kind of received flit does, and the replay timer (log entry 29). -/
theorem flitsInOrder : Obligations.FlitsInOrder := by
  intro s p hr hst
  refine ⟨fun bs hbad => ?crc, fun bs hgood hseq => ?sequence, fun bs hgood hseq => ?order, fun f rest hrep => ?timer⟩
  case crc => exact does_act hr rfl (flitReceive_bad hst hbad)
  case sequence => exact does_act hr rfl ((flitReceive_good hst hgood).trans (if_pos hseq))
  case order => exact does_act hr rfl ((flitReceive_good hst hgood).trans (if_neg (not_not.mpr hseq)))
  case timer => exact does_act hr rfl (replayTimeout_due hst hrep)

/-- Settles O35: what a packet without a PSEQ of its own does when it arrives (log entry 29), its credits given back first (log entry 87). -/
theorem packetsAtOnce : Obligations.PacketsAtOnce := by
  intro s p h hr hst hdest hhere took htook
  have hact (b : DrvBody) (f : Work → Work) : (start s).arrive p.val ⟨h, b⟩ f = took b (start s) f := (arrive_here f hst hdest hhere).trans (htook ..).symm
  have hacts (b : DrvBody) {f g : Work → Work} (hf : ∀ w : Work, w.d.drv.unans = s.dev.drv.unans → f w = g w) :
      (start s).arrive p.val ⟨h, b⟩ f = took b (start s) g := by
    rw [hact, htook, htook, hf ((start s).oweCredits p.val ⟨h, b⟩) rfl]
  refine ⟨fun data => ?message, fun tag data u hfind => ?read, fun tag status => ⟨?one, ?upTo⟩, fun n => ?resync, fun win gen isOpen hsrc => ?window,
    fun f gen => ?flag⟩
  case message => exact does_act hr rfl (hact _ _)
  case read => exact does_act hr rfl (hacts _ fun w hw => readData_wanted (by rw [hw]; exact hfind))
  case one => exact does_act hr rfl (hacts _ fun w _ => rfl)
  case upTo => exact does_act hr rfl (hacts _ fun w _ => rfl)
  case resync => exact does_act hr rfl (hacts _ fun w _ => resync_word ..)
  case window => exact does_act hr rfl (hacts _ fun w _ => windowNotice_peer hsrc)
  case flag => exact does_act hr rfl (hacts _ fun w _ => rfl)

/-- Settles O36: windows open, close and drain; bad packets, answer timeouts and cumulative answers (log entry 87). -/
theorem windowsAndLinkTimers : Obligations.WindowsAndLinkTimers := by
  refine ⟨fun s req win hr => ⟨fun hw hclosed => ?opens, fun hw hopen => ⟨?again, ?closes⟩, fun hclosed => ?drained⟩,
    fun s hr => ⟨fun p hd hst hbad => ?bad, fun dest u hfind => ?timeout, fun src hcov => ?cumulative⟩⟩
  case opens => exact does_actWriter hr hw rfl (windowOpen_closed hclosed)
  case again => exact does_actWriter hr hw rfl (windowOpen_open hopen)
  case closes => exact does_actWriter hr hw rfl (windowClose_open hopen)
  case drained => exact does_act hr rfl (windowDrained_closed hclosed)
  case bad => exact does_act hr rfl (badPacket_active hst hbad)
  case timeout => exact does_act hr rfl (answerTimeout_due hfind)
  case cumulative => exact does_act hr rfl (cumulativeAnswer_covered hcov)

end Sys2Proof.Machine
end

section
/-! PROOF. Performance levels over AVSBus, the sleep of power domains and of the device (R407 to R417). -/

namespace Sys2Proof.Machine

open Config Work

namespace Work

/-! ### Levels (R407 to R409) -/

section Levels
variable {w : Work} {dom : Nat} {x : Shift}

theorem levelRequest_own (u v : Nat) : w.levelRequest u true v =
    ((w.wr Reg.PWR_LEVEL_REQ_A (v % 4)).wr Reg.PWR_LEVEL_REQ_V (v / 4 % 2)).retarget := by
  have hlow : bits v 1 0 = v % 4 := by simp [bits]
  rw [← hlow]
  rfl

/-- Domain A aims at the slowest of its four limits. -/
theorem levelTarget_a : (w.levelTarget 0).1 =
    max (max (w.rd Reg.PWR_LEVEL_REQ_A) (bits (w.policy 0) 1 0)) (max w.d.pwr.thermalA (min w.d.pwr.capLevel 3)) := by
  simp [levelTarget, Nat.max_assoc]

/-- Domain V aims at the slowest of its four limits. -/
theorem levelTarget_v : (w.levelTarget 1).1 =
    max (max (w.rd Reg.PWR_LEVEL_REQ_V) (bits (w.policy 0) 2 2)) (max w.d.pwr.thermalV (if w.d.pwr.capLevel = 4 then 1 else 0)) := by
  simp [levelTarget, Nat.max_assoc]

theorem slewDone_slewing (hshift : w.shiftOf dom = some x) (hstep : x.step = .slew) :
    w.slewDone dom = w.setShift dom (some { x with step := .confirm }) := by
  rw [slewDone, hshift]
  exact if_pos hstep

theorem avsRetry_held (hheld : w.d.pwr.retry.getD dom 0 ≠ 0) : w.avsRetry dom =
    let v := w.advance (w.d.pwr.retry.getD dom 0)
    (v.setPwr { v.d.pwr with retry := v.d.pwr.retry.set dom 0 }).retarget :=
  if_neg hheld

theorem confirmShift_eq (mv : Nat) : w.confirmShift dom mv x =
    let want := levelMv dom (if x.back = true then w.levelNow dom else x.target)
    if want + 10 < mv ∨ mv + 10 < want then w
    else ((if x.faster = true ∧ x.back = false then w.setLevel dom x.target else w).setShift dom none).retarget := by
  simp only [confirmShift, Bool.and_eq_true, Bool.not_eq_true']

section Frame
variable (hdom : dom < 2) (hshift : w.shiftOf dom = some x)
include hdom hshift

theorem avsFrame_written (hstep : x.step = .write) : w.avsFrame dom .written =
    (w.setPwr { w.d.pwr with fails := w.d.pwr.fails.set dom 0 }).setShift dom (some { x with step := .slew }) := by
  simp only [avsFrame, if_pos hdom, hshift, if_pos hstep]

theorem avsFrame_voltage (hstep : x.step = .confirm) (mv : Nat) : w.avsFrame dom (.voltage mv) =
    ((w.setPwr { w.d.pwr with fails := w.d.pwr.fails.set dom 0 }).wr Reg.RAIL_VOLTAGE_MV mv dom).confirmShift dom mv x := by
  simp only [avsFrame, if_pos hdom, hshift, if_pos hstep]

end Frame

end Levels

/-! ### Domains (R412 to R414) -/

section Domains
variable {w : Work} {d : Nat}

section Expiry
variable {deep : Bool} {idle : Nat} (hidle : idle = if deep = true then 1000 * w.policy 2 else w.policy 1) (hset : idle ≠ 0)
  (hmay : w.domainMay d deep = true) (hon : w.rd Reg.DOM_STATE d = 0) (hhold : w.rd Reg.DOM_HOLD d ≠ 1)
include hidle hset hmay hon hhold

/-- A domain that may sleep, is ON and is not held, with nothing to do or a unit that refuses, is asked at its idle time. -/
theorem domainExpiry_asks (hwork : w.domainIdle d = true ∨ w.refuser d ≠ none) : w.domainExpiry d deep =
    let v := w.advance ((w.dom d).idleFrom + idle)
    match v.refuser d with
    | some u => (((v.inc Reg.PWR_DOM_CNT_REFUSED d).wr Reg.DOM_LAST_REFUSER u d).wr Reg.DOM_LAST_REFUSE_TB v.now d).setDom d
      { w.dom d with idleFrom := v.now }
    | none => (v.wr Reg.DOM_STATE 3 d).setDom d { w.dom d with goal := if deep = true then 2 else 1, start := v.now, wake := false } := by
  subst hidle
  have hask : (!w.domainIdle d && (w.refuser d).isNone) = false := by
    rcases hwork with h | h
    · rw [h]
      rfl
    · rw [Option.isNone_eq_false_iff.mpr (Option.isSome_iff_ne_none.mpr h), Bool.and_false]
  refine (if_neg (by simp [hset, hmay, hon, on_eq_false hhold, hask])).trans ?_
  dsimp only <;> cases (w.advance _).refuser d <;> rfl

theorem domainExpiry_quiesces (hwork : w.domainIdle d = true) (hnone : (w.advance ((w.dom d).idleFrom + idle)).refuser d = none) :
    w.domainExpiry d deep =
      let v := w.advance ((w.dom d).idleFrom + idle)
      (v.wr Reg.DOM_STATE 3 d).setDom d { w.dom d with goal := if deep = true then 2 else 1, start := v.now, wake := false } := by
  rw [domainExpiry_asks hidle hset hmay hon hhold (.inl hwork)]
  simp only [hnone]

theorem domainExpiry_refused {u : Nat} (hwork : w.refuser d ≠ none) (hsome : (w.advance ((w.dom d).idleFrom + idle)).refuser d = some u) :
    w.domainExpiry d deep =
      let v := w.advance ((w.dom d).idleFrom + idle)
      (((v.inc Reg.PWR_DOM_CNT_REFUSED d).wr Reg.DOM_LAST_REFUSER u d).wr Reg.DOM_LAST_REFUSE_TB v.now d).setDom d { w.dom d with idleFrom := v.now } := by
  rw [domainExpiry_asks hidle hset hmay hon hhold (.inr hwork)]
  simp only [hsome]

end Expiry

theorem domainDrained_sleeps (hst : w.rd Reg.DOM_STATE d = 3) (hgoal : (w.dom d).goal ≠ 0) (hwake : (w.dom d).wake = false) :
    w.domainDrained d = (((w.cycles 20).wr Reg.DOM_STATE 1 d).inc Reg.PWR_DOM_CNT_S1 d).soundingsPause d := by
  rw [domainDrained, if_neg (by simp [hst, hgoal])]
  exact if_neg (by simp [hwake])

theorem drainTimeout_entering (hst : w.rd Reg.DOM_STATE d = 3) (u : Nat) : w.drainTimeout d u =
    let v := w.advance ((w.dom d).start + 10000)
    let v := ((v.inc Reg.PWR_DOM_CNT_ABORTED d).wr Reg.DOM_LAST_REFUSER u d).wr Reg.DOM_LAST_REFUSE_TB v.now d
    (v.wr Reg.DOM_STATE 0 d).setDom d { w.dom d with goal := 0, wake := false, idleFrom := v.now } :=
  if_neg (not_not.mpr hst)

theorem domainDeep_saved (hst : w.rd Reg.DOM_STATE d = 1) (hgoal : (w.dom d).goal = 2) (hwake : (w.dom d).wake = false) :
    w.domainDeep d = ((w.wr Reg.DOM_STATE 2 d).inc Reg.PWR_DOM_CNT_S2 d).setDom d { w.dom d with goal := 0 } := by
  rw [domainDeep, if_neg (by simp [hst, hgoal])]
  exact if_neg (by simp [hwake])

theorem domainWake_asleep (hst : w.rd Reg.DOM_STATE d = 1 ∨ w.rd Reg.DOM_STATE d = 2) (hgoal : (w.dom d).goal = 0) (hd : d ≠ 12) :
    w.domainWake d =
      let v := w.inc Reg.PWR_DOM_CNT_WAKES d
      let v := v.setDom d { w.dom d with stall := if (w.dom d).stall = 0 then w.now + 1 else (w.dom d).stall }
      (v.wr Reg.DOM_STATE 4 d).setDom d { v.dom d with goal := 0, wake := false } := by
  rw [domainWake, if_neg hd]
  dsimp only
  rw [if_neg (by omega), if_neg (by omega)]
  exact if_neg (by omega)

theorem domainOn_waking (hst : w.rd Reg.DOM_STATE d = 4) : w.domainOn d =
    let v := if (w.dom d).stall = 0 then w else w.raise Reg.PWR_DOM_WAKE_STALL_MAX (w.now + 1 - (w.dom d).stall) d
    ((v.wr Reg.DOM_STATE 0 d).setDom d { DomSt.reset with idleFrom := v.now }).soundingsResume d :=
  if_neg (not_not.mpr hst)

end Domains

/-! ### The device (R415 to R417) -/

section Device
variable {w : Work} {src : Nat}

theorem s3Entry_ready (hst : w.rd Reg.PWR_DEVICE_STATE = 0) (hready : w.s3Ready = true) : w.s3Entry =
    let v := w.advance (((List.range 15).drop 1).foldl (fun t d => max t (w.dom d).idleFrom) 0 + 1000000 * w.policy 3)
    let a := v.rd Reg.PWR_TB_ALARM
    let alarm := match v.d.msn.delays.head? with
      | none => a
      | some e => if a = 0 then e.1 - 2000000 else min a (e.1 - 2000000)
    (v.wr Reg.PWR_DEVICE_STATE 1).setPwr { v.d.pwr with alarm := alarm, s3Wake := none } := by
  rw [s3Entry, if_neg (by simp [hst, hready])]
  dsimp only <;> rfl

/-- What wakes a device that has just reached S3: a source seen during the entry, or a wake pin at its level. -/
theorem s3Entered_wakes (v : Work) :
    (match v.d.pwr.s3Wake with
    | some x => v.s3Exit x
    | none => if bitAt (v.rd Reg.PWR_WAKE_EN) 3 && v.wakeSeen 3 then v.s3Exit 3 else v) =
    match v.d.pwr.s3Wake with
    | some x => v.s3Exit x
    | none => if bitAt (v.rd Reg.PWR_WAKE_EN) 3 = true ∧ (List.range 32).any v.wakePin = true then v.s3Exit 3 else v := by
  have hpins : v.wakeSeen 3 = (List.range 32).any v.wakePin := rfl
  simp only [Bool.and_eq_true, hpins]

theorem s3Entered_entering (hst : w.rd Reg.PWR_DEVICE_STATE = 1) : w.s3Entered =
    let v := ((w.wr Reg.PWR_DEVICE_STATE 2).inc Reg.PWR_CNT_S3_ENTRIES).selfRefreshEnter
    let v := v.upTo 14 (fun w d => ((w.wr Reg.DOM_STATE 2 (d + 1)).soundingsPause (d + 1)).setDom (d + 1) { w.dom (d + 1) with goal := 0 })
    let v := v.upTo 4 (fun w p => if w.rd Reg.DPORT_STATE p = 2 then w.setPortState p 3 else w)
    match v.d.pwr.s3Wake with
    | some x => v.s3Exit x
    | none => if bitAt (v.rd Reg.PWR_WAKE_EN) 3 = true ∧ (List.range 32).any v.wakePin = true then v.s3Exit 3 else v := by
  rw [s3Entered, if_neg (not_not.mpr hst)]
  dsimp only [dpActive, dpSleep]
  generalize upTo _ 4 _ = v
  exact s3Entered_wakes v

theorem wakeSource_seen (hen : bitAt (w.rd Reg.PWR_WAKE_EN) src = true) (hseen : w.wakeSeen src = true) : w.wakeSource src =
    if w.rd Reg.PWR_DEVICE_STATE = 2 then w.s3Exit src
    else if w.rd Reg.PWR_DEVICE_STATE = 1 ∧ w.d.pwr.s3Wake = none then
      (w.inc Reg.PWR_CNT_WAKE_DURING_ENTRY).setPwr { w.d.pwr with s3Wake := some src }
    else w :=
  if_neg (by simp [hen, hseen])

theorem wakeSource_unseen (h : bitAt (w.rd Reg.PWR_WAKE_EN) src = false ∨ w.wakeSeen src = false) : w.wakeSource src = w :=
  if_pos (by simpa using h)

theorem tbAlarm_asleep (hst : w.rd Reg.PWR_DEVICE_STATE = 2) (hset : w.d.pwr.alarm ≠ 0) : w.tbAlarm = (w.advance w.d.pwr.alarm).wakeSource 4 := by
  simp [tbAlarm, hst, hset]

theorem s3Left_leaving (hst : w.rd Reg.PWR_DEVICE_STATE = 3) : w.s3Left =
    let v := (w.wr Reg.PWR_DEVICE_STATE 0).selfRefreshExit
    let v := v.upTo 14 (fun w d => ((w.wr Reg.DOM_STATE 0 (d + 1)).setDom (d + 1) { DomSt.reset with idleFrom := w.now }).soundingsResume (d + 1))
    v.upTo 4 (fun w p => w.retrainFromHello p) :=
  if_neg (not_not.mpr hst)

theorem linkL1_up (hup : w.d.hif.linkUp = true) : w.linkL1 = w.setHif { w.d.hif with linkL1 := true } := if_pos hup

end Device

end Work

/-! ### The obligations -/

/-- Settles O37: level requests and targets, and each step of a transition over AVSBus (log entry 36). -/
theorem performanceLevels : Obligations.PerformanceLevels := by
  refine ⟨⟨fun s req v href hw => ?request, fun w => ⟨levelTarget_a, levelTarget_v⟩⟩, fun s dom x href hshift => ?frames⟩
  case request => exact does_actOnWriter href hw rfl (levelRequest_own ..)
  case frames =>
    refine ⟨fun hstep => ?written, fun hstep => ?slew, fun mv hstep => ?voltage, fun n hn => ?failed, fun da => ?current, fun word fault => ?status,
      fun hheld => ?retry⟩
    case written => exact does_actOn href rfl (avsFrame_written dom.isLt hshift hstep)
    case slew => exact does_actOn href rfl (slewDone_slewing hshift hstep)
    case voltage => exact does_actOn href rfl ((avsFrame_voltage dom.isLt hshift hstep mv).trans (confirmShift_eq mv))
    case failed =>
      subst hn
      exact does_actOn href rfl rfl
    case current => exact does_actOn href rfl rfl
    case status => exact does_actOn href rfl rfl
    case retry => exact does_actOn href rfl (avsRetry_held hheld)

/-- Settles O39: a domain's idle time, drain, sleep, wake and return (log entry 38). -/
theorem domainSleep : Obligations.DomainSleep := by
  intro s d hr
  refine ⟨fun deep idle hidle hset hmay hon hhold => ⟨fun hwork hnone => ?quiesce, fun u hwork hsome => ?refuse⟩, fun hst hgoal hwake => ?drained,
    fun u hst => ?timeout, fun hst hgoal hwake => ?deep, fun hst hgoal hd => ?wake, fun hst => ?on⟩
  case quiesce => exact does_act hr rfl (domainExpiry_quiesces hidle hset hmay hon hhold hwork hnone)
  case refuse => exact does_act hr rfl (domainExpiry_refused hidle hset hmay hon hhold hwork hsome)
  case drained => exact does_act hr rfl (domainDrained_sleeps hst hgoal hwake)
  case timeout => exact does_act hr rfl (drainTimeout_entering hst _)
  case deep => exact does_act hr rfl (domainDeep_saved hst hgoal hwake)
  case wake => exact does_act hr rfl (domainWake_asleep hst hgoal hd)
  case on => exact does_act hr rfl (domainOn_waking hst)

/-- Settles O40: the device enters S3, is there, and leaves it, and the link enters L1 (log entries 38 and 39). -/
theorem deviceSleep : Obligations.DeviceSleep := by
  intro s hr
  refine ⟨fun hst hready => ?enter, fun hst => ?entered, fun src hen hseen => ⟨fun hst => ?exit, fun hst hnone => ?waits⟩, fun src hun => ?unseen,
    fun hst hset => ?alarm, fun hst => ?left, fun hup => ?link⟩
  case enter => exact does_act hr rfl (s3Entry_ready hst hready)
  case entered =>
    refine does_act hr rfl ((s3Entered_entering hst).trans ?_)
    dsimp only <;> generalize upTo _ 4 _ = v <;> cases v.d.pwr.s3Wake <;> rfl
  case exit => exact does_act hr rfl ((wakeSource_seen hen hseen).trans (if_pos hst))
  case waits =>
    have hst' : (start s).rd Reg.PWR_DEVICE_STATE = 1 := hst
    exact does_act hr rfl ((wakeSource_seen hen hseen).trans ((if_neg (by rw [hst']; decide)).trans (if_pos ⟨hst, hnone⟩)))
  case unseen => exact does_act hr rfl (wakeSource_unseen hun)
  case alarm => exact does_act hr rfl (tbAlarm_asleep hst hset)
  case left => exact does_act hr rfl (s3Left_leaving hst)
  case link => exact does_actOn hr.refStopped rfl (linkL1_up hup)

end Sys2Proof.Machine
end

section
/-! PROOF. The boot sequence, firmware images and the handover between them (R380, R432 to R439). -/

namespace Sys2Proof.Machine

open Config Work

namespace Work

/-! ### Boot (R380, R432, R435) -/

section Boot
variable {w : Work}

theorem pllLock_locks {ob : List Byte} {copy : Option Nat} (hboot : w.d.sec.boot = .pll) (href : w.d.pwr.refStopped = false)
    (hob : w.obInForce = (ob, copy)) : w.pllLock =
      let v := w.upTo 16 (fun w k => w.wr Reg.PWR_OB (leNat ((ob.drop (4 * k)).take 4)) k)
      let v := (v.wr Reg.RST_OB_COPY_USED (copy.getD 0)).wr Reg.RST_OB_DEFAULTS (b2n copy.isNone)
      let v := v.setHif { v.d.hif with bar2Log2 := 30 + min 8 (bits (v.ob 3) 3 0) }
      let v := v.setSec { v.d.sec with boot := .rom }
      (v.wr Reg.RST_BOOT_STATE (b2n (v.bootSource == 0 || v.bootSource == 2))).wr Reg.RST_RECOVERY_REASON 0 := by
  rw [pllLock, if_neg (by simp [hboot, href]), hob]

theorem pcieLinkUp_running (hboot : w.d.sec.boot ≠ .pll) : w.pcieLinkUp = w.setHif { w.d.hif with linkUp := true } := if_neg hboot

/-- Boot training without a failed channel. -/
theorem trainingDone_clean (hboot : w.d.sec.boot ≠ .pll) (htrained : w.d.sec.trained = false) : w.trainingDone [] =
    let v := w.setSec { w.d.sec with trained := true }
    ((v.setDdr { v.d.ddr with selfRefresh := false, settling := false }).upTo 32 (fun w ch => w.wr Reg.CH_LAST_TRAIN_TB w.now ch)).bootStep7 true :=
  if_neg (by simp [hboot, htrained])

section Fetch
variable {a : Nat}

section Firmware
variable (hboot : w.d.sec.boot = .rom) (hst : w.rd Reg.RST_BOOT_STATE = 1) (himage : w.d.sec.image = none)
  (ha : a = 0x10000 * (w.ob 14 + 256 * w.ob 15))
include hboot hst himage

theorem firmwareFetched_silent : w.firmwareFetched false = ((w.wr Reg.RST_BOOT_STATE 0).wr Reg.RST_RECOVERY_REASON 2).bootStep7 false := by
  rw [firmwareFetched, if_neg (by simp [hboot, hst, himage])]
  exact if_pos (.inl rfl)

include ha

theorem firmwareFetched_image (hmagic : w.num .nor a 4 = 0x46485359) : w.firmwareFetched true =
    w.setSec { w.d.sec with image := some ⟨.norBoot, w.bytes .nor a (min 0x180000 (max 768 (w.num .nor (a + 8) 4))), none⟩ } := by
  subst ha
  rw [firmwareFetched, if_neg (by simp [hboot, hst, himage])]
  exact if_neg (by simp [hmagic])

end Firmware

section Bitstream
variable (hst : w.rd Reg.RST_BOOT_STATE = 3) (hidle : w.d.ldr.run = none) (ha : a = 0x10000 * (w.ob 16 + 256 * w.ob 17))
include hst hidle

theorem bootFetched_silent : w.bootFetched false = (w.wr Reg.RST_BOOT_STATE 5).wr Reg.RST_RECOVERY_REASON 4 := by
  rw [bootFetched, if_neg (by simp [hst, hidle])]
  exact if_pos (.inl rfl)

include ha

theorem bootFetched_container (hmagic : w.num .nor a 4 = 0x42485359) : w.bootFetched true =
    let n := min 0x4000000 (w.num .nor (a + 8) 4)
    w.stagedChecks ⟨⟨none, true, none, a, n⟩, .staging, [], [], []⟩ (w.bytes .nor a (max n 768)) := by
  subst ha
  rw [bootFetched, if_neg (by simp [hst, hidle])]
  exact if_neg (by simp [hmagic])

end Bitstream

end Fetch

end Boot

/-! ### Firmware images (R434, R437, R438) -/

section Images
variable {w u v : Work} {bs : List Byte} {st req : Nat}

theorem fwCheck_unsigned (hearly : w.fwEarly (bytesWords bs) bs.length = none)
    (hsigned : w.signed (bits (wd (bytesWords bs) 4) 7 0) (bs.take (wd (bytesWords bs) 2)) = false) : (w.fwCheck bs).2 = stSigInvalid := by
  simp [fwCheck, hearly, hsigned]

theorem firmwareVerified_checked {im : ImgRun} (himage : w.d.sec.image = some im)
    (hcheck : (match im.early with | some e => (w, e) | none => w.fwCheck im.bytes) = (v, st)) : w.firmwareVerified =
      let v := v.wr Reg.RST_LAST_BOOT_STATUS st
      if im.use = .norBoot then
        if st = stOk then v.startImage im.bytes true
        else (((v.setSec { v.d.sec with image := none }).wr Reg.RST_BOOT_STATE 0).wr Reg.RST_RECOVERY_REASON 1).bootStep7 false
      else
        let v := (v.wr Reg.SEC_IMG_BUSY 0).wr Reg.SEC_IMG_STATUS st
        if st = stOk then v.startImage im.bytes false else v.setSec { v.d.sec with image := none } := by
  obtain ⟨use, bytes, early⟩ := im
  cases early with
  | some e =>
    have heq : (w, e) = (v, st) := hcheck
    cases heq
    unfold firmwareVerified
    rw [himage]
    cases use <;> rfl
  | none =>
    have hfw : w.fwCheck bytes = (v, st) := hcheck
    unfold firmwareVerified
    rw [himage]
    dsimp only
    rw [hfw]
    cases use <;> rfl

/-- The host and the control pairs may give an image command while none runs. -/
theorem imgGate_idle (hbusy : w.rd Reg.SEC_IMG_BUSY ≠ 1) : w.imgGate true = true := by
  rw [imgGate, on_eq_false hbusy]
  rfl

/-- An image command's start is not what decides which pairs are in service. -/
theorem nextPair_busy (w : Work) (n : Nat) : (w.wr Reg.SEC_IMG_BUSY 1).nextPair n = w.nextPair n := by
  have hrd (p : Nat) (hp : p < 4) : (w.wr Reg.SEC_IMG_BUSY 1).rd Reg.PAIR_IN_SERVICE p = w.rd Reg.PAIR_IN_SERVICE p := by
    interval_cases p
    · exact rd_wr_ne w (by decide)
    · exact rd_wr_ne w (by decide)
    · exact rd_wr_ne w (by decide)
    · exact rd_wr_ne w (by decide)
  have hrange : List.range 4 = [0, 1, 2, 3] := rfl
  simp only [nextPair, hrange, on, List.find?_cons, List.find?_nil, hrd 0 (by decide), hrd 1 (by decide), hrd 2 (by decide), hrd 3 (by decide)]

section Commands
variable (hbusy : w.rd Reg.SEC_IMG_BUSY ≠ 1)
include hbusy

theorem imgBoot_recovery (hst : w.rd Reg.RST_BOOT_STATE = 5) (hread : w.imgRead = (v, st, bs)) : w.imgBoot req true =
    (v.wr Reg.SEC_IMG_BUSY 1).setSec { v.d.sec with image := some ⟨.hostBoot, bs, if st = stOk then none else some st⟩ } := by
  rw [imgBoot, if_neg (by simp [imgGate_idle hbusy, hst]), hread]

section Read
variable (hread : w.imgRead = (v, stOk, bs))
include hread

theorem stageUpdate_read (hcheck : v.fwCheck bs = (u, st)) : w.stageUpdate req true =
    let f := fwInfo bs
    let st := if st = stOk ∧ ((u.d.sec.running.map FwInfo.version).getD 0) < f.compat then stVersionMismatch else st
    let u := u.wr Reg.SEC_IMG_STATUS st
    if st ≠ stOk then u
    else ((u.put .ctl (if u.d.sec.bankB = true then 0 else 0x180000) (bs.take (wd (bytesWords (bs.take 12)) 2))).wr Reg.SEC_IMG_STAGED 1).setSec
      { u.d.sec with staged := some f } := by
  rw [stageUpdate, if_neg (by simp [imgGate_idle hbusy]), hread]
  dsimp only
  rw [if_pos rfl, hcheck]

theorem programNor_image (hmagic : wd (bytesWords bs) 0 = 0x46485359) (hcheck : v.fwCheck bs = (u, st)) : w.programNor req true =
    let u := u.wr Reg.SEC_IMG_STATUS st
    if st ≠ stOk then u else u.put .nor (0x10000 * (u.ob 14 + 256 * u.ob 15)) (bs.take (wd (bytesWords bs) 2)) := by
  rw [programNor, if_neg (by simp [imgGate_idle hbusy]), hread]
  dsimp only
  rw [if_neg (not_not.mpr rfl), if_pos hmagic, hcheck]
  simp only [if_pos hmagic]

section Container
variable {ws : List Nat} {good : Bool} (hws : ws = bytesWords bs) (hmagic : wd ws 0 ≠ 0x46485359)
  (hearly : v.earlySteps ws (if wd ws 2 ≤ bs.length then wd ws 2 else 0) = none) (hgood : good = v.signed (bits (wd ws 5) 7 0) (bs.take (wd ws 2)))
  (hu : u = v.countVerify good)
include hws hmagic hearly hgood hu

theorem programNor_unsigned (hbad : good = false) : w.programNor req true = u.wr Reg.SEC_IMG_STATUS stSigInvalid := by
  subst hws hu hbad
  rw [programNor, if_neg (by simp [imgGate_idle hbusy]), hread]
  dsimp only
  rw [if_neg (not_not.mpr rfl), if_neg hmagic, hearly]
  dsimp only
  rw [← hgood]
  rfl

theorem programNor_container (hsigned : good = true) (hroll : u.rollbackCounter ≤ bits (wd ws 5) 15 8) (hres : stepReserved ws = none) :
    w.programNor req true =
      let u := u.wr Reg.SEC_IMG_STATUS stOk
      u.put .nor (0x10000 * (u.ob 16 + 256 * u.ob 17)) (bs.take (wd ws 2)) := by
  subst hws hu hsigned
  rw [programNor, if_neg (by simp [imgGate_idle hbusy]), hread]
  dsimp only
  rw [if_neg (not_not.mpr rfl), if_neg hmagic, hearly]
  dsimp only
  rw [← hgood, if_neg (Nat.not_lt.mpr hroll), hres]
  exact (if_neg (not_not.mpr rfl)).trans (by rw [if_neg hmagic]; rfl)

end Container

end Read

/-! ### The handover (R439) -/

theorem handOver_first {p : Nat} (hstaged : w.d.sec.staged ≠ none) (hnext : w.nextPair 0 = some p) : w.handOver req true =
    let v := w.wr Reg.SEC_IMG_BUSY 1
    (v.setSec { v.d.sec with handover := some ⟨p, v.now⟩ }).pairDrain p := by
  have hsome : w.d.sec.staged.isNone = false := Option.isNone_eq_false_iff.mpr (Option.isSome_iff_ne_none.mpr hstaged)
  rw [handOver, if_neg (by simp [imgGate_idle hbusy, hsome]), handoverNext, nextPair_busy, hnext]

end Commands

section Handover
variable {h : Handover} (hover : w.d.sec.handover = some h)
include hover

theorem pairHandover_started {f : FwInfo} (hstaged : w.d.sec.staged = some f) (htid : w.curTid h.pair = none)
    (hsaved : (w.pair h.pair).saving = none) (hkey : w.keyActive f.slot = true) :
    w.pairHandover = ((w.setSec { w.d.sec with moved := h.pair :: w.d.sec.moved }).pairReturn h.pair).handoverNext (h.pair + 1) := by
  unfold pairHandover
  simp only [hover, hstaged, htid, hsaved, hkey, Option.isSome_none, Bool.false_eq_true, or_self, if_false, Bool.not_true]

theorem handoverTimeout_back (r : Option Nat) : w.handoverTimeout r =
    let v := (w.advance (h.since + 100000000)).pairReturn h.pair
    ((v.setSec { v.d.sec with handover := none }).wr Reg.SEC_IMG_BUSY 0).wr Reg.SEC_IMG_STATUS (r.getD stFlagTimeout) := by
  rw [handoverTimeout, hover]
  rfl

end Handover

end Images

theorem handoverNext_eq (v : Work) (n : Nat) : v.handoverNext n =
    match v.nextPair n with
    | some p => (v.setSec { v.d.sec with handover := some ⟨p, v.now⟩ }).pairDrain p
    | none => v.handoverDone := by
  unfold handoverNext
  cases v.nextPair n <;> rfl

end Work

/-! ### The obligations -/

/-- Settles O41: the steps of boot on the device's side (log entry 43). -/
theorem bootSteps : Obligations.BootSteps := by
  intro s hr
  refine ⟨fun ob copy hboot hob => ?pll, fun hboot => ⟨?link, fun htrained => ?trained⟩, fun a hboot hst himage ha => ⟨?noFirmware, fun hmagic => ?firmware⟩,
    fun a hst hidle ha => ⟨?noBitstream, fun hmagic => ?bitstream⟩⟩
  case pll => exact does_act hr rfl (pllLock_locks hboot hr.refStopped hob)
  case link => exact does_actOn hr.refStopped rfl (pcieLinkUp_running hboot)
  case trained => exact does_act hr rfl (trainingDone_clean hboot htrained)
  case noFirmware => exact does_act hr rfl (firmwareFetched_silent hboot hst himage)
  case firmware => exact does_act hr rfl (firmwareFetched_image hboot hst himage ha hmagic)
  case noBitstream => exact does_act hr rfl (bootFetched_silent hst hidle)
  case bitstream => exact does_act hr rfl (bootFetched_container hst hidle ha hmagic)

/-- Settles O42: images are checked, started, staged, written and handed over (log entries 11, 32, 43, 44 and 71). -/
theorem firmwareImages : Obligations.FirmwareImages := by
  refine ⟨fun w bs hearly hsigned => fwCheck_unsigned hearly hsigned, fun s hr => ⟨fun im v st himage hcheck => ?verified, fun req hw hbusy => ?commands,
    fun h f hover hstaged htid hsaved hkey => ?moved, fun h r hover => ?timeout⟩⟩
  case verified => exact does_act hr rfl (firmwareVerified_checked himage (by cases hearly : im.early <;> simpa only [hearly] using hcheck))
  case commands =>
    refine ⟨fun v st bs hst hread => ?boot, fun v bs u st hread hcheck => ?stage, fun v bs u st hread hmagic hcheck => ?image,
      fun v bs ws good u hread hws hmagic hearly hgood hu => ⟨fun hbad => ?unsigned, fun hsigned hroll hres => ?container⟩,
      fun p hstaged hnext => ?handover⟩
    case boot => exact does_actWriter hr hw rfl (imgBoot_recovery hbusy hst hread)
    case stage => exact does_actWriter hr hw rfl (stageUpdate_read hbusy hread hcheck)
    case image => exact does_actWriter hr hw rfl (programNor_image hbusy hread hmagic hcheck)
    case unsigned => exact does_actWriter hr hw rfl (programNor_unsigned hbusy hread hws hmagic hearly hgood hu hbad)
    case container => exact does_actWriter hr hw rfl (programNor_container hbusy hread hws hmagic hearly hgood hu hsigned hroll hres)
    case handover => exact does_actWriter hr hw rfl (handOver_first hbusy hstaged hnext)
  case moved =>
    refine does_act hr rfl ((pairHandover_started hover hstaged htid hsaved hkey).trans ?_)
    dsimp only
    generalize pairReturn _ _ = v
    exact handoverNext_eq v _
  case timeout => exact does_act hr rfl (handoverTimeout_back hover _)

end Sys2Proof.Machine
end

section
/-! PROOF. The safety manager: the schedule and results of soundings, SAFE_RUN, and SAFE_DEGRADED (R467 to R476, R483 to R486). -/

namespace Sys2Proof.Machine

open Config Work

namespace Work

/-! ### SAFE_DEGRADED (R467, R468) -/

section Degrade
variable {w : Work} {unit status info : Nat}

theorem Recorded.saf {v : Work} (h : Recorded w v) : v.d.saf = w.d.saf := by
  obtain ⟨⟨_, _, _, _, _, rfl⟩, -⟩ := h
  rfl

/-- The registers that say why the device is degraded. -/
def causeShown (w : Work) (unit status info : Nat) : Work :=
  let w := (((w.wr Reg.SAF_STATE 2).wr Reg.SAF_CAUSE_UNIT unit).wr Reg.SAF_CAUSE_STATUS status).wr Reg.SAF_CAUSE_INFO info
  w.wr Reg.SAF_CAUSE_TB w.now

/-- The safety manager of a degraded device: both pins low, the cause kept over resets, a chip reset asked for where the profile escalates. -/
def causeKept (w : Work) (unit status info : Nat) : Safety :=
  { w.d.saf with
    pin0 := false, pin1 := false, hbNext := 0, stickyCause := some (unit, status, info)
    resetAsk := if w.d.saf.escalate = true ∨ bitAt (w.rd Reg.PWR_OB 3) 4 = true then some 5 else w.d.saf.resetAsk }

theorem causeShown_state : (w.causeShown unit status info).rd Reg.SAF_STATE = 2 :=
  (rd_wr_ne _ (by decide)).trans ((rd_wr_ne _ (by decide)).trans ((rd_wr_ne _ (by decide)).trans ((rd_wr_ne _ (by decide)).trans (rd_wr_self ..))))

theorem causeShown_unit : (w.causeShown unit status info).rd Reg.SAF_CAUSE_UNIT = low 8 unit :=
  (rd_wr_ne _ (by decide)).trans ((rd_wr_ne _ (by decide)).trans ((rd_wr_ne _ (by decide)).trans (rd_wr_self ..)))

theorem causeShown_status : (w.causeShown unit status info).rd Reg.SAF_CAUSE_STATUS = low 8 status :=
  (rd_wr_ne _ (by decide)).trans ((rd_wr_ne _ (by decide)).trans (rd_wr_self ..))

theorem causeShown_info : (w.causeShown unit status info).rd Reg.SAF_CAUSE_INFO = low 32 info := (rd_wr_ne _ (by decide)).trans (rd_wr_self ..)

theorem degrade_again (h : w.rd Reg.SAF_STATE = 2 ∨ w.rd Reg.SAF_STATE = 3) : w.degrade unit status info = w := if_pos h

section Enters
variable (h : ¬(w.rd Reg.SAF_STATE = 2 ∨ w.rd Reg.SAF_STATE = 3))
include h

/-- A device that is degraded shows its cause and keeps it; the rest is an error record and an event. -/
theorem degrade_recorded : ∃ v ch, Recorded ((w.causeShown unit status info).setSaf (w.causeKept unit status info)) v ∧
    w.degrade unit status info = v.offer uSafety 5 ch unit := by
  have hob : (w.causeShown unit status info).rd Reg.PWR_OB 3 = w.rd Reg.PWR_OB 3 :=
    (rd_wr_ne _ (by decide)).trans ((rd_wr_ne _ (by decide)).trans ((rd_wr_ne _ (by decide)).trans ((rd_wr_ne _ (by decide)).trans (rd_wr_ne _ (by decide)))))
  have hkept : w.causeKept unit status info = { (w.causeShown unit status info).d.saf with
      pin0 := false, pin1 := false, hbNext := 0, stickyCause := some (unit, status, info)
      resetAsk := if w.d.saf.escalate || bitAt ((w.causeShown unit status info).rd Reg.PWR_OB 3) 4 then some 5 else w.d.saf.resetAsk } := by
    rw [hob]
    simp only [Bool.or_eq_true]
    rfl
  refine ⟨_, (w.causeShown unit status info).rd Reg.MSN_FAULT_CHANNEL, recorded_err _ unit stSafeDegraded info 0 0, ?_⟩
  rw [degrade, if_neg h, hkept]
  rfl

theorem degrade_rd {f : Fld} (hf : Reg.QE_CNT_ERR_LOST.key 0 0 < f.off * 8 + f.lo) :
    (w.degrade unit status info).rd f = (w.causeShown unit status info).rd f := by
  obtain ⟨v, ch, hrec, heq⟩ := degrade_recorded (unit := unit) (status := status) (info := info) h
  rw [heq]
  exact hrec.rd_above 0 0 hf

theorem degrade_saf : (w.degrade unit status info).d.saf = w.causeKept unit status info := by
  obtain ⟨v, ch, hrec, heq⟩ := degrade_recorded (unit := unit) (status := status) (info := info) h
  rw [heq]
  exact hrec.saf

end Enters

/-- A degradation changes neither the expected signatures to come nor the profile to come. -/
theorem degrade_schedule : (w.degrade unit status info).d.saf.newExpected = w.d.saf.newExpected ∧
    (w.degrade unit status info).d.saf.nextProfile = w.d.saf.nextProfile := by
  by_cases h : w.rd Reg.SAF_STATE = 2 ∨ w.rd Reg.SAF_STATE = 3
  · rw [degrade_again h]
    exact ⟨rfl, rfl⟩
  · rw [degrade_saf h]
    exact ⟨rfl, rfl⟩

end Degrade

/-! ### When soundings start (R472, R475, R486) -/

section Schedule
variable {w : Work} {slot : Nat}

theorem slotLive_good (hslot : slot < 90) (hst : w.rd Reg.SLOT_SSTATE slot = 2) : w.slotLive slot = true := by
  simp [slotLive, hslot, hst]

theorem soundingDue_forces (hslot : slot < 90) (hst : w.rd Reg.SLOT_SSTATE slot = 2) (hrun : (w.snd slot).running = false) :
    w.soundingDue slot = (w.advance (w.rd Reg.SLOT_NEXT_LS_TB slot)).setSnd slot { w.snd slot with forced := true } :=
  if_neg (by simp [slotLive_good hslot hst, hst, hrun])

theorem forceSound_beyond {req : Nat} (h : 90 ≤ slot) : w.forceSound req slot = w.log req := if_pos h

theorem forceSound_live {req : Nat} (h : w.slotLive slot = true) : w.forceSound req slot = w.setSnd slot { w.snd slot with forced := true } := by
  have hslot : slot < 90 := by
    simp only [slotLive, Bool.and_eq_true, decide_eq_true_eq] at h
    exact h.1
  rw [forceSound, if_neg (Nat.not_le.mpr hslot)]
  exact if_neg (by simp [h])

/-- What a late start leaves before the sounding is taken: its record, and the degradation where it is beyond FTTI. -/
def lateMarked (w : Work) (slot : Nat) : Work :=
  let u := slotUnit slot
  let prev := w.rd Reg.SLOT_LAST_START_TB slot
  let v := if prev + w.slotInterval slot + w.rd Reg.SLOT_BOUND_NS slot < w.now then
      (w.inc Reg.SAF_CNT_LATE).err u stSoundingLate (slot + 0x4000000) 0 (w.rd Reg.SLOT_LAST_SIGNATURE slot) else w
  if prev + w.slotFtti slot * 1000000 - slotLength slot < w.now then v.degrade u stSoundingLate slot else v

theorem lateMarked_schedule : (w.lateMarked slot).d.saf.newExpected = w.d.saf.newExpected ∧
    (w.lateMarked slot).d.saf.nextProfile = w.d.saf.nextProfile := by
  have hlog (unit status info addr detail : Nat) : ((w.inc Reg.SAF_CNT_LATE).err unit status info addr detail).d.saf = w.d.saf :=
    (recorded_err ..).saf.trans (wr_saf ..)
  have hmark (v : Work) (unit status info : Nat) (c : Prop) [Decidable c] (hv : v.d.saf = w.d.saf) :
      (if c then v.degrade unit status info else v).d.saf.newExpected = w.d.saf.newExpected ∧
        (if c then v.degrade unit status info else v).d.saf.nextProfile = w.d.saf.nextProfile := by
    rw [← hv]
    split
    · exact degrade_schedule
    · exact ⟨rfl, rfl⟩
  refine hmark _ _ _ _ _ ?_
  split
  · exact hlog ..
  · rfl

theorem profileStart_none (h : w.d.saf.nextProfile = none) : w.profileStart slot = w := by
  rw [profileStart, h]

theorem profileStart_setSnd (h : w.d.saf.nextProfile = none) (x : Sounding) : (w.setSnd slot x).profileStart slot = w.setSnd slot x :=
  profileStart_none h

/-- A slot in service that is due or forced starts at its unit's boundary. -/
theorem soundingStart_taken (hslot : slot < 90) (hst : w.rd Reg.SLOT_SSTATE slot = 2) (hrun : (w.snd slot).running = false)
    (hbound : w.atBoundary (slotUnit slot) = true) (hprofile : w.d.saf.nextProfile = none) (hexpected : w.d.saf.newExpected = [])
    (hdue : (w.snd slot).forced = true ∨ w.rd Reg.SLOT_LAST_START_TB slot + w.slotInterval slot ≤ w.now) :
    w.soundingStart slot =
      let u := slotUnit slot
      let prev := w.rd Reg.SLOT_LAST_START_TB slot
      let v := w.lateMarked slot
      let v := v.setSnd slot { w.snd slot with
        running := true, forced := false, startTb := w.now, waiting := v.readyFor u, prev := prev, startV := v.d.clk.vcycle }
      let v := (v.wr Reg.SLOT_LAST_START_TB w.now slot).wr Reg.SLOT_NEXT_LS_TB (w.now + v.slotInterval slot) slot
      (v.inc Reg.SAF_CNT_SOUNDINGS).inc Reg.SAF_SLOT_CNT_SOUNDINGS slot := by
  have hfirst : (w.rd Reg.SLOT_SSTATE slot == 1) = false := by rw [hst]; rfl
  have hopen : ((w.snd slot).forced || decide (w.rd Reg.SLOT_LAST_START_TB slot + w.slotInterval slot ≤ w.now)) = true := by
    simpa only [Bool.or_eq_true, decide_eq_true_eq] using hdue
  rw [soundingStart, if_neg (by simp [slotLive_good hslot hst, hfirst, hrun, hbound, hopen])]
  dsimp only
  simp only [hfirst, Bool.not_false, Bool.true_and, decide_eq_true_eq, Nat.reducePow, Nat.reduceMul]
  have hv := (rfl : w.lateMarked slot = w.lateMarked slot)
  conv_lhs at hv => unfold lateMarked
  dsimp only at hv
  rw [hv]
  obtain ⟨hnone, hnext⟩ := lateMarked_schedule (w := w) (slot := slot)
  generalize w.lateMarked slot = v at *
  rw [hnone, hexpected]
  dsimp only [List.find?_nil]
  rw [profileStart_setSnd (hnext.trans hprofile)]

end Schedule

/-! ### Results of soundings (R474, R476) -/

section Results
variable {w : Work} {slot : Nat}

theorem soundingResult_running (hrun : (w.snd slot).running = true) (area : List Byte) : w.soundingResult slot area =
    let v := ((w.advance ((w.snd slot).startTb + slotLength slot)).soundWaits slot).wr Reg.SLOT_LAST_SIGNATURE (crc32c area) slot
    if crc32c area ≠ v.rd Reg.SLOT_EXPECTED slot then v.soundingFails slot (crc32c area) else v.soundingPasses slot (crc32c area) := by
  rw [soundingResult, if_neg (by simp [hrun])]
  exact (ite_not ..).symm

theorem soundingOverrun_running {v : Work} {sig : Nat} (hrun : (w.snd slot).running = true)
    (hfree : ((w.advance ((w.snd slot).startTb + 2 * slotLength slot)).soundWaits slot).free 32 = (v, sig)) :
    w.soundingOverrun slot = v.soundingFails slot sig := by
  rw [soundingOverrun, if_neg (by simp [hrun])]
  dsimp only
  rw [hfree]

end Results

/-! ### SAFE_RUN (R469, R471, R483, R484) -/

section SafeRun
variable {w : Work}

theorem soundingSet_first {set : List Byte} {expected : List Nat} {k : Nat} (hslab : (List.range 36).find? (fun k => w.role k == 5) = some k)
    (hready : w.d.saf.setReady = false) : w.soundingSet set expected =
      let v := (w.store (0x4000000000 + k * 0x1000000) (set.take 0x600000)).upTo 90 (fun w i => w.wr Reg.SLOT_EXPECTED (wd expected i) i)
      v.setSaf { v.d.saf with setReady := true } := by
  rw [soundingSet, hslab]
  exact if_pos (by rw [hready]; rfl)

theorem injectionDone_init {n : Nat} {fail : Option (Nat × Nat)} (hst : w.rd Reg.SAF_STATE = 0) (hdone : w.rd Reg.SAF_INJ_DONE ≠ 1) :
    w.injectionDone n fail =
      let v := (w.wr Reg.SAF_INJ_PASSED n).wr Reg.SAF_INJ_DONE 1
      match fail with
      | none => (v.setSaf { v.d.saf with injected := true }).safeRun
      | some (u, row) => (v.wr Reg.SAF_INJ_FAIL_UNIT u).degrade u stSafeDegraded row := by
  refine (if_neg (by simp [hst, on_eq_false hdone])).trans ?_
  rcases fail with _ | ⟨u, row⟩ <;> rfl

theorem heartbeatToggle_due (hst : w.rd Reg.SAF_STATE = 1) (hnext : w.d.saf.hbNext ≠ 0) (hprofile : w.d.saf.nextProfile = none) :
    w.heartbeatToggle =
      let v := w.advance w.d.saf.hbNext
      let v := if v.atDue w.hbEnd = true then (v.inc Reg.SAF_CNT_NEAR_MISS).wr Reg.SAF_NEAR_MISS_TB v.now else v
      v.setSaf { v.d.saf with
        pin0 := !v.d.saf.pin0, pin1 := v.d.saf.pin0, hbNext := v.now + 1000 * v.rd Reg.SAF_HEARTBEAT_US, hbRefresh := v.now } := by
  have hkept : (if (w.advance w.d.saf.hbNext).atDue w.hbEnd = true then
      ((w.advance w.d.saf.hbNext).inc Reg.SAF_CNT_NEAR_MISS).wr Reg.SAF_NEAR_MISS_TB (w.advance w.d.saf.hbNext).now
      else w.advance w.d.saf.hbNext).d.saf.nextProfile = none := by
    split
    · exact hprofile
    · exact hprofile
  rw [heartbeatToggle, if_neg (by simp [hst, hnext])]
  dsimp only
  rw [hkept]

theorem heartbeatExpiry_running (hst : w.rd Reg.SAF_STATE = 1) :
    w.heartbeatExpiry = ((w.advance w.hbEnd).wr Reg.SAF_HB_EXPIRED 1).degrade uSafety stSafeDegraded 0 :=
  if_neg (not_not.mpr hst)

theorem recoveryExpiry_held {r : GRun} {id : Nat} (hrun : w.grun? id = some r) (hheld : r.heldUntil ≠ 0) :
    w.recoveryExpiry id = (w.advance r.heldUntil).dropRun id := by
  rw [recoveryExpiry, hrun]
  exact if_neg hheld

end SafeRun

end Work

/-! ### The obligations -/

/-- Settles O43: when soundings start, and what a late start leaves (log entry 50). -/
theorem soundingSchedule : Obligations.SoundingSchedule := by
  intro s slot hr
  refine ⟨fun hst hrun => ?due, fun req n hw => ⟨fun h => ?beyond, fun h => ?forced⟩, fun hst hrun hbound hprofile hexpected hdue => ?start⟩
  case due => exact does_act hr rfl (soundingDue_forces slot.isLt hst hrun)
  case beyond => exact does_actWriter hr hw rfl (forceSound_beyond h)
  case forced => exact does_actWriter hr hw rfl (forceSound_live h)
  case start => exact does_act hr rfl (soundingStart_taken slot.isLt hst hrun hbound hprofile hexpected hdue)

/-- Settles O44: a sounding passes, fails for the first time, fails in watch, or overruns (log entries 30 and 50). -/
theorem soundingResults : Obligations.SoundingResults := by
  intro s slot u hr hu hrun failed hfailed
  subst hu
  have hfails (w : Work) (sig : Nat) : w.soundingFails slot.val sig = failed w sig := (hfailed w sig).symm
  refine ⟨fun area => ?result, fun v sig hfree => ?overrun⟩
  case result =>
    refine does_act hr rfl ((soundingResult_running hrun area).trans ?_)
    dsimp only
    rw [hfails]
    generalize wr _ Reg.SLOT_LAST_SIGNATURE _ _ _ = v
    rfl
  case overrun => exact does_act hr rfl ((soundingOverrun_running hrun hfree).trans (hfails v sig))

/-- Settles O45: the way to SAFE_RUN, its heartbeat and held runs, and what degrading the device does (log entries 31, 50 and 51). -/
theorem safetyStates : Obligations.SafetyStates := by
  refine ⟨fun s hr => ⟨fun set expected k hslab hready => ?set, fun hst hdone n => ⟨?passed, fun u row => ?failed⟩,
    fun hst => ⟨fun hnext hprofile => ?toggle, ?expiry⟩, fun r id hrun hheld => ?bound⟩,
    fun w unit status info hunit hstatus hinfo => ⟨degrade_again, fun hst v hv => ?degraded⟩⟩
  case set => exact does_act hr rfl (soundingSet_first hslab hready)
  case passed => exact does_act hr rfl (injectionDone_init hst hdone)
  case failed => exact does_act hr rfl (injectionDone_init hst hdone)
  case toggle => exact does_actOn hr.refStopped rfl (heartbeatToggle_due hst hnext hprofile)
  case expiry => exact does_actOn hr.refStopped rfl (heartbeatExpiry_running hst)
  case bound => exact does_act hr rfl (recoveryExpiry_held hrun hheld)
  case degraded =>
    subst hv
    have hopen : ¬(w.rd Reg.SAF_STATE = 2 ∨ w.rd Reg.SAF_STATE = 3) := by omega
    rw [degrade_rd hopen (by decide), degrade_rd hopen (by decide), degrade_rd hopen (by decide), degrade_rd hopen (by decide), degrade_saf hopen]
    exact ⟨causeShown_state, causeShown_unit.trans (Nat.mod_eq_of_lt hunit), causeShown_status.trans (Nat.mod_eq_of_lt hstatus),
      causeShown_info.trans (Nat.mod_eq_of_lt hinfo), rfl, rfl, rfl, rfl⟩

end Sys2Proof.Machine
end

section
/-! PROOF. Cornerstone commands and the change records they burn, and debug challenges and unlocks (R447 to R452, R460 to R462, R467). -/

namespace Sys2Proof.Machine

open Config Work

/-! ### Burned rows -/

/-- Bits burned into a row stand in it afterwards. -/
theorem Otp.burnAll_mem (o : Otp) {bs : List (Nat × Nat)} {row v : Nat} (h : (row, v) ∈ bs) :
    Nat.land (tget 0 (o.burnAll bs).rows row) v = v := by
  induction bs generalizing o with
  | nil => cases h
  | cons e bs ih =>
    rcases List.mem_cons.mp h with rfl | htail
    · have hkeep := Otp.burnAll_keeps { o with rows := tset 0 o.rows row (Nat.lor (tget 0 o.rows row) v) } bs row
      rw [tget_tset_self] at hkeep
      change Nat.land (tget 0 (Otp.burnAll { o with rows := tset 0 o.rows row (Nat.lor (tget 0 o.rows row) v) } bs).rows row) v = v
      generalize tget 0 (Otp.burnAll _ bs).rows row = final at hkeep ⊢
      refine Nat.eq_of_testBit_eq fun i => ?_
      have hbit := congrArg (Nat.testBit · i) hkeep
      change ((tget 0 o.rows row ||| v) &&& final).testBit i = (tget 0 o.rows row ||| v).testBit i at hbit
      change (final &&& v).testBit i = v.testBit i
      simp only [Nat.testBit_and, Nat.testBit_or] at hbit ⊢
      cases hv : v.testBit i <;> simp_all
    · exact ih _ htail

/-- A row that is not burned stays. -/
theorem Otp.burnAll_other (o : Otp) {bs : List (Nat × Nat)} {row : Nat} (h : row ∉ bs.map Prod.fst) :
    tget 0 (o.burnAll bs).rows row = tget 0 o.rows row := by
  induction bs generalizing o with
  | nil => rfl
  | cons e bs ih =>
    obtain ⟨hhead, htail⟩ : row ≠ e.1 ∧ row ∉ bs.map Prod.fst := by simpa only [List.map_cons, List.mem_cons, not_or] using h
    exact (ih { o with rows := tset 0 o.rows e.1 (Nat.lor (tget 0 o.rows e.1) e.2) } htail).trans (tget_tset_ne _ _ _ hhead)

namespace Work

theorem foldl_burn (rows : List (Nat × Nat)) (w : Work) : rows.foldl (fun w r => w.burn r.1 r.2) w = { w with burns := rows.reverse ++ w.burns } := by
  induction rows generalizing w with
  | nil => rfl
  | cons r rows ih =>
    rw [List.foldl_cons, ih]
    simp [burn]

/-! ### Cornerstone commands (R447, R449, R450) -/

section Command
variable {w v : Work} {cmd : List Byte} {op u : Nat}

section Read
variable (hbusy : w.rd Reg.SEC_CC_BUSY ≠ 1) (haddr : w.rd Reg.SEC_CC_ADDR % 64 = 0)
  (hmem : w.inDram (w.rd Reg.SEC_CC_ADDR) (w.rd Reg.SEC_CC_LEN) = true ∨ inQuarry (w.rd Reg.SEC_CC_ADDR) (w.rd Reg.SEC_CC_LEN) = true)
  (hread : w.readAt uSecurity (w.rd Reg.SEC_CC_ADDR) (w.rd Reg.SEC_CC_LEN) = (v, stOk, cmd)) (hop : ccOp (bytesWords (cmd.take 64)) = op)
include hbusy haddr hmem hread hop

/-- A command that names its own OP, in memory that can be read, ends with the status of steps 1 to 3 where they refuse it. -/
theorem cornerstone_early {st : Nat} (hearly : v.ccEarly (bytesWords (cmd.take 64)) (w.rd Reg.SEC_CC_LEN) (sigAlg cmd) = some st) :
    w.cornerstone op u true = v.wr Reg.SEC_CC_STATUS st := by
  have hin : (w.inDram (w.rd Reg.SEC_CC_ADDR) (w.rd Reg.SEC_CC_LEN) || inQuarry (w.rd Reg.SEC_CC_ADDR) (w.rd Reg.SEC_CC_LEN)) = true :=
    Bool.or_eq_true_iff.mpr hmem
  simp [cornerstone, on_eq_false hbusy, haddr, hin, hread, hop, hearly]

/-- One that passes steps 1 to 3 goes on to its signature and the later steps. -/
theorem cornerstone_late (hearly : v.ccEarly (bytesWords (cmd.take 64)) (w.rd Reg.SEC_CC_LEN) (sigAlg cmd) = none) : w.cornerstone op u true =
    let good := v.signed (ccSlot (bytesWords (cmd.take 64))) cmd
    let x := v.countVerify good
    let st := if !good then stSigInvalid else if ccReserved cmd then stDescReserved
      else x.ccLate (bytesWords (cmd.take 64)) ((cmd.drop 64).take (ccPayload op))
    if st = stOk then x.ccAccept cmd else x.wr Reg.SEC_CC_STATUS st := by
  have hin : (w.inDram (w.rd Reg.SEC_CC_ADDR) (w.rd Reg.SEC_CC_LEN) || inQuarry (w.rd Reg.SEC_CC_ADDR) (w.rd Reg.SEC_CC_LEN)) = true :=
    Bool.or_eq_true_iff.mpr hmem
  simp [cornerstone, on_eq_false hbusy, haddr, hin, hread, hop, hearly]

section Late
variable {good : Bool} (hearly : v.ccEarly (bytesWords (cmd.take 64)) (w.rd Reg.SEC_CC_LEN) (sigAlg cmd) = none)
  (hgood : good = v.signed (ccSlot (bytesWords (cmd.take 64))) cmd)
include hearly hgood

theorem cornerstone_unsigned (hbad : good = false) :
    w.cornerstone op u true = ((v.inc Reg.SEC_CNT_VERIFY).inc Reg.SEC_CNT_VERIFY_FAIL).wr Reg.SEC_CC_STATUS stSigInvalid := by
  rw [cornerstone_late hbusy haddr hmem hread hop hearly]
  dsimp only
  rw [← hgood, hbad]
  rfl

theorem cornerstone_reserved (hsigned : good = true) (hres : ccReserved cmd = true) :
    w.cornerstone op u true = (v.inc Reg.SEC_CNT_VERIFY).wr Reg.SEC_CC_STATUS stDescReserved := by
  rw [cornerstone_late hbusy haddr hmem hread hop hearly]
  dsimp only
  rw [← hgood, hsigned, hres]
  rfl

theorem cornerstone_checked (hsigned : good = true) (hres : ccReserved cmd = false) : w.cornerstone op u true =
    if (v.inc Reg.SEC_CNT_VERIFY).ccLate (bytesWords (cmd.take 64)) ((cmd.drop 64).take (ccPayload op)) = stOk
    then (v.inc Reg.SEC_CNT_VERIFY).ccAccept cmd
    else (v.inc Reg.SEC_CNT_VERIFY).wr Reg.SEC_CC_STATUS
      ((v.inc Reg.SEC_CNT_VERIFY).ccLate (bytesWords (cmd.take 64)) ((cmd.drop 64).take (ccPayload op))) := by
  rw [cornerstone_late hbusy haddr hmem hread hop hearly]
  dsimp only
  rw [← hgood, hsigned, hres]
  rfl

end Late

end Read

theorem ccAccept_change (hop : ccOp (bytesWords (cmd.take 64)) = op) (hchange : op < 0x10) :
    v.ccAccept cmd = (v.wr Reg.SEC_CC_BUSY 1).setSec { v.d.sec with change := some ⟨v.now, op, ccSlot (bytesWords (cmd.take 64)),
      (v.ccRows (bytesWords (cmd.take 64)) ((cmd.drop 64).take (ccPayload op))).2, (v.ccRows (bytesWords (cmd.take 64)) ((cmd.drop 64).take (ccPayload op))).1,
      (sha256 (cmd.take (cmd.length - 512))).take 12⟩ } := by
  subst hop
  rw [ccAccept]
  dsimp only
  rw [if_neg (by omega), if_neg (by omega)]

/-- A model key is loaded, or a status the spec leaves open is posted. -/
theorem ccAccept_key (hop : ccOp (bytesWords (cmd.take 64)) = op) (hload : op = 0x10) :
    v.ccAccept cmd = match oaepKey (encryptionKey v.s0.otp.serial) (((cmd.drop 64).take (ccPayload op)).drop 4) with
      | some key => (v.loadModelKey (leNat (((cmd.drop 64).take (ccPayload op)).take 4)) key).wr Reg.SEC_CC_STATUS stOk
      | none => v.openStatus.1.wr Reg.SEC_CC_STATUS v.openStatus.2 := by
  subst hop
  rw [ccAccept]
  dsimp only
  refine (if_neg (by omega)).trans ((if_pos hload).trans ?_)
  cases oaepKey (encryptionKey v.s0.otp.serial) (((cmd.drop 64).take (ccPayload (ccOp (bytesWords (cmd.take 64))))).drop 4) <;> rfl

/-- A status the spec leaves open is one of those R12 gives the security core. -/
theorem openStatus_range : v.openStatus.2 = stDescFormat ∨ (0x80 ≤ v.openStatus.2 ∧ v.openStatus.2 ≤ 0x86) := by
  have hlt : (v.free 3).2 < 8 := Nat.mod_lt _ (by decide)
  change (if (v.free 3).2 = 7 then stDescFormat else stSigInvalid + (v.free 3).2) = stDescFormat ∨
    (0x80 ≤ (if (v.free 3).2 = 7 then stDescFormat else stSigInvalid + (v.free 3).2) ∧
      (if (v.free 3).2 = 7 then stDescFormat else stSigInvalid + (v.free 3).2) ≤ 0x86)
  split
  · exact .inl rfl
  · unfold stSigInvalid
    omega

end Command

/-! ### A change burned (R451, R452) -/

section Burned
variable {w : Work} {c : Change}

/-- The working copy once a change's rows and record have been burned. -/
theorem changeBurned_eq {v : Work} (hchange : w.d.sec.change = some c) (hv : v = w.advance (c.since + 200000 * (c.rows.length + 1))) :
    w.changeBurned =
      let x := { v with burns := (recordRow v.nextSeq, leNat (v.recordBytes c)) :: (c.rows.reverse ++ v.burns) }
      ((x.setSec { x.d.sec with change := none }).wr Reg.SEC_CC_BUSY 0).wr Reg.SEC_CC_STATUS stOk := by
  unfold changeBurned
  rw [hchange]
  dsimp only
  rw [← hv, foldl_burn]
  rfl

/-- Time moves no OTP row. -/
theorem nextSeq_advance (t : Nat) : (w.advance t).nextSeq = w.nextSeq := rfl

/-- Moving on in time changes the clocks and the correction owed to TB. -/
theorem advance_frame (t : Nat) : ∃ clk slew, w.advance t = { w with d := { w.d with clk := clk, hif := { w.d.hif with slew := slew } } } := ⟨_, _, rfl⟩

end Burned

/-! ### Debug (R460 to R462) -/

section Debug
variable {w : Work} {u : Nat}

theorem dbgGate_closed (h : w.debugPolicy = 2) : w.dbgGate true = false := by
  simp [dbgGate, h]

theorem dbgGate_open (hbusy : w.rd Reg.SEC_CC_BUSY ≠ 1) (h : w.debugPolicy ≠ 2) : w.dbgGate true = true := by
  simp [dbgGate, on_eq_false hbusy, h]

theorem debugChallenge_closed (h : w.debugPolicy = 2) : w.debugChallenge u true = w.log u := if_pos (by simp [dbgGate_closed h])

theorem debugUnlock_closed (h : w.debugPolicy = 2) : w.debugUnlock u true = w.log u := if_pos (by simp [dbgGate_closed h])

theorem debugChallenge_drawn (hbusy : w.rd Reg.SEC_CC_BUSY ≠ 1) (h : w.debugPolicy ≠ 2) : w.debugChallenge u true =
    let v := w.upTo 8 (fun w k => (w.free 32).1.wr Reg.SEC_DBG_CHALLENGE (w.free 32).2 k)
    v.setSec { v.d.sec with challenge := true } :=
  if_neg (by simp [dbgGate_open hbusy h])

theorem debugUnlock_free (hbusy : w.rd Reg.SEC_CC_BUSY ≠ 1) (h : w.debugPolicy = 0) : w.debugUnlock u true =
    (((w.upTo 8 (fun w k => w.wr Reg.SEC_DBG_CHALLENGE 0 k)).setSec { w.d.sec with challenge := false }).wr Reg.SEC_DBG_STATUS stOk).unlockDebug := by
  rw [debugUnlock, if_neg (by simp [dbgGate_open hbusy (h.trans_ne (by decide))])]
  dsimp only
  rw [if_pos h]
  exact if_pos rfl

theorem debugUnlock_token {v x : Work} {bs : List Byte} {st : Nat} (hbusy : w.rd Reg.SEC_CC_BUSY ≠ 1) (h : w.debugPolicy = 1)
    (haddr : w.rd Reg.SEC_DBG_TOKEN_ADDR % 64 = 0) (hread : w.readAt uSecurity (w.rd Reg.SEC_DBG_TOKEN_ADDR) 576 = (v, stOk, bs))
    (hcheck : v.tokenCheck bs = (x, st)) : w.debugUnlock u true =
      let x := (x.upTo 8 (fun w k => w.wr Reg.SEC_DBG_CHALLENGE 0 k)).setSec { x.d.sec with challenge := false }
      let x := x.wr Reg.SEC_DBG_STATUS st
      if st = stOk then x.unlockDebug else x.inc Reg.SEC_CNT_DBG_FAIL := by
  rw [debugUnlock, if_neg (by simp [dbgGate_open hbusy (h.trans_ne (by decide))])]
  dsimp only
  rw [if_neg (h.trans_ne (by decide)), if_neg (not_not.mpr haddr), hread]
  dsimp only
  rw [if_pos rfl, hcheck]

end Debug

end Work

/-! ### The obligations -/

/-- The command that runs the cornerstone for an OP. -/
theorem exec_cornerstone {i : Instr} {req : Requester} {op : Nat} (s : State)
    (h : (i = .enrollKey req ∧ op = 1) ∨ (i = .revokeKey req ∧ op = 2) ∨ (i = .rollbackSet req ∧ op = 3) ∨ (i = .obWrite req ∧ op = 4) ∨
      (i = .debugLock req ∧ op = 5) ∨ (i = .profileLock req ∧ op = 6) ∨ (i = .modelKeyLoad req ∧ op = 0x10) ∨ (i = .modelKeyClear req ∧ op = 0x11)) :
    exec i s = .next (s.act fun w => w.asWriter (unitOf req) 0xC02010 fun w => w.cornerstone op (unitOf req) true) := by
  rcases h with ⟨rfl, rfl⟩ | ⟨rfl, rfl⟩ | ⟨rfl, rfl⟩ | ⟨rfl, rfl⟩ | ⟨rfl, rfl⟩ | ⟨rfl, rfl⟩ | ⟨rfl, rfl⟩ | ⟨rfl, rfl⟩
  all_goals rfl

/-- What a change burned leaves of a settled device. -/
theorem exec_changeRecordBurned {s : State} {c : Change} {v : Work} (href : s.dev.pwr.refStopped = false) (hchange : s.dev.sec.change = some c)
    (hs : Settled s) (hv : v = s.w.advance (c.since + 200000 * (c.rows.length + 1))) :
    ∃ t, exec .changeRecordBurned s = .next t ∧ t.dev.sec.change = none ∧ t.rd Reg.SEC_CC_BUSY = 0 ∧ t.rd Reg.SEC_CC_STATUS = stOk ∧ t.mem = s.mem ∧
      t.otp = s.otp.burnAll (c.rows ++ [(recordRow s.w.nextSeq, leNat (v.recordBytes c))]) := by
  obtain ⟨hask, htrace, hemit, hpartner⟩ := hs
  have hseq : v.nextSeq = s.w.nextSeq := by rw [hv, nextSeq_advance]
  have heq := changeBurned_eq (w := start s) hchange hv
  rw [hseq] at heq
  generalize (recordRow s.w.nextSeq, leNat (v.recordBytes c)) = entry at heq ⊢
  obtain ⟨clk, slew, hclock⟩ := advance_frame (w := start s) (c.since + 200000 * (c.rows.length + 1))
  rw [hv.trans hclock] at heq
  have hks : (start s).changeBurned.d.ks = s.dev.ks := by
    rw [heq]
    rfl
  have hqueues : (start s).changeBurned.d.hif.queues = s.dev.hif.queues := by
    rw [heq]
    rfl
  have hing : (start s).changeBurned.d.ing = s.dev.ing := by
    rw [heq]
    rfl
  have hsettle : (start s).changeBurned.settle = (start s).changeBurned.idleTimers := by
    refine settle_settled ?_ ?_ ?_ ?_
    · rw [heq]
      exact hask
    · rw [heq]
      exact htrace
    · rw [hks, hqueues]
      exact hemit
    · rw [hing]
      exact hpartner
  have hbusy : (start s).changeBurned.rd Reg.SEC_CC_BUSY = 0 := by
    rw [heq]
    exact (rd_wr_ne _ (by decide)).trans (rd_wr_self ..)
  have hstatus : (start s).changeBurned.rd Reg.SEC_CC_STATUS = stOk := by
    rw [heq]
    exact rd_wr_self ..
  have hnone : (start s).changeBurned.d.sec.change = none := by
    rw [heq]
    rfl
  have hmops : (start s).changeBurned.mops = [] := by
    rw [heq]
    rfl
  have hburns : (start s).changeBurned.burns = entry :: (c.rows.reverse ++ []) := by
    rw [heq]
    rfl
  obtain ⟨hframe, -⟩ := idleTimers_frame (start s).changeBurned
  have hend (f : Fld) : (s.run fun w => w.changeBurned.settle).rd f = (start s).changeBurned.rd f :=
    (congrArg (fun v => (s.commit v).rd f) hsettle).trans (commit_idleTimers_rd s _ f)
  refine ⟨_, congrArg Host.Outcome.next (State.actOn_runs href _), ?_, (hend _).trans hbusy, (hend _).trans hstatus, ?_, ?_⟩
  · rw [State.run_dev, hsettle, hframe]
    exact hnone
  · rw [State.run_mem, hsettle, hframe]
    change s.mem.applyAll (start s).changeBurned.mops.reverse = s.mem
    rw [hmops]
    rfl
  · rw [State.run_otp, hsettle, hframe]
    change s.otp.burnAll (start s).changeBurned.burns.reverse = _
    rw [hburns]
    simp

/-- Settles O46: the ways a cornerstone command ends, and what a change burned leaves (log entries 11, 32 and 49). -/
theorem cornerstoneCommands : Obligations.CornerstoneCommands := by
  refine ⟨?commands, fun s c v href hchange hs hv => ?burned⟩
  case commands =>
    intro s req i op v cmd good hr hw hbusy haddr hmem hread hop hinstr hgood h payload
    have hexec := exec_cornerstone s hinstr
    refine ⟨fun st hearly => ?early, fun hearly hbad => ?unsigned, fun hearly hsigned => ⟨fun hres => ?reserved, fun st hres hlate hst => ?late,
      fun hres hlate => ⟨fun hsmall => ?change, fun hclear => ?clear, fun hload => ⟨openStatus_range, ?load⟩⟩⟩⟩
    case early => exact does_actWriter hr hw hexec (cornerstone_early hbusy haddr hmem hread hop hearly)
    case unsigned => exact does_actWriter hr hw hexec (cornerstone_unsigned hbusy haddr hmem hread hop hearly hgood hbad)
    case reserved => exact does_actWriter hr hw hexec (cornerstone_reserved hbusy haddr hmem hread hop hearly hgood hsigned hres)
    case late =>
      refine does_actWriter hr hw hexec ((cornerstone_checked hbusy haddr hmem hread hop hearly hgood hsigned hres).trans ?_)
      exact (if_neg (hlate.trans_ne hst)).trans (congrArg ((v.inc Reg.SEC_CNT_VERIFY).wr Reg.SEC_CC_STATUS · 0 0) hlate)
    case change =>
      exact does_actWriter hr hw hexec (((cornerstone_checked hbusy haddr hmem hread hop hearly hgood hsigned hres).trans (if_pos hlate)).trans
        (ccAccept_change hop hsmall))
    case clear =>
      exact does_actWriter hr hw hexec (((cornerstone_checked hbusy haddr hmem hread hop hearly hgood hsigned hres).trans (if_pos hlate)).trans
        (ccAccept_clear (hop.trans hclear)))
    case load =>
      exact does_actWriter hr hw hexec (((cornerstone_checked hbusy haddr hmem hread hop hearly hgood hsigned hres).trans (if_pos hlate)).trans
        (ccAccept_key hop hload))
  case burned =>
    obtain ⟨t, hexec, hnone, hbusy, hstatus, hmem, hotp⟩ := exec_changeRecordBurned href hchange hs hv
    refine ⟨t, hexec, hnone, hbusy, hstatus, fun row x hrow => ?_, ?_, fun row hrow hrecord => ?_, hmem⟩
    · rw [hotp]
      exact Otp.burnAll_mem _ (List.mem_append_left _ hrow)
    · rw [hotp]
      exact Otp.burnAll_mem _ (List.mem_append_right _ (List.mem_singleton.mpr rfl))
    · rw [hotp]
      refine Otp.burnAll_other _ ?_
      rw [List.map_append, List.mem_append, not_or]
      exact ⟨hrow, fun hlast => hrecord (List.mem_singleton.mp hlast)⟩

/-- Settles O48: debug challenges and unlocks under each policy (log entry 49). -/
theorem debugUnlocking : Obligations.DebugUnlocking := by
  intro s req hr hw hbusy
  refine ⟨fun h => ⟨?noChallenge, ?noUnlock⟩, fun h => ?challenge, fun h => ?free, fun v bs u st h haddr hread hcheck => ?token⟩
  case noChallenge => exact does_actWriter hr hw rfl (debugChallenge_closed h)
  case noUnlock => exact does_actWriter hr hw rfl (debugUnlock_closed h)
  case challenge => exact does_actWriter hr hw rfl (debugChallenge_drawn hbusy h)
  case free => exact does_actWriter hr hw rfl (debugUnlock_free hbusy h)
  case token => exact does_actWriter hr hw rfl (debugUnlock_token hbusy h haddr hread hcheck)

end Sys2Proof.Machine
end

section
/-! PROOF. The SPDM responder (R456 to R459). What follows every command (records that leave, partners that expire, cores that retire, trace records, idle timers)
leaves the security core's state alone, so the answer to a request stands at the command's end. -/

namespace Sys2Proof.Machine

open Config Work

namespace Work

/-! ### What leaves the security core's state alone

Each lemma says of one function that it keeps `d.sec`; they are simp lemmas, so that a function made of such functions follows. -/

section Kept
variable (w : Work)

theorem sec_ite (c : Prop) [Decidable c] (v : Work) : (if c then w else v).d.sec = if c then w.d.sec else v.d.sec := apply_ite (fun x : Work => x.d.sec) c w v

/-- A fold of steps that keep the security core's state keeps it. -/
@[simp] theorem sec_foldl {α : Type} {f : Work → α → Work} (hf : ∀ w x, (f w x).d.sec = w.d.sec) (l : List α) : (l.foldl f w).d.sec = w.d.sec := by
  induction l generalizing w with
  | nil => rfl
  | cons x l ih => exact (ih (f w x)).trans (hf w x)

/-! Registers, parts of the state, memory and events. -/

@[simp] theorem sec_wr (f : Fld) (v i j : Nat) : (w.wr f v i j).d.sec = w.d.sec := rfl
@[simp] theorem sec_add (f : Fld) (n i j : Nat) : (w.add f n i j).d.sec = w.d.sec := rfl
@[simp] theorem sec_inc (f : Fld) (i j : Nat) : (w.inc f i j).d.sec = w.d.sec := rfl
@[simp] theorem sec_setKs (x : Keystone) : (w.setKs x).d.sec = w.d.sec := rfl
@[simp] theorem sec_setSaf (x : Safety) : (w.setSaf x).d.sec = w.d.sec := rfl
@[simp] theorem sec_setSnd (s : Nat) (x : Sounding) : (w.setSnd s x).d.sec = w.d.sec := rfl
@[simp] theorem sec_setCore (c : Nat) (k : CoreSt) : (w.setCore c k).d.sec = w.d.sec := rfl
@[simp] theorem sec_setEng (u : Nat) (x : EngRun) : (w.setEng u x).d.sec = w.d.sec := rfl
@[simp] theorem sec_setCtxIn (c : Nat) (x : CtxIn) : (w.setCtxIn c x).d.sec = w.d.sec := rfl
@[simp] theorem sec_setDom (d : Nat) (x : DomSt) : (w.setDom d x).d.sec = w.d.sec := rfl
@[simp] theorem sec_setPoison (a : Nat) (on : Bool) : (w.setPoison a on).d.sec = w.d.sec := rfl
@[simp] theorem sec_offer (source kind channel count : Nat) : (w.offer source kind channel count).d.sec = w.d.sec := rfl
@[simp] theorem sec_modRun (id : Nat) (f : GRun → GRun) : (w.modRun id f).d.sec = w.d.sec := rfl
@[simp] theorem sec_modNode (id n : Nat) (f : NodeRun → NodeRun) : (w.modNode id n f).d.sec = w.d.sec := rfl
@[simp] theorem sec_finishNode (id n : Nat) : (w.finishNode id n).d.sec = w.d.sec := rfl
@[simp] theorem sec_signal (flag n gen : Nat) (remote : Bool) : (w.signal flag n gen remote).d.sec = w.d.sec := rfl
@[simp] theorem sec_dropWaits (c : Nat) : (w.dropWaits c).d.sec = w.d.sec := rfl
@[simp] theorem sec_leaveGroup (c : Nat) : (w.leaveGroup c).d.sec = w.d.sec := rfl
@[simp] theorem sec_stopIssue (c : Nat) : (w.stopIssue c).d.sec = w.d.sec := rfl
@[simp] theorem sec_markLedgered : w.markLedgered.d.sec = w.d.sec := rfl
@[simp] theorem sec_emitDone (id n : Nat) : (w.emitDone id n).d.sec = w.d.sec := rfl

@[simp] theorem sec_put (sp : Space) (a : Nat) (bs : List Byte) : (w.put sp a bs).d.sec = w.d.sec := by
  rw [put]
  split <;> rfl

@[simp] theorem sec_store (a : Nat) (bs : List Byte) : (w.store a bs).d.sec = w.d.sec := by
  unfold store
  split
  · split
    · rfl
    · split <;> simp
  · refine sec_foldl w (fun w p => ?_) _
    refine (sec_put _ _ _ _).trans (sec_foldl w (fun w k => ?_) _)
    split <;> rfl

@[simp] theorem sec_trace (unit event a b c : Nat) : (w.trace unit event a b c).d.sec = w.d.sec := by
  unfold trace
  split
  · rfl
  · split <;> rfl

@[simp] theorem sec_coreTrace (c event arg : Nat) : (w.coreTrace c event arg).d.sec = w.d.sec := by
  unfold coreTrace
  split <;> simp

@[simp] theorem sec_tracePut (ws : List Nat) : (w.tracePut ws).d.sec = w.d.sec := by
  unfold tracePut
  dsimp only
  split
  · rfl
  · simp [sec_ite]

@[simp] theorem sec_traceDrain : w.traceDrain.d.sec = w.d.sec := by
  unfold traceDrain
  split <;> simp

@[simp] theorem sec_sendVector (v : Nat) : (w.sendVector v).d.sec = w.d.sec := by
  simp [sendVector, sec_ite]

@[simp] theorem sec_err (unit status info addr detail : Nat) : (w.err unit status info addr detail).d.sec = w.d.sec := by
  simp [err, errPut, sec_ite]

/-! Runs, nodes and cores. -/

@[simp] theorem sec_signalIdx (id n idx k : Nat) : (w.signalIdx id n idx k).d.sec = w.d.sec := by
  unfold signalIdx
  split <;> simp [sec_ite]

@[simp] theorem sec_signalToTarget (id n : Nat) : (w.signalToTarget id n).d.sec = w.d.sec := by
  unfold signalToTarget
  split <;> simp

@[simp] theorem sec_gatedEnd (id n : Nat) : (w.gatedEnd id n).d.sec = w.d.sec := by
  unfold gatedEnd
  split <;> simp [sec_ite]

@[simp] theorem sec_setDone (a i : Nat) : (w.setDone a i).d.sec = w.d.sec := sec_store w _ _

@[simp] theorem sec_settleTask (c : Nat) : (w.settleTask c).d.sec = w.d.sec := by
  unfold settleTask
  dsimp only
  split
  · rfl
  · split <;> simp [sec_ite]

@[simp] theorem sec_freeUnit (u : Nat) : (w.freeUnit u).d.sec = w.d.sec := by
  unfold freeUnit
  cases busyCounter u <;> cases engineFields u <;> simp [sec_ite]

@[simp] theorem sec_endCut (id n status : Nat) : (w.endCut id n status).d.sec = w.d.sec := by
  unfold endCut
  split <;> simp [sec_ite]

@[simp] theorem sec_recordCut (id n status : Nat) : (w.recordCut id n status).d.sec = w.d.sec := by
  unfold recordCut
  split <;> simp [sec_ite]

@[simp] theorem sec_cutNode (id n status : Nat) : (w.cutNode id n status).d.sec = w.d.sec := by
  unfold cutNode
  split <;> simp [sec_ite]

@[simp] theorem sec_dropRun (id : Nat) : (w.dropRun id).d.sec = w.d.sec := by
  unfold dropRun
  split <;> simp

@[simp] theorem sec_recover (id n : Nat) : (w.recover id n).d.sec = w.d.sec := by
  unfold recover
  split <;> simp [sec_ite]

@[simp] theorem sec_relaunch (c : Nat) (k : CoreSt) (old : Nat) : (w.relaunch c k old).d.sec = w.d.sec := by
  simp [relaunch]

@[simp] theorem sec_abortTask (c status : Nat) (off : Int) (seg : Nat) (pc : Option Nat) : (w.abortTask c status off seg pc).d.sec = w.d.sec := by
  simp [abortTask, sec_ite]

@[simp] theorem sec_loseTask (c : Nat) : (w.loseTask c).d.sec = w.d.sec := by
  simp [loseTask]

@[simp] theorem sec_resetCoreRegs (c p : Nat) : (w.resetCoreRegs c p).d.sec = w.d.sec := by
  unfold resetCoreRegs
  rw [sec_wr, sec_wr]
  refine sec_foldl _ (fun w f => ?_) coreFields
  refine sec_foldl w (fun w j => ?_) _
  rfl

@[simp] theorem sec_retireUnit (u : Nat) : (w.retireUnit u).d.sec = w.d.sec := by
  unfold retireUnit
  cases retiredField u <;> simp

@[simp] theorem sec_degrade (unit status info : Nat) : (w.degrade unit status info).d.sec = w.d.sec := by
  simp [degrade, sec_ite]

@[simp] theorem sec_retireCore (p : Nat) : (w.retireCore p).d.sec = w.d.sec := by
  unfold retireCore
  dsimp only
  split <;> simp [sec_ite]

@[simp] theorem sec_retireAsked : w.retireAsked.d.sec = w.d.sec := by
  unfold retireAsked
  split <;> simp [sec_ite]

/-! The ledger and the open frames. -/

@[simp] theorem sec_countBytes (u a n : Nat) (write : Bool) : (w.countBytes u a n write).d.sec = w.d.sec := by
  unfold countBytes
  split
  · rfl
  · split
    · refine sec_foldl w (fun w k => ?_) _
      rfl
    · split
      · refine sec_foldl w (fun w k => ?_) _
        rfl
      · split
        · refine sec_foldl w (fun w p => ?_) _
          simp [sec_ite]
        · rfl

@[simp] theorem sec_countRmw (ws : List (Nat × Nat)) : (w.countRmw ws).d.sec = w.d.sec := by
  simp [countRmw, sec_ite]

@[simp] theorem sec_writePart (u a : Nat) (bs : List Byte) : (w.writePart u a bs).1.d.sec = w.d.sec := by
  unfold writePart
  split <;> simp [sec_ite]

@[simp] theorem sec_writeAt (u a : Nat) (bs : List Byte) : (w.writeAt u a bs).1.d.sec = w.d.sec := by
  simp [writeAt, sec_ite]

@[simp] theorem sec_writeEntry (h : LedgerHold) : (w.writeEntry h).d.sec = w.d.sec := by
  simp [writeEntry]

@[simp] theorem sec_flushEntries (n : Nat) : (flushEntries n w).d.sec = w.d.sec := by
  induction n generalizing w with
  | zero => rfl
  | succ n ih =>
    unfold flushEntries
    split <;> simp [ih]

@[simp] theorem sec_flushLedger : w.flushLedger.d.sec = w.d.sec := by
  simp [flushLedger]

@[simp] theorem sec_untakenEntry (c : Nat) (f : OpenFrame) (eofTb : Nat) : (w.untakenEntry c f eofTb).d.sec = w.d.sec := by
  simp [untakenEntry, sec_ite]

@[simp] theorem sec_expireLoose (c : Nat) (f : OpenFrame) (eofTb : Nat) : (w.expireLoose c f eofTb).d.sec = w.d.sec := by
  simp [expireLoose]

@[simp] theorem sec_giveUp (c : Nat) : (w.giveUp c).d.sec = w.d.sec := by
  unfold giveUp dropLines
  dsimp only
  split <;> simp

@[simp] theorem sec_expirePartners : w.expirePartners.d.sec = w.d.sec := by
  refine sec_foldl w (fun w c => ?_) _
  dsimp only
  split <;> simp [sec_ite]

@[simp] theorem sec_settleEmits : w.settleEmits.d.sec = w.d.sec := by
  refine sec_foldl w (fun w r => ?_) _
  exact sec_foldl w (fun w n => sec_emitDone w _ n) _

@[simp] theorem sec_idleTimers : w.idleTimers.d.sec = w.d.sec := by
  simp [idleTimers, sec_ite]

/-- What follows every command leaves the security core's state alone. -/
@[simp] theorem sec_settle : w.settle.d.sec = w.d.sec := by
  simp [settle]

end Kept

/-! ### Requests and answers (R456 to R458) -/

section Answers
variable {w : Work}

/-- What an answered request leaves: it is counted, and the answer waits in the mailbox. -/
def answered (w : Work) (a : SpdmAnswer) : Work := (w.inc Reg.SEC_CNT_SPDM_REQ).setSec { (w.inc Reg.SEC_CNT_SPDM_REQ).d.sec with doe := a }

theorem getCertificate_other {slot offset len : Nat} (h : slot ≠ 0) : w.getCertificate slot offset len = w.answered .unsupportedRequest := by
  unfold getCertificate spdm
  dsimp only
  rw [if_pos h]
  rfl

theorem getCertificate_portion {chain : List Byte} {offset len : Nat} (hchain : chain = certChain w.s0.otp.serial) (h : offset ≤ chain.length) :
    w.getCertificate 0 offset len = w.answered (.certificate ((chain.drop offset).take (min len 4096))
      (chain.length - offset - ((chain.drop offset).take (min len 4096)).length)) := by
  subst hchain
  have hin : ¬(certChain (w.inc Reg.SEC_CNT_SPDM_REQ).s0.otp.serial).length < offset := Nat.not_lt.mpr h
  unfold getCertificate spdm
  dsimp only
  rw [if_neg (not_not.mpr rfl), if_neg hin]
  rfl

theorem spdmChallenge_other {slot : Nat} {nonce : List Byte} (h : slot ≠ 0) : w.spdmChallenge slot nonce = w.answered .unsupportedRequest := by
  unfold spdmChallenge spdm
  dsimp only
  rw [if_pos h]
  rfl

theorem getMeasurements_one {index : Nat} {nonce : List Byte} (h0 : index ≠ 0) (h8 : index ≤ 8) :
    w.getMeasurements 0 index false nonce = w.answered (.measurements 8 [(w.inc Reg.SEC_CNT_SPDM_REQ).measureBlock index] [] []) := by
  unfold getMeasurements spdm
  dsimp only
  rw [if_neg (not_not.mpr rfl), if_neg (by omega), if_neg Bool.false_ne_true, if_neg h0, if_neg (by omega)]
  rfl

theorem getMeasurements_all {nonce : List Byte} : w.getMeasurements 0 0xFF false nonce =
    w.answered (.measurements 8 ((List.range 8).map (fun k => (w.inc Reg.SEC_CNT_SPDM_REQ).measureBlock (k + 1))) [] []) := by
  unfold getMeasurements spdm
  dsimp only
  rw [if_neg (not_not.mpr rfl), if_neg (by omega), if_neg Bool.false_ne_true, if_neg (by omega), if_pos rfl]
  rfl

/-- Drawing random bytes leaves the state the command began with. -/
theorem randomBytes_s0 (n : Nat) (w : Work) : (randomBytes n w).1.s0 = w.s0 := by
  induction n generalizing w with
  | zero => rfl
  | succ n ih => exact ih (w.free 8).1

/-- A challenge of slot 0 is answered with the chain's digest, fresh bytes and a signature. -/
theorem spdmChallenge_doe (w : Work) (nonce : List Byte) :
    ∃ mine sig, (w.spdmChallenge 0 nonce).d.sec.doe = .challengeAuth (sha256 (certChain w.s0.otp.serial)) mine sig := by
  have hs0 : (randomBytes 32 (w.inc Reg.SEC_CNT_SPDM_REQ)).1.s0 = w.s0 := randomBytes_s0 32 _
  unfold spdmChallenge spdm
  dsimp only
  rw [if_neg (not_not.mpr rfl)]
  generalize randomBytes 32 (w.inc Reg.SEC_CNT_SPDM_REQ) = r at hs0 ⊢
  rw [← hs0]
  exact ⟨r.2, (r.1.sign (nonce ++ sha256 (certChain r.1.s0.otp.serial) ++ r.2)).2, rfl⟩

end Answers

end Work

/-! ### The commands -/

/-- Settles O47: what each SPDM request answers (log entry 33). -/
theorem spdmAnswers : Obligations.SpdmAnswers := by
  intro s href answer chain
  refine ⟨?version, ?capabilities, ?algorithms, ?digests, ?unsupported, fun slot offset len h => ?otherSlot, fun offset len h => ?portion,
    fun index nonce h0 h8 => ?one, fun nonce => ?all, fun nonce => ?challenge, fun slot nonce h => ?otherChallenge⟩
  case version => exact does_actOn href rfl rfl
  case capabilities => exact does_actOn href rfl rfl
  case algorithms => exact does_actOn href rfl rfl
  case digests => exact does_actOn href rfl rfl
  case unsupported => exact does_actOn href rfl rfl
  case otherSlot => exact does_actOn href rfl (getCertificate_other fun hv => h (Fin.ext hv))
  case portion => exact does_actOn href rfl (getCertificate_portion rfl h)
  case one => exact does_actOn href rfl (getMeasurements_one (fun hv => h0 (BitVec.eq_of_toNat_eq hv)) h8)
  case all => exact does_actOn href rfl getMeasurements_all
  case challenge =>
    obtain ⟨mine, sig, hdoe⟩ := spdmChallenge_doe (start s) nonce.toList
    refine ⟨mine, sig, _, congrArg Host.Outcome.next (State.actOn_runs href _), ?_⟩
    rw [State.run_dev, sec_settle]
    exact hdoe
  case otherChallenge => exact does_actOn href rfl (spdmChallenge_other fun hv => h (BitVec.eq_of_toNat_eq hv))

end Sys2Proof.Machine
end

section
/-! PROOF. Marks and claims, pins and timers, register reads, unmasking and delayed wakes, and what register commands leave alone (R7 to R9, R25, R61, R364,
R494 to R504). -/

namespace Sys2Proof.Machine

open Config Work

/-! ### Numbers packed from bits -/

theorem pack_append (l m : List (Nat × Nat × Nat)) : pack (l ++ m) = pack l + pack m := by
  induction l with
  | nil => simp [pack]
  | cons x l ih =>
    obtain ⟨v, lo, wid⟩ := x
    simp only [List.cons_append, pack, ih, Nat.add_assoc]

/-- A number packed of single bits has those bits and no others. -/
theorem pack_bits (b : Nat → Bool) (n : Nat) : pack ((List.range n).map (fun p => (b2n (b p), p, 1))) < 2 ^ n ∧
    ∀ q, bitAt (pack ((List.range n).map (fun p => (b2n (b p), p, 1)))) q = (decide (q < n) && b q) := by
  induction n with
  | zero => exact ⟨Nat.one_pos, fun q => by simp [pack, bitAt]⟩
  | succ n ih =>
    obtain ⟨hlt, hbits⟩ := ih
    rw [List.range_succ, List.map_append, pack_append]
    generalize pack ((List.range n).map (fun p => (b2n (b p), p, 1))) = x at hlt hbits ⊢
    have hlast : pack ([n].map (fun p => (b2n (b p), p, 1))) = if b n then 2 ^ n else 0 := by
      cases hb : b n <;> simp [pack, low, b2n, hb]
    have hpow : 2 ^ (n + 1) = 2 ^ n + 2 ^ n := by rw [pow_succ, mul_two]
    rw [hlast]
    cases hb : b n with
    | true =>
      refine ⟨by simp only [if_true]; omega, fun q => ?_⟩
      have hclear : bitAt x n = false := by simp [hbits]
      rw [if_pos rfl, bitAt_add_two_pow hclear, hbits]
      by_cases hq : q = n
      · subst hq
        simp [hb]
      · have hiff : decide (q < n + 1) = decide (q < n) := decide_eq_decide.mpr (by omega)
        simp only [hiff, hq, decide_false, Bool.or_false]
    | false =>
      refine ⟨by simp only [Bool.false_eq_true, if_false]; omega, fun q => ?_⟩
      rw [if_neg Bool.false_ne_true, Nat.add_zero, hbits]
      by_cases hq : q = n
      · subst hq
        simp [hb]
      · have hiff : decide (q < n + 1) = decide (q < n) := decide_eq_decide.mpr (by omega)
        rw [hiff]

namespace Work

/-! ### Marks and claims (R494, R495, R499, R500) -/

section Marks
variable {w : Work}

theorem traceMark_eq (req : Requester) (v : BitVec 32) : w.traceMark (unitOf req) v.toNat =
    if w.on Reg.CNT_TRACE_EN = false then w
    else if 256 ≤ w.d.trc.queue.length then w.inc Reg.CNT_TRACE_LOST
    else { w with d := { w.d with trc := ⟨w.d.trc.queue ++
      [[unitOf req + 0x2000 + 0x10000, low 32 w.d.trc.seq, low 32 w.now, low 32 (w.now / 2 ^ 32), v.toNat, 0, 0, 0]], low 32 (w.d.trc.seq + 1)⟩ } } := by
  have hunit : unitOf req < 256 := by
    cases req with
    | host => decide
    | pair n =>
      have hn := n.isLt
      simp only [unitOf, uPair]
      omega
    | security => decide
    | safety => decide
  have hhead : pack [(unitOf req, 0, 8), (0x20, 8, 8), (1, 16, 4)] = unitOf req + 0x2000 + 0x10000 := by
    simp only [pack, low]
    omega
  have hword : low 32 v.toNat = v.toNat := Nat.mod_eq_of_lt v.isLt
  simp only [traceMark, trace, hhead, hword, Bool.not_eq_true'] <;> rfl

theorem claimCount_eq (c : Nat) : claimCount c = if c = 1 then 32 else if c = 2 ∨ c = 3 then 16 else if c = 4 then 384 else 0 := by
  match c with
  | 0 | 1 | 2 | 3 | 4 => rfl
  | c + 5 =>
    rw [if_neg (by omega), if_neg (by omega), if_neg (by omega)]
    rfl

theorem neverClaimable_iff (c i : Nat) : neverClaimable c i = true ↔ (c = 1 ∧ (i = 32 ∨ i = 33)) ∨ (c = 2 ∧ i = 16) := by
  simp [neverClaimable]

section Claim
variable {u c i gid size : Nat} (hsize : size = if c = 1 then 32 else if c = 2 ∨ c = 3 then 16 else if c = 4 then 384 else 0)

theorem claim_never {release : Bool} (h : (c = 1 ∧ (i = 32 ∨ i = 33)) ∨ (c = 2 ∧ i = 16)) :
    w.claim u c i gid release = w.claimResult u stClaimDenied uSafety :=
  if_pos ((neverClaimable_iff c i).mpr h)

include hsize

theorem claim_unknown {release : Bool} (h : ¬((c = 1 ∧ (i = 32 ∨ i = 33)) ∨ (c = 2 ∧ i = 16))) (hi : size ≤ i) :
    w.claim u c i gid release = w.claimResult u stDescFormat 0xFF := by
  rw [claim, if_neg (mt (neverClaimable_iff c i).mp h)]
  exact if_pos ((claimCount_eq c).trans hsize.symm ▸ hi)

variable {fh fs fg : Fld} (hi : i < size) (hfields : holdFields c = (fh, fs, fg))
include hi hfields

/-- A resource of a class that has it is claimed and released by its own fields. -/
theorem claim_known (release : Bool) : w.claim u c i gid release =
    if release then
      if w.rd fh i = u ∧ !w.on fs i then (((w.wr fh 0xFF i).wr fg 0xFFFF i).wr fs 0 i).claimResult u stOk 0xFF
      else w.claimResult u stClaimDenied (w.rd fh i)
    else if w.rd fh i = 0xFF then (((w.wr fh u i).wr fg gid i).wr fs 0 i).claimResult u stOk u
    else w.claimResult u stClaimDenied (w.rd fh i) := by
  have hnamed : ¬((c = 1 ∧ (i = 32 ∨ i = 33)) ∨ (c = 2 ∧ i = 16)) := by
    rw [hsize] at hi
    rintro (⟨rfl, h⟩ | ⟨rfl, h⟩) <;> simp at hi <;> omega
  have hcount : ¬claimCount c ≤ i := by
    rw [claimCount_eq, ← hsize]
    omega
  rw [claim, if_neg (mt (neverClaimable_iff c i).mp hnamed), if_neg hcount, hfields]

theorem claim_free (hfree : w.rd fh i = 0xFF) :
    w.claim u c i gid false = (((w.wr fh u i).wr fg gid i).wr fs 0 i).claimResult u stOk u :=
  (claim_known hsize hi hfields false).trans ((if_neg Bool.false_ne_true).trans (if_pos hfree))

theorem claim_held (hheld : w.rd fh i ≠ 0xFF) : w.claim u c i gid false = w.claimResult u stClaimDenied (w.rd fh i) :=
  (claim_known hsize hi hfields false).trans ((if_neg Bool.false_ne_true).trans (if_neg hheld))

theorem release_mine (hmine : w.rd fh i = u) (hrun : w.rd fs i ≠ 1) :
    w.claim u c i gid true = (((w.wr fh 0xFF i).wr fg 0xFFFF i).wr fs 0 i).claimResult u stOk 0xFF :=
  (claim_known hsize hi hfields true).trans ((if_pos rfl).trans (if_pos ⟨hmine, congrArg not (on_eq_false hrun)⟩))

theorem release_other (hother : w.rd fh i ≠ u ∨ w.rd fs i = 1) : w.claim u c i gid true = w.claimResult u stClaimDenied (w.rd fh i) := by
  refine (claim_known hsize hi hfields true).trans ((if_pos rfl).trans (if_neg ?_))
  rintro ⟨hmine, hrun⟩
  obtain h | h := hother
  · exact h hmine
  · simp [on_eq_true h] at hrun

end Claim

end Marks

/-! ### Pins (R43, R336, R417, R501) -/

section Pins
variable {w : Work}

/-- What a GPIO_OUT write leaves in the register: the writer's pins as written, the others as they were. -/
def gpioNew (w : Work) (u v : Nat) : Nat :=
  pack ((List.range 32).map (fun p => (b2n (bitAt (if w.rd Reg.HOLDG_HOLDER p == u then v else w.rd Reg.CLM_GPIO_OUT) p), p, 1)))

theorem gpioNew_lt (u v : Nat) : w.gpioNew u v < 2 ^ 32 := (pack_bits _ 32).1

theorem gpioNew_mine {u v p : Nat} (hp : p < 32) (h : w.rd Reg.HOLDG_HOLDER p = u) : bitAt (w.gpioNew u v) p = bitAt v p := by
  refine ((pack_bits _ 32).2 p).trans ?_
  simp [hp, h]

theorem gpioNew_other {u v p : Nat} (hp : p < 32) (h : w.rd Reg.HOLDG_HOLDER p ≠ u) : bitAt (w.gpioNew u v) p = bitAt (w.rd Reg.CLM_GPIO_OUT) p := by
  refine ((pack_bits _ 32).2 p).trans ?_
  simp [hp, h]

section Out
variable {u v : Nat}

theorem gpioOut_granted (h : ∀ p < 32, w.rd Reg.HOLDG_HOLDER p = u ∨ bitAt v p = bitAt (w.rd Reg.CLM_GPIO_OUT) p) :
    w.gpioOut u v = w.wr Reg.CLM_GPIO_OUT (w.gpioNew u v) := by
  have hnone : (List.range 32).find? (fun p => !(w.rd Reg.HOLDG_HOLDER p == u) && bitAt v p != bitAt (w.rd Reg.CLM_GPIO_OUT) p) = none := by
    refine List.find?_eq_none.mpr fun p hp => ?_
    rcases h p (List.mem_range.mp hp) with hmine | hsame
    · simp [hmine]
    · simp [hsame]
  rw [gpioOut]
  dsimp only
  rw [hnone]
  rfl

theorem gpioOut_denied {p : Nat} (hp : p < 32) (hother : w.rd Reg.HOLDG_HOLDER p ≠ u) (hdiff : bitAt v p ≠ bitAt (w.rd Reg.CLM_GPIO_OUT) p)
    (hfirst : ∀ q < p, w.rd Reg.HOLDG_HOLDER q = u ∨ bitAt v q = bitAt (w.rd Reg.CLM_GPIO_OUT) q) :
    w.gpioOut u v = (w.wr Reg.CLM_GPIO_OUT (w.gpioNew u v)).err u 0x51 (w.rd Reg.HOLDG_HOLDER p) := by
  have hsome : (List.range 32).find? (fun p => !(w.rd Reg.HOLDG_HOLDER p == u) && bitAt v p != bitAt (w.rd Reg.CLM_GPIO_OUT) p) = some p := by
    refine List.find?_range_eq_some.mpr ⟨by simp [hother, hdiff], List.mem_range.mpr hp, fun q hq => ?_⟩
    rcases hfirst q hq with hmine | hsame
    · simp [hmine]
    · simp [hsame]
  have hholder (x : Nat) : (w.wr Reg.CLM_GPIO_OUT x).rd Reg.HOLDG_HOLDER p = w.rd Reg.HOLDG_HOLDER p :=
    rd_wr_ne w (by simp only [Fld.key, Reg.HOLDG_HOLDER, Reg.CLM_GPIO_OUT]; omega)
  rw [gpioOut]
  dsimp only
  rw [hsome]
  dsimp only
  rw [hholder]
  rfl

end Out

theorem gpioEdge_same {p : Nat} {level : Bool} (h : bitAt w.d.balls.gpio p = level) : w.gpioEdge p level = w := if_pos h

theorem gpioEdge_changed {p : Nat} {level : Bool} (h : bitAt w.d.balls.gpio p ≠ level) : w.gpioEdge p level =
    let v := { w with d := { w.d with balls := { w.d.balls with gpio := bxor w.d.balls.gpio (2 ^ p) } } }
    let v := match v.captureTimer p with
      | some t => v.timerCapture t
      | none => v
    let v := if v.wakePin p = true then v.wakeSource 3 else v
    if (v.region 4 0).any (fun e => bits e 7 0 == p && (bits e 15 8 == 1 || bits e 15 8 == 5)) = true then
      v.offer (low 8 (ioSource 0)) 2 (low 12 (gpioChannel p)) 1
    else v := by
  have hfind (x : Work) : (match (x.region 4 0).find? (fun e => bits e 7 0 == p && (bits e 15 8 == 1 || bits e 15 8 == 5)) with
      | some _ => x.offer (low 8 (ioSource 0)) 2 (low 12 (gpioChannel p)) 1
      | none => x) =
      if (x.region 4 0).any (fun e => bits e 7 0 == p && (bits e 15 8 == 1 || bits e 15 8 == 5)) = true then
        x.offer (low 8 (ioSource 0)) 2 (low 12 (gpioChannel p)) 1
      else x := by
    rw [← List.isSome_find?]
    cases (x.region 4 0).find? (fun e => bits e 7 0 == p && (bits e 15 8 == 1 || bits e 15 8 == 5)) <;> rfl
  rw [gpioEdge, if_neg h]
  exact hfind _

end Pins

/-! ### General timers (R504) -/

section Timers
variable {w v x : Work} {t out due : Nat}

theorem timerExpiry_due (hen : w.rd Reg.TMR_ENABLE t = 1) (hmode : w.rd Reg.TMR_MODE t ≤ 1)
    (hdue : due = if tget 0 w.d.balls.next t = 0 then max (w.rd Reg.TMR_START_TB t) w.now else tget 0 w.d.balls.next t - 1)
    (hv : v = w.advance due) (hfree : v.free 1 = (x, out)) : w.timerExpiry t =
      let b := x.d.balls
      let timers := if bitAt b.timers t = (out == 1) then b.timers else bxor b.timers (2 ^ t)
      if w.rd Reg.TMR_MODE t = 1 then
        let y := { x with d := { x.d with balls := { b with timers := timers, next := tset 0 b.next t (due + x.rd Reg.TMR_PERIOD_NS t + 1) } } }
        y.offer (low 8 (ioSource 1)) 2 (y.rd Reg.TMR_CHANNEL t) 1
      else
        let y := { x with d := { x.d with balls := { b with timers := timers, next := tdel b.next t } } }.wr Reg.TMR_ENABLE 0 t
        y.offer (low 8 (ioSource 1)) 2 (y.rd Reg.TMR_CHANNEL t) 1 := by
  unfold timerExpiry
  dsimp only
  rw [if_neg (by simp [on_eq_true hen, hmode])]
  generalize tget 0 w.d.balls.next t = n at hdue
  have hcases : w.rd Reg.TMR_MODE t = 0 ∨ w.rd Reg.TMR_MODE t = 1 := by omega
  cases n with
  | zero =>
    obtain rfl : due = max (w.rd Reg.TMR_START_TB t) w.now := hdue
    obtain h | h := hcases <;> simp only [← hv, hfree, h] <;> rfl
  | succ n =>
    obtain rfl : due = n := hdue
    obtain h | h := hcases <;> simp only [← hv, hfree, h] <;> rfl

theorem timerCapture_edge (hen : w.rd Reg.TMR_ENABLE t = 1) (hmode : w.rd Reg.TMR_MODE t = 2) (hpin : w.captures t = true) :
    w.timerCapture t = (w.wr Reg.TMR_CAPTURE_TB w.now t).offer (low 8 (ioSource 1)) 2 (w.rd Reg.TMR_CHANNEL t) 1 := by
  exact if_neg (by simp [on_eq_true hen, hmode, hpin])

end Timers

/-! ### Reads, unmasking and delayed wakes (R6 to R9, R61, R364) -/

section Reads
variable {w x : Work} {u off n v : Nat}

theorem regReadOut_untripped (h : w.on Reg.PWR_TRIPPED = false) (hread : w.regRead u off n = (x, v)) :
    w.regReadOut u off n = x.setHif { x.d.hif with readData := v, readUr := false } := by
  simp only [regReadOut, h, Bool.false_eq_true, false_and, if_false, hread]

/-- A read of another size, or that is misaligned or beyond the register space, reads as 0 and drops the reader's latch. -/
theorem regRead_bad (h : (n ≠ 4 ∧ n ≠ 8) ∨ off % n ≠ 0 ∨ 0x1000000 ≤ off) : w.regRead u off n = (w.setLatch u (0, 0), 0) := if_pos h

end Reads

section Vectors
variable {w : Work} {v : Nat} {e : MsixEnt}

/-- The one vector that is pending, its entry unmasked, is sent and is pending no more. -/
theorem msixFlush_one (hfn : w.d.hif.fnMasked = false) (he : tget MsixEnt.reset w.d.hif.msix v = e) (hmask : e.masked = false)
    (hpba : w.d.hif.pba = [v]) (hd3 : w.d.hif.d3hot = false) :
    w.msixFlush = (w.setHif { w.d.hif with pba := [] }).put .host e.addr (leBytes 4 e.data) := by
  subst he
  simp [msixFlush, sendVector, setHif, hpba, hfn, hmask, hd3]

theorem msixUnmaskVec_one {addr data : Nat} (hfn : w.d.hif.fnMasked = false) (hpba : w.d.hif.pba = [v]) (hd3 : w.d.hif.d3hot = false) :
    w.msixUnmaskVec v addr data =
      (w.setHif { w.d.hif with msix := tset MsixEnt.reset w.d.hif.msix v ⟨addr, low 32 data, false⟩, pba := [] }).put .host addr
        (leBytes 4 (low 32 data)) :=
  msixFlush_one (w := w.setHif { w.d.hif with msix := tset MsixEnt.reset w.d.hif.msix v ⟨addr, low 32 data, false⟩ }) hfn
    (tget_tset_self _ _ _ _) rfl hpba hd3

theorem msixUnmaskFn_one (he : tget MsixEnt.reset w.d.hif.msix v = e) (hmask : e.masked = false) (hpba : w.d.hif.pba = [v])
    (hd3 : w.d.hif.d3hot = false) :
    w.msixUnmaskFn = (w.setHif { w.d.hif with fnMasked := false, pba := [] }).put .host e.addr (leBytes 4 e.data) :=
  msixFlush_one (w := w.setHif { w.d.hif with fnMasked := false }) rfl he hmask hpba hd3

end Vectors

theorem delayedWake_one {w : Work} {f : Nat} {x : Wait} (hwaits : w.waits f = [x]) (hdue : x.dueTb ≠ 0) :
    w.delayedWake f = ((w.advance x.dueTb).setWaits f []).wake x := by
  have hafter : (w.advance x.dueTb).waits f = [x] := hwaits
  simp [delayedWake, hwaits, hafter, hdue]

/-! ### Commands that only write registers (R25) -/

/-- v is w but for the copies of fields whose keys are in the list. -/
def WritesOnly (ks : List Nat) (w v : Work) : Prop :=
  (∃ r, v = { w with d := { w.d with regs := r } }) ∧ ∀ (f : Fld) (i j : Nat), f.key i j ∉ ks → v.rd f i j = w.rd f i j

namespace WritesOnly
variable {ks : List Nat} {w v : Work}

theorem refl (ks : List Nat) (w : Work) : WritesOnly ks w w := ⟨⟨_, rfl⟩, fun _ _ _ _ => rfl⟩

theorem wr (h : WritesOnly ks w v) (f : Fld) (x i j : Nat) (hk : f.key i j ∈ ks) : WritesOnly ks w (v.wr f x i j) := by
  obtain ⟨⟨r, rfl⟩, hrd⟩ := h
  exact ⟨⟨_, rfl⟩, fun g i' j' hg => (rd_wr_ne _ (ne_of_mem_of_not_mem hk hg).symm).trans (hrd g i' j' hg)⟩

theorem inc (h : WritesOnly ks w v) (f : Fld) (i j : Nat) (hk : f.key i j ∈ ks) : WritesOnly ks w (v.inc f i j) := h.wr f _ i j hk

/-- A command that on a running, settled device only writes listed field copies is within their frame. -/
theorem onlyRegs {s t : State} {i : Instr} {f : Work → Work} (hr : Runs s) (hs : Settled s) (ht : exec i s = .next t)
    (hexec : exec i s = .next (s.act f)) (h : WritesOnly ks (start s) (f (start s))) : OnlyRegs ks s t := by
  obtain ⟨⟨r, hv⟩, hrd⟩ := h
  have hact : t = s.act f := Host.Outcome.next.inj (ht.symm.trans hexec)
  rw [hact, State.act_runs hr]
  refine onlyRegs_settle hs ?_ hrd
  rw [hv]
  rfl

theorem onlyRegs_writer {s t : State} {i : Instr} {f : Work → Work} {req : Requester} {off : Nat} (hr : Runs s) (hs : Settled s)
    (hw : Writable s req off) (ht : exec i s = .next t) (hexec : exec i s = .next (s.act fun w => w.asWriter (unitOf req) off f))
    (h : WritesOnly ks (start s) (f (start s))) : OnlyRegs ks s t :=
  onlyRegs hr hs ht hexec ((asWriter_writable hw f).symm ▸ h)

end WritesOnly

section Frames
variable {w : Work} {q v : Nat}

theorem writesOnly_one {x : Work} {f : Fld} {n i j : Nat} (h : x = w.wr f n i j) : WritesOnly [f.key i j] w x :=
  h.symm ▸ (WritesOnly.refl _ w).wr _ _ _ _ (List.mem_singleton.mpr rfl)

theorem writesOnly_resume (h : w.rd Reg.Q_STATE q = 2) : WritesOnly [Reg.Q_STATE.key q 0, Reg.QE_Q_STALL_TB.key q 0] w (w.queueResume q) :=
  (queueResume_error h).symm ▸ ((WritesOnly.refl _ w).wr _ _ _ _ (by simp)).wr _ _ _ _ (by simp)

theorem writesOnly_i3cIbi (m : Nat) : WritesOnly [Reg.ING_I3C_CNT_IBI.key m 0] w (w.i3cIbi m) := by
  rw [i3cIbi]
  split
  · exact (WritesOnly.refl _ w).inc _ _ _ (List.mem_singleton.mpr rfl)
  · exact WritesOnly.refl _ w

theorem writesOnly_genericShort (p : Nat) :
    WritesOnly [Reg.ING_PORT_CNT_PACKETS.key p 0, Reg.ING_PORT_CNT_SHORT_OTHER.key p 0] w (w.genericShort p) := by
  rw [genericShort]
  split
  · exact WritesOnly.refl _ w
  · exact ((WritesOnly.refl _ w).inc _ _ _ (by simp)).inc _ _ _ (by simp)

theorem submissionDoorbell_active (hstate : w.rd Reg.Q_STATE q = 1) (htail : low 16 v < 2 ^ (w.queue q).sqLog2) :
    w.submissionDoorbell q v = w.wr Reg.Q_SQ_TAIL (low 16 v) q := by
  have hafter : (w.wr Reg.Q_SQ_TAIL (low 16 v) q).rd Reg.Q_STATE q ≠ qError := by
    rw [rd_wr_ne _ (by simp only [Fld.key, Reg.Q_STATE, Reg.Q_SQ_TAIL]; omega), hstate]
    decide
  have hlive : ¬(w.dbDead q = true ∨ 2 ^ (w.queue q).sqLog2 ≤ low 16 v) := by
    simp [dbDead, hstate, qInactive, qDeleting, Nat.not_le.mpr htail]
  rw [submissionDoorbell]
  exact (if_neg hlive).trans (if_neg hafter)

theorem completionDoorbell_freed (hstall : w.rd Reg.QE_Q_STALL_TB q = 0) (hlive : w.dbDead q = false) (hhead : low 16 v < 2 ^ (w.queue q).cqLog2)
    (hused : (low 16 v + 2 ^ (w.queue q).cqLog2 - w.rd Reg.Q_CQ_HEAD q) % 2 ^ (w.queue q).cqLog2 ≤ w.cqUsed q) :
    w.completionDoorbell q v = w.wr Reg.Q_CQ_HEAD (low 16 v) q := by
  refine (completionDoorbell_unstalled hstall).trans (if_neg ?_)
  simp [hlive, Nat.not_le.mpr hhead, Nat.not_lt.mpr hused]

/-- The range 1.1.0 to 1.1.0 writes the version registers and no other (R366). -/
theorem writesOnly_negotiate :
    WritesOnly [Reg.QE_MIN_MINOR.key 0 0, Reg.QE_MIN_MAJOR.key 0 0, Reg.QE_MIN_GEN.key 0 0, Reg.QE_MAX_MINOR.key 0 0, Reg.QE_MAX_MAJOR.key 0 0,
      Reg.QE_MAX_GEN.key 0 0, Reg.QE_ACTIVE_MINOR.key 0 0, Reg.QE_ACTIVE_MAJOR.key 0 0, Reg.QE_ACTIVE_GEN.key 0 0, Reg.QE_ACTIVE_VALID.key 0 0,
      Reg.QE_ACTIVE_MISMATCH.key 0 0] w (w.negotiate 0x10100 0x10100) := by
  have hrange : bits 0x10100 19 16 * 65536 + bits 0x10100 15 8 * 256 + bits 0x10100 7 0 = 1 * 65536 + 1 * 256 + 0 := by decide
  unfold negotiate
  dsimp only
  rw [if_pos ⟨hrange.le, hrange.ge⟩]
  iterate 11 refine WritesOnly.wr ?_ _ _ _ _ (by simp)
  exact WritesOnly.refl _ w

end Frames

end Work

/-! ### The commands -/

/-- Settles O49: a mark is traced, and a resource is claimed, denied and released (log entry 68). -/
theorem marksAndClaims : Obligations.MarksAndClaims := by
  refine fun s req hr => ⟨fun v hw => ?mark, fun cls idx gid hw => ?claims⟩
  case mark => exact does_actWriter hr hw rfl (traceMark_eq req v)
  case claims =>
    intro c i u size answer
    refine ⟨fun h => ⟨?neverClaimed, ?neverReleased⟩, fun h hi => ⟨?noneClaimed, ?noneReleased⟩,
      fun fh fs fg hi hfields => ⟨fun hfree => ?granted, fun hheld => ?denied, fun hmine hrun => ?released, fun hother => ?kept⟩⟩
    case neverClaimed => exact does_actWriter hr hw rfl (claim_never h)
    case neverReleased => exact does_actWriter hr hw rfl (claim_never h)
    case noneClaimed => exact does_actWriter hr hw rfl (claim_unknown rfl h hi)
    case noneReleased => exact does_actWriter hr hw rfl (claim_unknown rfl h hi)
    case granted => exact does_actWriter hr hw rfl (claim_free rfl hi hfields hfree)
    case denied => exact does_actWriter hr hw rfl (claim_held rfl hi hfields hheld)
    case released => exact does_actWriter hr hw rfl (release_mine rfl hi hfields hmine hrun)
    case kept => exact does_actWriter hr hw rfl (release_other rfl hi hfields hother)

/-- Settles O50: pins change for their holders, edges are seen, and timers expire and capture (log entry 53). -/
theorem pinsAndTimers : Obligations.PinsAndTimers := by
  intro s hr
  refine ⟨fun req v hw => ?out, fun pin level => ⟨fun h => ?same, fun h => ?edge⟩, fun t v w out due hen hmode hdue hv hfree => ?expiry,
    fun t hen hmode hpin => ?capture⟩
  case out =>
    exact ⟨(start s).gpioNew (unitOf req) v.toNat, fun p hp h => gpioNew_mine hp h, fun p hp h => gpioNew_other hp h, gpioNew_lt _ _,
      fun h => does_actWriter hr hw rfl (gpioOut_granted h), fun p hp hother hdiff hfirst => does_actWriter hr hw rfl (gpioOut_denied hp hother hdiff hfirst)⟩
  case same => exact does_actOn hr.refStopped rfl (gpioEdge_same h)
  case edge => exact does_actOn hr.refStopped rfl (gpioEdge_changed h)
  case expiry => exact does_actOn hr.refStopped rfl (timerExpiry_due hen hmode hdue hv hfree)
  case capture => exact does_actOn hr.refStopped rfl (timerCapture_edge hen hmode hpin)

/-- Settles O52: register reads, unmasked vectors, hot-join requests and delayed wakes (log entries 1 and 57). -/
theorem readsMasksAndWakes : Obligations.ReadsMasksAndWakes := by
  intro s hr
  refine ⟨fun req off n w v hread => ?read, fun req off n hbad => ?bad, fun v addr data hfn hpba hd3 => ?vector, fun v e he hmask hpba hd3 => ?function,
    fun m => ?hotJoin, fun f x hwaits hdue => ?wake⟩
  case read => exact does_actOn hr.refStopped rfl (regReadOut_untripped hr.tripped hread)
  case bad => exact does_actOn hr.refStopped rfl (regReadOut_untripped hr.tripped (regRead_bad hbad))
  case vector => exact does_actOn hr.refStopped rfl (msixUnmaskVec_one hfn hpba hd3)
  case function => exact does_actOn hr.refStopped rfl (msixUnmaskFn_one he hmask hpba hd3)
  case hotJoin => exact does_act hr rfl rfl
  case wake => exact does_act hr rfl (delayedWake_one hwaits hdue)

/-- Settles O59: commands that only write registers write those and no other. -/
theorem registerFrames : Obligations.RegisterFrames := by
  intro s t i ks hr hs ht hcases
  obtain ⟨m, rfl, rfl⟩ | ⟨p, vc, rfl, -, rfl⟩ | ⟨q, v, rfl, hstate, htail, rfl⟩ | ⟨q, v, rfl, hstall, hlive, hhead, hused, rfl⟩ |
    ⟨req, q, rfl, hw, hstate, rfl⟩ | ⟨req, c, v, rfl, hw, rfl⟩ | ⟨req, v, rfl, hw, hmine, rfl⟩ | ⟨req, lo, hi, rfl, hw, rfl, rfl, rfl⟩ := hcases
  · exact WritesOnly.onlyRegs hr hs ht rfl (writesOnly_i3cIbi m.val)
  · exact WritesOnly.onlyRegs hr hs ht rfl (writesOnly_genericShort p.val)
  · exact WritesOnly.onlyRegs hr hs ht rfl (writesOnly_one (submissionDoorbell_active hstate htail))
  · exact WritesOnly.onlyRegs hr hs ht rfl (writesOnly_one (completionDoorbell_freed hstall hlive hhead hused))
  · exact WritesOnly.onlyRegs_writer hr hs hw ht rfl (writesOnly_resume hstate)
  · exact WritesOnly.onlyRegs_writer hr hs hw ht rfl (writesOnly_one (rfl : replayTail _ c.val v.toNat = _))
  · exact WritesOnly.onlyRegs_writer hr hs hw ht rfl (writesOnly_one (gpioOut_granted fun p hp => .inl (hmine p hp)))
  · exact WritesOnly.onlyRegs_writer hr hs hw ht rfl writesOnly_negotiate

end Sys2Proof.Machine
end
